-- ==== Sys2Proof/Word.lean ====
section
/-! DEFINITION. The word types of the block and the sparse tables its state is written in. -/

namespace Sys2Proof

/-- A byte; every address space of R48 is addressed in bytes. -/
abbrev Byte := BitVec 8

/-- A 32-bit word: a scalar register, an instruction, a 32-bit control register. -/
abbrev Word := BitVec 32

/-- A 64-bit word: a descriptor, a record, a 64-bit control register. -/
abbrev DWord := BitVec 64

/-- A sparse table: the entries that differ from the table's default, keys strictly rising. -/
abbrev Tab (α : Type) := List (Nat × α)

/-- Byte memory: the listed bytes; an unlisted address reads as zero. -/
abbrev Memory := List (Nat × BitVec 8)

end Sys2Proof
end

