-- ==== Sys2Proof/Syntax.lean ====
section
/-! DEFINITION. The commands of the block: one constructor for each row of the opcode table, with its operands, and the structures that some operands are. -/

namespace Sys2Proof.Machine

/-! ### Operands with a structure -/

/-- A cross-engine packet (R266): header fields, its reserved bits as one number (bits 29:16 of word 0, then bits 63:39 and 31:16 of word 3, then bytes 0x20 to 0x3F), and
an XCOPY's payload. -/
structure XPacket where
  xtype  : Nat
  dst    : Nat
  src    : Nat
  hops   : Nat
  job    : Nat
  wa     : Nat
  wb     : Nat
  sfield : Nat
  stag   : Nat
  data   : List Byte
  resv   : Nat := 0
deriving DecidableEq, Repr

/-- The flit of a DATA frame: a packet's header flit, or a payload flit of an XCOPY; a port that holds a payload flit knows its packet's header. -/
inductive Flit where
  | head (p : XPacket)
  | body (owner : XPacket) (bytes : List Byte)
deriving DecidableEq, Repr

/-- A frame as it is received (R257, R258): trailer fields, whether FEC decoded its codewords, the codewords corrected, the CRC it carries,
the flit of a DATA frame, and the link credit the peer returns with it, per class 2 to 4 (R264; log entry 30). Log entry 16. -/
structure Frame where
  seq    : Nat
  ackSeq : Nat
  ftype  : Nat
  resv   : Nat
  fecOk  : Bool
  corr   : Nat
  crc    : Nat
  flit   : Option Flit
  credit : List Nat
deriving DecidableEq, Repr

/-- Why a read of host memory failed: the completion timeout, an unsupported request, a completer abort or a poisoned completion (R294, R316). -/
inductive ReadFail where
  | timeout | unsupported | abort | poisoned
deriving DecidableEq, Repr

/-- Who made a dictionary request (R353): CAN, a mailbox channel, an RPDO, or a channel that a reset has returned to IDLE since (R349). -/
inductive Requester where
  | can
  | rpdo
  | mailbox (port chan : Nat)
  | gone
deriving DecidableEq, Repr

/-- What the MD of a field counts by time in a microsecond (R429, R449), by the tag of the running task's phase class, 16 and above for filler and no task: CCLK with
the steward's clock ungated, filler steps, SRAM bank cycles, flits, and CCLK of its cores in state RUN. -/
structure Activity where
  field : Nat
  tag   : Nat
  clk   : Nat
  fill  : Nat
  bank  : Nat
  flit  : Nat
  run   : Nat
deriving DecidableEq, Repr

/-- What a PMBus read answered (R434): it was not made, it failed twice, or a value. -/
inductive BusRead (α : Type) where
  | unread | failed
  | got (x : α)
deriving DecidableEq, Repr

/-- A rail's status registers (R434): a warning bit, a fault bit, and its output off or below its undervoltage limit. -/
structure RailStatus where
  warn  : Bool
  fault : Bool
  off   : Bool
deriving DecidableEq, Repr

/-- What firmware reads of a rail on schedule (R434): READ_POUT in W, and its status. -/
structure RailRead where
  rail   : Nat
  pout   : BusRead Nat
  status : BusRead RailStatus
deriving DecidableEq, Repr

/-- A regulator that answers the scan of step 5 (R422, R433): its address from 0x40 on, its pages, VOUT_MODE, and whether its status shows a fault. -/
structure VrDevice where
  dev   : Nat
  pages : Nat
  mode  : Nat
  fault : Bool
deriving DecidableEq, Repr

/-- A copy of the stored objects in service flash, closed by its CRC-32 (R364). -/
structure ObjsCopy where
  objs : Tab Nat
  crc  : Nat
deriving DecidableEq, Repr

/-- A copy of the runtime repair list in service flash, closed by its CRC-32 (R41). -/
structure RepairCopy where
  words : List Word
  crc   : Nat
deriving DecidableEq, Repr

/-- What a reading of service flash returns of each copy: none as it was last written, otherwise what the flash now gives in its place (R42, R364). -/
structure FlashRead where
  objs    : Option ObjsCopy
  objs2   : Option ObjsCopy
  repair  : Option RepairCopy
  repair2 : Option RepairCopy
deriving DecidableEq, Repr

/-- A Wellhead's firmware image as service flash returns it, with the CRC-32 stored for it (R422). -/
structure Image where
  code : List Byte
  crc  : Nat
deriving DecidableEq, Repr

/-- An epoch as it arrives on the mirror link: the header word, the body and the commit word (R507). -/
structure EpochWords where
  header : Nat
  body   : List Byte
  commit : Nat
deriving DecidableEq, Repr

/-- The core a pool entry is given to, by its number in its field, and whether the reads of the firing's table words ended before it was chosen (R67, R91). -/
structure AssignAt where
  li        : Nat
  readFirst : Bool
deriving DecidableEq, Repr

/-- The packets whose operations a pair unit accepts in one SCLK: the place of one and, where its other port brings one too, of that (R98). -/
structure PairTake where
  k     : Nat
  other : Option Nat
deriving DecidableEq, Repr

/-- The two header words of a packet (R238). -/
structure HeaderWords where
  h0 : Nat
  h1 : Nat
deriving DecidableEq, Repr

/-- The step of a cold start that overruns its limit, and what service flash returns where step 4 follows (R42, R422). -/
structure StepOverrun where
  step  : Nat
  flash : FlashRead
deriving DecidableEq, Repr

end Sys2Proof.Machine

namespace Sys2Proof

/-- A command. Operands are numbers of units (`c` a core ID, `f` a field ID, `p` a partition or port, `r` a ring), places in a list of State (`k` a packet on its way, `i` a
command or entry), values written, and what the outside answers or measures. -/
inductive Instr where
  /-- SQ_TAIL (R302): A write of a ring's SQ_TAIL doorbell records the new tail, or is ignored with DB_INVALID when it is out of range. -/
  | sqTail (p : Nat) (r : Nat) (v : Nat)
  /-- CQ_HEAD (R306): A write of a ring's CQ_HEAD doorbell frees completion queue slots for the engine to write into. -/
  | cqHead (p : Nat) (r : Nat) (v : Nat)
  /-- COMMAND_FETCH (R302): The port fetches a batch of up to 8 commands of a ring, from HEAD up to the recorded tail. -/
  | commandFetch (p : Nat) (r : Nat) (data : Machine.ReadFail ⊕ List (List Nat))
  /-- NOP (R308): The NOP command is checked and completes at once. -/
  | nop (p : Nat) (r : Nat)
  /-- WRITE_DATA (R310): WRITE_DATA translates its host buffer and writes it to core data SRAM through fabric accesses. -/
  | writeData (p : Nat) (r : Nat)
  /-- READ_DATA (R322): READ_DATA reads a fabric range and writes the data to host memory before its record. -/
  | readData (p : Nat) (r : Nat)
  /-- LOAD_IMAGE (R311): LOAD_IMAGE reads and checks a whole image, then writes its code into the instruction store of every core of a rectangle. -/
  | loadImage (p : Nat) (r : Nat)
  /-- WRITE_TABLE (R59): WRITE_TABLE writes host data into Cistern table memory or field control space of an IDLE partition. -/
  | writeTable (p : Nat) (r : Nat)
  /-- START_GRAPH (R90): START_GRAPH checks the partition's tables, resets its run state, claims its groups and moves the graph to RUNNING. -/
  | startGraph (p : Nat) (r : Nat)
  /-- START_GRAPH_DEFERRED_CHECK (R421): A START_GRAPH that waited for its partition's starting CDs makes its checks once every such CD is ON. -/
  | startGraphDeferredCheck (p : Nat) (ci : Nat)
  /-- STOP_GRAPH (R20): STOP_GRAPH moves a RUNNING graph to STOPPING, withdraws staged tasks and completes on reaching IDLE. -/
  | stopGraph (p : Nat) (r : Nat)
  /-- POST_EVENT (R21): POST_EVENT sends flag bits to a node of the ring's partition after earlier writes on the ring have landed. -/
  | postEvent (p : Nat) (r : Nat)
  /-- HINT_PHASE_BEGIN (R446): HINT_PHASE with KIND begin opens a demand hint for a phase class of the ring's partition. -/
  | hintPhaseBegin (p : Nat) (r : Nat)
  /-- HINT_PHASE_END (R446): HINT_PHASE with KIND end closes the open hint of a phase class. -/
  | hintPhaseEnd (p : Nat) (r : Nat)
  /-- ENERGY_MARK_OPEN (R455): ENERGY_MARK open captures the mark's TSTAMP and each field's interpolated energy for a job tag. -/
  | energyMarkOpen (p : Nat) (r : Nat)
  /-- ENERGY_MARK_CLOSE (R455): ENERGY_MARK close computes the partition energy since the open mark and reports it with the interval. -/
  | energyMarkClose (p : Nat) (r : Nat)
  /-- INVALIDATE_PORT (R320): INVALIDATE with SCOPE 0 drops every translation cache entry of the port. -/
  | invalidatePort (p : Nat) (r : Nat)
  /-- INVALIDATE_CONTEXT (R320): INVALIDATE with SCOPE 1 drops every cached translation of one context. -/
  | invalidateContext (p : Nat) (r : Nat)
  /-- INVALIDATE_RANGE (R320): INVALIDATE with SCOPE 2 drops the cached translations of a context within a page range. -/
  | invalidateRange (p : Nat) (r : Nat)
  /-- REMOTE_WRITE (R276): REMOTE_WRITE sends host data as XCOPY packets to core SRAM of another engine of the job. -/
  | remoteWrite (p : Nat) (r : Nat)
  /-- WALK_READ_RESPONSE (R316): A table entry read of a translation walk returns and the walk proceeds to the next level, ends with a leaf, or fails. -/
  | walkReadResponse (p : Nat) (ci : Nat) (wi : Nat) (entry : Machine.ReadFail ⊕ Nat)
  /-- HOST_DATA_READ_RESPONSE (R310): A host data read of a transfer command returns, or fails with DMA_READ. -/
  | hostDataReadResponse (p : Nat) (ci : Nat) (ri : Nat) (data : Machine.ReadFail ⊕ List Byte)
  /-- FABRIC_ACCESS (R321): A FABRIC packet reaches its core or field and is written or read there, or refused. -/
  | fabricAccess (k : Nat)
  /-- FABRIC_ACCESS_RELEASE (R52): A fabric access held while its field's CD was starting is made once SRAM zeroing has ended. -/
  | fabricAccessRelease (k : Nat)
  /-- FABRIC_RSP (R321): A FABRIC_RSP reaches the ingress gateway and answers one fabric packet of a command. -/
  | fabricRsp (k : Nat)
  /-- COMMAND_COMPLETION (R312): A command reaches its completion condition and its completion record is prepared in ring order. -/
  | commandCompletion (p : Nat) (ci : Nat)
  /-- COMPLETION_RECORD_WRITE (R306): A held completion or notification record is written into a freed completion queue slot. -/
  | completionRecordWrite (p : Nat) (r : Nat)
  /-- MSIX_SIGNAL (R306): The ring's MSI-X vector is sent after records were written, no more than once per 2 µs. -/
  | msixSignal (p : Nat) (v : Nat)
  /-- HOST_NOTIFICATION (R74): Ingress takes a host notification from a Cistern and writes or buffers it for the named ring, or drops it. -/
  | hostNotification (k : Nat)
  /-- CMD_TIMEOUT (R326): A command that has not completed within the effective command timeout completes with CMD_TIMEOUT and halts its ring. -/
  | cmdTimeout (p : Nat) (i : Nat)
  /-- RING_ENABLE (R300): Writing RING_CFG.EN to 1 checks the ring and queue ranges and enables the ring or refuses the enable. -/
  | ringEnable (p : Nat) (r : Nat) (v : Nat)
  /-- RING_DISABLE (R300): Writing RING_CFG.EN to 0 stops fetching and lets started commands complete. -/
  | ringDisable (p : Nat) (r : Nat)
  /-- RING_RESUME (R325): Writing RING_RESUME with GO = 1 and REDO = 0 clears HALTED and fetches from the command after the failed one. -/
  | ringResume (p : Nat) (r : Nat)
  /-- RING_RESUME_REDO (R325): Writing RING_RESUME with GO = 1 and REDO = 1 clears HALTED and executes the failed command again. -/
  | ringResumeRedo (p : Nat) (r : Nat)
  /-- CTX_ROOT_WRITE (R297): A write of CTX_ROOT is ignored while a ring uses the context, otherwise it sets the root and drops the context's translations. -/
  | ctxRootWrite (p : Nat) (c : Nat) (v : Nat)
  /-- DEVWIN_WRITE (R297): A write of a DEVWIN register sets a host device window and drops every cached translation of the port. -/
  | devwinWrite (p : Nat) (w : Nat) (limit : Bool) (v : Nat)
  /-- FUNCTION_LEVEL_RESET (R295): A function-level reset disables the port's rings, empties its cache, resets BAR0 registers and mailbox channels. -/
  | functionLevelReset (p : Nat)
  /-- PERST_N (R394): A honoured low of PERST_N resets one PCIe port, its link and configuration space. -/
  | perstN (p : Nat)
  /-- REGISTER_WRITE (R8): A write to a register with no behaviour of its own sets its writable fields and ignores reserved bits. -/
  | registerWrite (p : Nat) (o : Nat) (v : Nat)
  /-- CISTERN_EVENT_ACCEPT (R61): A Cistern accepts an event from its field-local port or the mesh and ORs its bits into the target node's flags. -/
  | cisternEventAccept (f : Nat) (k : Nat)
  /-- OVERFLOW_CHAIN_ADVANCE (R65): When a ready pool entry frees, the head of the overflow chain moves into the pool and enters READY. -/
  | overflowChainAdvance (f : Nat)
  /-- TASK_ASSIGN (R67): The allocator assigns a pool entry to an idle core of its placement set, or stages it on a running core. -/
  | taskAssign (f : Nat) (n : Nat) (at' : Machine.AssignAt)
  /-- TASK_START (R138): A core begins a task from an arriving descriptor or its staged slot, resetting its registers and sending a start report. -/
  | taskStart (c : Nat)
  /-- START_REPORT (R69): The Cistern accepts a core's start report and the node enters RUNNING, starting its watchdog. -/
  | startReport (k : Nat)
  /-- COMPLETION_REPORT (R72): The Cistern accepts a completion report, records AFLAGS, frees the core's slot and re-arms or retires the node. -/
  | completionReport (k : Nat)
  /-- OUTPUT_RECORD_READ_END (R83): The read of a firing's output records ends, returning the records or finding an uncorrectable word. -/
  | outputRecordReadEnd (f : Nat) (n : Nat)
  /-- OUTPUT_RECORD_EMIT (R73): The Cistern emits one output record of a completed task per SCLK, to a local node, a field, another engine or the host. -/
  | outputRecordEmit (f : Nat) (mesh : Option Nat)
  /-- FAILURE_REPORT (R76): The Cistern accepts a core's failure report and puts the node into FAILED with the cause. -/
  | failureReport (k : Nat)
  /-- WITHDRAW_REQUEST (R142): A core receives a withdraw request and discards its staged task or answers that it has started. -/
  | withdrawRequest (i : Nat)
  /-- WITHDRAW_ANSWER (R142): The Cistern receives a core's withdraw answer and returns the node to WAITING or leaves it RUNNING. -/
  | withdrawAnswer (k : Nat)
  /-- ABORT_REQUEST (R143): A core receives an abort request, stops, drains, abandons its work and sends an abort report. -/
  | abortRequest (i : Nat)
  /-- ABORT_REPORT (R496): The Cistern receives an abort report and frees the core's slot. -/
  | abortReport (k : Nat)
  /-- TASK_WATCHDOG (R496): A running firing's watchdog expires; the node enters FAILED and the core is sent an abort request. -/
  | taskWatchdog (f : Nat) (n : Nat)
  /-- ABORT_NO_ANSWER (R498): A core sends no abort report within 1,024 CCLK of an abort request and is declared lost. -/
  | abortNoAnswer (f : Nat) (li : Nat)
  /-- CORE_LOST (R501): A core declared lost is taken out of placement, its firings fail, its waits are removed and its position goes OFF. -/
  | coreLost (c : Nat) (reason : Nat)
  /-- REPAIR_AUTO_ADD_ENTRY (R47): Firmware adds a runtime repair entry for a lost core when REPAIR_AUTO_ADD is 1. -/
  | repairAutoAddEntry (c : Nat)
  /-- COMMIT_NOTICE (R502): A core tells its Cistern that a task is about to send its first packet with an effect outside the core. -/
  | commitNotice (k : Nat)
  /-- POST_RECEIVE (R80): A kernel's POST reaches its own Cistern, which checks the target and sends or applies the event, or fails the task. -/
  | postReceive (k : Nat) (mesh : Option Nat)
  /-- EVENT_LOST (R82): A sending Cistern receives a loss report for an event message and moves the partition to STOPPING. -/
  | eventLost (k : Nat)
  /-- CS_ERR_CLEAR (R93): A W1C write of CS_ERR clears error bits and empties CS_ERR_NODE when every bit is clear. -/
  | csErrClear (f : Nat) (v : Nat)
  /-- PRODUCER_ADVANCE (R96): A producer-side ADVANCE raises P within the depth, or is refused with SIPHON_OVERRUN. -/
  | producerAdvance (x : Machine.PairTake)
  /-- CONSUMER_ADVANCE (R96): A consumer-side ADVANCE raises C up to P, or is refused with SIPHON_UNDERRUN. -/
  | consumerAdvance (x : Machine.PairTake)
  /-- PAIR_WAIT (R99): A WAIT at a pair is answered at once or registered, or is refused. -/
  | pairWait (x : Machine.PairTake)
  /-- PAIR_READ (R96): A READ at a pair answers with P and C after the SCLK's updates. -/
  | pairRead (x : Machine.PairTake)
  /-- PAIR_CLEAR (R96): A CLEAR at a pair zeroes both counts when the pair is empty and quiet, and answers 1 or 0. -/
  | pairClear (x : Machine.PairTake)
  /-- SYNC_ANSWER (R100): A pair or Well answer or refusal reaches the core and raises its wake input or delivers the refusal. -/
  | syncAnswer (i : Nat)
  /-- SX_ERR_CLEAR (R101): A W1C write of SX_ERR clears error bits and empties SX_ERR_INDEX when every bit is clear. -/
  | sxErrClear (f : Nat) (v : Nat)
  /-- WELL_ARRIVAL (R109): The well field counts one arrival for a group and releases it, or sends the engine arrival, when COUNT reaches EXPECT. -/
  | wellArrival (k : Nat)
  /-- RELEASE_TREE_ARRIVAL (R108): A release reaches a field, marking ARRIVED states RELEASED and waking cores asleep in AWAIT. -/
  | releaseTreeArrival (k : Nat)
  /-- WELL_TIMEOUT (R112): A group not released within TMO of its first arrival is broken and a broken-release is sent. -/
  | wellTimeout (f : Nat) (g : Nat)
  /-- BROKEN_RELEASE_ARRIVAL (R112): A broken-release reaches a field, which refuses every AWAIT asleep on the group and later operations on it. -/
  | brokenReleaseArrival (k : Nat)
  /-- DRY_WELL_DECLARE (R118): The detector finds a blocked partition with no progress for W and broadcasts the declaration TSTAMP. -/
  | dryWellDeclare (p : Nat)
  /-- DRY_WELL_SNAPSHOT_COMMIT (R119): Every field has written its snapshot; it is committed, or withdrawn if progress occurred. -/
  | dryWellSnapshotCommit (p : Nat)
  /-- ADD (R156): ADD writes the sum of two scalar registers. -/
  | add (c : Nat)
  /-- SUB (R156): SUB writes the difference of two scalar registers. -/
  | sub (c : Nat)
  /-- AND (R156): AND writes the bitwise and of two scalar registers. -/
  | and (c : Nat)
  /-- OR (R156): OR writes the bitwise or of two scalar registers. -/
  | or (c : Nat)
  /-- XOR (R156): XOR writes the bitwise xor of two scalar registers. -/
  | xor (c : Nat)
  /-- SLL (R156): SLL shifts a scalar register left. -/
  | sll (c : Nat)
  /-- SRL (R156): SRL shifts a scalar register right with zero fill. -/
  | srl (c : Nat)
  /-- SRA (R156): SRA shifts a scalar register right with sign fill. -/
  | sra (c : Nat)
  /-- SLT (R156): SLT writes 1 when one register is less than another, signed. -/
  | slt (c : Nat)
  /-- SLTU (R156): SLTU writes 1 when one register is less than another, unsigned. -/
  | sltu (c : Nat)
  /-- MIN_MAX (R156): MIN, MAX, MINU and MAXU write the signed or unsigned minimum or maximum. -/
  | minMax (c : Nat)
  /-- MUL (R156): MUL writes the low 32 bits of a product. -/
  | mul (c : Nat)
  /-- MULH (R156): MULH writes the high 32 bits of a signed product. -/
  | mulh (c : Nat)
  /-- MULHU (R156): MULHU writes the high 32 bits of an unsigned product. -/
  | mulhu (c : Nat)
  /-- DIV_REM (R157): DIV, DIVU, REM and REMU write a truncated quotient or remainder, with fixed results for zero and overflow. -/
  | divRem (c : Nat)
  /-- CLZ (R156): CLZ writes the leading zero count of a register. -/
  | clz (c : Nat)
  /-- POPC (R156): POPC writes the number of bits set in a register. -/
  | popc (c : Nat)
  /-- ADDI (R158): ADDI adds a sign-extended immediate. -/
  | addi (c : Nat)
  /-- ANDI (R158): ANDI ands a zero-extended immediate. -/
  | andi (c : Nat)
  /-- ORI (R158): ORI ors a zero-extended immediate. -/
  | ori (c : Nat)
  /-- XORI (R158): XORI xors a zero-extended immediate. -/
  | xori (c : Nat)
  /-- SHI (R158): SHI shifts by an immediate amount in the direction the immediate selects. -/
  | shi (c : Nat)
  /-- SLTI (R158): SLTI compares with a sign-extended immediate, signed. -/
  | slti (c : Nat)
  /-- SLTIU (R158): SLTIU compares with a sign-extended immediate, unsigned. -/
  | sltiu (c : Nat)
  /-- LUI (R158): LUI loads an immediate into the upper half of a register. -/
  | lui (c : Nat)
  /-- JAL (R160): JAL writes the return address and jumps by a PC-relative offset. -/
  | jal (c : Nat)
  /-- JALR (R160): JALR writes the return address and jumps to a register plus immediate with bits 1:0 cleared. -/
  | jalr (c : Nat)
  /-- BEQ (R159): BEQ branches when two registers are equal. -/
  | beq (c : Nat)
  /-- BNE (R159): BNE branches when two registers differ. -/
  | bne (c : Nat)
  /-- BLT (R159): BLT branches on signed less-than. -/
  | blt (c : Nat)
  /-- BGE (R159): BGE branches on signed greater-or-equal. -/
  | bge (c : Nat)
  /-- BLTU (R159): BLTU branches on unsigned less-than. -/
  | bltu (c : Nat)
  /-- BGEU (R159): BGEU branches on unsigned greater-or-equal. -/
  | bgeu (c : Nat)
  /-- LB (R161): LB loads a sign-extended byte. -/
  | lb (c : Nat)
  /-- LBU (R161): LBU loads a zero-extended byte. -/
  | lbu (c : Nat)
  /-- LH (R161): LH loads a sign-extended halfword. -/
  | lh (c : Nat)
  /-- LHU (R161): LHU loads a zero-extended halfword. -/
  | lhu (c : Nat)
  /-- LW (R161): LW loads a word. -/
  | lw (c : Nat)
  /-- LD (R161): LD loads a doubleword into a register pair. -/
  | ld (c : Nat)
  /-- LQ (R161): LQ loads 16 bytes into a register quad, forwarding or stalling against the store buffer. -/
  | lq (c : Nat)
  /-- SB (R161): SB stores a byte into the store buffer. -/
  | sb (c : Nat)
  /-- SH (R161): SH stores a halfword into the store buffer. -/
  | sh (c : Nat)
  /-- SW (R161): SW stores a word into the store buffer. -/
  | sw (c : Nat)
  /-- SD (R161): SD stores a doubleword into the store buffer. -/
  | sd (c : Nat)
  /-- SQ (R161): SQ stores 16 bytes into the store buffer. -/
  | sq (c : Nat)
  /-- CSRR (R162): CSRR reads a core CSR into a register or pair. -/
  | csrr (c : Nat)
  /-- CSRW (R162): CSRW writes a register or pair to a core CSR under its access code. -/
  | csrw (c : Nat)
  /-- VADDF (R163): VADDF adds FP32 lanes. -/
  | vaddf (c : Nat)
  /-- VSUBF (R163): VSUBF subtracts FP32 lanes. -/
  | vsubf (c : Nat)
  /-- VMULF (R163): VMULF multiplies FP32 lanes. -/
  | vmulf (c : Nat)
  /-- VFMAF (R163): VFMAF computes a fused multiply-add per lane. -/
  | vfmaf (c : Nat)
  /-- VMINF (R163): VMINF takes the IEEE minimum per lane. -/
  | vminf (c : Nat)
  /-- VMAXF (R163): VMAXF takes the IEEE maximum per lane. -/
  | vmaxf (c : Nat)
  /-- VCMPEQF (R163): VCMPEQF compares FP32 lanes for equality. -/
  | vcmpeqf (c : Nat)
  /-- VCMPLTF (R163): VCMPLTF compares FP32 lanes for less-than. -/
  | vcmpltf (c : Nat)
  /-- VCMPLEF (R163): VCMPLEF compares FP32 lanes for less-or-equal. -/
  | vcmplef (c : Nat)
  /-- VRCPF (R163): VRCPF computes reciprocals within 1 ulp. -/
  | vrcpf (c : Nat)
  /-- VRSQF (R163): VRSQF computes reciprocal square roots within 1 ulp. -/
  | vrsqf (c : Nat)
  /-- VEXP2F (R163): VEXP2F computes base-2 exponentials. -/
  | vexp2f (c : Nat)
  /-- VLOG2F (R163): VLOG2F computes base-2 logarithms. -/
  | vlog2f (c : Nat)
  /-- VDIVF (R163): VDIVF divides FP32 lanes, correctly rounded. -/
  | vdivf (c : Nat)
  /-- VSQRTF (R163): VSQRTF takes square roots, correctly rounded. -/
  | vsqrtf (c : Nat)
  /-- VADDI (R163): VADDI adds integer lanes. -/
  | vaddi (c : Nat)
  /-- VSUBI (R163): VSUBI subtracts integer lanes. -/
  | vsubi (c : Nat)
  /-- VMULI (R163): VMULI multiplies integer lanes, low product. -/
  | vmuli (c : Nat)
  /-- VAND (R163): VAND ands lanes bitwise. -/
  | vand (c : Nat)
  /-- VOR (R163): VOR ors lanes bitwise. -/
  | vor (c : Nat)
  /-- VXOR (R163): VXOR xors lanes bitwise. -/
  | vxor (c : Nat)
  /-- VSLL (R163): VSLL shifts lanes left. -/
  | vsll (c : Nat)
  /-- VSRL (R163): VSRL shifts lanes right with zero fill. -/
  | vsrl (c : Nat)
  /-- VSRA (R163): VSRA shifts lanes right with sign fill. -/
  | vsra (c : Nat)
  /-- VMINI (R163): VMINI takes the signed minimum per lane. -/
  | vmini (c : Nat)
  /-- VMAXI (R163): VMAXI takes the signed maximum per lane. -/
  | vmaxi (c : Nat)
  /-- VCMPEQI (R163): VCMPEQI compares integer lanes for equality. -/
  | vcmpeqi (c : Nat)
  /-- VCMPLTI (R163): VCMPLTI compares integer lanes, signed less-than. -/
  | vcmplti (c : Nat)
  /-- VSEL (R163): VSEL selects lanes by a mask register. -/
  | vsel (c : Nat)
  /-- VBCAST (R163): VBCAST broadcasts a scalar register to every lane. -/
  | vbcast (c : Nat)
  /-- VEXT (R163): VEXT copies one lane into a scalar register. -/
  | vext (c : Nat)
  /-- VINS (R163): VINS inserts a scalar register into one lane. -/
  | vins (c : Nat)
  /-- VPERM (R163): VPERM permutes lanes by an index register. -/
  | vperm (c : Nat)
  /-- VMOV (R163): VMOV copies a vector register. -/
  | vmov (c : Nat)
  /-- VRSUMF (R164): VRSUMF reduces FP32 lanes by a fixed pairwise tree into lane 0. -/
  | vrsumf (c : Nat)
  /-- VRMAXF (R163): VRMAXF reduces lanes to their maximum in lane 0. -/
  | vrmaxf (c : Nat)
  /-- VRMINF (R163): VRMINF reduces lanes to their minimum in lane 0. -/
  | vrminf (c : Nat)
  /-- VRSUMI (R163): VRSUMI reduces integer lanes to a wrapping sum in lane 0. -/
  | vrsumi (c : Nat)
  /-- VCVT (R165): VCVT converts one part between FP32 and a narrower format as VC selects. -/
  | vcvt (c : Nat)
  /-- VLD (R166): VLD loads 128 bytes into a vector register. -/
  | vld (c : Nat)
  /-- VST (R166): VST stores 128 bytes from a vector register. -/
  | vst (c : Nat)
  /-- TDESC (R168): TDESC checks and loads a tile descriptor register from a register pair. -/
  | tdesc (c : Nat)
  /-- MMA (R170): MMA multiplies an 8 × K tile by a K × 16 tile into an accumulator in increasing k. -/
  | mma (c : Nat)
  /-- AST (R171): AST converts and stores an accumulator tile to a tile in SRAM. -/
  | ast (c : Nat)
  /-- ALD (R171): ALD loads an accumulator from an FP32 or INT32 tile. -/
  | ald (c : Nat)
  /-- AZERO (R171): AZERO sets an accumulator to zero. -/
  | azero (c : Nat)
  /-- AXV (R171): AXV copies two accumulator rows into a vector register. -/
  | axv (c : Nat)
  /-- AVX (R171): AVX copies a vector register into two accumulator rows. -/
  | avx (c : Nat)
  /-- RLAUNCH (R223): RLAUNCH reads and checks a recipe descriptor block and queues the recipe to the mixer. -/
  | rlaunch (c : Nat)
  /-- RECIPE_ARRIVAL_SLICE (R217): A recipe takes a whole arrival slice from its inbox queue, checks it, runs its products and frees its slots. -/
  | recipeArrivalSlice (c : Nat)
  /-- FINISH_SEND (R219): A recipe sends one finished output block to its peer when credit is available. -/
  | finishSend (c : Nat)
  /-- RECIPE_FINISH (R215): A recipe finishes, ORs its flags into the core and zeroes its accumulators. -/
  | recipeFinish (c : Nat)
  /-- RECIPE_RUN_FAULT (R224): A fault found while a recipe runs stops it and is delivered as a refusal. -/
  | recipeRunFault (c : Nat)
  /-- SEND (R174): SEND checks its operands, reads the payload and hands a message to the mesh, or sleeps for credit. -/
  | send (c : Nat)
  /-- RECV (R175): RECV copies the oldest whole message of a queue into a buffer and frees its slots, or sleeps. -/
  | recv (c : Nat)
  /-- RPEEK (R173): RPEEK returns the payload length of the oldest whole message of a queue. -/
  | rpeek (c : Nat)
  /-- SADV (R176): SADV queues a posted ADVANCE through a binding. -/
  | sadv (c : Nat)
  /-- SWAIT (R176): SWAIT issues a blocking WAIT and sleeps until answered. -/
  | swait (c : Nat)
  /-- SREAD (R176): SREAD reads a pair's counts, sleeping until answered. -/
  | sread (c : Nat)
  /-- SCLR (R176): SCLR issues a blocking CLEAR through a consumer binding. -/
  | sclr (c : Nat)
  /-- WARR (R176): WARR queues a posted ARRIVE at a barrier group. -/
  | warr (c : Nat)
  /-- WAWT (R176): WAWT awaits a barrier release, returning at once if already released. -/
  | wawt (c : Nat)
  /-- WAA (R176): WAA arrives at a barrier group and awaits its release. -/
  | waa (c : Nat)
  /-- POST (R177): POST checks an output record and queues it for the core's Cistern. -/
  | post (c : Nat)
  /-- END (R140): END waits for all the task's work to finish before its completion report. -/
  | endTask (c : Nat)
  /-- FAIL (R180): FAIL ends the task at once with KERNEL_ABORT and a kernel code. -/
  | fail (c : Nat)
  /-- END_COMPLETION_SEND (R140): When END's conditions all hold the core sends its completion report carrying c.tflags. -/
  | endCompletionSend (c : Nat)
  /-- OUTBOUND_ENTRY_LEAVE (R178): A posted operation leaves the outbound queue once every earlier message of the task is accepted. -/
  | outboundEntryLeave (c : Nat)
  /-- REFUSAL_DELIVERY (R179): An asynchronous refusal is delivered at the next instruction boundary and fails the task. -/
  | refusalDelivery (c : Nat)
  /-- CORE_WAKE (R147): A sleeping core wakes on its wake input, a message, credit or release and issues its next instruction. -/
  | coreWake (c : Nat)
  /-- FILLER_ENTER (R450): A core asleep in AWAIT in an armed field enters FILLER. -/
  | fillerEnter (c : Nat)
  /-- FILLER_DUTY_DECAY (R450): A core in FILLER for 200 µs lowers its duty by 1 every 2 µs. -/
  | fillerDutyDecay (c : Nat)
  /-- STORE_BUFFER_DRAIN (R128): The oldest store-buffer entry drains to SRAM. -/
  | storeBufferDrain (c : Nat)
  /-- ECC_WRITE_BACK (R131): A pending corrected word is written back to its bank. -/
  | eccWriteBack (c : Nat) (bank : Nat)
  /-- MESSAGE_ACCEPT (R245): A message's last flit is written into its inbox queue and an ACK is sent. -/
  | messageAccept (k : Nat)
  /-- ACK (R245): An ACK reaches the sending network interface and retires an unacknowledged message. -/
  | ack (k : Nat)
  /-- MSG_UNREACHABLE (R235): A packet's head reaches a router that refuses it for an unreachable destination and a LOST report is returned. -/
  | msgUnreachable (k : Nat)
  /-- PACKET_RESERVED_DISCARD (R239): A packet with a reserved TYPE or inconsistent length is discarded and counted. -/
  | packetReservedDiscard (f : Nat) (h : Machine.HeaderWords)
  /-- CREDIT_REQ (R241): A credit request reaches an inbox queue's interface and is granted, held or answered busy. -/
  | creditReq (k : Nat)
  /-- CREDIT_GRANT (R242): A credit grant reaches a sender's interface and fills its credit entry, waking the sender. -/
  | creditGrant (k : Nat)
  /-- CREDIT_RETURN (R241): Returned slots reach an inbox queue's interface and serve the oldest waiting request. -/
  | creditReturn (k : Nat)
  /-- CREDIT_ENTRY_IDLE_TIMEOUT (R242): A credit entry unused for 4,096 MCLK returns its credit and is freed. -/
  | creditEntryIdleTimeout (c : Nat) (i : Nat)
  /-- CREDIT_BUSY_RETRY (R241): A sender answered busy requests credit again 64 MCLK later. -/
  | creditBusyRetry (c : Nat) (i : Nat)
  /-- LOST (R252): A LOST report reaches a packet's source, which acts according to the lost packet's type. -/
  | lost (k : Nat)
  /-- MSG_ACK_TIMEOUT (R253): A message with no ACK or loss report for 100 µs is treated as lost. -/
  | msgAckTimeout (c : Nat) (i : Nat)
  /-- LOST_CORE_CREDIT_RETURN (R243): A lost core's interface returns the credit of every entry and frees them. -/
  | lostCoreCreditReturn (c : Nat)
  /-- LINK_FLIT_ERROR (R250): A router receives a flit with an uncorrectable error and asks for a resend. -/
  | linkFlitError (px : Nat) (py : Nat) (dir : Nat)
  /-- LINK_RESEND_REQUEST (R250): The upstream router receives a resend request and resends from the failed flit. -/
  | linkResendRequest (px : Nat) (py : Nat) (dir : Nat)
  /-- MESH_LINK_DOWN (R251): A resent flit fails again; the link goes DOWN and held packets are reported lost. -/
  | meshLinkDown (px : Nat) (py : Nat) (dir : Nat) (held : List Nat)
  /-- PORT_ENABLE (R262): Writing PORT_CTRL.EN to 1 starts training of a Sluice port. -/
  | portEnable (apply : Bool) (who : Machine.Requester)
  /-- PORT_DISABLE (R262): Writing PORT_CTRL.EN to 0 takes a Sluice port OFF. -/
  | portDisable (apply : Bool) (who : Machine.Requester)
  /-- TRAIN_COMPLETE (R263): Training of a port ends and the port comes UP or goes DOWN. -/
  | trainComplete (p : Nat) (width : Nat) (engine : Nat) (port : Nat)
  /-- TRAIN_TIMEOUT (R262): A port training for 100 ms goes DOWN. -/
  | trainTimeout (p : Nat)
  /-- AUTO_RETRAIN (R262): A DOWN port with AUTO_RETRAIN retrains 10 ms after going DOWN. -/
  | autoRetrain (p : Nat)
  /-- FRAME_RECEIVE (R258): A port receives a frame and accepts it in sequence or discards it and sends a NAK. -/
  | frameReceive (p : Nat) (f : Machine.Frame)
  /-- NAK (R259): A port receives a NAK and replays every unacknowledged frame from the named one. -/
  | nak (p : Nat) (named : Nat)
  /-- REPLAY_TIMEOUT (R259): The oldest unacknowledged frame reaches 400 ns and is replayed. -/
  | replayTimeout (p : Nat)
  /-- SLUICE_PORT_DOWN (R260): A port exceeding its replay count or time, or losing FEC lock, goes DOWN and answers XLOST for held packets. -/
  | sluicePortDown (p : Nat) (fec : Bool)
  /-- LINK_DELAY_MEASURE (R284): Every 10 µs a port measures its link delay by a TIME frame exchange. -/
  | linkDelayMeasure (p : Nat) (trip : Nat)
  /-- CROSS_ENGINE_TRANSIT (R268): A cross-engine packet not for this engine is routed onward or answered XLOST. -/
  | crossEngineTransit (fromMesh : Bool) (k : Nat)
  /-- XEVENT (R273): A receiving gateway delivers an XEVENT to a running partition of the job or discards it. -/
  | xevent (k : Nat)
  /-- XARRIVE (R280): The root counts an engine arrival and releases the cluster group when ECOUNT reaches EEXPECT. -/
  | xarrive (k : Nat)
  /-- XRELEASE (R280): A well field receives a cluster release, releasing a RUNNING group or breaking it when broken. -/
  | xrelease (k : Nat)
  /-- XBREAK (R282): An engine receives XBREAK and breaks the group locally, the root forwarding a broken release. -/
  | xbreak (k : Nat)
  /-- XLOST (R275): A source receives XLOST and acts according to the lost packet's type. -/
  | xlost (k : Nat)
  /-- XCOPY (R276): A receiving gateway checks an XCOPY and writes core SRAM, answering XACK or XLOST. -/
  | xcopy (k : Nat)
  /-- XACK (R312): An XACK reaches the source and answers one XCOPY of a REMOTE_WRITE. -/
  | xack (k : Nat)
  /-- TS_SYNC_SEND (R284): Every 10 µs a MASTER or LOCKED engine sends TS_SYNC on every UP port. -/
  | tsSyncSend
  /-- TS_SYNC (R284): An engine takes a TS_SYNC from its parent and updates its sync distance, offset and state. -/
  | tsSync (k : Nat)
  /-- TSTAMP_SLEW (R285): An engine slews TSTAMP by 0 or 2 counts in one REFCLK period of each 1,000. -/
  | tstampSlew
  /-- HOLDOVER_TIMEOUT (R286): A LOCKED engine with no TS_SYNC from its parent for 100 µs enters HOLDOVER. -/
  | holdoverTimeout
  /-- CSYNC_IN_EDGE (R401): A master takes a rising CSYNC_IN edge toward its epoch marks and corrects TSTAMP. -/
  | csyncInEdge
  /-- CSYNC_OUT_PULSE (R401): CSYNC_OUT goes high for 100 ns at each TSTAMP multiple of 10,000. -/
  | csyncOutPulse
  /-- FL_PROPOSE (R288): At each epoch a lock member sends FL_PROPOSE with its wanted F-state. -/
  | flPropose (p : Nat)
  /-- FL_PROPOSE_RECEIVE (R288): The leader records a member's proposal. -/
  | flProposeReceive (k : Nat)
  /-- FL_DECIDE (R288): At epoch plus 20 µs the leader picks the slowest proposed state and sends FL_COMMAND. -/
  | flDecide (p : Nat)
  /-- FL_COMMAND (R289): A member receives FL_COMMAND and schedules its partition's change to the commanded state. -/
  | flCommand (k : Nat)
  /-- FLOCK_LOST (R289): A member with no FL_COMMAND for 1 ms enters lock-lost. -/
  | flockLost (p : Nat)
  /-- ROUTE_WRITE (R265): A write of a ROUTE entry updates the RD table and copies it into every MD. -/
  | routeWrite (e : Nat) (v : Nat)
  /-- CW_DESC_WRITE (R277): A write of CW_DESC sets a cluster group's description and clears its ECOUNT, or is refused. -/
  | cwDescWrite (g : Nat) (v : Nat)
  /-- FL_DESC_WRITE (R287): A write of FL_DESC sets a partition's frequency lock, or is refused while its graph runs. -/
  | flDescWrite (p : Nat) (v : Nat)
  /-- USDO_INITIATE_DOWNLOAD (R340): A USDO download initiate opens a write transfer, aborting any open one. -/
  | usdoInitiateDownload (index : Nat) (sub : Nat) (size : Nat) (data : List Byte)
  /-- USDO_INITIATE_UPLOAD (R340): A USDO upload initiate opens a read transfer, aborting any open one. -/
  | usdoInitiateUpload (index : Nat) (sub : Nat)
  /-- USDO_SEGMENT (R340): A USDO segment continues a segmented transfer, the last one submitting the request. -/
  | usdoSegment (data : List Byte) (last : Bool)
  /-- DICT_SEG_TIMEOUT (R340): A segmented transfer whose next segment does not arrive in time is aborted. -/
  | dictSegTimeout
  /-- MB_DOORBELL (R349): A write of MB_DOORBELL submits a mailbox request, or sets OVERRUN when BUSY. -/
  | mbDoorbell (p : Nat) (c : Nat)
  /-- DICT_READ (R351): A dictionary read request is checked and answered with the object's value. -/
  | dictRead (who : Machine.Requester)
  /-- DICT_WRITE (R354): A dictionary write to an object with no row of its own is checked and queued. -/
  | dictWrite (who : Machine.Requester)
  /-- DICT_WRITE_APPLY (R355): After its epoch commits, a queued write is checked again and applied or refused. -/
  | dictWriteApply
  /-- DICT_WRITE_ANSWER (R355): After its outcome epoch commits, a write is answered on its bus or channel. -/
  | dictWriteAnswer
  /-- REPAIR_ADD (R46): A write of REPAIR_ADD adds an entry to the runtime list in both flash copies. -/
  | repairAdd (apply : Bool) (who : Machine.Requester)
  /-- REPAIR_REMOVE (R46): A write of REPAIR_REMOVE removes an entry from the runtime list. -/
  | repairRemove (apply : Bool) (who : Machine.Requester)
  /-- REPAIR_RELOAD (R42): Writing 1 to REPAIR_RELOAD rebuilds the applied map from fuses and flash. -/
  | repairReload (apply : Bool) (who : Machine.Requester) (flash : Machine.FlashRead)
  /-- FIELD_RESTART (R419): A write of FIELD_RESTART restarts one field's CD with the applied map. -/
  | fieldRestart (apply : Bool) (who : Machine.Requester)
  /-- PARTITION_RECT (R55): A write of PARTITION_RECT defines, enables, rewrites or disables a partition. -/
  | partitionRect (apply : Bool) (who : Machine.Requester)
  /-- PART_JOB (R270): A write of PART_JOB sets a partition's job ID, or is refused. -/
  | partJob (apply : Bool) (who : Machine.Requester)
  /-- ENGINE_ID (R291): A write of ENGINE_ID sets the cluster engine ID and retrains every UP port. -/
  | engineId (apply : Bool) (who : Machine.Requester)
  /-- TIME_MASTER (R286): A write of TIME_MASTER names the time master and changes the sync state. -/
  | timeMaster (apply : Bool) (who : Machine.Requester)
  /-- POWER_CAP (R438): A write of POWER_CAP sets the engine power cap before it is answered. -/
  | powerCap (apply : Bool) (who : Machine.Requester)
  /-- DET_MODE (R481): A write of DET_MODE sets the deterministic-mode bit in every ON core, or is refused. -/
  | detMode (apply : Bool) (who : Machine.Requester)
  /-- CMD_TIMEOUT_WRITE (R327): A write of CMD_TIMEOUT sets the command timeout when it is at least six PCIe timeouts. -/
  | cmdTimeoutWrite (apply : Bool) (who : Machine.Requester)
  /-- DRYWELL_WINDOW (R380): A write of DRYWELL_WINDOW takes effect at once and restarts the running window. -/
  | drywellWindow (apply : Bool) (who : Machine.Requester)
  /-- RESTORE_SEFIEZ (R372): A write of RESTORE_SEFIEZ restores every stored object of 0x2000–0x5FFF to its Default. -/
  | restoreSefiez (apply : Bool) (who : Machine.Requester)
  /-- RESTORE_COMM (R339): A write of RESTORE_COMM marks the communication objects to return to defaults at the next reset communication. -/
  | restoreComm (apply : Bool) (who : Machine.Requester)
  /-- BUTTON_OVERRIDE (R407): A write of BUTTON_OVERRIDE releases compute from a stuck-button reset and rebuilds the map. -/
  | buttonOverride (apply : Bool) (who : Machine.Requester) (flash : Machine.FlashRead)
  /-- FAULT_LOG_CLEAR (R384): A write of FAULT_LOG_CLEAR empties FAULT_LOG and zeroes FAULT_COUNT and WRITE_COUNT. -/
  | faultLogClear (apply : Bool) (who : Machine.Requester)
  /-- ERROR_HISTORY_CLEAR (R346): Writing 0 to ERROR_HISTORY sub 0 clears the error history. -/
  | errorHistoryClear (apply : Bool) (who : Machine.Requester)
  /-- NMT_START (R337): The NMT start command puts the engine into Operational. -/
  | nmtStart
  /-- NMT_STOP (R337): The NMT stop command puts the engine into Stopped. -/
  | nmtStop
  /-- NMT_ENTER_PRE_OPERATIONAL (R337): The NMT enter pre-operational command puts the engine into Pre-operational. -/
  | nmtEnterPreOperational
  /-- NMT_RESET_NODE (R338): The NMT reset node command resets the CAN services and clears the EMCY queue and history. -/
  | nmtResetNode
  /-- NMT_RESET_COMMUNICATION (R338): The NMT reset communication command resets the CAN services and reloads the communication objects. -/
  | nmtResetCommunication
  /-- HEARTBEAT_SEND (R344): The engine sends its heartbeat every HB_PRODUCER ms. -/
  | heartbeatSend
  /-- HEARTBEAT_RECEIVE (R344): A consumed node's heartbeat arrives and re-arms its consumer entry. -/
  | heartbeatReceive (node : Nat)
  /-- CAN_HB_TIMEOUT (R344): A heartbeat consumer misses its time and sends one EMCY. -/
  | canHbTimeout (k : Nat)
  /-- EMCY_SEND (R346): The oldest queued EMCY message is sent after the inhibit time. -/
  | emcySend
  /-- RPDO_RECEIVE (R343): An RPDO frame is checked and committed as one operator write of its mapped objects. -/
  | rpdoReceive (r : Nat) (data : List Byte)
  /-- TPDO_SEND (R342): A TPDO is sent on a change of a mapped object after its inhibit time, or on its event timer. -/
  | tpdoSend (t : Nat)
  /-- CAN_BUS_OFF (R334): The controller recovers from bus-off after 128 × 11 recessive bits and sends an EMCY. -/
  | canBusOff
  /-- CAN_OVERRUN (R345): A CAN receive overrun is recorded with an EMCY. -/
  | canOverrun
  /-- EPOCH_CLOSE (R507): At a TSTAMP multiple of 100,000 with changed state the active closes a mirror epoch and sends it. -/
  | epochClose
  /-- EPOCH_RECEIVE (R508): The standby checks and applies a whole epoch and acknowledges it. -/
  | epochReceive (x : Machine.EpochWords)
  /-- EPOCH_ACK (R508): The active receives an epoch acknowledgement and counts the epoch committed. -/
  | epochAck
  /-- HEARTBEAT_LOSS_TIMEOUT (R509): The standby sees no heartbeat or epoch word for 2.5 ms and the token moves to it. -/
  | heartbeatLossTimeout
  /-- WELLHEAD_WATCHDOG_EXPIRY (R509): The active's SD hardware watchdog expires and the token moves to the standby. -/
  | wellheadWatchdogExpiry
  /-- WELLHEAD_MEMORY_ERROR (R509): The active reports an uncorrectable error in its own memory and the token moves. -/
  | wellheadMemoryError
  /-- WELLHEAD_TAKEOVER (R511): The new active completes its takeover, answers requests and resumes the controller. -/
  | wellheadTakeover
  /-- STANDBY_LOST (R513): The active sees no heartbeat or acknowledgement from the standby for 2.5 ms and restarts it. -/
  | standbyLost
  /-- STANDBY_RESYNC_COMPLETE (R513): A restarted Wellhead finishes its resync and becomes standby. -/
  | standbyResyncComplete (x : Machine.EpochWords)
  /-- WELLHEAD_PAIR_LOST (R514): After both Wellheads were down, the first to boot rebuilds state from flash and hardware. -/
  | wellheadPairLost (w : Nat) (image : Machine.Image) (flash : Machine.FlashRead)
  /-- WELLHEAD_BOOT_RETRY (R422): With neither Wellhead booted the SD restarts both every 1 s. -/
  | wellheadBootRetry
  /-- FAULT_QUEUE_DRAIN (R494): The active drains every fault queue into FAULT_LOG, sets LAST objects and sends EMCYs. -/
  | faultQueueDrain
  /-- POR_N_RISE (R422): POR_N rises with input power present and a cold start begins. -/
  | porNRise
  /-- POR_N_FALL (R425): A honoured low of POR_N powers every domain down and holds the SD in reset. -/
  | porNFall
  /-- STRAP_SAMPLE (R397): The SD samples the straps eight times at 1 ms intervals and takes a stable value. -/
  | strapSample (raw : Nat)
  /-- WELLHEAD_BOOT_COMPLETE (R422): A Wellhead finishes its boot or fails its image check during a cold start. -/
  | wellheadBootComplete (w : Nat) (code : List Byte) (crc : Nat) (flash : Machine.FlashRead)
  /-- PMBUS_SCAN_COMPLETE (R422): The regulators have been found and set, and the SD becomes operational. -/
  | pmbusScanComplete (devs : List Machine.VrDevice) (missing : Bool)
  /-- RD_START_COMPLETE (R422): The RD start ends or fails. -/
  | rdStartComplete (ok : Bool)
  /-- MD_START_COMPLETE (R422): A field's MD start ends or fails after its retry. -/
  | mdStartComplete (f : Nat) (ok : Bool)
  /-- CD_START_COMPLETE (R420): A field's CD start ends and the field takes its repair state. -/
  | cdStartComplete (f : Nat)
  /-- CD_START_TIMEOUT (R422): A CD start reaching its 20 ms limit is switched OFF and its field made DEGRADED. -/
  | cdStartTimeout (f : Nat)
  /-- START_STEP_TIMEOUT (R422): A cold-start step overruns its limit and the engine retries or enters START_FAILED. -/
  | startStepTimeout (x : Machine.StepOverrun)
  /-- RST_BTN_PRESS_BEGIN (R404): A debounced press of RST_BTN_N begins and every CD and MD is put in reset. -/
  | rstBtnPressBegin
  /-- RST_BTN_PRESS_END (R405): A press shorter than 60 s ends and the fields restart, with the map rebuilt after 4 s. -/
  | rstBtnPressEnd (flash : Machine.FlashRead)
  /-- BUTTON_STUCK (R406): A press reaching 60 s is declared stuck and the input is masked. -/
  | buttonStuck
  /-- FLOW_LOSS_DECLARE (R467): FLOW_OK low for 50 ms declares coolant loss and compute is stopped. -/
  | flowLossDeclare
  /-- COOLANT_BACKUP_TIMEOUT (R467): The backup timer reaches 20 ms with a domain still on and SD hardware switches every CD and MD off. -/
  | coolantBackupTimeout
  /-- FLOW_RESTORE_DECLARE (R398): FLOW_OK high for 100 ms declares flow restored. -/
  | flowRestoreDeclare
  /-- COOLANT_RESTART (R468): Once flow, temperature and trip conditions allow, compute restarts and FLOW_STOP_ACTIVE clears. -/
  | coolantRestart
  /-- REFCLK_LOST (R427): REFCLK loss stops every field and the RD and holds TSTAMP. -/
  | refclkLost
  /-- REFCLK_RESTORE (R427): REFCLK within tolerance for 10 ms restores VCLK and restarts from step 7 of the cold start. -/
  | refclkRestore
  /-- PLL_UNLOCK (R428): A field PLL loses lock and the whole engine's MDs and CDs restart. -/
  | pllUnlock (f : Nat)
  /-- FSTATE_CHANGE_BEGIN (R412): At start TSTAMP T every field of a partition begins an F-state change. -/
  | fstateChangeBegin
  /-- FSTATE_CHANGE_COMPLETE (R413): An F-state change completes 20 µs after it began and any held request begins. -/
  | fstateChangeComplete
  /-- SENSOR_CONVERSION (R459): A junction sensor converts and its value is judged against the thermal thresholds. -/
  | sensorConversion (i : Nat) (t : Int)
  /-- THERM_WARN_CLEAR (R461): Every sensor below 87 °C for 10 ms returns the thermal state to normal. -/
  | thermWarnClear
  /-- THERM_FORCED_CLEAR (R463): Every sensor below 95 °C for 10 ms ends the forced state. -/
  | thermForcedClear
  /-- DERATE_STEP (R462): At most once per millisecond the derate step k is updated from TJ_MAX. -/
  | derateStep
  /-- SENSOR_FAULT (R460): A sensor producing no conversion for 10 µs is failed and excluded. -/
  | sensorFault (i : Nat)
  /-- SLACK_CHECK (R471): Each power-on hour the active checks each field's slack and raises trim or lowers AGE_FMAX. -/
  | slackCheck (f : Nat) (slack : Nat)
  /-- PMB_ALERT (R434): PMB_ALERT_N low in two samples leads the active to read the responder's status and act on it. -/
  | pmbAlert (l : List (Nat × Machine.BusRead Machine.RailStatus))
  /-- PMBUS_POLL (R434): The active reads READ_POUT and STATUS_WORD of every rail on schedule and acts on faults. -/
  | pmbusPoll (l : List Machine.RailRead)
  /-- VR_DERATE_CLEAR (R434): After 50 ms with no regulator warning the 75 % derate ends. -/
  | vrDerateClear
  /-- ESTIMATOR_TICK (R430): Each TSTAMP microsecond every MD computes its field's energy and adds it to FIELD_ENERGY. -/
  | estimatorTick (acts : List Machine.Activity) (sensed : List (Nat × Nat))
  /-- CONTROLLER_PERIOD (R444): Every 10 µs the controller divides the budget and sets bubble levels and filler duty. -/
  | controllerPeriod
  /-- CONTROLLER_EPOCH (R445): At each epoch the controller learns class power and chooses each partition's wanted F-state. -/
  | controllerEpoch
  /-- CALIBRATION (R436): Every 100 ms the estimator is compared with measured power and g_dyn updated or the calibration rejected. -/
  | calibration
  /-- QUIET_WINDOW_FORCE (R435): A field with no quiet window for 100 ms has its mixers and vector units held for one microsecond. -/
  | quietWindowForce (f : Nat)
  /-- CEILING_GUARD_ENGAGE (R440): The 10 µs power average above 20 kW sets bubbles to 48 and filler to 0 in every field. -/
  | ceilingGuardEngage
  /-- CEILING_GUARD_RELEASE (R440): After 20 µs and with the average below 19 kW the guard restores the controller's values. -/
  | ceilingGuardRelease
  /-- DROOP_STRETCH_BEGIN (R452): A supply 3 % low starts the field's clock stretcher at 80 % rate. -/
  | droopStretchBegin (f : Nat)
  /-- DROOP_STRETCH_END (R452): The supply within 3 % for 100 ns ends the stretch. -/
  | droopStretchEnd (f : Nat)
  /-- DROOP_SEVERE (R453): A stretch lasting 10 µs records a severe droop and slows the partition. -/
  | droopSevere (f : Nat)
  /-- HINT_EXPIRY (R446): A phase hint closes EXPECT_US after its begin. -/
  | hintExpiry (p : Nat) (pclass : Nat)
  /-- SRAM_SCRUB_ROW (R515): A due SRAM row is read by the scrubber in a free bank cycle and corrected if needed. -/
  | sramScrubRow (c : Nat) (bank : Nat) (found : List (Nat × Bool))
  /-- FORCED_SCRUB_CYCLE (R515): A scrub row not served within 256 CCLK takes a class-3 bank cycle. -/
  | forcedScrubCycle (c : Nat) (bank : Nat) (found : List (Nat × Bool))
  /-- TABLE_SCRUB_SLOT (R516): The Cistern scrubber reads one slot of Cistern memory and fails a node on an uncorrectable word. -/
  | tableScrubSlot (f : Nat) (found : List (Nat × Bool))
  /-- STATS_INTERVAL_END (R526): At each statistics interval end every field snapshots its cores and makes CSTAT and FSTAT records. -/
  | statsIntervalEnd (p : Nat)
  /-- TRACE_RECORD_WRITE (R529): The port writes staged records into the host trace ring. -/
  | traceRecordWrite (p : Nat)
  /-- TRACE_PROD_WRITE (R529): Within 10 µs of the first new record the port writes PROD into the ring header. -/
  | traceProdWrite (p : Nat)
  /-- TRACE_CONS_READ (R529): The port reads CONS from the ring header, clearing EN if the read fails. -/
  | traceConsRead (p : Nat) (value : Machine.ReadFail ⊕ Nat)
  /-- TRACE_DROP (R529): A stage that dropped records makes one DROP record when it has space. -/
  | traceDrop (p : Nat) (stage : Nat)
  /-- TR_ENABLE (R530): Writing TR_BASE.EN to 1 checks the trace ring and header and enables the destination or refuses. -/
  | trEnable (p : Nat) (base : Nat)
  /-- TR_DISABLE (R531): Writing TR_BASE.EN to 0 stops making records and discards those held. -/
  | trDisable (p : Nat)
  /-- DEVICE_CONTROL_2_WRITE (R294): A host write of a port's Device Control 2 completion timeout range sets the upper value, or is ignored for an unsupported encoding, and recomputes the port's effective command timeout. -/
  | deviceControl2Write (p : Nat) (v : Nat)
  /-- PERST_N_RISE (R394): PERST_N of a port rises and the port trains its link and answers configuration requests within 100 ms, with retry status until then. -/
  | perstNRise (p : Nat) (width : Nat) (rate : Nat)
  /-- INPUT_POWER_LOSS (R425): Input power is removed without the POR_N power-down order, losing every graph and TSTAMP but keeping the last acknowledged stored objects. -/
  | inputPowerLoss
  /-- DOWN_LINK_PACKET_LOST (R251): A packet routed to a mesh link that is already DOWN is answered by the upstream router with a LOST report, cause MSG_LOST, and is not sent. -/
  | downLinkPacketLost (px : Nat) (py : Nat) (dir : Nat) (k : Nat)
  /-- STATS_EMISSION_WINDOW_END (R527): A statistics snapshot reaches the end of its 1 ms emission window and its records still waiting for field buffer space are dropped. -/
  | statsEmissionWindowEnd (f : Nat)
  /-- WELLHEAD_HEARTBEAT (R509): Each Wellhead sends its heartbeat word on the mirror link every 1 ms, keeping the partner's loss timers from running out. -/
  | wellheadHeartbeat (w : Nat)
  /-- WELLHEAD_RESTART_BOOT (R513): A restarted Wellhead finishes its image check and boot and asks for a resync, or fails and counts toward being held off. -/
  | wellheadRestartBoot (w : Nat) (image : Machine.Image)
deriving DecidableEq, Repr

end Sys2Proof
end

