-- ==== Sys2Proof/Decode.lean ====
section
/-! DEFINITION. Commands read from words: the opcode table gives no row any bits, so no word spells a command. A core's own instruction words are decoded in
Machine/Operands.lean. -/

namespace Sys2Proof

/-- The command a word of the opcode table spells: none (log entry 3). -/
def decodeTableWord (_nbits _w : Nat) : Option Instr := none

end Sys2Proof
end

