-- ==== Sys2Proof/Config.lean ====
section
/-! DEFINITION. What an implementation fixes and the values the spec leaves open: opaque constants without a body. -/

namespace Sys2Proof.Config

/-- Which of the two neighbours of the exact value VRCPF, VRSQF, VEXP2F or VLOG2F delivers (R200 bounds the error by
1 ulp and fixes the listed rows only): the function number, the rounding mode and the operand; true takes the neighbour away from zero. -/
opaque approxUp : Nat → Nat → Nat → Bool

/-- How far from the value rounded toward zero an activation function's result lies (R209: within 2 ulp, a fixed function
of its input): ACT and the operand, answered modulo 4, in units in the last place from one below to two above. -/
opaque activationUlp : Nat → Nat → Nat

/-- The stall counters of a core (R519: BANK_WAIT, SBUF_STALL), which count timing the model leaves out: core, counter index and
instructions issued so far. -/
opaque stallCycles : Nat → Nat → Nat → Nat

/-- The n-th free value of a run: what the spec calls unspecified and the machine goes on with. -/
opaque freeValue : Nat → Nat

/-- SUB of a trace record (R521): the SCLK edges of the field after the REFCLK edge its TS counts, which the model's ticks do not
resolve; field and the number of records it has made. -/
opaque traceSub : Nat → Nat → Nat

/-- Flits a packet's links forward and other counts of timing detail the model leaves out (R520): field, counter offset, and time. -/
opaque trafficCount : Nat → Nat → Nat → Nat

/-- Fused calibration of a field's static power in mW (R431): field, whether its CD is on, supply in mV, temperature in 0.1 degree. -/
opaque staticPower : Nat → Bool → Nat → Int → Nat

/-- Estimated power of the SD and of the RD in mW (R431), by TSTAMP. -/
opaque sdPower : Nat → Nat
/-- See `sdPower`. -/
opaque rdPower : Nat → Nat

/-- The fuse map (R40): the failed physical column of a row of a field, 0x3F for none. -/
opaque fuseCol : Nat → Nat → Nat

/-- The fused serial number (R369). -/
opaque serialNumber : Nat

/-- The half CCLK in a REFCLK period of a field whose PLLOUT slews (R413): field and TSTAMP, answered modulo the width of the slew. -/
opaque slewRate : Nat → Nat → Nat

/-- The mV a field's supply has moved by while it ramps between two F-states (R413): field and TSTAMP, answered modulo the width of the ramp. -/
opaque slewVolt : Nat → Nat → Nat

/-- The data of VOUT_COMMAND for a rail (R433): the spec gives the rails no voltage. -/
opaque railVolt : Nat → Nat

/-- How long a PCIe port answers configuration requests with retry status, in TSTAMP counts (R394: at most 100 ms): port and TSTAMP at which it began to train, answered
modulo that bound. -/
opaque trainTime : Nat → Nat → Nat

/-- Input power that was lost is back as POR_N rises (R393): number of free values used. -/
opaque powerBack : Nat → Bool

/-- After how many REFCLK periods an attempt of the always-on PLL locks, if it does (R422): number of free values used. -/
opaque pllLock : Nat → Option Nat

/-- A PCIe port's link survives a loss of REFCLK (R427): number of free values used, and port. -/
opaque linkHolds : Nat → Nat → Bool

end Sys2Proof.Config
end

