-- ==== Sys2Proof/Machine/Table.lean ====
section
/-! DEFINITION. Reading and writing of sparse tables and byte memory, and the bit-field helpers. -/

namespace Sys2Proof.Machine

/-- The entry of `k`, or the default `d` where none is listed. -/
def Tab.read {α : Type} (t : Tab α) (d : α) (k : Nat) : α :=
  match t with
  | [] => d
  | (i, v) :: r => if i = k then v else Tab.read r d k

/-- Places `v` at `k`, keeping the keys strictly rising. -/
def Tab.insert {α : Type} (t : Tab α) (k : Nat) (v : α) : Tab α :=
  match t with
  | [] => [(k, v)]
  | (i, w) :: r =>
    if k < i then (k, v) :: (i, w) :: r
    else if k = i then (k, v) :: r
    else (i, w) :: Tab.insert r k v

/-- Removes every entry of `k`. -/
def Tab.erase {α : Type} (t : Tab α) (k : Nat) : Tab α :=
  match t with
  | [] => []
  | (i, w) :: r => if i = k then Tab.erase r k else (i, w) :: Tab.erase r k

/-- Writes `v` at `k`: the default is never listed. -/
def Tab.write {α : Type} [DecidableEq α] (t : Tab α) (d : α) (k : Nat) (v : α) : Tab α :=
  if v = d then Tab.erase t k else Tab.insert t k v

/-- The keys rise strictly from above `lo`, and no entry equals the default. -/
def Tab.wfFrom {α : Type} [DecidableEq α] (d : α) (lo : Nat) (t : Tab α) : Bool :=
  match t with
  | [] => true
  | (i, v) :: r => decide (lo ≤ i) && decide (v ≠ d) && Tab.wfFrom d (i + 1) r

/-- Puts a pair before those of an equal or greater key. -/
def insertKey {α : Type} (e : Nat × α) (l : List (Nat × α)) : List (Nat × α) :=
  match l with
  | [] => [e]
  | x :: r => if e.1 ≤ x.1 then e :: x :: r else x :: insertKey e r
/-- Pairs in increasing order of their keys, those of one key in the order they had. -/
def sortKeys {α : Type} (l : List (Nat × α)) : List (Nat × α) := l.foldr insertKey []

/-- A byte of memory; an unlisted byte reads as zero (log entry 5). -/
def Memory.byte (m : Memory) (a : Nat) : Byte := Tab.read m 0 a

/-- Writes one byte of memory. -/
def Memory.setByte (m : Memory) (a : Nat) (b : Byte) : Memory := Tab.write m 0 a b

/-- The canonical form of memory: addresses strictly rising, no byte listed that reads as zero anyway. -/
def Memory.wf (m : Memory) : Bool := Tab.wfFrom 0 0 m

/-- `n` bytes from `a`, lowest address first. -/
def Memory.bytes (m : Memory) (a : Nat) (n : Nat) : List Byte :=
  match n with
  | 0 => []
  | n + 1 => Memory.byte m a :: Memory.bytes m (a + 1) n

/-- Writes the bytes of a list from `a` upward. -/
def Memory.setBytes (m : Memory) (a : Nat) (bs : List Byte) : Memory :=
  match bs with
  | [] => m
  | b :: r => Memory.setBytes (Memory.setByte m a b) (a + 1) r

/-- The little-endian value of a byte list (R6). -/
def ofBytes (bs : List Byte) : Nat :=
  match bs with
  | [] => 0
  | b :: r => b.toNat + 256 * ofBytes r

/-- The low `n` bytes of a value, lowest first (R6). -/
def toBytes (n v : Nat) : List Byte :=
  match n with
  | 0 => []
  | n + 1 => BitVec.ofNat 8 v :: toBytes n (v / 256)

/-- The little-endian value of the `n` bytes at `a` (R6). -/
def Memory.value (m : Memory) (a n : Nat) : Nat := ofBytes (Memory.bytes m a n)

/-- Stores the low `n` bytes of `v` at `a`, little-endian (R6). -/
def Memory.setValue (m : Memory) (a n v : Nat) : Memory := Memory.setBytes m a (toBytes n v)

/-- Clears the bytes `a` to `a + n - 1`. -/
def Memory.zero (m : Memory) (a n : Nat) : Memory := m.filter (fun c => c.1 < a || a + n ≤ c.1)

/-- Bits `hi` down to `lo` of a value. -/
def bits (v hi lo : Nat) : Nat := (v >>> lo) % 2 ^ (hi + 1 - lo)

/-- Bit `i` of a value. -/
def bit (v i : Nat) : Bool := v.testBit i

/-- The value with bits `hi` down to `lo` replaced by `x`. -/
def setBits (v hi lo x : Nat) : Nat :=
  v - bits v hi lo <<< lo + (x % 2 ^ (hi + 1 - lo)) <<< lo

/-- The two's-complement value of the low `n` bits. -/
def signed (n v : Nat) : Int :=
  let u := v % 2 ^ n
  if u < 2 ^ (n - 1) then (u : Int) else (u : Int) - 2 ^ n

/-- A whole number modulo `2 ^ n`. -/
def wrap (n : Nat) (v : Int) : Nat := (v % (2 ^ n : Int)).toNat

/-- One for true, zero for false. -/
def b2n (b : Bool) : Nat := if b then 1 else 0

/-- A word of a list, zero past its end. -/
def wordAt (l : List Nat) (i : Nat) : Nat := l.getD i 0

/-- Replaces the element at `i`, if there is one. -/
def setAt {α : Type} (l : List α) (i : Nat) (v : α) : List α :=
  match l, i with
  | [], _ => []
  | _ :: r, 0 => v :: r
  | x :: r, i + 1 => x :: setAt r i v

/-- Removes the element at `i`, if there is one. -/
def dropAt {α : Type} (l : List α) (i : Nat) : List α :=
  match l, i with
  | [], _ => []
  | _ :: r, 0 => r
  | x :: r, i + 1 => x :: dropAt r i

/-- The numbers `0` to `n - 1`. -/
def upTo (n : Nat) : List Nat := List.range n

/-- The CRC-32 of IEEE 802.3 over bytes, reflected, initial and final value all ones (R534): one bit step. -/
def crcStep (c : Nat) : Nat := if c % 2 = 1 then (c / 2) ^^^ 0xEDB88320 else c / 2

/-- One byte of the CRC-32. -/
def crcByte (c : Nat) (b : Byte) : Nat :=
  crcStep (crcStep (crcStep (crcStep (crcStep (crcStep (crcStep (crcStep (c ^^^ b.toNat))))))))

/-- The CRC-32 of a byte list (R534). -/
def crc32 (bs : List Byte) : Nat := (bs.foldl crcByte 0xFFFFFFFF) ^^^ 0xFFFFFFFF

end Sys2Proof.Machine
end

