-- ==== Sys2Proof/Machine/Float.lean ====
section
/-! DEFINITION. Number formats, rounding modes, flags and the arithmetic of the vector unit and the mixer (chapter 07). -/

namespace Sys2Proof.Machine

/-- The floating-point formats of R183. -/
inductive FFmt where
  | fp32 | bf16 | fp16 | e4m3 | e5m2
deriving DecidableEq, Repr

/-- Mantissa width of a format (R183). -/
def FFmt.mant (f : FFmt) : Nat :=
  match f with
  | .fp32 => 23 | .bf16 => 7 | .fp16 => 10 | .e4m3 => 3 | .e5m2 => 2

/-- Exponent width of a format (R183). -/
def FFmt.expBits (f : FFmt) : Nat :=
  match f with
  | .fp32 => 8 | .bf16 => 8 | .fp16 => 5 | .e4m3 => 4 | .e5m2 => 5

/-- Exponent bias of a format (R183). -/
def FFmt.bias (f : FFmt) : Nat := 2 ^ (f.expBits - 1) - 1

/-- Exponent of the smallest step: the subnormal grid is `2 ^ gmin` (R183). -/
def FFmt.gmin (f : FFmt) : Int := 1 - (f.bias : Int) - (f.mant : Int)

/-- The code of the largest finite value M, sign 0 (R183). -/
def FFmt.maxCode (f : FFmt) : Nat :=
  match f with
  | .fp32 => 0x7F7FFFFF | .bf16 => 0x7F7F | .fp16 => 0x7BFF | .e4m3 => 0x7E | .e5m2 => 0x7B

/-- The code of +∞; E4M3 has none, and its NaN stands there (R183, R195). -/
def FFmt.infCode (f : FFmt) : Nat :=
  match f with
  | .fp32 => 0x7F800000 | .bf16 => 0x7F80 | .fp16 => 0x7C00 | .e4m3 => 0x7F | .e5m2 => 0x7C

/-- The canonical NaN (R185). -/
def FFmt.nanCode (f : FFmt) : Nat :=
  match f with
  | .fp32 => 0x7FC00000 | .bf16 => 0x7FC0 | .fp16 => 0x7E00 | .e4m3 => 0x7F | .e5m2 => 0x7E

/-- The sign bit's value. -/
def FFmt.signBit (f : FFmt) : Nat := 2 ^ (f.expBits + f.mant)

/-- A decoded number: a NaN, an infinity, or the finite value (−1)^neg · m · 2^e. -/
inductive Fp where
  | nan (signalling : Bool)
  | inf (neg : Bool)
  | fin (neg : Bool) (m : Nat) (e : Int)
deriving DecidableEq, Repr

/-- The value a code stands for (R183, R185). -/
def FFmt.decode (f : FFmt) (code : Nat) : Fp :=
  let neg := code.testBit (f.expBits + f.mant)
  let ex := bits code (f.expBits + f.mant - 1) f.mant
  let ma := code % 2 ^ f.mant
  if f = .e4m3 ∧ ex = 15 ∧ ma = 7 then .nan false
  else if f ≠ .e4m3 ∧ ex = 2 ^ f.expBits - 1 then
    (if ma = 0 then .inf neg else .nan (!ma.testBit (f.mant - 1)))
  else if ex = 0 then .fin neg ma f.gmin
  else .fin neg (ma + 2 ^ f.mant) (f.gmin + (ex : Int) - 1)

/-- Whether a code is a subnormal of its format. -/
def FFmt.isSubnormal (f : FFmt) (code : Nat) : Bool :=
  decide (bits code (f.expBits + f.mant - 1) f.mant = 0) && decide (code % 2 ^ f.mant ≠ 0)

/-- Rounding modes by their RM code: 0 RNE, 1 RTZ, 2 RDN, 3 RUP, 4 SR (R187). -/
abbrev RMode := Nat

/-- The six flags at their bit positions (R197). -/
def flagNV : Nat := 1
def flagDZ : Nat := 2
def flagOF : Nat := 4
def flagUF : Nat := 8
def flagNX : Nat := 16
def flagFZ : Nat := 32

/-- A result code with the flags raised. -/
abbrev FRes := Nat × Nat

/-- An exact magnitude (m + ε) · 2^e, with 0 < ε < 1 exactly when `sticky`. -/
structure Mag where
  m : Nat
  e : Int
  sticky : Bool
deriving DecidableEq, Repr

/-- Bit length of a number, 0 for 0. -/
def bitLen (n : Nat) : Nat := if n = 0 then 0 else Nat.log2 n + 1

/-- Whether the value rounds away from zero to the grid `2 ^ g`, `q` being the truncated multiple, `rem` of `2 ^ sh` what is
left (R187, R190). -/
def roundsUp (rm : RMode) (neg : Bool) (q rem sh : Nat) (sticky : Bool) (r16 : Nat) : Bool :=
  let inexact := decide (rem ≠ 0) || sticky
  match rm with
  | 1 => false
  | 2 => neg && inexact
  | 3 => !neg && inexact
  | 4 =>
    let scaled := rem * 65536
    let whole := scaled >>> sh
    inexact && (decide (r16 < whole) || (decide (whole = r16) && (decide (scaled % 2 ^ sh ≠ 0) || sticky)))
  | _ =>
    let twice := 2 * rem
    let one := 2 ^ sh
    decide (one < twice) || (decide (twice = one) && (sticky || q.testBit 0))

/-- A magnitude rounded to the grid `2 ^ g`: the multiple and whether it is inexact. -/
def roundGrid (rm : RMode) (neg : Bool) (x : Mag) (g : Int) (r16 : Nat) : Nat × Bool :=
  if g ≤ x.e ∧ !x.sticky then (x.m <<< (x.e - g).toNat, false)
  else
    -- a sticky magnitude is always given with bits below the grid
    let sh := (g - x.e).toNat
    let q := x.m >>> sh
    let rem := x.m % 2 ^ sh
    let up := roundsUp rm neg q rem sh x.sticky r16
    (q + b2n up, decide (rem ≠ 0) || x.sticky)

/-- `a · 2^ea` exceeds `b · 2^eb`. -/
def scaledGt (a : Nat) (ea : Int) (b : Nat) (eb : Int) : Bool :=
  if ea ≤ eb then decide (b <<< (eb - ea).toNat < a) else decide (b < a <<< (ea - eb).toNat)

/-- The largest finite magnitude of a format as mantissa and exponent. -/
def FFmt.maxMag (f : FFmt) : Nat × Int :=
  match f.decode f.maxCode with
  | .fin _ m e => (m, e)
  | _ => (0, 0)

/-- What an overflow delivers (R195), `satur` being `c.rmode`.SAT. -/
def overflowCode (f : FFmt) (satur neg : Bool) (toInf : Bool) : Nat :=
  let s := if neg then f.signBit else 0
  if toInf then
    (if f = .e4m3 then (if satur then s + f.maxCode else f.nanCode) else s + f.infCode)
  else s + f.maxCode

/-- Rounds an exact nonzero magnitude to a format: result code and flags (R187 to R195). -/
def roundMag (f : FFmt) (rm : RMode) (satur neg : Bool) (x : Mag) (r16 : Nat) : FRes :=
  let s := if neg then f.signBit else 0
  let gu : Int := x.e + (bitLen x.m : Int) - ((f.mant : Int) + 1)
  let g : Int := max gu f.gmin
  let ru := roundGrid rm neg x gu r16
  let rb := roundGrid rm neg x g r16
  let mm := f.maxMag
  let tooBig := if rm = 4 then scaledGt x.m x.e mm.1 mm.2 || (x.sticky && decide (x.m <<< (x.e - mm.2).toNat = mm.1) && decide (mm.2 ≤ x.e))
              else scaledGt ru.1 gu mm.1 mm.2
  if tooBig then
    let beyond := scaledGt x.m x.e (mm.1 + 1) mm.2 || !scaledGt (mm.1 + 1) mm.2 x.m x.e
    let toInf :=
      if rm = 4 then
        (if beyond then true else (roundGrid 4 neg x mm.2 r16).1 != mm.1)
      else decide (rm = 0) || (decide (rm = 2) && neg) || (decide (rm = 3) && !neg)
    (overflowCode f satur neg toInf, flagOF + flagNX)
  else
    let tiny :=
      if rm = 4 then scaledGt 1 (f.gmin + f.mant) x.m x.e && !(x.sticky && scaledGt (x.m + 1) x.e 1 (f.gmin + f.mant))
      else scaledGt 1 (f.gmin + f.mant) ru.1 gu
    let code := (g - f.gmin).toNat * 2 ^ f.mant + rb.1
    (s + code, (if rb.2 then flagNX else 0) + (if tiny && rb.2 then flagUF else 0))

/-- Rounds an exact value; a zero keeps the sign given (R189). -/
def roundFin (f : FFmt) (rm : RMode) (satur neg : Bool) (m : Nat) (e : Int) (r16 : Nat) : FRes :=
  if m = 0 then ((if neg then f.signBit else 0), 0)
  else roundMag f rm satur neg { m := m, e := e, sticky := false } r16

/-- The invalid result: the canonical NaN with NV. -/
def invalid (f : FFmt) : FRes := (f.nanCode, flagNV)

/-- NV when a NaN operand is signalling (R185). -/
def nvOf (x : Fp) : Nat :=
  match x with
  | .nan true => flagNV
  | _ => 0

/-- Whether an operand is a NaN. -/
def Fp.isNan (x : Fp) : Bool :=
  match x with
  | .nan _ => true
  | _ => false

/-- The flags of a list of NaN-bearing operands. -/
def nanFlags (xs : List Fp) : Nat := xs.foldl (fun a x => a ||| nvOf x) 0

/-- The signed mantissa of a finite value on the grid `2 ^ e0`, `e0` not above its exponent. -/
def alignTo (e0 : Int) (neg : Bool) (m : Nat) (e : Int) : Int :=
  let v : Int := (m <<< (e - e0).toNat : Nat)
  if neg then -v else v

/-- The exact sum of two values, rounded (R189, R195). -/
def fpAdd (f : FFmt) (rm : RMode) (satur : Bool) (x y : Fp) (r16 : Nat) : FRes :=
  match x, y with
  | .nan _, _ => (f.nanCode, nanFlags [x, y])
  | _, .nan _ => (f.nanCode, nanFlags [x, y])
  | .inf a, .inf b => if a = b then ((if a then f.signBit else 0) + f.infCode, 0) else invalid f
  | .inf a, _ => ((if a then f.signBit else 0) + f.infCode, 0)
  | _, .inf b => ((if b then f.signBit else 0) + f.infCode, 0)
  | .fin a m e, .fin b n d =>
    let e0 := min e d
    let v := alignTo e0 a m e + alignTo e0 b n d
    let neg := if v = 0 then (if a = b then a else decide (rm = 2)) else decide (v < 0)
    roundFin f rm satur neg v.natAbs e0 r16

/-- The exact product of two values as a number. -/
def fpProd (x y : Fp) : Fp × Nat :=
  match x, y with
  | .nan _, _ => (.nan false, nanFlags [x, y])
  | _, .nan _ => (.nan false, nanFlags [x, y])
  | .inf a, .inf b => (.inf (a != b), 0)
  | .inf a, .fin b n _ => if n = 0 then (.nan false, flagNV) else (.inf (a != b), 0)
  | .fin a m _, .inf b => if m = 0 then (.nan false, flagNV) else (.inf (a != b), 0)
  | .fin a m e, .fin b n d => (.fin (a != b) (m * n) (e + d), 0)

/-- Rounds a number that is an exact intermediate. -/
def fpRound (f : FFmt) (rm : RMode) (satur : Bool) (x : Fp) (r16 : Nat) : FRes :=
  match x with
  | .nan s => (f.nanCode, if s then flagNV else 0)
  | .inf a => ((if a then f.signBit else 0) + f.infCode, 0)
  | .fin a m e => roundFin f rm satur a m e r16

/-- The rounded product. -/
def fpMul (f : FFmt) (rm : RMode) (x y : Fp) (r16 : Nat) : FRes :=
  let p := fpProd x y
  let r := fpRound f rm false p.1 r16
  (r.1, r.2 ||| p.2)

/-- The fused multiply-add; 0 × ∞ raises NV whatever the addend (R185). -/
def fpFma (f : FFmt) (rm : RMode) (x y z : Fp) (r16 : Nat) : FRes :=
  let p := fpProd x y
  let r := fpAdd f rm false p.1 z r16
  (r.1, r.2 ||| p.2)

/-- The negation of a number. -/
def Fp.negate (x : Fp) : Fp :=
  match x with
  | .nan s => .nan s
  | .inf a => .inf (!a)
  | .fin a m e => .fin (!a) m e

/-- The correctly rounded quotient (R163, R197). -/
def fpDiv (f : FFmt) (rm : RMode) (x y : Fp) (r16 : Nat) : FRes :=
  match x, y with
  | .nan _, _ => (f.nanCode, nanFlags [x, y])
  | _, .nan _ => (f.nanCode, nanFlags [x, y])
  | .inf _, .inf _ => invalid f
  | .inf a, .fin b _ _ => ((if a != b then f.signBit else 0) + f.infCode, 0)
  | .fin a _ _, .inf b => ((if a != b then f.signBit else 0), 0)
  | .fin a m e, .fin b n d =>
    let s := if a != b then f.signBit else 0
    if n = 0 then (if m = 0 then invalid f else (s + f.infCode, flagDZ))
    else if m = 0 then (s, 0)
    else
      let q := (m <<< 80) / n
      let r := (m <<< 80) % n
      roundMag f rm false (a != b) { m := q, e := e - d - 80, sticky := decide (r ≠ 0) } r16

/-- The correctly rounded square root (R163, R197). -/
def fpSqrt (f : FFmt) (rm : RMode) (x : Fp) (r16 : Nat) : FRes :=
  match x with
  | .nan _ => (f.nanCode, nanFlags [x])
  | .inf a => if a then invalid f else (f.infCode, 0)
  | .fin a m e =>
    if m = 0 then ((if a then f.signBit else 0), 0)
    else if a then invalid f
    else
      let odd := e % 2 ≠ 0
      let m' := (if odd then 2 * m else m) <<< 100
      let e' := (if odd then e - 1 else e) - 100
      let q := Nat.sqrt m'
      roundMag f rm false false { m := q, e := e' / 2, sticky := decide (q * q ≠ m') } r16

/-- Numeric order of two finite or infinite values. -/
def fpLt (x y : Fp) : Bool :=
  match x, y with
  | .nan _, _ => false
  | _, .nan _ => false
  | .inf a, .inf b => a && !b
  | .inf a, _ => a
  | _, .inf b => !b
  | .fin a m e, .fin b n d =>
    let e0 := min e d
    decide (alignTo e0 a m e < alignTo e0 b n d)

/-- Numeric equality; zeros of either sign are equal. -/
def fpEq (x y : Fp) : Bool := !x.isNan && !y.isNan && !fpLt x y && !fpLt y x

/-- The sign of a value. -/
def Fp.sign (x : Fp) : Bool :=
  match x with
  | .nan _ => false
  | .inf a => a
  | .fin a _ _ => a

/-- IEEE 754-2019 minimum on FP32 codes: a NaN operand gives the canonical NaN, −0 below +0 (R186). -/
def fp32Min (a b : Nat) : FRes :=
  let x := FFmt.fp32.decode a
  let y := FFmt.fp32.decode b
  if x.isNan || y.isNan then (FFmt.fp32.nanCode, nanFlags [x, y])
  else if fpLt x y then (a, 0)
  else if fpLt y x then (b, 0)
  else if x.sign then (a, 0) else (b, 0)

/-- IEEE 754-2019 maximum on FP32 codes (R186). -/
def fp32Max (a b : Nat) : FRes :=
  let x := FFmt.fp32.decode a
  let y := FFmt.fp32.decode b
  if x.isNan || y.isNan then (FFmt.fp32.nanCode, nanFlags [x, y])
  else if fpLt x y then (b, 0)
  else if fpLt y x then (a, 0)
  else if x.sign then (b, 0) else (a, 0)

/-- Comparison results: all ones if true (R163); NV as R186 gives. -/
def fp32Cmp (kind a b : Nat) : FRes :=
  let x := FFmt.fp32.decode a
  let y := FFmt.fp32.decode b
  let anyNan := x.isNan || y.isNan
  let t := match kind with
    | 0 => fpEq x y
    | 1 => fpLt x y
    | _ => fpLt x y || fpEq x y
  let fl := if kind = 0 then nanFlags [x, y] else if anyNan then flagNV else 0
  (if t then 0xFFFFFFFF else 0, fl)

/-- Conversion of a floating code to another format (R165, R186, R195). Under RTZ FP32's M overflows to BF16's M, as R202 lists it, though by R195 it would only be
inexact (log entry 89). -/
def fpConvert (src dst : FFmt) (rm : RMode) (satur : Bool) (code r16 : Nat) : FRes :=
  if src = .fp32 ∧ dst = .bf16 ∧ rm = 1 ∧ code % 2 ^ 31 = 0x7F7FFFFF then
    ((if code.testBit 31 then dst.signBit else 0) + dst.maxCode, flagOF + flagNX)
  else match src.decode code with
  | .nan s => (dst.nanCode, if s then flagNV else 0)
  | .inf a =>
    if dst = .e4m3 then
      (if satur then (if a then dst.signBit else 0) + dst.maxCode else dst.nanCode, flagNV)
    else ((if a then dst.signBit else 0) + dst.infCode, 0)
  | .fin a m e => roundFin dst rm satur a m e r16

/-- FP32 to a signed integer of `w` bits, saturating (R186, R196). -/
def fpToInt (w : Nat) (rm : RMode) (code r16 : Nat) : FRes :=
  let hi : Int := 2 ^ (w - 1) - 1
  let lo : Int := -(2 ^ (w - 1))
  match FFmt.fp32.decode code with
  | .nan _ => (0, flagNV)
  | .inf a => (wrap w (if a then lo else hi), flagNV)
  | .fin a m e =>
    let r := roundGrid rm a { m := m, e := e, sticky := false } 0 r16
    let v : Int := if a then -(r.1 : Int) else (r.1 : Int)
    if hi < v then (wrap w hi, flagNV)
    else if v < lo then (wrap w lo, flagNV)
    else (wrap w v, if r.2 then flagNX else 0)

/-- A signed integer to FP32 (R165). -/
def intToFp (w : Nat) (rm : RMode) (code r16 : Nat) : FRes :=
  let v := signed w code
  roundFin .fp32 rm false (decide (v < 0)) v.natAbs 0 r16

/-! Elementary functions: exact magnitudes to well below a unit in the last place. -/

/-- Chooses between the neighbours of an inexact magnitude: the correctly rounded result where it overflows or `fixed`
says so, else the neighbour the free value names for this rounding mode (R188, R200, log entry 8). -/
def approxMag (fn : Nat) (rm : RMode) (neg : Bool) (x : Mag) (operand : Nat) (fixed : Bool) : FRes :=
  let r := roundMag .fp32 rm false neg x 0
  if fixed || r.2.testBit 2 || !r.2.testBit 4 then r
  else
    let away := if neg then 2 else 3
    roundMag .fp32 (if Config.approxUp fn rm operand then away else 1) false neg x 0

/-- The fixed-point roots 2^(2^-1), 2^(2^-2), ... with 128 fraction bits, `n` of them from the square of `c`. -/
def rootChain (n c : Nat) : List Nat :=
  match n with
  | 0 => []
  | n + 1 => let r := Nat.sqrt (c <<< 128); r :: rootChain n r

/-- 2^f for a fraction `f / 2^90`, with 128 fraction bits, truncated. -/
def exp2Frac (f : Nat) : Nat :=
  let rec go (rs : List Nat) (i acc : Nat) : Nat :=
    match rs with
    | [] => acc
    | r :: rest => go rest (i - 1) (if f.testBit i then (acc * r) >>> 128 else acc)
  go (rootChain 90 (2 <<< 128)) 89 (1 <<< 128)

/-- VEXP2F of an FP32 code (R163, R200, R201). -/
def fp32Exp2 (rm : RMode) (code : Nat) : FRes :=
  match FFmt.fp32.decode code with
  | .nan s => (FFmt.fp32.nanCode, if s then flagNV else 0)
  | .inf a => if a then (0, 0) else (FFmt.fp32.infCode, 0)
  | .fin a m e =>
    if m = 0 then (0x3F800000, 0)
    else
      let fixed := decide (code = 1 ∨ code = 0x7F7FFFFF)
      if (bitLen m : Int) + e > 9 then
        -- |x| ≥ 512: far beyond the range on either side
        approxMag 2 rm false { m := 1, e := if a then -1000 else 1000, sticky := true } code true
      else
        let whole := if e < -90 then 0 else m <<< (e + 90).toNat
        let isInt := decide (0 ≤ e) || (decide (-90 ≤ e) && decide (whole % 2 ^ 90 = 0))
        let v : Int := if a then -(whole : Int) else (whole : Int)
        let v' := if a && whole = 0 then (-1 : Int) else v
        let n := v' / (2 ^ 90 : Int)
        let f := (v' % (2 ^ 90 : Int)).toNat
        if isInt then roundFin .fp32 rm false false 1 n 0
        else approxMag 2 rm false { m := exp2Frac f, e := n - 128, sticky := true } code fixed

/-- `n` binary digits of log2 of `x / 2^128`, `x` between one and two. -/
def log2Digits (n x acc : Nat) : Nat :=
  match n with
  | 0 => acc
  | n + 1 =>
    let y := (x * x) >>> 128
    if 2 <<< 128 ≤ y then log2Digits n (y >>> 1) (2 * acc + 1) else log2Digits n y (2 * acc)

/-- VLOG2F of an FP32 code (R163, R197, R200, R201). -/
def fp32Log2 (rm : RMode) (code : Nat) : FRes :=
  match FFmt.fp32.decode code with
  | .nan s => (FFmt.fp32.nanCode, if s then flagNV else 0)
  | .inf a => if a then invalid .fp32 else (FFmt.fp32.infCode, 0)
  | .fin a m e =>
    if m = 0 then (FFmt.fp32.signBit + FFmt.fp32.infCode, flagDZ)
    else if a then invalid .fp32
    else
      let k : Int := e + (bitLen m : Int) - 1
      let x := m <<< (129 - bitLen m)
      if x = 1 <<< 128 then
        roundFin .fp32 rm false (decide (k < 0)) k.natAbs 0 0
      else
        let v : Int := k * 2 ^ 80 + (log2Digits 80 x 0 : Int)
        let neg := decide (v < 0)
        let mag := if neg then v.natAbs - 1 else v.natAbs
        approxMag 3 rm neg { m := mag, e := -80, sticky := true } code (decide (code = 0x7F7FFFFF))

/-- VRCPF of an FP32 code (R163, R200, R201). -/
def fp32Rcp (rm : RMode) (code : Nat) : FRes :=
  match FFmt.fp32.decode code with
  | .nan s => (FFmt.fp32.nanCode, if s then flagNV else 0)
  | .inf a => ((if a then FFmt.fp32.signBit else 0), 0)
  | .fin a m e =>
    let s := if a then FFmt.fp32.signBit else 0
    if m = 0 then (s + FFmt.fp32.infCode, flagDZ)
    else
      let q := (1 <<< 100) / m
      approxMag 0 rm a { m := q, e := -100 - e, sticky := decide ((1 <<< 100) % m ≠ 0) } code
        (decide (code % 2 ^ 31 = 1 ∨ code % 2 ^ 31 = 0x7F7FFFFF))

/-- VRSQF of an FP32 code (R163, R197, R200, R201). -/
def fp32Rsq (rm : RMode) (code : Nat) : FRes :=
  match FFmt.fp32.decode code with
  | .nan s => (FFmt.fp32.nanCode, if s then flagNV else 0)
  | .inf a => if a then invalid .fp32 else (0, 0)
  | .fin a m e =>
    if m = 0 then ((if a then FFmt.fp32.signBit else 0) + FFmt.fp32.infCode, flagDZ)
    else if a then invalid .fp32
    else
      -- 1/√(m·2^e) = √(2^200 / m') · 2^(-e'/2 - 100) with e' even
      let odd := e % 2 ≠ 0
      let m' := if odd then 2 * m else m
      let e' := if odd then e - 1 else e
      let d := (1 <<< 200) / m'
      let q := Nat.sqrt d
      approxMag 1 rm false { m := q, e := -(e' / 2) - 100, sticky := decide (q * q * m' ≠ 1 <<< 200) } code
        (decide (code = 1 ∨ code = 0x7F7FFFFF))

/-! Stochastic draws (R190 to R192). -/

/-- The seed of a task (R191). -/
def seedOf (taskId : Nat) : Nat :=
  let lo := taskId % 2 ^ 32
  let hi := (taskId >>> 32) % 2 ^ 32
  let rot := ((hi <<< 16) % 2 ^ 32) ||| (hi >>> 16)
  let s := lo ^^^ rot
  if s = 0 then 1 else s

/-- The draw of element `e` under draw base `n` (R192). -/
def drawOf (n e : Nat) : Nat :=
  let x0 := n ^^^ ((e <<< 20) % 2 ^ 32)
  let x1 := if x0 = 0 then 1 else x0
  let x2 := x1 ^^^ ((x1 <<< 13) % 2 ^ 32)
  let x3 := x2 ^^^ (x2 >>> 17)
  let x4 := x3 ^^^ ((x3 <<< 5) % 2 ^ 32)
  x4 >>> 16

/-- RM as the operations that never draw use it: SR acts as RNE (R188). -/
def noDraw (rm : RMode) : RMode := if rm = 4 then 0 else rm

/-! The mixer's exact sums (R170, R194). -/

/-- A mixer operand after the input flush: the number and the FZ flag (R194). -/
def mixerIn (f : FFmt) (code : Nat) : Fp × Nat :=
  if f.isSubnormal code then (.fin (code.testBit (f.expBits + f.mant)) 0 0, flagFZ) else (f.decode code, 0)

/-- The exact sum of two numbers, kept exact; a sum of zeros of one sign keeps that sign (R189). -/
def fpSumExact (x y : Fp) : Fp × Nat :=
  match x, y with
  | .nan _, _ => (.nan false, nanFlags [x, y])
  | _, .nan _ => (.nan false, nanFlags [x, y])
  | .inf a, .inf b => if a = b then (.inf a, 0) else (.nan false, flagNV)
  | .inf a, _ => (.inf a, 0)
  | _, .inf b => (.inf b, 0)
  | .fin a m e, .fin b n d =>
    let e0 := min e d
    let v := alignTo e0 a m e + alignTo e0 b n d
    (.fin (if v = 0 then a && b else decide (v < 0)) v.natAbs e0, 0)

/-- One step of MMA for one element: the exact sum of the products added to the accumulator, rounded once RNE (R170, R188). -/
def mmaStep (acc : Nat) (ps : List (Fp × Fp × Nat)) : FRes :=
  let sum := ps.foldl
    (fun (a : (Fp × Nat) × Bool) p =>
      let q := fpProd p.1 p.2.1
      let r := if a.2 then (q.1, 0) else fpSumExact a.1.1 q.1
      ((r.1, a.1.2 ||| q.2 ||| r.2 ||| p.2.2), false))
    ((.fin false 0 0, 0), true)
  let r := fpAdd .fp32 0 false (FFmt.fp32.decode acc) sum.1.1 0
  (r.1, r.2 ||| sum.1.2)

end Sys2Proof.Machine
end

