-- ==== Sys2Proof/Machine/Operands.lean ====
section
/-! DEFINITION. The instruction formats of the core (R152 to R154): fields of a word and which instruction it is. -/

namespace Sys2Proof.Machine

/-- The instructions of a core, one for each row of the command table that issues one. -/
inductive CoreOp where
  | add | sub | and' | or' | xor' | sll | srl | sra | slt | sltu | minMax | mul | mulh | mulhu | divRem | clz | popc
  | addi | andi | ori | xori | shi | slti | sltiu | lui | jal | jalr | beq | bne | blt | bge | bltu | bgeu
  | lb | lbu | lh | lhu | lw | ld | lq | sb | sh | sw | sd | sq | csrr | csrw
  | vaddf | vsubf | vmulf | vfmaf | vminf | vmaxf | vcmpeqf | vcmpltf | vcmplef | vrcpf | vrsqf | vexp2f | vlog2f
  | vdivf | vsqrtf | vaddi | vsubi | vmuli | vand | vor | vxor | vsll | vsrl | vsra | vmini | vmaxi | vcmpeqi | vcmplti
  | vsel | vbcast | vext | vins | vperm | vmov | vrsumf | vrmaxf | vrminf | vrsumi | vcvt | vld | vst
  | tdesc | mma | ast | ald | azero | axv | avx | rlaunch
  | send | recv | rpeek | sadv | swait | sread | sclr | warr | wawt | waa | post | endOp | failOp
deriving DecidableEq, Repr

/-- Major opcode, bits 31:26 (R152). -/
def opField (w : Nat) : Nat := bits w 31 26
/-- The D, S, VD or first BR field, bits 25:21. -/
def dField (w : Nat) : Nat := bits w 25 21
/-- The A or VA field, bits 20:16. -/
def aField (w : Nat) : Nat := bits w 20 16
/-- The B or VB field, bits 15:11. -/
def bField (w : Nat) : Nat := bits w 15 11
/-- The C or VC field, bits 10:6. -/
def cField (w : Nat) : Nat := bits w 10 6
/-- The unsigned IMM16. -/
def imm16 (w : Nat) : Nat := w % 65536
/-- The sign-extended IMM16 or OFF16. -/
def simm16 (w : Nat) : Int := signed 16 w
/-- The sign-extended OFF21 of JAL. -/
def soff21 (w : Nat) : Int := signed 21 w
/-- The virtual channel of an MS word, bits 5:4. -/
def msVc (w : Nat) : Nat := bits w 5 4
/-- The binding index of an SY word, bits 15:13. -/
def syBind (w : Nat) : Nat := bits w 15 13
/-- The amount N of an SY word. -/
def syN (w : Nat) : Nat := w % 256
/-- The accumulator of a mixer word, bits 25:24. -/
def accField (w : Nat) : Nat := bits w 25 24

/-- RR instructions by FN (R156). -/
def decodeRR (w : Nat) : Option CoreOp :=
  match bits w 10 0 with
  | 0x001 => some .add | 0x002 => some .sub | 0x003 => some .and' | 0x004 => some .or' | 0x005 => some .xor'
  | 0x006 => some .sll | 0x007 => some .srl | 0x008 => some .sra | 0x009 => some .slt | 0x00A => some .sltu
  | 0x00B => some .minMax | 0x00C => some .minMax | 0x00D => some .minMax | 0x00E => some .minMax
  | 0x010 => some .mul | 0x011 => some .mulh | 0x012 => some .mulhu
  | 0x014 => some .divRem | 0x015 => some .divRem | 0x016 => some .divRem | 0x017 => some .divRem
  | 0x018 => if bField w = 0 then some .clz else none
  | 0x019 => if bField w = 0 then some .popc else none
  | _ => none

/-- An instruction of `o` when the fields it does not use are 0 (R153). -/
def whenZero (z : Bool) (o : CoreOp) : Option CoreOp := if z then some o else none

/-- Part and width checks of VCVT (R165). -/
def vcvtLegal (w : Nat) : Bool :=
  let p := bField w
  match cField w with
  | 0x00 => decide (p < 2) | 0x01 => decide (p < 2) | 0x02 => decide (p < 4) | 0x03 => decide (p < 4)
  | 0x04 => decide (p < 4) | 0x05 => decide (p = 0)
  | 0x08 => decide (p < 2) | 0x09 => decide (p < 2) | 0x0A => decide (p < 4) | 0x0B => decide (p < 4)
  | 0x0C => decide (p < 4) | 0x0D => decide (p = 0)
  | _ => false

/-- VR instructions by FN; VC, and VB where it is not used, must be 0 (R153, R163). -/
def decodeVR (w : Nat) : Option CoreOp :=
  let vc0 := decide (cField w = 0)
  let un := vc0 && decide (bField w = 0)
  match bits w 5 0 with
  | 0x00 => whenZero vc0 .vaddf | 0x01 => whenZero vc0 .vsubf | 0x02 => whenZero vc0 .vmulf | 0x03 => some .vfmaf
  | 0x04 => whenZero vc0 .vminf | 0x05 => whenZero vc0 .vmaxf | 0x06 => whenZero vc0 .vcmpeqf
  | 0x07 => whenZero vc0 .vcmpltf | 0x08 => whenZero vc0 .vcmplef
  | 0x09 => whenZero un .vrcpf | 0x0A => whenZero un .vrsqf | 0x0B => whenZero un .vexp2f | 0x0C => whenZero un .vlog2f
  | 0x0D => whenZero vc0 .vdivf | 0x0E => whenZero un .vsqrtf
  | 0x10 => whenZero vc0 .vaddi | 0x11 => whenZero vc0 .vsubi | 0x12 => whenZero vc0 .vmuli
  | 0x13 => whenZero vc0 .vand | 0x14 => whenZero vc0 .vor | 0x15 => whenZero vc0 .vxor
  | 0x16 => whenZero vc0 .vsll | 0x17 => whenZero vc0 .vsrl | 0x18 => whenZero vc0 .vsra
  | 0x19 => whenZero vc0 .vmini | 0x1A => whenZero vc0 .vmaxi | 0x1B => whenZero vc0 .vcmpeqi
  | 0x1C => whenZero vc0 .vcmplti
  | 0x20 => some .vsel | 0x21 => whenZero un .vbcast | 0x22 => whenZero vc0 .vext | 0x23 => whenZero vc0 .vins
  | 0x24 => whenZero vc0 .vperm | 0x25 => whenZero un .vmov
  | 0x28 => whenZero un .vrsumf | 0x29 => whenZero un .vrmaxf | 0x2A => whenZero un .vrminf | 0x2B => whenZero un .vrsumi
  | 0x30 => whenZero (vcvtLegal w) .vcvt
  | _ => none

/-- SY instructions by SUB (R176). -/
def decodeSY (w : Nat) : Option CoreOp :=
  if aField w ≠ 0 ∨ bits w 9 8 ≠ 0 then none
  else
    let d0 := decide (dField w = 0)
    let n0 := decide (syN w = 0)
    match bits w 12 10 with
    | 0 => whenZero d0 .sadv | 1 => whenZero d0 .swait
    | 2 => whenZero (n0 && decide (dField w % 2 = 0)) .sread | 3 => whenZero n0 .sclr
    | 4 => whenZero (d0 && n0) .warr | 5 => whenZero (d0 && n0) .wawt | 6 => whenZero (d0 && n0) .waa
    | _ => none

/-- The CSR forms' field checks (R162, R150). -/
def csrLegal (w : Nat) : Bool :=
  decide (aField w = 0) && decide (bits w 15 13 = 0) &&
    (if bit w 12 then decide (bits w 11 0 % 8 = 0) && decide (dField w % 2 = 0) else decide (bits w 11 0 % 4 = 0))

/-- The instruction a word holds, or none for an illegal word (R153, R154). -/
def decodeOp (w : Nat) : Option CoreOp :=
  match opField w with
  | 0x00 => decodeRR w
  | 0x01 => some .addi | 0x02 => some .andi | 0x03 => some .ori | 0x04 => some .xori
  | 0x05 => whenZero (decide (bits w 15 14 ≠ 3) && decide (bits w 13 5 = 0)) .shi
  | 0x06 => some .slti | 0x07 => some .sltiu
  | 0x08 => whenZero (decide (aField w = 0)) .lui
  | 0x09 => some .jal | 0x0A => some .jalr
  | 0x0C => some .beq | 0x0D => some .bne | 0x0E => some .blt | 0x0F => some .bge | 0x10 => some .bltu | 0x11 => some .bgeu
  | 0x12 => some .lb | 0x13 => some .lbu | 0x14 => some .lh | 0x15 => some .lhu | 0x16 => some .lw
  | 0x17 => whenZero (decide (dField w % 2 = 0)) .ld
  | 0x18 => whenZero (decide (dField w % 4 = 0)) .lq
  | 0x19 => some .sb | 0x1A => some .sh | 0x1B => some .sw
  | 0x1C => whenZero (decide (dField w % 2 = 0)) .sd
  | 0x1D => whenZero (decide (dField w % 4 = 0)) .sq
  | 0x1E => whenZero (csrLegal w) .csrr | 0x1F => whenZero (csrLegal w) .csrw
  | 0x20 => decodeVR w
  | 0x21 => some .vld | 0x22 => some .vst
  | 0x28 => whenZero (decide (bits w 22 21 = 0) && decide (imm16 w = 0) && decide (aField w % 2 = 0)) .tdesc
  | 0x29 => whenZero (!bit w 22 && decide (imm16 w = 0)) .mma
  | 0x2A => whenZero (!bit w 23 && !bit w 22 && decide (bits w 18 0 = 0)) .ast
  | 0x2B => whenZero (!bit w 23 && !bit w 22 && decide (bits w 18 0 = 0)) .ald
  | 0x2C => whenZero (decide (bits w 23 0 = 0)) .azero
  | 0x2D => if imm16 w = 0 then (if bit w 23 then some .avx else some .axv) else none
  | 0x2E => whenZero (decide (dField w = 0) && decide (imm16 w = 0)) .rlaunch
  | 0x30 => whenZero (decide (dField w = 0) && decide (bits w 3 0 = 0)) .send
  | 0x31 => whenZero (decide (dField w % 2 = 0) && decide (cField w = 0) && decide (bits w 3 0 = 0)) .recv
  | 0x32 => whenZero (decide (aField w = 0) && decide (bField w = 0) && decide (cField w = 0) && decide (bits w 3 0 = 0)) .rpeek
  | 0x34 => decodeSY w
  | 0x36 => whenZero (decide (dField w = 0) && decide (imm16 w = 0) && decide (aField w % 2 = 0)) .post
  | 0x3E => whenZero (decide (w % 2 ^ 26 = 0)) .endOp
  | 0x3F => whenZero (decide (bits w 25 8 = 0)) .failOp
  | _ => none

end Sys2Proof.Machine
end

