-- ==== Sys2Proof/Machine/State.lean ====
section
/-! DEFINITION. The state of the block as plain data, its reset, and the reasons a command can stop. -/

namespace Sys2Proof.Machine

/-- Why a command faults. -/
inductive Fault where
  /-- Raised by a command that names a unit the engine does not have: a core, field, partition, port, ring, link, sensor, rail or Wellhead beyond its numbers. Safe: the
  hardware has no such command. -/
  | noSuchUnit
deriving DecidableEq, Repr

/-- Why a command is refused. -/
inductive Refusal where
  /-- Raised by no meaning: a row of the table without one would be refused with its mnemonic. Safe. -/
  | notModelled (mnemonic : String)
deriving DecidableEq, Repr

/-! ### Agents and packets -/

/-- Who sends or receives a packet: a core by its core ID, the agent of a field (Cistern, pair unit and Well unit), host
ingress of a PCIe port, the gateway of a Sluice port (R232), or a router by its column and row, which sends the loss reports of R235 and R251. -/
inductive Agent where
  | core (c : Nat)
  | field (f : Nat)
  | ingress (p : Nat)
  | sluice (p : Nat)
  | router (px py : Nat)
deriving DecidableEq, Repr

/-- The operation a SYNC_OP packet carries (R239). -/
inductive SyncKind where
  | advance | wait | read | clear | arrive
deriving DecidableEq, Repr

/-- What a FABRIC packet does at its target (R51, R59, R321). -/
inductive FabricKind where
  | writeData | readData | writeTable | loadImage | copyIn
deriving DecidableEq, Repr

/-- What a packet carries: the mesh types of R239, the field-bus reports and requests of R228, and the release tree. -/
inductive Payload where
  | msg (data : List Byte)
  | event (rec : DWord)
  | xevent (rec : DWord) (job : Nat)
  | syncOp (op : SyncKind) (consumer : Bool) (n index : Nat)
  | syncAns (cause cleared p c : Nat)
  | ack
  | lost (cause : Nat) (target : Agent) (what : Payload)
  | creditReq (slots : Nat)
  | creditGrant (slots : Nat)
  | creditReturn (slots : Nat)
  | fabric (kind : FabricKind) (addr len : Nat) (data : List Byte) (held : Bool)
  | fabricRsp (cause : Nat) (bad : List Nat) (data : List Byte)
  | startReport (begun : Nat)
  | completion (aflags : Nat)
  | failure (cause pc addr : Nat)
  | withdrawReq
  | withdrawAns (started : Bool)
  | abortReq
  | abortReport
  | commitNotice
  | post (rec : DWord)
  | release (group : Nat)
  | brokenRelease (group cause : Nat)
  | hostNote (rec : DWord) (aflags layerOper ts : Nat) (stopping : Bool)
deriving DecidableEq, Repr

/-- A packet on its way. `ctl` is the control lane, `bus` the field bus or the release tree in place of the mesh; `task` is
the task the packet belongs to and `at` the TSTAMP of its injection. -/
structure Packet where
  src  : Agent
  dst  : Agent
  vc   : Nat
  ctl  : Bool
  bus  : Bool
  part : Option Nat
  tag  : Nat
  task : DWord
  at'  : Nat
  body : Payload
deriving DecidableEq, Repr

/-! ### The core -/

/-- What an uncorrectable word lies in (R517). -/
inductive UeSpace where
  | sram | istore | cistern
deriving DecidableEq, Repr


/-- Core run states (R146). -/
inductive RunState where
  | off | idle | run | sleepSync | sleepRecv | sleepSend | filler
deriving DecidableEq, Repr

/-- The start descriptor (R137). -/
structure StartDesc where
  taskId    : DWord
  info      : Word
  layerOper : Word
  args      : List Word
  binds     : List DWord
deriving DecidableEq, Repr

/-- One store-buffer entry (R128): address, size, little-endian bytes and the store's program counter; `nth` is the store's place in program order,
the instructions issued before it. -/
structure SbEntry where
  addr : Nat
  size : Nat
  val  : Nat
  pc   : Nat
  nth  : Nat
deriving DecidableEq, Repr

/-- A whole message in an inbox queue (R133). -/
structure Msg where
  sender : Nat
  data   : List Byte
deriving DecidableEq, Repr

/-- A credit request that waits for slots (R241): who asks, for how many, and its packet's tag and task. -/
structure CreditWait where
  core  : Nat
  slots : Nat
  tag   : Nat
  task  : DWord
deriving DecidableEq, Repr

/-- One inbox queue with its credit interface (R133, R241, R485). `waiting` holds the requests that wait for slots, oldest
first. -/
structure InQueue where
  msgs    : List Msg
  free    : Nat
  waiting : List CreditWait
  lock    : Option Nat
  hwm     : Nat
deriving DecidableEq, Repr

/-- A credit entry of the network interface (R242). `asked` is set while a request is outstanding, `retryAt` the
half-CCLK moment from which a busy answer is retried (R241), `want` the slots asked for; `waiter` is the message that waits for this
credit and holds back later ones (R247): a recipe's finish-send, or the steward's SEND. -/
structure CreditEntry where
  dst     : Nat
  vc      : Nat
  held    : Nat
  want    : Nat
  lastUse : Nat
  asked   : Bool
  retryAt : Option Nat
  waiter  : Option Bool
deriving DecidableEq, Repr

/-- A message sent and not yet acknowledged (R244). `bind` is, for a finish-send with FS_BEN, the producer
binding and the RLAUNCH's program counter and place in program order (R219). -/
structure Unacked where
  tag   : Nat
  seq   : Nat
  dst   : Nat
  vc    : Nat
  at'   : Nat
  len   : Nat
  task  : DWord
  bind  : Option (Nat × Nat × Nat)
deriving DecidableEq, Repr

/-- Posted operations (R178). -/
inductive PostedOp where
  | sadv (bind n : Nat) (consumer : Bool)
  | warr (bind : Nat)
  | post (rec : DWord)
deriving DecidableEq, Repr

/-- An outbound-queue entry: the operation and the number of messages sent before it was queued
(R178); `rpc` is the RLAUNCH's program counter and place in program order when a recipe posted it (R217, R219). -/
structure OutEntry where
  op    : PostedOp
  after : Nat
  rpc   : Option (Nat × Nat)
deriving DecidableEq, Repr

/-- The answer to a blocking operation (R239). -/
structure SyncAnswer where
  cause   : Nat
  cleared : Nat
  p       : Nat
  c       : Nat
deriving DecidableEq, Repr

/-- Blocking operations of R176. -/
inductive BlockOp where
  | wait (n : Nat) | read | clear | await | arriveAwait
deriving DecidableEq, Repr

/-- The blocking operation a core sleeps on: whether it has left the core, and its answer. -/
structure Blocked where
  op     : BlockOp
  bind   : Nat
  left   : Bool
  answer : Option SyncAnswer
deriving DecidableEq, Repr

/-- A vector or mixer instruction waiting in its unit's queue (R122), with the scalar operands, the rounding mode, the draw
base and the tile descriptors it took when it issued, and its place in program order. -/
structure QOp where
  mixer : Bool
  word  : Nat
  pc    : Nat
  sA    : Nat
  rm    : Nat
  satur : Bool
  base  : Nat
  td    : List Nat
  nth   : Nat
deriving DecidableEq, Repr

/-- A recipe in the mixer queue (R205): its block, the RLAUNCH's program counter, the rounding mode and draw base it took,
the SRAM it reads its operands from once started and the first word of them it found uncorrectable, the slices taken, and the blocks
already delivered. -/
structure Recipe where
  block  : List Nat
  pc     : Nat
  nth    : Nat
  rm     : Nat
  satur  : Bool
  base   : Nat
  mem    : Option Memory
  bad    : Option Nat
  slices : List (List Byte)
  sent   : Nat
deriving DecidableEq, Repr

/-- An entry of the unit queues, in program order. -/
inductive UnitItem where
  | op (q : QOp)
  | recipe (r : Recipe)
deriving DecidableEq, Repr

/-- How a task ends: not yet, END waiting for its conditions (R140), or a failure being reported (R141). -/
inductive Ending where
  | none
  | endWait
  | failed (cause pc addr : Nat)
deriving DecidableEq, Repr

/-- The register files (R149). -/
structure Regs where
  s : Tab Word
  v : Tab (BitVec 1024)
  a : Tab Word
  t : Tab DWord
deriving DecidableEq, Repr

/-- The control registers of a core (R136). -/
structure Csrs where
  flags  : Nat
  tflags : Nat
  rm     : Nat
  satur  : Bool
  seed   : Word
  det    : Bool
deriving DecidableEq, Repr

/-- The core's network interface, which works on when its core is lost (R242 to R244). -/
structure NetIf where
  credits : List CreditEntry
  unacked : List Unacked
  sendSeq : Nat
  nextTag : Nat
deriving DecidableEq, Repr

/-- A scrubber's place (R515, R516): the row or slot to be read next, the TSTAMP it falls due, the TSTAMP its pass began, and the last full pass in counts. -/
structure Scrub where
  row   : Nat
  due   : Nat
  since : Nat
  last  : Nat
deriving DecidableEq, Repr

/-- A scrubber that has read nothing. -/
def Scrub.reset : Scrub := { row := 0, due := 0, since := 0, last := 0 }

/-- Events of a core's commands, or of a Cistern's, under one tag (R429, R430). -/
structure Events where
  tag   : Nat
  issue : Nat
  vec   : Nat
  mix16 : Nat
  mix8  : Nat
  cev   : Nat
deriving DecidableEq, Repr

/-- One core. `scrub` holds its scrubber's place in each data SRAM bank, 0 to 9, and in the instruction store, 10. `autoAdd` is the repair entry of the position it stood at when it was declared lost, until firmware has handled it (R40, R47). `fillerFrom` and `fillerCut` are the TSTAMP at which it entered FILLER and what it has lowered its duty by since (R450). `found` is empty between commands: in one, the uncorrectable words its readers found, which its field counts as the core is put back (R517). `errAt` is the place in program order of the
instruction that `asyncErr`, or a failure being reported, belongs to (R145); `lostSeq` the earliest message of the task reported lost (R141); `rposts` the
RLAUNCHes whose recipes posted ADVANCEs, by their packets' tags (R224); `finHold` holds while a finish-send under the limit of R244 holds issue; `lostAt` is the
TSTAMP at which the core was declared lost (R235). `held` are the events of its earlier tasks since the estimator last counted, `tagged` its counters as the present
task's began or were last counted (R430). -/
structure Core where
  run      : RunState
  lost     : Bool
  pc       : Nat
  prevPc   : Nat
  regs     : Regs
  csr      : Csrs
  desc     : StartDesc
  staged   : Option StartDesc
  sbuf     : List SbEntry
  wback    : List Nat
  sram     : Memory
  istore   : Memory
  ce       : List Nat
  ue       : List Nat
  ice      : List Nat
  iue      : List Nat
  inq      : Tab InQueue
  nif      : NetIf
  outq     : List OutEntry
  uq       : List UnitItem
  blocked  : Option Blocked
  asyncErr : Option (Nat × Option Nat × Nat)
  commit   : Bool
  ending   : Ending
  counters : Tab Nat
  mark     : Nat
  scrub    : Tab Scrub
  fillerFrom : Nat
  fillerCut : Nat
  autoAdd  : Option Nat
  found    : List (UeSpace × Nat)
  errAt    : Nat
  lostSeq  : Option Nat
  rposts   : List (Nat × Nat)
  finHold  : Bool
  lostAt   : Nat
  tagged   : Tab Nat
  held     : List Events
deriving DecidableEq, Repr

/-- An empty inbox queue: all 64 slots free (R241). -/
def InQueue.empty : InQueue := { msgs := [], free := 64, waiting := [], lock := none, hwm := 0 }

/-- The descriptor of a core that has run no task: all zero (R137). -/
def StartDesc.none : StartDesc := { taskId := 0, info := 0, layerOper := 0, args := [], binds := [] }

/-- Registers all zero (R138, R149; before any task, log entry 4). -/
def Regs.zero : Regs := { s := [], v := [], a := [], t := [] }

/-- Control registers at their reset values (R136). -/
def Csrs.reset : Csrs := { flags := 0, tflags := 0, rm := 0, satur := true, seed := 0, det := false }

/-- A network interface with nothing outstanding. -/
def NetIf.empty : NetIf := { credits := [], unacked := [], sendSeq := 0, nextTag := 0 }

/-- A core whose compute domain is off: OFF, its memories and registers at zero (R44, R136, R146; log entry 4). -/
def Core.reset : Core :=
  { run := .off, lost := false, pc := 0x100000, prevPc := 0x100000, regs := Regs.zero, csr := Csrs.reset,
    desc := StartDesc.none, staged := none, sbuf := [], wback := [], sram := [],
    istore := [], ce := [], ue := [], ice := [], iue := [], inq := [], nif := NetIf.empty, outq := [], uq := [],
    blocked := none, asyncErr := none, commit := false, ending := .none, counters := [], mark := 0, scrub := [],
    fillerFrom := 0, fillerCut := 0, autoAdd := none, found := [],
    errAt := 0, lostSeq := none, rposts := [], finHold := false, lostAt := 0, tagged := [], held := [] }

/-! ### The field -/

/-- Power and reset state of a compute or mesh/Cistern domain (R416). -/
inductive DomState where
  | off | reset | starting | on
deriving DecidableEq, Repr

/-- Repair states of a field (R37). -/
inductive RepairState where
  | good | repaired | degraded
deriving DecidableEq, Repr

/-- Node states (R85). -/
inductive NodeState where
  | waiting | ready | pending | staged | running | done | failed
deriving DecidableEq, Repr

/-- How far the read of a firing's output records has come (R83). -/
inductive OutRead where
  | none | reading | good | bad
deriving DecidableEq, Repr

/-- The run state of a node: the RO words of its slot (R85), and what the Cistern keeps beside them for the firing. -/
structure NodeRun where
  flags    : Nat
  next     : Nat
  fireLeft : Nat
  firing   : Nat
  core     : Nat
  aflags   : Nat
  state    : NodeState
  cause    : Nat
  outRead  : OutRead
  outRecs  : List DWord
  scrubBad : Bool
  commit   : Bool
  restarts : Nat
  wdogEnd  : Option Nat
  acceptAt : Nat
  chained  : Bool
  traced   : Bool
deriving DecidableEq, Repr

/-- A node at START_GRAPH or before one: WAITING with nothing set (R89). -/
def NodeRun.reset : NodeRun :=
  { flags := 0, next := 0, fireLeft := 0, firing := 0, core := 0, aflags := 0, state := .waiting, cause := 0,
    outRead := .none, outRecs := [], scrubBad := false, commit := false, restarts := 0, wdogEnd := none,
    acceptAt := 0, chained := false, traced := false }

/-- Output records of a completion waiting for the emission port (R73). `ready` once the read of R83 has ended. -/
structure Emission where
  node   : Nat
  ready  : Bool
  aflags : Nat
  task   : DWord
  layerOper : Word
  ts     : Nat
  stopping : Bool
  recs   : List DWord
deriving DecidableEq, Repr

/-- What the Cistern holds of a core: its running and its staged node, and whether the core is out of placement (R66, R70). -/
structure CoreSlot where
  running : Option Nat
  staged  : Option Nat
  lost    : Bool
  aborting : Option Nat
deriving DecidableEq, Repr

/-- An idle core. -/
def CoreSlot.idle : CoreSlot := { running := none, staged := none, lost := false, aborting := none }

/-- A registered WAIT: the waiting core, the amount, and the packet's tag and task. -/
structure Waiter where
  core : Nat
  n    : Nat
  tag  : Nat
  task : DWord
deriving DecidableEq, Repr

/-- The run state of a pair (R94, R99, R102). -/
structure Pair where
  p     : Nat
  c     : Nat
  sat   : Bool
  err   : Bool
  cause : Nat
  waitP : Option Waiter
  waitC : Option Waiter
deriving DecidableEq, Repr

/-- A pair after START_GRAPH. -/
def Pair.reset : Pair := { p := 0, c := 0, sat := false, err := false, cause := 0, waitP := none, waitC := none }

/-- The run state of a barrier group in its well field (R106), its timers (R112), of this generation and of the next, each the TSTAMP of
the generation's first arrival, and the cluster arrivals of R279: `out` while
the engine's arrival is outstanding, `held` a second one held back. -/
structure Well where
  gen    : Nat
  broken : Bool
  count  : Nat
  timer  : Option Nat
  next   : Option Nat
  out    : Bool
  held   : Bool
  cause  : Nat
deriving DecidableEq, Repr

/-- A group after START_GRAPH. -/
def Well.reset : Well :=
  { gen := 0, broken := false, count := 0, timer := none, next := none, out := false, held := false, cause := 0 }

/-- Arrival states (R108). -/
inductive Arrival where
  | none | arrived | released
deriving DecidableEq, Repr

/-- A fault record (R492). -/
structure FaultRec where
  cause : Nat
  scope : Nat
  id    : Nat
  info  : Nat
  ts    : Nat
  queue : Nat
  task  : Option DWord
  pc    : Nat
  core  : Option Nat
  seq   : Nat
  addr  : Nat
deriving DecidableEq, Repr

/-- A fault queue of 64 records with its sequence number (R491, R492). -/
structure FaultQueue where
  recs : List FaultRec
  seq  : Nat
deriving DecidableEq, Repr

/-- An empty fault queue. Log entry 72. -/
def FaultQueue.empty : FaultQueue := { recs := [], seq := 0 }

/-- A trace record: the four words of R521. -/
structure TraceRec where
  w0 : Nat
  w1 : Nat
  w2 : Nat
  w3 : Nat
deriving DecidableEq, Repr

/-- A cross-engine event under way, by its tag (R271): the node it names, and the task and local core of the POST it came from, while that task runs (R275). -/
structure XTag where
  tag  : Nat
  node : Nat
  post : Option (DWord × Nat)
deriving DecidableEq, Repr

/-- The Cistern of a field: its memory, its registers (R92, R93) and its queues. `xtags` holds the cross-engine events sent, one for each tag (R271, R275). -/
structure Cistern where
  mem       : Memory
  ce        : List Nat
  ue        : List Nat
  nodeLimit : Nat
  psets     : Tab DWord
  nodes     : Tab NodeRun
  pool      : List Nat
  chain     : List Nat
  hwm       : Nat
  err       : Nat
  errNode   : Nat
  accepted  : Nat
  merged    : Nat
  discarded : Nat
  dispatched : Nat
  ovfEntered : Nat
  completed : Nat
  slots     : Tab CoreSlot
  emit      : List Emission
  scrub     : Scrub
  chainHwm  : Nat
  poolHwmIv : Nat
  xtags     : List XTag
  nextTag   : Nat
deriving DecidableEq, Repr

/-- A Cistern after MD start: every slot and register zero (R60). -/
def Cistern.reset : Cistern :=
  { mem := [], ce := [], ue := [], nodeLimit := 0, psets := [], nodes := [], pool := [], chain := [], hwm := 0, err := 0,
    errNode := 0, accepted := 0, merged := 0, discarded := 0, dispatched := 0, ovfEntered := 0, completed := 0, slots := [],
    emit := [], scrub := Scrub.reset, chainHwm := 0, poolHwmIv := 0,
    xtags := [], nextTag := 0 }

/-- The pair unit, the Well unit and the deadlock detector's registers of a field (R94, R105, R114, R120). -/
structure SyncUnit where
  decls   : Tab (BitVec 16)
  pairs   : Tab Pair
  descs   : Tab DWord
  wells   : Tab Well
  arrivals : Tab Arrival
  broken  : Tab Nat
  sxErr   : Nat
  sxIndex : Nat
  progress : Nat
  snapTs  : Nat
  snapInfo : Nat
  snapProg : Nat
  snap    : Tab (BitVec 16)
deriving DecidableEq, Repr

/-- The units after MD start (R60, R114). -/
def SyncUnit.reset : SyncUnit :=
  { decls := [], pairs := [], descs := [], wells := [], arrivals := [], broken := [], sxErr := 0, sxIndex := 0,
    progress := 0, snapTs := 0, snapInfo := 0, snapProg := 0, snap := [] }

/-- The statistics snapshot being emitted (R526): its interval end and the records not yet in the field buffer. -/
structure StatSnap where
  endTs : Nat
  recs  : List TraceRec
deriving DecidableEq, Repr

/-- Counters, trace buffer and statistics of a field (R520, R527). -/
structure FieldObs where
  counters : Tab Nat
  trace    : List TraceRec
  dropped  : Nat
  stats    : Option StatSnap
  statBase : Tab Nat
  partialIv : Bool
deriving DecidableEq, Repr

/-- Observation state after MD start (R520). -/
def FieldObs.reset : FieldObs := { counters := [], trace := [], dropped := 0, stats := none, statBase := [], partialIv := false }

/-- Clocks and domains of a field (R411 to R420) and the power settings it holds (R444, R450, R452). `halfCclk` counts half
CCLK periods since its CD started; `nextCmds` are the changes issued whose start TSTAMP has not come, each its state and that TSTAMP, in order of issue; `change` is
an F-state change in progress, target and start, and `top` the fastest state its clocks may have stood at as it began; `cdAt` the TSTAMP at which its CD's supply
ramp begins, `restart` a field restart not yet ended (R419), `fifths` the fifths of a half CCLK a stretch has left over (R452). -/
structure FieldClock where
  md       : DomState
  cd       : DomState
  mdTries  : Nat
  startAt  : Nat
  fstate   : Nat
  change   : Option (Nat × Nat)
  top      : Nat
  nextCmds : List (Nat × Nat)
  heldReq  : Option (Nat × Nat)
  halfCclk : Nat
  repair   : RepairState
  rowMap   : Tab Nat
  cdAt     : Option Nat
  restart  : Bool
  bub      : Nat
  duty     : Nat
  stretch  : Option Nat
  fifths   : Nat
  severe   : Bool
  lastQuiet : Nat
deriving DecidableEq, Repr

/-- A field before its first start: both domains off (R416), at F15 as any field is whose CD is off (R411). -/
def FieldClock.reset : FieldClock :=
  { md := .off, cd := .off, mdTries := 0, startAt := 0, fstate := 15, change := none, top := 15, nextCmds := [], heldReq := none,
    halfCclk := 0, repair := .good, rowMap := [], cdAt := none, restart := false, bub := 0, duty := 0, stretch := none, fifths := 0, severe := false, lastQuiet := 0 }

/-- One field. Of the mesh links it owns, `downLinks` are DOWN and `retries` in error, by column, row and direction (direction + 4 once the resend is asked for), `linkAt` the TSTAMP
at which each came to be so (R250, R251). -/
structure Field where
  clk    : FieldClock
  cis    : Cistern
  syn    : SyncUnit
  obs    : FieldObs
  faults : FaultQueue
  ueTab  : List (UeSpace × Nat × Nat)
  downLinks : List (Nat × Nat × Nat)
  retries : List (Nat × Nat × Nat)
  linkAt : Tab Nat
deriving DecidableEq, Repr

/-- A field before its first start. -/
def Field.reset : Field :=
  { clk := FieldClock.reset, cis := Cistern.reset, syn := SyncUnit.reset, obs := FieldObs.reset, faults := FaultQueue.empty,
    ueTab := [], downLinks := [], retries := [], linkAt := [] }

/-! ### Partitions -/

/-- Graph states (R15). -/
inductive GraphState where
  | idle | running | stopping
deriving DecidableEq, Repr

/-- The deadlock detector of a partition (R118 to R121): the last progress moment, whether it is armed, and an open
declaration with the fields' DW_PROGRESS at it. -/
structure Detector where
  last   : Nat
  armed  : Bool
  openAt : Option Nat
  progAt : List Nat
deriving DecidableEq, Repr

/-- An open phase hint (R446): its class, the demand h it stands for, and the TSTAMP it expires at, 0 for none. -/
structure Hint where
  pclass : Nat
  level  : Nat
  expiry : Nat
deriving DecidableEq, Repr

/-- A field's part in an energy mark (R455): the interpolated FIELD_ENERGY, in hundredths of a unit, as the mark opened or the field joined, and
as it closed or the field left; `since` and `till` are the TSTAMPs they are taken at. -/
structure Share where
  field : Nat
  since : Nat
  base  : Option Nat
  till  : Option Nat
  last  : Option Nat
deriving DecidableEq, Repr

/-- An energy mark (R455): its tag, TSTAMP, whether its closing mark has been taken, and the fields' shares, a share for each time a field belonged to the
partition while it was open. -/
structure Mark where
  tag    : Nat
  ts     : Nat
  closed : Bool
  shares : List Share
deriving DecidableEq, Repr

/-- One partition: its rectangle register (R54), job (R270), graph (R15), claims (R107), detector, and the counts its per-partition objects show (R366). -/
structure Part where
  rect   : Word
  job    : Nat
  graph  : GraphState
  claims : List Nat
  det    : Detector
  hints  : List Hint
  marks  : List Mark
  completed : Nat
  dryCount : Nat
  dryTs  : Nat
  traceDropped : Nat
  energy : Nat
deriving DecidableEq, Repr

/-- A partition that is not enabled (R54). -/
def Part.reset : Part :=
  { rect := 0, job := 0, graph := .idle, claims := [],
    det := { last := 0, armed := true, openAt := none, progAt := [] }, hints := [], marks := [],
    completed := 0, dryCount := 0, dryTs := 0, traceDropped := 0, energy := 0 }


/-! ### Host ingress (PCIe) -/

/-- The walk of one page of a host buffer (R316): the level of the table to be read next (0: translated), its bus address or
the page's, the rights so far, whether it may still fill the cache (R320), and the TSTAMP at which its present read left (R294). -/
structure PageWalk where
  page  : Nat
  level : Nat
  addr  : Nat
  rd    : Bool
  wr    : Bool
  fill  : Bool
  at'   : Nat
deriving DecidableEq, Repr

/-- A fabric packet or XCOPY of a command that is not yet answered: its tag, fabric address and length. -/
structure FabAcc where
  tag  : Nat
  addr : Nat
  len  : Nat
deriving DecidableEq, Repr

/-- What a command in execution waits for besides its own reads and accesses. -/
inductive CmdWait where
  | none
  | cds
  | idle
  | close
deriving DecidableEq, Repr

/-- A command in execution (R303): its ring and slot, words, start, page walks, outstanding host reads as offset in the buffer
and length, bytes read so far, outstanding accesses, the failing access of lowest address with its cause, and its outcome
once `ended`; `completed` with the TSTAMP of completion once COMMAND_COMPLETION has taken it. `bound` and `ctx` are its ring's binding and context, `readAt` the TSTAMP
at which its data reads left (R294); a `silent` command outlives a reset of its port and has no record (R295). -/
structure Cmd where
  ring   : Nat
  bound  : Option Nat
  ctx    : Nat
  silent : Bool
  readAt : Nat
  idx    : Nat
  words  : List Nat
  start  : Nat
  walks  : List PageWalk
  issued : Bool
  reads  : List (Nat × Nat)
  buf    : Memory
  accs   : List FabAcc
  bad    : Option (Nat × Nat)
  wait   : CmdWait
  cause  : Nat
  info0  : Nat
  info1  : Nat
  ended  : Bool
  halts  : Bool
  completed : Bool
  ts     : Nat
deriving DecidableEq, Repr

/-- A 32-byte record waiting for its completion queue (R313, R315): PHASE and SQ_HEAD are set as it is written. -/
structure Record where
  w0   : Nat
  w1   : Nat
  w2   : Nat
  w3   : Nat
deriving DecidableEq, Repr

/-- A command ring with its completion queue (R299 to R306). `tail` is the recorded tail, `fetched` the commands fetched and not
started, `failed` the command the engine keeps after a halt (R324, R325). Indices count on from the enable; a ring slot is an index modulo the size, and PHASE follows the passes. -/
structure Ring where
  base      : Nat
  cfg       : Nat
  cqBase    : Nat
  en        : Bool
  halted    : Bool
  overflow  : Bool
  dbInvalid : Bool
  enRefused : Bool
  haltCause : Nat
  head      : Nat
  tail      : Nat
  cqTail    : Nat
  cqHead    : Nat
  fetched   : List (Nat × List Nat)
  recs      : List Record
  failed    : Option Nat
deriving DecidableEq, Repr

/-- A ring after a reset of its port. -/
def Ring.reset : Ring :=
  { base := 0, cfg := 0, cqBase := 0, en := false, halted := false, overflow := false, dbInvalid := false, enRefused := false,
    haltCause := 0, head := 0, tail := 0, cqTail := 0, cqHead := 0, fetched := [], recs := [],
    failed := none }

/-- A cached leaf translation (R319). -/
structure TcEntry where
  ctx  : Nat
  page : Nat
  addr : Nat
  rd   : Bool
  wr   : Bool
deriving DecidableEq, Repr

/-- A mailbox channel (R347): request and response bytes, STATE and OVERRUN. -/
structure Channel where
  req     : Memory
  rsp     : Memory
  state   : Nat
  overrun : Bool
deriving DecidableEq, Repr

/-- An idle channel. -/
def Channel.reset : Channel := { req := [], rsp := [], state := 0, overrun := false }

/-- One PCIe port. `perstAt` is the TSTAMP at which its link last began to train (R394), `cplRange` the completion timeout encoding of Device Control 2 (R294), `bar` the
base of BAR0, `mps` and `mrrs` the encodings of the maximum payload and read request, `msixEn` and `msixMask` MSI-X Enable and Function Mask, `aer` AER's
Uncorrectable Error Status (R293, R294), `msix` the sets of vectors pending
and the TSTAMP each was last sent at (R306), `notes` the notification buffer (R307), `fetchTurn` and `startTurn` the rings last served (R303). -/
structure Port where
  linkUp   : Bool
  perst    : Bool
  perstAt  : Nat
  width    : Nat
  rate     : Nat
  cplRange : Nat
  bar      : Option Nat
  mps      : Nat
  mrrs     : Nat
  msixEn   : Bool
  msixMask : Bool
  aer      : Nat
  ctxRoot  : Tab Nat
  devBase  : Tab Nat
  devLimit : Tab Nat
  rings    : Tab Ring
  cmds     : List Cmd
  cache    : List TcEntry
  chans    : Tab Channel
  notes    : List (Nat × Record)
  msixTable : Memory
  msixPend : List Nat
  msixLast : Tab Nat
  nextTag  : Nat
  xTag     : Nat
  fetchTurn : Nat
  startTurn : Nat
  counters : Tab Nat
deriving DecidableEq, Repr

/-- A port whose ring domain has not started. -/
def Port.reset : Port :=
  { linkUp := false, perst := false, perstAt := 0, width := 0, rate := 0, cplRange := 0, bar := none, mps := 0, mrrs := 2, msixEn := false, msixMask := false,
    aer := 0, ctxRoot := [],
    devBase := [], devLimit := [], rings := [], cmds := [], cache := [], chans := [], notes := [], msixTable := [],
    msixPend := [], msixLast := [], nextTag := 0, xTag := 0, fetchTurn := 15, startTurn := 15, counters := [] }

/-- What the engine puts on a host link: a posted write to a bus address, or an MSI-X message. -/
inductive HostOut where
  | write (port addr : Nat) (data : List Byte)
  | msix (port vec : Nat)
deriving DecidableEq, Repr

/-! ### Sluice ports and clusters -/

/-- A frame put on a Sluice link, with its CRC and the link credit it returns per class 2 to 4 (R257, R264; log entry 30). -/
structure FrameOut where
  port   : Nat
  seq    : Nat
  ackSeq : Nat
  ftype  : Nat
  flit   : Option Flit
  crc    : Nat
  credit : List Nat
deriving DecidableEq, Repr

/-- Port states (R262). -/
inductive PortState where
  | off | train | up | down
deriving DecidableEq, Repr

/-- One Sluice port. `replay` holds the DATA frames sent and not acknowledged with the TSTAMP of their last sending, `txq` the flits waiting,
`rx` the packet being received with its payload so far, `owed` the link credit still to return per class 2 to 4 (R264). -/
structure Sluice where
  state   : PortState
  since   : Nat
  width   : Nat
  peerEngine : Nat
  peerPort : Nat
  txSeq   : Nat
  rxSeq   : Nat
  discarding : Bool
  replay  : List (Nat × Nat × Flit)
  txq     : List (Nat × Flit)
  credits : List Nat
  owed    : List Nat
  replays : Nat
  firstReplay : Nat
  rx      : Option (XPacket × List Byte)
  delay   : Nat
  counters : Tab Nat
deriving DecidableEq, Repr

/-- A port that is OFF. -/
def Sluice.reset : Sluice :=
  { state := .off, since := 0, width := 0, peerEngine := 0, peerPort := 0, txSeq := 0, rxSeq := 0, discarding := false,
    replay := [], txq := [], credits := [64, 64, 256], owed := [0, 0, 0], replays := 0, firstReplay := 0, rx := none, delay := 0,
    counters := [] }

/-- Run state of a partition's frequency lock (R288, R289). -/
structure FreqLock where
  proposals : List (Nat × Nat)
  heard     : List Nat
  lastCmd   : Nat
  lost      : Bool
  proposedAt : Nat
  decidedAt : Nat
  missing   : Nat
  late      : Nat
  losts     : Nat
deriving DecidableEq, Repr

/-- A lock that has seen nothing. -/
def FreqLock.reset : FreqLock :=
  { proposals := [], heard := [], lastCmd := 0, lost := false, proposedAt := 0, decidedAt := 0, missing := 0, late := 0, losts := 0 }

/-- A trace destination (R528, R529): TR_BASE, TR_CFG, TR_HDR, PROD as last written, the record index, CONS as last read, the status
bits, the records in RD staging, what has been dropped since the last DROP record, the TSTAMP of the last read of CONS, the last interval end of statistics, and
whether TRACE_CTRL bit 1 was set or the partition enabled since. -/
structure TraceDest where
  base    : Nat
  en      : Bool
  cfg     : Nat
  hdr     : Nat
  prod    : Nat
  index   : Nat
  cons    : Nat
  readErr : Bool
  device  : Bool
  staging : List TraceRec
  dropped : Nat
  consAt  : Nat
  statsAt : Nat
  newBit  : Bool
deriving DecidableEq, Repr

/-- A destination that is not enabled. -/
def TraceDest.reset : TraceDest :=
  { base := 0, en := false, cfg := 0, hdr := 0, prod := 0, index := 0, cons := 0, readErr := false, device := false,
    staging := [], dropped := 0, consAt := 0, statsAt := 0, newBit := false }

/-- Sync states (R286). -/
inductive SyncState where
  | free | master | acquire | locked | holdover
deriving DecidableEq, Repr

/-- The ring domain (R292, R432, R520). `ownId` and `master` are ENGINE_ID and TIME_MASTER as the RD holds them (R265, R286, R358). `xin` holds packets received for the engine or in transit, with the port they came in by;
`xlosses` counts the losses of R275 that fail nothing (log entry 92); `arrived` the engines counted in the present generation of each group, `ejob` the job they counted for (R280); `pend` the energies computed and not yet added to FIELD_ENERGY. -/
structure RingDomain where
  state   : DomState
  tries   : Nat
  route   : Tab Nat
  cw      : Tab Nat
  fl      : Tab Nat
  ecount  : Tab Nat
  arrived : Tab (List Nat)
  ejob    : Tab Nat
  slErr   : Nat
  slErrInfo : Nat
  ownId   : Nat
  master  : Nat
  sync    : SyncState
  dist    : Nat
  offset  : Int
  agree   : Nat
  lastSample : Int
  lastSync : Nat
  lastSlew : Nat
  sentSync : Nat
  edges   : Nat
  lastEdge : Nat
  csyncOut : Nat
  xin     : List (Nat × XPacket)
  xlosses : Nat
  locks   : Tab FreqLock
  traces  : Tab TraceDest
  energy  : Tab Nat
  pend    : Tab Nat
  counters : Tab Nat
deriving DecidableEq, Repr

/-- The RD after its start (R292, R432, R520). -/
def RingDomain.reset : RingDomain :=
  { state := .off, tries := 0, route := [], cw := [], fl := [], ecount := [], arrived := [], ejob := [], slErr := 0, slErrInfo := 0,
    ownId := 0, master := 0xFFFF, sync := .free, dist := 0, offset := 0, agree := 0, lastSample := 0, lastSync := 0, lastSlew := 0, sentSync := 0,
    edges := 0, lastEdge := 0, csyncOut := 0, xin := [], xlosses := 0, locks := [], traces := [], energy := [], pend := [],
    counters := [] }

/-! ### The service domain and the tray -/

/-- Where a cold start stands (R422): not begun, at a step, complete, or START_FAILED at a step with its cause. -/
inductive StartStep where
  | none
  | at (step : Nat)
  | complete
  | failed (step cause : Nat)
deriving DecidableEq, Repr

/-- The button of R404 to R407: BUTTON_STATE and the moment of `ServiceDomain.vtime` the press began at (R409). -/
structure Button where
  state : Nat
  since : Nat
deriving DecidableEq, Repr

/-- Service-domain hardware: power and reset inputs, the start sequence, straps, button, coolant and clock supervision (R389 to R428).
`vtime` counts the time since the SD left reset in REFCLK periods, on VCLK, which runs on while REFCLK is lost (R409, R427), and `compTime` the part of it in which
compute was powered (R378); `lockAt` is the moment at which the
always-on PLL locks or locked in this cold start, if its present attempt succeeds; `step6` holds from step 6 of the cold start on (R423);
`coldCds` holds while a cold start has still to run, in which the CD of every field starts; `lossOwed` while a coolant loss has no record yet (R467); `degrOwed` are
the fields come up DEGRADED whose partition firmware has still to disable (R57, R506); `cdRamps` and `mdRamps` the TSTAMPs at which supply ramps begin or began
(R417). -/
structure ServiceDomain where
  state    : DomState
  inputPower : Bool
  porLow   : Bool
  step     : StartStep
  stepAt   : Nat
  vtime    : Nat
  compTime : Nat
  lockAt   : Option Nat
  step6    : Bool
  operational : Bool
  refclkOk : Bool
  samples  : List Nat
  strapsRaw : Nat
  nodeId   : Nat
  slotId   : Nat
  lastReset : Nat
  warmCount : Nat
  button   : Button
  flowOk   : Bool
  flowStop : Bool
  flowHw   : Bool
  backup   : Option Nat
  tripLatched : Bool
  vrStop   : Bool
  coldCds  : Bool
  lossOwed : Bool
  degrOwed : List Nat
  cdRamps  : List Nat
  mdRamps  : List Nat
deriving DecidableEq, Repr

/-- The SD before input power. -/
def ServiceDomain.reset : ServiceDomain :=
  { state := .reset, inputPower := true, porLow := true, step := .none, stepAt := 0, vtime := 0, compTime := 0, lockAt := none,
    step6 := false, operational := false, refclkOk := true,
    samples := [], strapsRaw := 0, nodeId := 0, slotId := 0, lastReset := 0, warmCount := 0,
    button := { state := 0, since := 0 }, flowOk := true, flowStop := false, flowHw := false, backup := none,
    tripLatched := false, vrStop := false, coldCds := false, lossOwed := false, degrOwed := [], cdRamps := [], mdRamps := [] }

/-- One Wellhead: up and running, its boot outcome in this start, its failures in the present hour, held off, and the TSTAMP of the
last sign of life its partner saw (R509, R513). -/
structure Wellhead where
  up       : Bool
  booting  : Bool
  failed   : Bool
  failures : List Nat
  heldOff  : Bool
  lastBeat : Nat
deriving DecidableEq, Repr

/-- A Wellhead that has not booted. -/
def Wellhead.reset : Wellhead :=
  { up := false, booting := false, failed := false, failures := [], heldOff := false, lastBeat := 0 }

/-- Roles (R332): the operator, the host driver, a tenant of a partition. -/
inductive Role where
  | operator | host | tenant (part : Nat)
deriving DecidableEq, Repr

/-- The steps of an accepted write (R355): queued, in the epoch numbered, committed, its outcome in the epoch numbered, answered next. -/
inductive WStep where
  | queued
  | mirrored (epoch : Nat)
  | committed
  | outcome (epoch : Nat)
  | settled
deriving DecidableEq, Repr

/-- One write in the write queue (R354): the objects and values it writes (several for an RPDO), its step, its answer once applied,
TKO, the values its objects had before it was applied, which reads return until it is answered (R354), its number among the writes accepted, the object whose rule
refused it (R343), and whether its tenant's partition has been disabled since (R366). -/
structure WriteReq where
  who   : Requester
  role  : Role
  seq   : Nat
  items : List (Nat × Nat × List Byte)
  step  : WStep
  answer : Option (Nat × Nat)
  tko   : Bool
  old   : List (Nat × Nat × List Byte)
  id    : Nat
  refused : Option (Nat × Nat)
  void  : Bool
deriving DecidableEq, Repr

/-- An open USDO transfer (R340): download or upload, the object, the bytes gathered or still to send, the TSTAMP of the last segment. -/
structure Usdo where
  download : Bool
  index : Nat
  sub   : Nat
  size  : Nat
  data  : List Byte
  at'   : Nat
  done  : Bool
deriving DecidableEq, Repr

/-- NMT states (R337). -/
inductive Nmt where
  | init | preop | oper | stopped
deriving DecidableEq, Repr

/-- An EMCY message waiting (R345). -/
structure Emcy where
  code  : Nat
  cause : Nat
  scope : Nat
  id    : Nat
  info  : Nat
  ts    : Nat
deriving DecidableEq, Repr

/-- CAN services state (R337 to R346): NMT state, EMCY queue with the last sending, heartbeats and PDO timers. -/
structure Can where
  nmt      : Nmt
  emcy     : List Emcy
  emcyLast : Option Nat
  history  : List Nat
  busOff   : Nat
  dropped  : Nat
  hbLast   : Nat
  hbSeen   : Tab Nat
  hbOut    : List Nat
  tpdoLast : Tab Nat
  tpdoSent : Tab (List Byte)
  errReg   : Nat
deriving DecidableEq, Repr

/-- CAN services at SD start. -/
def Can.reset : Can :=
  { nmt := .init, emcy := [], emcyLast := none, history := [], busOff := 0, dropped := 0, hbLast := 0, hbSeen := [], hbOut := [],
    tpdoLast := [], tpdoSent := [], errReg := 0 }

/-- The firmware state of the active Wellhead, mirrored in epochs (R507): dictionary values, the write queue with the number of writes accepted, FAULT_LOG with the records drained that are still in their queues, as queue
and SEQ, the applied repair map, the controller's learned values, and open requests. -/
structure Firmware where
  dict     : Tab Nat
  refusals : Tab Nat
  wq       : List WriteReq
  accepted : Nat
  log      : List FaultRec
  writeCount : Nat
  drained  : List (Nat × Nat)
  map      : Tab (List Nat)
  learned  : Tab Rat
  gdyn     : Rat
  kstep    : Nat
  wanted   : Tab Nat
  usdo     : Option Usdo
deriving DecidableEq, Repr

/-- Firmware state before any boot. -/
def Firmware.reset : Firmware :=
  { dict := [], refusals := [], wq := [], accepted := 0, log := [], writeCount := 0, drained := [], map := [], learned := [],
    gdyn := 1, kstep := 0, wanted := [], usdo := none }

/-- The service-processor pair (R507 to R514): the token's holder, the mirror, the epoch on its way, the takeover, and the number of the last write answered (R357). -/
structure WellPair where
  a        : Wellhead
  b        : Wellhead
  active   : Nat
  standbyOk : Bool
  mirror   : Firmware
  epoch    : Nat
  committed : Nat
  sent     : Option (Nat × Firmware)
  acked    : Option Nat
  applied  : Nat
  lastClose : Nat
  lastAck  : Nat
  changed  : Bool
  takeover : Option Nat
  resync   : Bool
  bothDownAt : Option Nat
  answered : Nat
deriving DecidableEq, Repr

/-- The pair before any boot. -/
def WellPair.reset : WellPair :=
  { a := Wellhead.reset, b := Wellhead.reset, active := 0, standbyOk := false, mirror := Firmware.reset, epoch := 0, committed := 0,
    sent := none, acked := none, applied := 0, lastClose := 0, lastAck := 0, changed := false, takeover := none, resync := false,
    bothDownAt := none, answered := 0 }

/-- Service flash: two copies of the stored objects and two of the runtime repair list (R41, R364). -/
structure Flash where
  objs    : ObjsCopy
  objs2   : ObjsCopy
  repair  : RepairCopy
  repair2 : RepairCopy
deriving DecidableEq, Repr

/-- Service flash in which nothing has been stored: the CRC-32 of no bytes is 0 (R534). -/
def Flash.blank : Flash :=
  { objs := { objs := [], crc := 0 }, objs2 := { objs := [], crc := 0 }, repair := { words := [], crc := 0 }, repair2 := { words := [], crc := 0 } }

/-- Thermal hardware (R459 to R463): the latest conversion of each sensor and its moment, failed sensors, THERMAL_STATE, and the moments since which
every sensor has been below 87 and 95 degrees, these moments on the SD's own clock (R409), as is `onAt`, when a sensor domain came on (compute domains by field, mesh domains from
72 on, 144 the RD); ageing (R470, R471): `trimWait` are the fields whose last 5 mV has not yet been applied. -/
structure Thermal where
  temp    : Tab (Int × Nat)
  failed  : List Nat
  state   : Nat
  below87 : Option Nat
  below95 : Option Nat
  lastK   : Nat
  slack   : Tab Nat
  lowOnce : List Nat
  checked : Tab Nat
  fmax    : Tab Nat
  onAt    : Tab Nat
  trimWait : List Nat
deriving DecidableEq, Repr

/-- Sensors that have not converted. -/
def Thermal.reset : Thermal :=
  { temp := [], failed := [], state := 0, below87 := none, below95 := none, lastK := 0, slack := [], lowOnce := [],
    checked := [], fmax := [], onAt := [], trimWait := [] }

/-- A regulator rail (R433, R434): the latest READ_POUT in W and its moment, and whether a fault was recorded for the present event. -/
structure Rail where
  pout  : Nat
  at'   : Nat
  fault : Bool
deriving DecidableEq, Repr

/-- A PMBus transaction of the master (R433): the device's address, the page it has selected, the command code, and the data of a write. -/
structure PmbOut where
  dev  : Nat
  page : Nat
  code : Nat
  data : Nat
deriving DecidableEq, Repr

/-- What the estimator has gathered over a controller period: per field the dynamic and the total energy in pJ, mixer steps and CCLK in state RUN, and the fields
in which filler ran (R448, R449, R451). -/
structure PeriodSum where
  dyn    : Tab Rat
  all    : Tab Rat
  mixN   : Tab Nat
  mixD   : Tab Nat
  filled : List Nat
deriving DecidableEq, Repr

/-- Nothing gathered. -/
def PeriodSum.reset : PeriodSum := { dyn := [], all := [], mixN := [], mixD := [], filled := [] }

/-- What has been gathered over an epoch, by partition and phase class (key partition × 16 + class): dynamic energy at F0 in pJ and task-microseconds (R442). -/
structure EpochSum where
  energy : Tab Rat
  taskUs : Tab Nat
deriving DecidableEq, Repr

/-- Nothing gathered. -/
def EpochSum.reset : EpochSum := { energy := [], taskUs := [] }

/-- What has been gathered over a calibration window, in pJ: measured, estimated, and the estimate's static, SD and RD share; `skip` says that the window is not
calibrated (R434, R436). -/
structure CalSum where
  meas   : Rat
  est    : Rat
  static : Rat
  skip   : Bool
deriving DecidableEq, Repr

/-- Nothing gathered. -/
def CalSum.reset : CalSum := { meas := 0, est := 0, static := 0, skip := false }

/-- Power state outside the dictionary (R429 to R453): regulators, derate and guard with the settings it holds back; the microseconds the estimator has accounted,
with the fractions of a unit it carries, the power of each field in the last one and of the engine in each of the last 1,000, newest first, in W; the same of engine and
partitions as the accumulators took it; what it
gathers for the controller and for calibration, now and in the period, epoch and window last ended; budgets; droops; and the trimmed entries of the static table. -/
structure Power where
  vrFound  : Nat
  rails    : Tab Rail
  derate   : Option Nat
  guard    : Option Nat
  saved    : Tab Nat
  ticks    : Nat
  frac     : Tab Rat
  fieldPwr : Tab Rat
  recent   : List Rat
  accRecent : List Rat
  partRecent : Tab (List Rat)
  otherE   : Rat
  period   : PeriodSum
  lastPeriod : PeriodSum
  epoch    : EpochSum
  lastEpoch : EpochSum
  cal      : CalSum
  lastCal  : Option CalSum
  periodAt : Nat
  epochAt  : Nat
  rejecting : Bool
  budget   : Tab Rat
  overcap  : Bool
  droopTill : Tab Nat
  droops   : Tab Nat
  lastForce : Nat
  static   : Tab Rat
deriving DecidableEq, Repr

/-- Power state at SD start. -/
def Power.reset : Power :=
  { vrFound := 0, rails := [], derate := none, guard := none, saved := [], ticks := 0, frac := [], fieldPwr := [], recent := [], accRecent := [], partRecent := [],
    otherE := 0, period := PeriodSum.reset, lastPeriod := PeriodSum.reset, epoch := EpochSum.reset, lastEpoch := EpochSum.reset, cal := CalSum.reset,
    lastCal := none, periodAt := 0, epochAt := 0, rejecting := false, budget := [], overcap := false, droopTill := [], droops := [], lastForce := 0,
    static := [] }

/-! ### The machine -/

/-- The whole block, and the commands that wait, first in first out. `free` numbers the free values a run has used. -/
structure State where
  tstamp : Nat
  fields : Tab Field
  cores  : Tab Core
  parts  : Tab Part
  net    : List Packet
  rdFaults : FaultQueue
  sdFaults : FaultQueue
  faultCount : Nat
  detMode : Bool
  detRefusals : Nat
  totals : Tab Nat
  ports  : Tab Port
  sluice : Tab Sluice
  rd     : RingDomain
  sd     : ServiceDomain
  flash  : Flash
  fw     : Firmware
  wh     : WellPair
  can    : Can
  therm  : Thermal
  power  : Power
  hostOut : List HostOut
  linkOut : List FrameOut
  canOut : List (Nat × List Byte)
  pmbOut : List PmbOut
  free   : Nat
  pending : List Instr
deriving DecidableEq, Repr

/-- The machine right after reset: POR_N is low with input power present, every domain off and the SD in reset (R393, R416), nothing in memory, no command
waiting; every value the spec gives no reset for is zero (log entry 4). -/
def State.reset : State :=
  { tstamp := 0, fields := [], cores := [], parts := [], net := [], rdFaults := FaultQueue.empty, sdFaults := FaultQueue.empty,
    faultCount := 0, detMode := false, detRefusals := 0, totals := [], ports := [], sluice := [], rd := RingDomain.reset,
    sd := ServiceDomain.reset, flash := Flash.blank, fw := Firmware.reset, wh := WellPair.reset,
    can := Can.reset, therm := Thermal.reset, power := Power.reset, hostOut := [], linkOut := [], canOut := [], pmbOut := [], free := 0,
    pending := [] }

end Sys2Proof.Machine
end

