-- ==== Sys2Proof/Machine/Ops.lean ====
section
/-! DEFINITION. The named operations over State that every family shares: units by number, memory, faults, packets, and the
one-step transition of a core. -/

namespace Sys2Proof.Machine

/-- The outcome of a command. -/
abbrev Out := Host.Outcome State Fault Refusal

/-! ### Units by number -/

/-- Cores of the engine (R32). -/
def nCores : Nat := 92160
/-- Fields of the engine (R30). -/
def nFields : Nat := 72

/-- The field a core lies in (R30 to R32). -/
def fieldOf (c : Nat) : Nat := (c / 288 / 40) * 9 + (c % 288) / 32
/-- A core's local index in its field: row × 32 + local column (R31). -/
def localOf (c : Nat) : Nat := (c / 288 % 40) * 32 + c % 288 % 32
/-- The core ID of a local index of a field. -/
def coreId (f li : Nat) : Nat := ((f / 9) * 40 + li / 32) * 288 + (f % 9) * 32 + li % 32

/-- A core. -/
def State.core (s : State) (c : Nat) : Core := Tab.read s.cores Core.reset c
/-- A field. -/
def State.field (s : State) (f : Nat) : Field := Tab.read s.fields Field.reset f
/-- A partition. -/
def State.part (s : State) (p : Nat) : Part := Tab.read s.parts Part.reset p
/-- Replaces a field. -/
def State.setField (s : State) (f : Nat) (x : Field) : State := { s with fields := Tab.write s.fields Field.reset f x }
/-- Replaces a partition. -/
def State.setPart (s : State) (p : Nat) (x : Part) : State := { s with parts := Tab.write s.parts Part.reset p x }
/-- Changes a field. -/
def State.modField (s : State) (f : Nat) (g : Field → Field) : State := s.setField f (g (s.field f))
/-- Changes a partition. -/
def State.modPart (s : State) (p : Nat) (g : Part → Part) : State := s.setPart p (g (s.part p))
/-- Changes the Cistern of a field. -/
def State.modCis (s : State) (f : Nat) (g : Cistern → Cistern) : State :=
  s.modField f (fun x => { x with cis := g x.cis })
/-- Changes the pair and Well units of a field. -/
def State.modSyn (s : State) (f : Nat) (g : SyncUnit → SyncUnit) : State :=
  s.modField f (fun x => { x with syn := g x.syn })

/-- A command that names a core which does not exist faults; otherwise the effect is applied. -/
def onCore (c : Nat) (s : State) (g : State → State) : Out := if c < nCores then .next (g s) else .fault .noSuchUnit
/-- A command that names a field which does not exist faults; otherwise the effect is applied. -/
def onField (f : Nat) (s : State) (g : State → State) : Out := if f < nFields then .next (g s) else .fault .noSuchUnit
/-- A command that names a partition which does not exist faults. -/
def onPart (p : Nat) (s : State) (g : State → State) : Out := if p < 16 then .next (g s) else .fault .noSuchUnit
/-- A command that names a PCIe port which does not exist faults. -/
def onPort (p : Nat) (s : State) (g : State → State) : Out := if p < 4 then .next (g s) else .fault .noSuchUnit
/-- A command that names a ring which does not exist faults. -/
def onRing (p r : Nat) (s : State) (g : State → State) : Out :=
  if p < 4 ∧ r < 16 then .next (g s) else .fault .noSuchUnit
/-- A command that names a Sluice port which does not exist faults. -/
def onSluice (p : Nat) (s : State) (g : State → State) : Out := if p < 12 then .next (g s) else .fault .noSuchUnit

/-! ### Partitions -/

/-- A partition's rectangle holds a field (R54). -/
def rectHas (r : Word) (f : Nat) : Bool :=
  let v := r.toNat
  decide (bits v 23 20 ≤ f % 9) && decide (f % 9 ≤ bits v 15 12) && decide (bits v 19 16 ≤ f / 9) && decide (f / 9 ≤ bits v 11 8)
/-- A partition is enabled (R54). -/
def Part.enabled (p : Part) : Bool := bit p.rect.toNat 31
/-- The enabled partition a field belongs to. -/
def State.partOf (s : State) (f : Nat) : Option Nat :=
  (upTo 16).find? (fun p => (s.part p).enabled && rectHas (s.part p).rect f)
/-- The fields of a rectangle, in rising field ID. -/
def rectFields (r : Word) : List Nat := (upTo nFields).filter (fun f => rectHas r f)
/-- The fields of a partition. -/
def State.partFields (s : State) (p : Nat) : List Nat := rectFields (s.part p).rect
/-- The graph state of the partition a field belongs to. A field in no enabled partition counts as IDLE (DESIGN CHOICE, log entry 75): its
instruction stores may be read. -/
def State.graphOf (s : State) (f : Nat) : GraphState :=
  match s.partOf f with
  | some p => (s.part p).graph
  | none => .idle

/-! ### Faults (R489 to R494) -/

/-- Counts a fault and queues its record: `q` the queue of origin, a field ID, 72 for the RD or 73 for the SD (R491). -/
def State.report (s : State) (q : Nat) (r : FaultRec) : State :=
  let put (fq : FaultQueue) : FaultQueue :=
    if fq.recs.length < 64 then
      { recs := fq.recs ++ [{ r with queue := q, ts := s.tstamp, seq := fq.seq }], seq := (fq.seq + 1) % 16384 }
    else fq
  let s' := { s with faultCount := (s.faultCount + 1) % 2 ^ 32 }
  if q = 72 then { s' with rdFaults := put s'.rdFaults }
  else if q = 73 then { s' with sdFaults := put s'.sdFaults }
  else s'.modField q (fun f => { f with faults := put f.faults })

/-- A record without task, core and addresses. -/
def plainFault (cause scope id info : Nat) : FaultRec :=
  { cause := cause, scope := scope, id := id, info := info, ts := 0, queue := 0, task := none, pc := 0, core := none, seq := 0, addr := 0 }
/-- A fault of the engine, recorded by the SD. -/
def State.engineFault (s : State) (cause info : Nat) : State := s.report 73 (plainFault cause 0 0 info)
/-- A fault of a field, recorded by its MD. -/
def State.fieldFault (s : State) (f cause info : Nat) : State := s.report f (plainFault cause 2 f info)
/-- A fault of a partition found by a field's Cistern, with the field and node of R493. -/
def State.partFault (s : State) (p f node cause : Nat) : State :=
  s.report f (plainFault cause 1 p ((f % 128) <<< 16 + node))
/-- Adds to one of the dictionary's running totals: 0x2920 by its subindex, any other by its key (R382, R384). -/
def State.addTotal (s : State) (sub n : Nat) : State :=
  { s with totals := Tab.write s.totals 0 sub ((Tab.read s.totals 0 sub + n) % 2 ^ 64) }

/-- A fault of a PCIe or Sluice port, recorded by the RD; Sluice ports count from 0x10 (R492). A PCIe port's faults are counted for the port (R382). -/
def State.portFault (s : State) (id cause info : Nat) : State :=
  (if id < 4 then s.addTotal (0x270201 + id) 1 else s).report 72 (plainFault cause 3 id info)

/-- Adds to a field counter of R520 by its offset. -/
def State.addFieldCtr (s : State) (f off n : Nat) : State :=
  s.modField f (fun x =>
    let cs := Tab.write x.obs.counters 0 off ((Tab.read x.obs.counters 0 off + n) % 2 ^ 64)
    { x with obs := { x.obs with counters := cs } })

/-- Counts an uncorrectable word once (R517). `unit` is the core ID, or 0 for Cistern memory; `w` the word index; `task` the task or firing whose access
found it, which the record then names (log entry 68). -/
def State.countUe (s : State) (f : Nat) (sp : UeSpace) (unit w : Nat) (task : Option DWord) : State :=
  let fld := s.field f
  if fld.ueTab.contains (sp, unit, w) then s
  else
    let s1 := match sp with
      | .sram => s.addTotal 2 1
      | .istore => s.addTotal 2 1
      | .cistern => s.addTotal 4 1
    if fld.ueTab.length < 32 then
      let s2 := s1.modField f (fun x => { x with ueTab := x.ueTab ++ [(sp, unit, w)] })
      let r := match sp with
        | .sram => { plainFault 0x3183 2 f w with core := some unit, task := task }
        | .istore => { plainFault 0x3184 2 f (1 <<< 30 + w) with core := some unit, task := task }
        | .cistern => { plainFault 0x3141 2 f (1 <<< 31 + w) with task := task }
      s2.report f r
    else s1

/-! ### Packets -/

/-- Puts packets on their way, in order, stamped with the present TSTAMP. -/
def State.inject (s : State) (ps : List Packet) : State := { s with net := s.net ++ ps.map (fun p => { p with at' := s.tstamp }) }

/-- Physical column of a local column in a row of a field (R33). -/
def State.physCol (s : State) (f r lc : Nat) : Nat :=
  if lc < Tab.read (s.field f).clk.rowMap 63 r then lc else lc + 1
/-- Router of a Sluice gateway (R256). -/
def sluicePos (p : Nat) : Nat × Nat :=
  match p with
  | 0 => (49, 0) | 1 => (148, 0) | 2 => (247, 0) | 3 => (296, 60) | 4 => (296, 180) | 5 => (296, 260)
  | 6 => (247, 319) | 7 => (148, 319) | 8 => (49, 319) | 9 => (0, 260) | 10 => (0, 180) | _ => (0, 60)
/-- Router of an ingress gateway (R298). -/
def ingressPos (p : Nat) : Nat × Nat :=
  match p with
  | 0 => (0, 100) | 1 => (0, 220) | 2 => (296, 100) | _ => (296, 220)
/-- Router an agent is attached to (R232, R233). -/
def State.pos (s : State) (a : Agent) : Nat × Nat :=
  match a with
  | .core c => (33 * (c % 288 / 32) + s.physCol (fieldOf c) (c / 288 % 40) (c % 32), c / 288)
  | .field f => (33 * (f % 9) + 16, 40 * (f / 9) + 20)
  | .ingress p => ingressPos p
  | .sluice p => sluicePos p
  | .router px py => (px, py)
/-- The field a router lies in. -/
def fieldAt (px py : Nat) : Nat := py / 40 * 9 + px / 33
/-- The router a link leads to: 0 north, 1 east, 2 south, 3 west (R493); none off the wafer's edge. -/
def linkEnd (px py dir : Nat) : Option (Nat × Nat) :=
  match dir with
  | 0 => if py = 0 then none else some (px, py - 1)
  | 1 => if 296 ≤ px then none else some (px + 1, py)
  | 2 => if 319 ≤ py then none else some (px, py + 1)
  | _ => if px = 0 then none else some (px - 1, py)
/-- A route crosses a link: first along Y, then along X (R233). -/
def routeCrosses (src dst : Nat × Nat) (px py dir : Nat) : Bool :=
  match dir with
  | 0 => decide (px = src.1) && decide (dst.2 < py) && decide (py ≤ src.2)
  | 2 => decide (px = src.1) && decide (src.2 ≤ py) && decide (py < dst.2)
  | 1 => decide (py = dst.2) && decide (src.1 ≤ px) && decide (px < dst.1)
  | _ => decide (py = dst.2) && decide (dst.1 < px) && decide (px ≤ src.1)
/-- A packet's route crosses a link; what stays inside an interface, on the field bus or the release tree crosses none (R228, R246). -/
def State.crosses (s : State) (p : Packet) (px py dir : Nat) : Bool :=
  !p.bus && routeCrosses (s.pos p.src) (s.pos p.dst) px py dir

/-- The field that owns a link: the lower field ID of its ends (R251). -/
def linkOwner (px py dir : Nat) : Nat :=
  match linkEnd px py dir with
  | some e => min (fieldAt px py) (fieldAt e.1 e.2)
  | none => fieldAt px py

/-- A link is DOWN. -/
def State.linkDown (s : State) (px py dir : Nat) : Bool := (s.field (linkOwner px py dir)).downLinks.contains (px, py, dir)
/-- The number of a link, as INFO of its fault record gives it (R493). -/
def linkKey (px py dir : Nat) : Nat := px <<< 18 + py <<< 9 + dir

/-- A packet cannot have come through: it was injected after a link of its route went DOWN (R251), or after that link's receiver began to discard flits for a resend that has not
been asked for yet (R250). -/
def State.cutOff (s : State) (p : Packet) : Bool :=
  s.fields.any (fun e => (e.2.downLinks ++ e.2.retries).any (fun l =>
    decide (l.2.2 < 4) && decide (Tab.read e.2.linkAt 0 (linkKey l.1 l.2.1 l.2.2) < p.at') && s.crosses p l.1 l.2.1 l.2.2))

/-- The packet at `k`, if nothing earlier travels from its source to its destination on its lane (R247) and no link of its route held it back (R250, R251). Log entry 90. -/
def State.arriving (s : State) (k : Nat) : Option Packet :=
  match s.net[k]? with
  | none => none
  | some p =>
    if (s.net.take k).any (fun q => decide (q.src = p.src ∧ q.dst = p.dst ∧ q.vc = p.vc ∧ q.ctl = p.ctl ∧ q.bus = p.bus)) || s.cutOff p
    then none else some p

/-- Takes the packet at `k` off its way. -/
def State.take (s : State) (k : Nat) : State := { s with net := dropAt s.net k }

/-- A packet on the field bus. -/
def busPacket (src dst : Agent) (task : DWord) (tag : Nat) (b : Payload) : Packet :=
  { src := src, dst := dst, vc := 0, ctl := true, bus := true, part := none, tag := tag, task := task, at' := 0, body := b }
/-- A control-lane packet on the mesh (R236). -/
def ctlPacket (src dst : Agent) (vc : Nat) (part : Option Nat) (task : DWord) (tag : Nat) (b : Payload) : Packet :=
  { src := src, dst := dst, vc := vc, ctl := true, bus := false, part := part, tag := tag, task := task, at' := 0, body := b }

/-! ### Cores -/

/-- The counter that counts a core's time in a run state (R519). -/
def RunState.counter (r : RunState) : Option Nat :=
  match r with
  | .off => none
  | .run => some 0
  | .sleepSync => some 1
  | .sleepRecv => some 2
  | .sleepSend => some 3
  | .filler => some 4
  | .idle => some 5

/-- A core counter by its index, offset 0x800 + 8 × index (R519); index 16 counts the tasks begun (R526), index 17 the mixer steps on 8-bit operands (R429). The time counters are held in half CCLK. -/
def Core.counter (k : Core) (i : Nat) : Nat := Tab.read k.counters 0 i
/-- Adds to a core counter. -/
def Core.addCounter (k : Core) (i n : Nat) : Core := { k with counters := Tab.write k.counters 0 i (k.counter i + n) }

/-- The events of a core's own commands since they were last taken, under the phase class of its task (R429, R430). -/
def Core.events (k : Core) : Events :=
  let d (i : Nat) : Nat := k.counter i - Tab.read k.tagged 0 i
  { tag := bits k.desc.info.toNat 27 24, issue := d 6, vec := d 7, mix16 := d 8 - d 17, mix8 := d 17, cev := 0 }
/-- They are laid aside, as another task begins. -/
def Core.layAside (k : Core) : Core := { k with held := k.held ++ [k.events], tagged := k.counters }

/-- The task running on a core, if one is. -/
def Core.runningTask (k : Core) : Option DWord :=
  match k.run with
  | .off => none
  | .idle => none
  | .filler => none
  | _ => some k.desc.taskId

/-- Counts the words a core's readers found uncorrectable (R517), naming the task that runs on it. -/
def State.countFound (s : State) (f c : Nat) (l : List (UeSpace × Nat)) : State :=
  l.foldl (fun s' x => s'.countUe f x.1 c x.2 (s.core c).runningTask) s

/-- Entries of the field's table of counted words go once their word has been written whole (R517). -/
def State.forgetUe (s : State) (f c : Nat) (old new : Core) : State :=
  if old.ue = new.ue ∧ old.iue = new.iue then s
  else s.modField f (fun x => { x with ueTab := x.ueTab.filter (fun e =>
    !decide (e.2.1 = c) || (match e.1 with
      | .sram => new.ue.contains e.2.2
      | .istore => new.iue.contains e.2.2
      | .cistern => true)) })

/-- A core as it is put back: time spent in the run state it leaves goes to that state's counter (R519), and the words its readers added to `found`
are the field's to count. -/
def State.stored (s : State) (c : Nat) (k : Core) : Core :=
  let old := s.core c
  let h := (s.field (fieldOf c)).clk.halfCclk
  let k1 := if old.run = k.run then k
    else match old.run.counter with
      | some i => { k.addCounter i (h - old.mark) with mark := h }
      | none => { k with mark := h }
  { k1 with found := old.found }

/-- Replaces a core: correctable words met are counted in SRAM_CE (R384), and the words its readers added to `found` by the field, as uncorrectable (R517). -/
def State.setCore (s : State) (c : Nat) (k : Core) : State :=
  let old := s.core c
  let k1 := s.stored c k
  let n := k1.counter 15 - old.counter 15
  let s0 := if n = 0 then s else s.addTotal 1 n
  let s1 := (s0.countFound (fieldOf c) c (k.found.drop old.found.length)).forgetUe (fieldOf c) c old k
  { s1 with cores := Tab.write s1.cores Core.reset c k1 }

/-- Changes a core. -/
def State.modCore (s : State) (c : Nat) (g : Core → Core) : State := s.setCore c (g (s.core c))

/-- A scalar register; s0 reads as 0 (R149). -/
def Core.sreg (k : Core) (n : Nat) : Nat := if n = 0 then 0 else (Tab.read k.regs.s 0 n).toNat
/-- Writes a scalar register modulo 2^32; a write to s0 is discarded (R149). -/
def Core.setS (k : Core) (n v : Nat) : Core :=
  if n = 0 then k else { k with regs := { k.regs with s := Tab.write k.regs.s 0 n (BitVec.ofNat 32 v) } }
/-- A register pair: the even register holds bits 31:0 (R150). -/
def Core.pair (k : Core) (n : Nat) : Nat := k.sreg n + k.sreg (n + 1) * 2 ^ 32
/-- Writes a register pair (R150). -/
def Core.setPair (k : Core) (n v : Nat) : Core := (k.setS n v).setS (n + 1) (v >>> 32)
/-- Writes a register quad, the lowest-addressed word first (R150). -/
def Core.setQuad (k : Core) (n v : Nat) : Core := (k.setPair n v).setPair (n + 2) (v >>> 64)
/-- A vector register as one 1,024-bit value. -/
def Core.vreg (k : Core) (n : Nat) : Nat := (Tab.read k.regs.v 0 n).toNat
/-- Writes a vector register. -/
def Core.setV (k : Core) (n v : Nat) : Core :=
  { k with regs := { k.regs with v := Tab.write k.regs.v 0 n (BitVec.ofNat 1024 v) } }
/-- The 32 lanes of a vector value, lane 0 first. -/
def lanes (v : Nat) : List Nat := (upTo 32).map (fun i => (v >>> (32 * i)) % 2 ^ 32)
/-- The vector value of a list of lanes. -/
def ofLanes (l : List Nat) : Nat := l.foldr (fun x acc => x % 2 ^ 32 + acc * 2 ^ 32) 0
/-- An accumulator element: accumulator, row, column. -/
def Core.acc (k : Core) (a r j : Nat) : Nat := (Tab.read k.regs.a 0 (a * 128 + r * 16 + j)).toNat
/-- All 128 elements of an accumulator, row by row. -/
def Core.accList (k : Core) (a : Nat) : List Nat := (upTo 128).map (fun i => (Tab.read k.regs.a 0 (a * 128 + i)).toNat)
/-- Writes elements of an accumulator from element `i` on. -/
def Core.setAccFrom (k : Core) (a i : Nat) (l : List Nat) : Core :=
  match l with
  | [] => k
  | v :: r =>
    Core.setAccFrom { k with regs := { k.regs with a := Tab.write k.regs.a 0 (a * 128 + i) (BitVec.ofNat 32 v) } } a (i + 1) r
/-- A tile descriptor register. -/
def Core.treg (k : Core) (n : Nat) : Nat := (Tab.read k.regs.t 0 n).toNat
/-- Writes a tile descriptor register. -/
def Core.setT (k : Core) (n v : Nat) : Core :=
  { k with regs := { k.regs with t := Tab.write k.regs.t 0 n (BitVec.ofNat 64 v) } }
/-- ORs flags into `c.flags` and `c.tflags` (R198). -/
def Core.raise (k : Core) (fl : Nat) : Core :=
  { k with csr := { k.csr with flags := k.csr.flags ||| fl, tflags := k.csr.tflags ||| fl } }
/-- An inbox queue. -/
def Core.queue (k : Core) (vc : Nat) : InQueue := Tab.read k.inq InQueue.empty vc
/-- Replaces an inbox queue. -/
def Core.setQueue (k : Core) (vc : Nat) (q : InQueue) : Core := { k with inq := Tab.write k.inq InQueue.empty vc q }
/-- Slots a message occupies: header of 16 bytes and payload, in 64-byte slots (R133, R238). -/
def slotsFor (len : Nat) : Nat := (16 + len + 63) / 64
/-- Occupied slots of a queue (R133). -/
def InQueue.occupied (q : InQueue) : Nat := q.msgs.foldl (fun a m => a + slotsFor m.data.length) 0
/-- Binding record `i` of the running task, 0 at or above BIND_COUNT (R137). -/
def Core.bind (k : Core) (i : Nat) : Nat := (k.desc.binds.getD i 0).toNat
/-- BIND_COUNT of the running task (R137). -/
def Core.bindCount (k : Core) : Nat := bits k.desc.info.toNat 23 20

/-! ### Data SRAM, the store buffer and SECDED (R124 to R132) -/

/-- Bytes of data SRAM. -/
def sramSize : Nat := 0x50000
/-- Bytes of the instruction store. -/
def istoreSize : Nat := 0x6000
/-- Core-local base of the instruction store (R53). -/
def istoreBase : Nat := 0x100000

/-- Word indices of an access. -/
def wordsOf (a n : Nat) : List Nat := (upTo ((a + n - 1) / 8 + 1 - a / 8)).map (fun i => a / 8 + i)
/-- Two byte ranges overlap. -/
def overlaps (a n b m : Nat) : Bool := decide (a < b + m) && decide (b < a + n)

/-- A reader meets the words of an access: correctable words are counted and queued for write-back where their bank's slot
is free (R131). Of several words of one bank the lowest takes the slot (DESIGN CHOICE, log entry 85). -/
def Core.readCe (k : Core) (ws : List Nat) : Core :=
  ws.foldl (fun k w =>
    if k.ce.contains w then
      let k1 := k.addCounter 15 1
      if k1.wback.contains w || k1.wback.any (fun x => decide (x / 4096 = w / 4096)) then k1
      else { k1 with wback := k1.wback ++ [w] }
    else k) k

/-- The first uncorrectable word among some, in the order given: where an access meets several, the one that is reported (DESIGN CHOICE, log entry 85). -/
def Core.firstUe (k : Core) (ws : List Nat) : Option Nat := ws.find? (fun w => k.ue.contains w)

/-- An error to be delivered at the next instruction boundary (R132, R179): of several, the one of the instruction earliest in program order, `nth`, stands (R145).
The program counter is that of the instruction about to issue where none is given. -/
def Core.pend (k : Core) (cause : Nat) (pc : Option Nat) (addr nth : Nat) : Core :=
  match k.asyncErr with
  | none => { k with asyncErr := some (cause, pc, addr), errAt := nth }
  | some _ => if nth < k.errAt then { k with asyncErr := some (cause, pc, addr), errAt := nth } else k

/-- Drains one store-buffer entry to SRAM: a whole word written ends an uncorrectable error, a partial one leaves it and, in a
running task, is an error of the store (R132). -/
def Core.drainOne (k : Core) : Core :=
  match k.sbuf with
  | [] => k
  | e :: r =>
    let mem := Memory.setValue k.sram e.addr e.size e.val
    let ws := wordsOf e.addr e.size
    let whole := ws.filter (fun w => decide (e.addr ≤ 8 * w) && decide (8 * w + 8 ≤ e.addr + e.size))
    let bad := (ws.filter (fun w => k.ue.contains w && !whole.contains w))
    let k1 := { k with sbuf := r, sram := mem, ue := k.ue.filter (fun w => !whole.contains w),
                       ce := k.ce.filter (fun w => !whole.contains w), wback := k.wback.filter (fun w => !whole.contains w) }
    match bad with
    | [] => k1
    | w :: _ => ({ k1 with found := k1.found ++ [(.sram, w)] } : Core).pend 0x3183 (some e.pc) (8 * w) e.nth

/-- Drains the oldest `n` entries. -/
def Core.drain (k : Core) (n : Nat) : Core :=
  match n with
  | 0 => k
  | n + 1 => Core.drain k.drainOne n

/-- Drains the whole store buffer. -/
def Core.drainAll (k : Core) : Core := k.drain k.sbuf.length

/-- How many entries must drain before an access: all up to the youngest that overlaps it (R130). -/
def overlapDepth (l : List SbEntry) (a n : Nat) : Nat :=
  match l with
  | [] => 0
  | e :: r => let d := overlapDepth r a n
              if d ≠ 0 then d + 1 else if overlaps e.addr e.size a n then 1 else 0

/-- Drains what an access overlaps (R130). -/
def Core.drainFor (k : Core) (a n : Nat) : Core := k.drain (overlapDepth k.sbuf a n)

/-- What a steward load reads: forwarded bytes, or SRAM after the drains it needs (R129). The second component names an
uncorrectable word. -/
def Core.loadValue (k : Core) (a n : Nat) : Core × Nat × Option Nat :=
  let d := overlapDepth k.sbuf a n
  let fromSram (k : Core) : Core × Nat × Option Nat :=
    (k.readCe (wordsOf a n), Memory.value k.sram a n, k.firstUe (wordsOf a n))
  if d = 0 then fromSram k
  else match k.sbuf[d - 1]? with
    | some e =>
      if e.addr ≤ a ∧ a + n ≤ e.addr + e.size then (k, (e.val >>> (8 * (a - e.addr))) % 2 ^ (8 * n), none)
      else fromSram (k.drain d)
    | none => fromSram k

/-! ### Ending a task -/

/-- The steward's stalled SEND, or with `recipe` a recipe's finish-send, waits for credit no longer (R247). -/
def NetIf.stopWaiting (n : NetIf) (recipe : Bool) : NetIf :=
  { n with credits := n.credits.map (fun e => if e.waiter = some recipe then { e with waiter := none } else e) }

/-- A task's failure as an exception: stores already made drain, the core stops issuing, and the report waits for posted
operations and unit queues (R141, R144). -/
def Core.trap (k : Core) (cause pc addr : Nat) : Core :=
  { k.drainAll with ending := .failed cause pc addr, run := .run, blocked := none, asyncErr := none, finHold := false,
                    errAt := if k.asyncErr.isSome then k.errAt else k.counter 6,
                    nif := k.nif.stopWaiting false }

/-- The agent of a core's own field. -/
def ownField (c : Nat) : Agent := .field (fieldOf c)

/-- Adds a posted operation to the outbound queue; one that follows a message reported lost is discarded (R141, R178). -/
def Core.post (k : Core) (e : OutEntry) : Core :=
  match k.lostSeq with
  | some n => if n < e.after then k else { k with outq := k.outq ++ [e] }
  | none => { k with outq := k.outq ++ [e] }

/-- Every message sent before an outbound entry has been accepted (R178). -/
def Core.olderAcked (k : Core) (after : Nat) : Bool :=
  k.nif.unacked.all (fun u => decide (u.task ≠ k.desc.taskId) || decide (after ≤ u.seq))

/-- Sends the failure report once every posted operation has left and the units are done (R141), and frees the core. -/
def State.finishFail (s : State) (c : Nat) : State :=
  let k := s.core c
  match k.ending with
  | .failed cause pc addr =>
    if k.outq.isEmpty && k.uq.isEmpty && k.run != .off then
      let s1 := s.setCore c ({ k with ending := .none, run := .idle }.addCounter 14 1)
      s1.inject [busPacket (.core c) (ownField c) k.desc.taskId 0 (.failure cause pc addr)]
    else s
  | _ => s

/-- Ends a core's task with an exception. -/
def State.trapCore (s : State) (c cause pc addr : Nat) (k : Core) : State :=
  let s1 := if cause = 0x3188 then { s with detRefusals := (s.detRefusals + 1) % 2 ^ 32 } else s
  (s1.setCore c (k.trap cause pc addr)).finishFail c

/-! ### Issuing an instruction -/

/-- What issuing an instruction comes to: it cannot issue yet; it took effect, with packets to send; the core sleeps at it; or
it faults. -/
inductive Issue where
  | stall
  | done (k : Core) (out : List Packet)
  | sleep (k : Core) (out : List Packet)
  | trap (k : Core) (cause addr : Nat)

/-- A core issues while it runs a task, has no end pending, no refusal to deliver and no blocking operation open, and its
field's CD is on. -/
def State.canIssue (s : State) (c : Nat) : Bool :=
  let k := s.core c
  decide (k.run = .run) && decide (k.ending = .none) && k.asyncErr.isNone && k.blocked.isNone &&
    decide ((s.field (fieldOf c)).clk.cd = .on)

/-- The word at the program counter, or the fault of its fetch: cause and address, and the word found bad (R132, R144). -/
def Core.fetch (k : Core) : Nat ⊕ (Nat × Nat × Nat) :=
  if k.pc < istoreBase ∨ istoreBase + istoreSize ≤ k.pc then .inr (0x3180, k.prevPc, k.pc)
  else if k.iue.contains ((k.pc - istoreBase) / 8) then .inr (0x3184, k.pc, k.pc)
  else .inl (Memory.value k.istore (k.pc - istoreBase) 4)

/-- Moves the program counter, keeping the address it came from for a faulting fetch (R492). -/
def Core.goto (k : Core) (pc : Nat) : Core := { k with prevPc := k.pc, pc := pc % 2 ^ 32 }
/-- Advances the program counter past the instruction (R151). -/
def Core.advance (k : Core) : Core := k.goto (k.pc + 4)
/-- The instruction took effect and the program counter advanced. -/
def Core.okNext (k : Core) : Issue := .done k.advance []

/-- A reader meets a word of an instruction store: one with a correctable error is counted and written back, once (R131, R384; the write-back at once is a DESIGN CHOICE, log entry 86). -/
def State.meetIce (s : State) (c w : Nat) : State :=
  if (s.core c).ice.contains w then
    (s.addTotal 1 1).setCore c { s.core c with ice := (s.core c).ice.filter (fun x => decide (x ≠ w)) }
  else s

/-- Issues the instruction `op` on a core: the word is fetched and decoded; a bad fetch or an illegal word is the
exception of whichever instruction was to issue, another instruction than `op` leaves the core as it is. -/
def issue (op : CoreOp) (c : Nat) (s : State) (run : State → Core → Nat → Issue) : Out :=
  onCore c s (fun s =>
    if s.canIssue c then
      let k := s.core c
      match k.fetch with
      | .inr (cause, pc, addr) =>
        let k1 := if cause = 0x3184 then { k with found := k.found ++ [(.istore, (k.pc - istoreBase) / 8)] } else k
        s.trapCore c cause pc addr k1
      | .inl w =>
        let s := s.meetIce c ((k.pc - istoreBase) / 8)
        let k := s.core c
        match decodeOp w with
        | none => s.trapCore c 0x3182 k.pc 0 k
        | some o =>
          if o = op then
            match run s k w with
            | .stall => s
            | .done k1 out => (s.setCore c (k1.addCounter 6 1)).inject out
            | .sleep k1 out => (s.setCore c k1).inject out
            | .trap k1 cause addr => s.trapCore c cause k.pc addr k1
          else s
    else s)

/-- Whether a steward instruction may read or write scalar register `n` now: no queued vector instruction is to write it
(R123). -/
def Core.sregFree (k : Core) (n : Nat) : Bool :=
  k.uq.all (fun u => match u with
    | .op q => !(decide (opField q.word = 0x20) && decide (bits q.word 5 0 = 0x22) && decide (dField q.word = n))
    | .recipe _ => true)

/-- Runs a steward instruction once the scalar registers it names are free (R123). -/
def whenFree (k : Core) (rs : List Nat) (r : Issue) : Issue := if rs.all k.sregFree then r else .stall

end Sys2Proof.Machine
end

