-- ==== Sys2Proof/Machine/Flags.lean ====
section
/-! DEFINITION. Lane-wise results with their flags: how one instruction's element results and flags are put together
(R197, R198), and the draws of stochastic rounding (R192). -/

namespace Sys2Proof.Machine

/-- FP32 as a number. -/
def fp (code : Nat) : Fp := FFmt.fp32.decode code

/-- The codes of a list of element results. -/
def codes (l : List FRes) : List Nat := l.map (fun r => r.1)
/-- The union of the flags of a list of element results (R198). -/
def flagUnion (l : List FRes) : Nat := l.foldl (fun a r => a ||| r.2) 0

/-- Applies a lane operation to one register; the lane number gives the draw (R192). -/
def lane1 (f : Nat → Nat → FRes) (a : Nat) : List FRes := (lanes a).mapIdx f
/-- Applies a lane operation to two registers. -/
def lane2 (f : Nat → Nat → Nat → FRes) (a b : Nat) : List FRes :=
  ((lanes a).zip (lanes b)).mapIdx (fun i p => f i p.1 p.2)
/-- Applies a lane operation to three registers. -/
def lane3 (f : Nat → Nat → Nat → Nat → FRes) (a b c : Nat) : List FRes :=
  ((lanes a).zip ((lanes b).zip (lanes c))).mapIdx (fun i p => f i p.1 p.2.1 p.2.2)
/-- A lane operation on integers: no flag (R199). -/
def intLane (f : Nat → Nat → Nat) (_ a b : Nat) : FRes := (f a b % 2 ^ 32, 0)

/-- One level of the reduction tree: lane i and lane i + w (R164). -/
def treeLevel (f : Nat → Nat → FRes) (w : Nat) (x : List Nat) : List FRes :=
  ((x.take w).zip (x.drop w)).map (fun p => f p.1 p.2)

/-- The reduction tree over 32 lanes: lane 0 and the flags (R164). -/
def reduceTree (f : Nat → Nat → FRes) (x : List Nat) : FRes :=
  let r16 := treeLevel f 16 x
  let r8 := treeLevel f 8 (codes r16)
  let r4 := treeLevel f 4 (codes r8)
  let r2 := treeLevel f 2 (codes r4)
  let r1 := treeLevel f 1 (codes r2)
  ((codes r1).headD 0, flagUnion r16 ||| flagUnion r8 ||| flagUnion r4 ||| flagUnion r2 ||| flagUnion r1)

/-- Takes a draw base: the seed, which advances by one (R192). -/
def Core.takeDraw (k : Core) : Core × Nat :=
  ({ k with csr := { k.csr with seed := k.csr.seed + 1 } }, k.csr.seed.toNat)

end Sys2Proof.Machine
end

