-- ==== Sys2Proof/Machine/Memory.lean ====
section
/-! DEFINITION. Loads, stores, CSR access and the core's own memory events (R128 to R132, R161, R162). -/

namespace Sys2Proof.Machine

/-- The address of a load or store: s(A) + sign-extended IMM16 (R161). -/
def memAddr (k : Core) (w : Nat) : Nat := wrap 32 ((k.sreg (aField w) : Int) + simm16 w)

/-- Checks a data access of `n` bytes: the address exception, then the alignment exception (R125, R144). -/
def accessFault (a n : Nat) : Option Nat :=
  if sramSize < a + n then some 0x3180 else if a % n ≠ 0 then some 0x3181 else none

/-- The byte range a tile descriptor spans: base and length from its first to its last byte (R167, R168). -/
def tileSpan (td : Nat) : Nat × Nat :=
  let rows := bits td 55 46 + 1
  let cols := bits td 45 36 + 1
  let size := match bits td 63 61 with | 0 => 2 | 1 => 2 | 5 => 4 | 6 => 4 | _ => 1
  let lines := if bit td 60 then cols else rows
  let len := (if bit td 60 then rows else cols) * size
  (bits td 18 0, (lines - 1) * (bits td 32 19 * 32) + len)

/-- A tile in data SRAM as a byte range; an inbox operand spans nothing. -/
def sramSpan (td : Nat) : List (Nat × Nat) := if bits td 59 58 = 0 ∧ td ≠ 0 then [tileSpan td] else []

/-- The SRAM ranges a queued instruction writes. -/
def UnitItem.writes (u : UnitItem) : List (Nat × Nat) :=
  match u with
  | .op q =>
    match opField q.word with
    | 0x22 => [(q.sA, 128)]
    | 0x2A => q.td.flatMap sramSpan
    | _ => []
  | .recipe r =>
    (if bits (wordAt r.block 0) 47 46 = 1 then [] else sramSpan (wordAt r.block 7)) ++
      (if bit (wordAt r.block 0) 45 ∧ bits (wordAt r.block 0) 47 46 ≠ 1 then [(bits (wordAt r.block 12) 18 0, 64)] else [])

/-- The SRAM ranges a queued instruction has still to read. -/
def UnitItem.reads (u : UnitItem) : List (Nat × Nat) :=
  match u with
  | .op q =>
    match opField q.word with
    | 0x21 => [(q.sA, 128)]
    | 0x29 => q.td.flatMap sramSpan
    | 0x2B => q.td.flatMap sramSpan
    | _ => []
  | .recipe r =>
    match r.mem with
    | some _ => []
    | none => ([4, 5, 6, 8, 9, 10, 11].map (wordAt r.block)).flatMap sramSpan

/-- A read of `n` bytes at `a` must wait for a queued instruction that writes them (R124). -/
def Core.readBlocked (k : Core) (a n : Nat) : Bool := k.uq.any (fun u => u.writes.any (fun r => overlaps r.1 r.2 a n))
/-- A write must wait for a queued instruction that reads or writes those bytes (R124). -/
def Core.writeBlocked (k : Core) (a n : Nat) : Bool :=
  k.readBlocked a n || k.uq.any (fun u => u.reads.any (fun r => overlaps r.1 r.2 a n))

/-- A load of `n` bytes whose value is placed by `put` (R129, R161). -/
def loadOp (n : Nat) (put : Core → Nat → Nat → Core) (_ : State) (k : Core) (w : Nat) : Issue :=
  let a := memAddr k w
  let d := dField w
  whenFree k (aField w :: (upTo ((n + 3) / 4)).map (fun i => d + i))
    (match accessFault a n with
    | some cause => .trap k cause a
    | none =>
      if k.readBlocked a n then .stall
      else
        let r := k.loadValue a n
        match r.2.2 with
        | some u => .trap { r.1 with found := r.1.found ++ [(.sram, u)] } 0x3183 (8 * u)
        | none => .done (put r.1 d r.2.1).advance [])

/-- A store of `n` bytes into the store buffer (R128, R161). -/
def storeOp (n : Nat) (get : Core → Nat → Nat) (_ : State) (k : Core) (w : Nat) : Issue :=
  let a := memAddr k w
  let r := dField w
  whenFree k (aField w :: (upTo ((n + 3) / 4)).map (fun i => r + i))
    (match accessFault a n with
    | some cause => .trap k cause a
    | none =>
      if k.writeBlocked a n then .stall
      else
        let k1 := if k.sbuf.length < 8 then k else k.drainOne
        let e : SbEntry := { addr := a, size := n, val := get k r % 2 ^ (8 * n), pc := k.pc, nth := k.counter 6 }
        let k2 : Core := { k1 with sbuf := k1.sbuf ++ [e] }
        .done k2.advance [])

/-- LB (R161). -/
def execLb (c : Nat) (s : State) : Out := issue .lb c s (loadOp 1 (fun k d v => k.setS d (wrap 32 (signed 8 v))))
/-- LBU (R161). -/
def execLbu (c : Nat) (s : State) : Out := issue .lbu c s (loadOp 1 (fun k d v => k.setS d v))
/-- LH (R161). -/
def execLh (c : Nat) (s : State) : Out := issue .lh c s (loadOp 2 (fun k d v => k.setS d (wrap 32 (signed 16 v))))
/-- LHU (R161). -/
def execLhu (c : Nat) (s : State) : Out := issue .lhu c s (loadOp 2 (fun k d v => k.setS d v))
/-- LW (R161). -/
def execLw (c : Nat) (s : State) : Out := issue .lw c s (loadOp 4 (fun k d v => k.setS d v))
/-- LD (R150, R161). -/
def execLd (c : Nat) (s : State) : Out := issue .ld c s (loadOp 8 (fun k d v => k.setPair d v))
/-- LQ (R150, R161). -/
def execLq (c : Nat) (s : State) : Out := issue .lq c s (loadOp 16 (fun k d v => k.setQuad d v))
/-- SB (R161). -/
def execSb (c : Nat) (s : State) : Out := issue .sb c s (storeOp 1 (fun k r => k.sreg r))
/-- SH (R161). -/
def execSh (c : Nat) (s : State) : Out := issue .sh c s (storeOp 2 (fun k r => k.sreg r))
/-- SW (R161). -/
def execSw (c : Nat) (s : State) : Out := issue .sw c s (storeOp 4 (fun k r => k.sreg r))
/-- SD (R150, R161). -/
def execSd (c : Nat) (s : State) : Out := issue .sd c s (storeOp 8 (fun k r => k.pair r))
/-- SQ (R150, R161). -/
def execSq (c : Nat) (s : State) : Out := issue .sq c s (storeOp 16 (fun k r => k.pair r + k.pair (r + 2) * 2 ^ 64))

/-! ### Core CSRs (R135 to R137, R519) -/

/-- `c.core_id` (R136). -/
def coreIdCsr (c : Nat) : Nat := ((fieldOf c % 9) <<< 28) + ((fieldOf c / 9) <<< 25) + c
/-- `c.status` (R136). -/
def statusCsr (s : State) (c : Nat) : Nat :=
  let k := s.core c
  (b2n k.staged.isSome <<< 9) + (b2n k.csr.det <<< 8) + (s.field (fieldOf c)).clk.fstate % 16
/-- `c.inbox_level` (R136). -/
def inboxCsr (k : Core) : Nat :=
  (k.queue 0).occupied + ((k.queue 1).occupied <<< 8) + ((k.queue 2).occupied <<< 16) + ((k.queue 3).occupied <<< 24)
/-- `c.rmode` (R136). -/
def rmodeCsr (k : Core) : Nat := b2n k.csr.satur * 8 + k.csr.rm
/-- A word of the start descriptor by its byte offset (R137). -/
def descWord (d : StartDesc) (o : Nat) : Nat :=
  if o < 8 then bits (d.taskId.toNat >>> (8 * o)) 31 0
  else if o = 0x08 then d.info.toNat
  else if o = 0x0C then d.layerOper.toNat
  else if o < 0x20 then (d.args.getD ((o - 0x10) / 4) 0).toNat
  else if o < 0x40 then 0
  else bits ((d.binds.getD ((o - 0x40) / 8) 0).toNat >>> (8 * (o % 8))) 31 0
/-- A core counter as a kernel reads it: the time counters run on in the present state, in whole CCLK; the two stall counters
count bank and buffer timing, which the model leaves out, and read as free values (R519, log entry 12). -/
def counterCsr (s : State) (c i : Nat) : Nat :=
  let k := s.core c
  if i < 6 then
    let h := (s.field (fieldOf c)).clk.halfCclk
    (k.counter i + (if k.run.counter = some i then h - k.mark else 0)) / 2 % 2 ^ 64
  else if i = 9 ∨ i = 10 then Config.stallCycles c i (k.counter 6) % 2 ^ 64
  else if i < 16 then k.counter i % 2 ^ 64
  else 0

/-- A 32-bit CSR read by its offset; unlisted offsets read 0 (R135). -/
def csrWord (s : State) (c o : Nat) : Nat :=
  let k := s.core c
  if 0x800 ≤ o then bits (counterCsr s c ((o - 0x800) / 8) >>> (8 * (o % 8))) 31 0
  else if 0x100 ≤ o ∧ o < 0x180 then descWord k.desc (o - 0x100)
  else match o with
    | 0x000 => coreIdCsr c
    | 0x004 => 0x00420000
    | 0x008 => statusCsr s c
    | 0x010 => s.tstamp % 2 ^ 32
    | 0x014 => (s.tstamp >>> 32) % 2 ^ 32
    | 0x020 => k.csr.flags
    | 0x024 => k.csr.tflags
    | 0x028 => rmodeCsr k
    | 0x030 => k.csr.seed.toNat
    | 0x040 => inboxCsr k
    | 0x044 => k.sbuf.length
    | _ => 0

/-- A CSR read of these offsets is refused in deterministic mode (R181, R482). -/
def csrTimed (o : Nat) : Bool :=
  decide (o = 0x008) || decide (o = 0x010) || decide (o = 0x014) || decide (o = 0x040) || decide (o = 0x044) || decide (0x800 ≤ o)

/-- The offsets a CSR instruction reaches: one word, or two with W64 (R162). -/
def csrOffsets (w : Nat) : List Nat := if bit w 12 then [bits w 11 0, bits w 11 0 + 4] else [bits w 11 0]

/-- A CSR write of one word under its access code (R10, R135, R136, R187). -/
def Core.writeCsr (k : Core) (o v : Nat) : Core :=
  match o with
  | 0x020 => { k with csr := { k.csr with flags := k.csr.flags &&& (0x3F ^^^ (v % 64)) } }
  | 0x028 =>
    { k with csr := { k.csr with satur := bit v 3, rm := if v % 8 ≤ 4 then v % 8 else k.csr.rm } }
  | 0x030 => { k with csr := { k.csr with seed := BitVec.ofNat 32 v } }
  | _ => k

/-- `c.flags` and `c.tflags` wait for the vector and mixer queues (R123, R198). -/
def flagsWait (k : Core) (os : List Nat) : Bool := os.any (fun o => decide (o = 0x020) || decide (o = 0x024)) && !k.uq.isEmpty

/-- CSRR (R162). -/
def execCsrr (c : Nat) (s : State) : Out :=
  issue .csrr c s (fun s k w =>
    let os := csrOffsets w
    if k.csr.det && os.any csrTimed then .trap k 0x3188 0
    else if flagsWait k os then .stall
    else
      let d := dField w
      whenFree k (if bit w 12 then [d, d + 1] else [d])
        (match os with
        | [o, o'] => (k.setPair d (csrWord s c o + csrWord s c o' * 2 ^ 32)).okNext
        | _ => (k.setS d (csrWord s c (bits w 11 0))).okNext))
/-- CSRW (R162, R181). -/
def execCsrw (c : Nat) (s : State) : Out :=
  issue .csrw c s (fun _ k w =>
    let os := csrOffsets w
    if k.csr.det && os.contains 0x030 then .trap k 0x3188 0
    else if (os.contains 0x020) && !k.uq.isEmpty then .stall
    else
      let d := dField w
      whenFree k (if bit w 12 then [d, d + 1] else [d])
        (match os with
        | [o, o'] => ((k.writeCsr o (k.sreg d)).writeCsr o' (k.sreg (d + 1))).okNext
        | _ => (k.writeCsr (bits w 11 0) (k.sreg d)).okNext))

/-! ### Events of the core's memory -/

/-- STORE_BUFFER_DRAIN: the oldest entry drains to SRAM, once no queued unit access stands before it (R124, R128). -/
def execStoreBufferDrain (c : Nat) (s : State) : Out :=
  onCore c s (fun s =>
    let k := s.core c
    match k.sbuf with
    | [] => s
    | e :: _ => if (s.field (fieldOf c)).clk.cd = .on ∧ !k.writeBlocked e.addr e.size then s.setCore c k.drainOne else s)

/-- ECC_WRITE_BACK: the pending corrected word of a bank is written back once (R131). -/
def execEccWriteBack (c bank : Nat) (s : State) : Out :=
  onCore c s (fun s =>
    let k := s.core c
    match k.wback.find? (fun w => decide (w / 4096 = bank)) with
    | none => s
    | some w => s.setCore c { k with wback := k.wback.filter (fun x => decide (x ≠ w)), ce := k.ce.filter (fun x => decide (x ≠ w)) })

end Sys2Proof.Machine
end

