-- ==== Sys2Proof/Machine/Units.lean ====
section
/-! DEFINITION. What the vector unit and the mixer do with an instruction of their queues, and the order in which they may
(R122 to R124, R163 to R171). -/

namespace Sys2Proof.Machine

/-! ### Tiles (R167, R170, R171) -/

/-- FMT of a tile descriptor. -/
def tdFmt (td : Nat) : Nat := bits td 63 61
/-- TR of a tile descriptor. -/
def tdTr (td : Nat) : Bool := bit td 60
/-- SRC of a tile descriptor. -/
def tdSrc (td : Nat) : Nat := bits td 59 58
/-- VC of a tile descriptor. -/
def tdVc (td : Nat) : Nat := bits td 57 56
/-- Rows of a tile. -/
def tdRows (td : Nat) : Nat := bits td 55 46 + 1
/-- Columns of a tile. -/
def tdCols (td : Nat) : Nat := bits td 45 36 + 1
/-- Stride in bytes. -/
def tdStride (td : Nat) : Nat := bits td 32 19 * 32
/-- Base address. -/
def tdBase (td : Nat) : Nat := bits td 18 0
/-- Element size of a format code in bytes (R167). -/
def fmtSize (f : Nat) : Nat := match f with | 0 => 2 | 1 => 2 | 5 => 4 | 6 => 4 | _ => 1
/-- The floating-point format of a format code. -/
def fmtFloat (f : Nat) : FFmt := match f with | 0 => .bf16 | 1 => .fp16 | 2 => .e4m3 | 3 => .e5m2 | _ => .fp32
/-- Lines of a tile: rows, or columns when transposed (R168). -/
def tdLines (td : Nat) : Nat := if tdTr td then tdCols td else tdRows td
/-- Length of a line in bytes (R168). -/
def tdLineLen (td : Nat) : Nat := (if tdTr td then tdRows td else tdCols td) * fmtSize (tdFmt td)
/-- Address of element (r, c) (R167). -/
def tdAddr (td r c : Nat) : Nat :=
  let sz := fmtSize (tdFmt td)
  if tdTr td then tdBase td + c * tdStride td + r * sz else tdBase td + r * tdStride td + c * sz
/-- Element (r, c) of a tile in memory. -/
def tdElem (m : Memory) (td r c : Nat) : Nat := Memory.value m (tdAddr td r c) (fmtSize (tdFmt td))
/-- The 64-bit words a tile's lines touch. -/
def tdWords (td : Nat) : List Nat :=
  (upTo (tdLines td)).flatMap (fun i => wordsOf (tdBase td + i * tdStride td) (tdLineLen td))

/-- The checks of TDESC in order; none when the value is good, else the cause and the address (R168). -/
def tdescFault (v : Nat) : Option (Nat × Nat) :=
  let last := tdBase v + (tdLines v - 1) * tdStride v + tdLineLen v - 1
  if tdFmt v = 7 ∨ 2 ≤ tdSrc v ∨ (tdSrc v = 0 ∧ tdVc v ≠ 0) ∨ bits v 35 33 ≠ 0 then some (0x3182, 0)
  else if tdSrc v = 1 ∧ (tdBase v ≠ 0 ∨ tdStride v ≠ 0) then some (0x3182, 0)
  else if tdSrc v = 0 ∧ 1 < tdLines v ∧ tdStride v < tdLineLen v then some (0x3182, 0)
  else if tdSrc v = 0 ∧ 0x4FFFF < last then some (0x3180, last)
  else if tdSrc v = 0 ∧ tdBase v % 32 ≠ 0 then some (0x3181, tdBase v)
  else none

/-- The operand pairs of R170: 0 for 16-bit float, 1 for 8-bit float, 2 for INT8, none for no pair. -/
def pairKind (a b : Nat) : Option Nat :=
  if (a = 0 ∧ b = 0) ∨ (a = 1 ∧ b = 1) then some 0
  else if (a = 2 ∨ a = 3) ∧ (b = 2 ∨ b = 3) then some 1
  else if a = 4 ∧ b = 4 then some 2
  else none

/-- The k of one step: one for 16-bit formats, two for 8-bit formats (R170). -/
def stepWidth (kind : Nat) : Nat := if kind = 0 then 1 else 2

/-- Steps of a product of depth K (R170). -/
def mmaSteps (kind kk : Nat) : Nat := (kk + stepWidth kind - 1) / stepWidth kind

/-- Counts mixer steps, those on 8-bit operands apart (R429, R519). -/
def Core.addSteps (k : Core) (kind n : Nat) : Core := if kind = 0 then k.addCounter 8 n else (k.addCounter 8 n).addCounter 17 n

/-- One element of a product: the steps in increasing k (R170). `a` and `b` give operand codes by k. -/
def mmaElem (kind fa fb : Nat) (a b : Nat → Nat) (kk : Nat) (acc : Nat) : FRes :=
  (upTo (mmaSteps kind kk)).foldl
    (fun (st : FRes) i =>
      let ks := (upTo (stepWidth kind)).map (fun j => i * stepWidth kind + j) |>.filter (fun k => decide (k < kk))
      if kind = 2 then
        (wrap 32 ((st.1 : Int) + ks.foldl (fun (t : Int) k => t + signed 8 (a k) * signed 8 (b k)) 0), st.2)
      else
        let r := mmaStep st.1 (ks.map (fun k =>
          let x := mixerIn (fmtFloat fa) (a k)
          let y := mixerIn (fmtFloat fb) (b k)
          (x.1, y.1, x.2 ||| y.2)))
        (r.1, st.2 ||| r.2))
    (acc, 0)

/-- A whole 8 × 16 product accumulated onto `acc` (R170): `a i k` and `b k j` give operand codes. -/
def mmaTile (kind fa fb : Nat) (a b : Nat → Nat → Nat) (kk : Nat) (acc : List Nat) : List FRes :=
  acc.mapIdx (fun i v => mmaElem kind fa fb (fun k => a (i / 16) k) (fun k => b k (i % 16)) kk v)

/-- One element converted to an output format: raw for FP32 and INT32, else as VCVT does (R171, R202). -/
def convertOut (fmt rm : Nat) (satur : Bool) (code r16 : Nat) : FRes :=
  match fmt with
  | 5 => (code, 0)
  | 6 => (code, 0)
  | 4 => fpToInt 8 rm code r16
  | f => fpConvert .fp32 (fmtFloat f) rm satur code r16

/-! ### Vector results (R163 to R165) -/

/-- A narrowing conversion writes part `p` of the old value, `size` bytes an element (R165). -/
def narrowPart (size p : Nat) (old : Nat) (l : List Nat) : Nat :=
  let w := 32 * size * 8
  let v := l.foldr (fun x acc => x % 2 ^ (8 * size) + acc * 2 ^ (8 * size)) 0
  setBits old (p * w + w - 1) (p * w) v

/-- A widening conversion reads the 32 elements of part `p` (R165). -/
def widePart (size p v : Nat) : List Nat :=
  (upTo 32).map (fun j => bits v (p * 256 * size + j * 8 * size + 8 * size - 1) (p * 256 * size + j * 8 * size))

/-- VCVT: the new register value and the flags (R165). -/
def vcvtResult (q : QOp) (a old : Nat) : Nat × Nat :=
  let p := bField q.word
  let narrow (size : Nat) (f : Nat → Nat → FRes) : Nat × Nat :=
    let r := lane1 f a
    (narrowPart size p old (codes r), flagUnion r)
  let wide (size : Nat) (f : Nat → FRes) : Nat × Nat :=
    let r := (widePart size p a).map f
    (ofLanes (codes r), flagUnion r)
  let whole (f : Nat → Nat → FRes) : Nat × Nat := let r := lane1 f a; (ofLanes (codes r), flagUnion r)
  let toF (f : FFmt) (e x : Nat) : FRes := fpConvert .fp32 f q.rm q.satur x (drawOf q.base e)
  let fromF (f : FFmt) (x : Nat) : FRes := fpConvert f .fp32 0 false x 0
  match cField q.word with
  | 0x00 => narrow 2 (toF .bf16)
  | 0x01 => narrow 2 (toF .fp16)
  | 0x02 => narrow 1 (toF .e4m3)
  | 0x03 => narrow 1 (toF .e5m2)
  | 0x04 => narrow 1 (fun e x => fpToInt 8 q.rm x (drawOf q.base e))
  | 0x05 => whole (fun e x => fpToInt 32 q.rm x (drawOf q.base e))
  | 0x08 => wide 2 (fromF .bf16)
  | 0x09 => wide 2 (fromF .fp16)
  | 0x0A => wide 1 (fromF .e4m3)
  | 0x0B => wide 1 (fromF .e5m2)
  | 0x0C => wide 1 (fun x => intToFp 8 0 x 0)
  | _ => whole (fun e x => intToFp 32 q.rm x (drawOf q.base e))

/-- Register value and flags of a list of lane results. -/
def laneResult (r : List FRes) : Nat × Nat := (ofLanes (codes r), flagUnion r)

/-- The result of a VR operation by FN, other than VEXT and VCVT: new v(VD) and flags (R163). -/
def vectorResult (q : QOp) (va vb vc old : Nat) : Nat × Nat :=
  let rm := q.rm
  let rn := noDraw q.rm
  let dr (e : Nat) : Nat := drawOf q.base e
  match bits q.word 5 0 with
  | 0x00 => laneResult (lane2 (fun e a b => fpAdd .fp32 rm false (fp a) (fp b) (dr e)) va vb)
  | 0x01 => laneResult (lane2 (fun e a b => fpAdd .fp32 rm false (fp a) (fp b).negate (dr e)) va vb)
  | 0x02 => laneResult (lane2 (fun e a b => fpMul .fp32 rm (fp a) (fp b) (dr e)) va vb)
  | 0x03 => laneResult (lane3 (fun e a b c => fpFma .fp32 rm (fp a) (fp b) (fp c) (dr e)) va vb vc)
  | 0x04 => laneResult (lane2 (fun _ => fp32Min) va vb)
  | 0x05 => laneResult (lane2 (fun _ => fp32Max) va vb)
  | 0x06 => laneResult (lane2 (fun _ => fp32Cmp 0) va vb)
  | 0x07 => laneResult (lane2 (fun _ => fp32Cmp 1) va vb)
  | 0x08 => laneResult (lane2 (fun _ => fp32Cmp 2) va vb)
  | 0x09 => laneResult (lane1 (fun _ => fp32Rcp rn) va)
  | 0x0A => laneResult (lane1 (fun _ => fp32Rsq rn) va)
  | 0x0B => laneResult (lane1 (fun _ => fp32Exp2 rn) va)
  | 0x0C => laneResult (lane1 (fun _ => fp32Log2 rn) va)
  | 0x0D => laneResult (lane2 (fun e a b => fpDiv .fp32 rm (fp a) (fp b) (dr e)) va vb)
  | 0x0E => laneResult (lane1 (fun e a => fpSqrt .fp32 rm (fp a) (dr e)) va)
  | 0x10 => laneResult (lane2 (intLane (fun a b => a + b)) va vb)
  | 0x11 => laneResult (lane2 (intLane (fun a b => a + 2 ^ 32 - b)) va vb)
  | 0x12 => laneResult (lane2 (intLane (fun a b => a * b)) va vb)
  | 0x13 => laneResult (lane2 (intLane (fun a b => a &&& b)) va vb)
  | 0x14 => laneResult (lane2 (intLane (fun a b => a ||| b)) va vb)
  | 0x15 => laneResult (lane2 (intLane (fun a b => a ^^^ b)) va vb)
  | 0x16 => laneResult (lane2 (intLane (fun a b => a <<< (b % 32))) va vb)
  | 0x17 => laneResult (lane2 (intLane (fun a b => a >>> (b % 32))) va vb)
  | 0x18 => laneResult (lane2 (intLane (fun a b => wrap 32 (signed 32 a / 2 ^ (b % 32)))) va vb)
  | 0x19 => laneResult (lane2 (intLane (fun a b => if signed 32 a < signed 32 b then a else b)) va vb)
  | 0x1A => laneResult (lane2 (intLane (fun a b => if signed 32 a < signed 32 b then b else a)) va vb)
  | 0x1B => laneResult (lane2 (intLane (fun a b => if a = b then 0xFFFFFFFF else 0)) va vb)
  | 0x1C => laneResult (lane2 (intLane (fun a b => if signed 32 a < signed 32 b then 0xFFFFFFFF else 0)) va vb)
  | 0x20 => laneResult (lane3 (fun _ a b c => (if c ≠ 0 then a else b, 0)) va vb vc)
  | 0x21 => (ofLanes (List.replicate 32 q.sA), 0)
  | 0x23 => (ofLanes (setAt (lanes old) (bField q.word) q.sA), 0)
  | 0x24 => (ofLanes ((lanes vb).map (fun i => (lanes va).getD (i % 32) 0)), 0)
  | 0x25 => (va, 0)
  | 0x28 => let r := reduceTree (fun a b => fpAdd .fp32 rn false (fp a) (fp b) 0) (lanes va); (r.1 % 2 ^ 32, r.2)
  | 0x29 => let r := reduceTree fp32Max (lanes va); (r.1 % 2 ^ 32, r.2)
  | 0x2A => let r := reduceTree fp32Min (lanes va); (r.1 % 2 ^ 32, r.2)
  | 0x2B => ((lanes va).foldl (fun a b => (a + b) % 2 ^ 32) 0, 0)
  | 0x30 => vcvtResult q va old
  | _ => (old, 0)

/-! ### Running one queued instruction -/

/-- An uncorrectable word met by a unit: the error is delivered at a later boundary with this instruction's program counter,
and the instruction writes no result (R132). -/
def Core.unitError (k : Core) (pc nth w : Nat) : Core :=
  ({ k with found := k.found ++ [(.sram, w)] } : Core).pend 0x3183 (some pc) (8 * w) nth

/-- Reads words for a unit: none when one of them is uncorrectable. -/
def Core.unitRead (k : Core) (pc nth : Nat) (ws : List Nat) (then_ : Core → Core) : Core :=
  let k1 := k.readCe ws
  match k1.firstUe ws with
  | some w => k1.unitError pc nth w
  | none => then_ k1

/-- Writes bytes to SRAM for a unit: whole words end an uncorrectable error, a partial one leaves it (R132). -/
def Core.unitWrite (k : Core) (a : Nat) (bs : List Byte) : Core :=
  let whole := (wordsOf a bs.length).filter (fun w => decide (a ≤ 8 * w) && decide (8 * w + 8 ≤ a + bs.length))
  { k with sram := Memory.setBytes k.sram a bs, ue := k.ue.filter (fun w => !whole.contains w),
           ce := k.ce.filter (fun w => !whole.contains w), wback := k.wback.filter (fun w => !whole.contains w) }

/-- Writes an 8 × N block of elements through a tile descriptor from column `c0`: a row at a time, its bytes in one run unless the tile is transposed (R171). -/
def Core.writeTile (k : Core) (td c0 cols : Nat) (els : List Nat) : Core :=
  let sz := fmtSize (tdFmt td)
  (upTo (els.length / cols)).foldl (fun k r =>
    let row := (els.drop (r * cols)).take cols
    if tdTr td then (row.zipIdx).foldl (fun k p => Core.unitWrite k (tdAddr td r (c0 + p.2)) (toBytes sz p.1)) k
    else Core.unitWrite k (tdAddr td r c0) (row.flatMap (toBytes sz))) k

/-- Runs a vector instruction (R163 to R166). -/
def Core.runVector (k : Core) (q : QOp) : Core :=
  let k := k.addCounter 7 1
  let d := dField q.word
  match opField q.word with
  | 0x21 => k.unitRead q.pc q.nth (wordsOf q.sA 128) (fun k => k.setV d (Memory.value k.sram q.sA 128))
  | 0x22 => k.unitWrite q.sA (toBytes 128 (k.vreg d))
  | _ =>
    if bits q.word 5 0 = 0x22 then k.setS d ((lanes (k.vreg (aField q.word))).getD (bField q.word) 0)
    else
      let r := vectorResult q (k.vreg (aField q.word)) (k.vreg (bField q.word)) (k.vreg (cField q.word)) (k.vreg d)
      (k.setV d r.1).raise r.2

/-- Runs MMA (R170). -/
def Core.runMma (k : Core) (q : QOp) : Core :=
  let ta := wordAt q.td 0
  let tb := wordAt q.td 1
  let acc := accField q.word
  let kk := tdCols ta
  let kind := (pairKind (tdFmt ta) (tdFmt tb)).getD 0
  k.unitRead q.pc q.nth (tdWords ta ++ tdWords tb) (fun k =>
    let start := if bit q.word 23 then List.replicate 128 0 else k.accList acc
    let r := mmaTile kind (tdFmt ta) (tdFmt tb) (fun i x => tdElem k.sram ta i x) (fun x j => tdElem k.sram tb x j) kk start
    ((k.setAccFrom acc 0 (codes r)).raise (flagUnion r)).addSteps kind (mmaSteps kind kk))

/-- Runs AST (R171). -/
def Core.runAst (k : Core) (q : QOp) : Core :=
  let td := wordAt q.td 0
  let r := (k.accList (accField q.word)).mapIdx (fun e x => convertOut (tdFmt td) q.rm q.satur x (drawOf q.base e))
  (k.writeTile td 0 16 (codes r)).raise (flagUnion r)

/-- Runs ALD (R171). -/
def Core.runAld (k : Core) (q : QOp) : Core :=
  let td := wordAt q.td 0
  k.unitRead q.pc q.nth (tdWords td) (fun k =>
    k.setAccFrom (accField q.word) 0 ((upTo 128).map (fun i => tdElem k.sram td (i / 16) (i % 16))))

/-- Runs a mixer instruction (R170, R171). -/
def Core.runMixer (k : Core) (q : QOp) : Core :=
  let acc := accField q.word
  let row := bits q.word 22 21 * 2
  match opField q.word with
  | 0x28 => k.setT (bits q.word 25 23) (wordAt q.td 0)
  | 0x29 => k.runMma q
  | 0x2A => k.runAst q
  | 0x2B => k.runAld q
  | 0x2C => k.setAccFrom acc 0 (List.replicate 128 0)
  | _ =>
    if bit q.word 23 then k.setAccFrom acc (row * 16) (lanes (k.vreg (aField q.word)))
    else k.setV (aField q.word) (ofLanes ((upTo 32).map (fun i => k.acc acc (row + i / 16) (i % 16))))

/-! ### Which queued instruction may run -/

/-- Registers an instruction of a unit reads: vector registers by number, accumulators from 100. -/
def QOp.regReads (q : QOp) : List Nat :=
  let acc := 100 + accField q.word
  match opField q.word with
  | 0x20 =>
    match bits q.word 5 0 with
    | 0x03 => [aField q.word, bField q.word, cField q.word]
    | 0x20 => [aField q.word, bField q.word, cField q.word]
    | 0x21 => []
    | 0x23 => [dField q.word]
    | 0x30 => [aField q.word, dField q.word]
    | _ => [aField q.word, bField q.word]
  | 0x22 => [dField q.word]
  | 0x29 => [acc]
  | 0x2A => [acc]
  | 0x2D => if bit q.word 23 then [aField q.word] else [acc]
  | _ => []

/-- Registers an instruction of a unit writes; scalar registers from 200. -/
def QOp.regWrites (q : QOp) : List Nat :=
  let acc := 100 + accField q.word
  match opField q.word with
  | 0x20 => if bits q.word 5 0 = 0x22 then [200 + dField q.word] else [dField q.word]
  | 0x21 => [dField q.word]
  | 0x29 => [acc]
  | 0x2B => [acc]
  | 0x2C => [acc]
  | 0x2D => if bit q.word 23 then [acc] else [aField q.word]
  | _ => []

/-- Two lists share an element. -/
def meets (a b : List Nat) : Bool := a.any (fun x => b.contains x)
/-- Two lists of byte ranges overlap. -/
def spansMeet (a b : List (Nat × Nat)) : Bool := a.any (fun x => b.any (fun y => overlaps x.1 x.2 y.1 y.2))

/-- Registers an entry of the unit queues reads and writes; a recipe holds every accumulator (R215). -/
def UnitItem.regs (u : UnitItem) : List Nat × List Nat :=
  match u with
  | .op q => (q.regReads, q.regWrites)
  | .recipe _ => ([], [100, 101, 102, 103])

/-- The later entry must wait for the earlier one (R122 to R124). -/
def mustWait (u v : UnitItem) : Bool :=
  let isMixer (x : UnitItem) : Bool := match x with | .op q => q.mixer | .recipe _ => true
  (isMixer u == isMixer v) || meets u.regs.2 (v.regs.1 ++ v.regs.2) || meets u.regs.1 v.regs.2 ||
    spansMeet u.writes (v.reads ++ v.writes) || spansMeet u.reads v.writes

/-- The SRAM a recipe's operands span that lie in data SRAM. -/
def Recipe.operandWords (r : Recipe) : List Nat := ([4, 5, 6, 8, 9, 10, 11].map (wordAt r.block)).flatMap (fun td =>
  if tdSrc td = 0 ∧ td ≠ 0 then tdWords td else [])

/-- The value a descriptor register holds for the instruction about to issue (R149, R168): that of the latest TDESC still in the mixer queue, if any. -/
def Core.tdNow (k : Core) (n : Nat) : Nat :=
  k.uq.foldl (fun v u => match u with
    | .op q => if opField q.word = 0x28 ∧ bits q.word 25 23 = n then wordAt q.td 0 else v
    | .recipe _ => v) (k.treg n)

/-- The core with the store-buffer entries drained that an access to these ranges overlaps (R130). -/
def Core.drainSpans (k : Core) (l : List (Nat × Nat)) : Core := l.foldl (fun k r => k.drainFor r.1 r.2) k

/-- Runs the first entry that need not wait for an earlier one; a recipe that may begin takes its operands as they stand, and notes the first
uncorrectable word among them (R122, R132, R205). None when nothing can move. Log entry 102. -/
def Core.runOne (k : Core) (before after : List UnitItem) : Option Core :=
  match after with
  | [] => none
  | u :: r =>
    if before.any (fun b => mustWait b u) then Core.runOne k (before ++ [u]) r
    else match u with
      | .op q => some (if q.mixer then ({ k with uq := before ++ r } : Core).runMixer q else ({ k with uq := before ++ r } : Core).runVector q)
      | .recipe rc =>
        match rc.mem with
        | some _ => Core.runOne k (before ++ [u]) r
        | none => some { k.readCe rc.operandWords with
            uq := before ++ [.recipe { rc with mem := some k.sram, bad := k.firstUe rc.operandWords }] ++ r }

/-- Runs the unit queues as far as they go. -/
def Core.runUnits (k : Core) (fuel : Nat) : Core :=
  match fuel with
  | 0 => k
  | n + 1 =>
    match k.runOne [] k.uq with
    | none => k
    | some k1 => Core.runUnits k1 n

/-- Entries of a unit's queue. -/
def Core.unitLen (k : Core) (mixer : Bool) : Nat :=
  (k.uq.filter (fun u => match u with | .op q => q.mixer == mixer | .recipe _ => mixer)).length

/-- Issues an instruction into its unit's queue: 8 entries for the vector unit, 4 for the mixer (R122). -/
def Core.enqueue (k : Core) (q : QOp) : Issue :=
  if (if q.mixer then 4 else 8) ≤ k.unitLen q.mixer then .stall
  else .done (Core.runUnits { k with uq := k.uq ++ [.op q] } 16).advance []

end Sys2Proof.Machine
end

