-- ==== Sys2Proof/Machine/Mixer.lean ====
section
/-! DEFINITION. Tile descriptors and the mixer instructions as they issue (R167 to R171). -/

namespace Sys2Proof.Machine

/-- A queued mixer instruction as it issues, with the descriptors it names. -/
def mixerEntry (k : Core) (w : Nat) (draws : Bool) (td : List Nat) : Core × QOp :=
  let t := if draws ∧ k.csr.rm = 4 then k.takeDraw else (k, 0)
  (t.1, { mixer := true, word := w, pc := k.pc, sA := 0, rm := k.csr.rm, satur := k.csr.satur, base := t.2, td := td, nth := k.counter 6 })

/-- Issues a mixer instruction that names no descriptor. -/
def mixerOp (_ : State) (k : Core) (w : Nat) : Issue :=
  if 4 ≤ k.unitLen true then .stall else let e := mixerEntry k w false []; e.1.enqueue e.2

/-- TDESC: checks a descriptor and queues its load (R122, R168). -/
def execTdesc (c : Nat) (s : State) : Out :=
  issue .tdesc c s (fun _ k w =>
    if 4 ≤ k.unitLen true then .stall
    else whenFree k [aField w, aField w + 1]
      (let v := k.pair (aField w)
       match tdescFault v with
       | some f => .trap k f.1 f.2
       | none => let e := mixerEntry k w false [v]; e.1.enqueue e.2))

/-- MMA: shapes and formats are checked at issue (R170). -/
def execMma (c : Nat) (s : State) : Out :=
  issue .mma c s (fun _ k w =>
    let ta := k.tdNow (bits w 21 19)
    let tb := k.tdNow (bits w 18 16)
    if tdSrc ta ≠ 0 ∨ tdSrc tb ≠ 0 ∨ tdRows ta ≠ 8 ∨ tdCols tb ≠ 16 ∨ tdCols ta ≠ tdRows tb ∨
       (pairKind (tdFmt ta) (tdFmt tb)).isNone then .trap k 0x3182 0
    else if 4 ≤ k.unitLen true then .stall
    else let e := mixerEntry (k.drainSpans [tileSpan ta, tileSpan tb]) w false [ta, tb]; e.1.enqueue e.2)

/-- AST: an 8 × 16 tile; a narrowing store draws under SR (R171, R192). -/
def execAst (c : Nat) (s : State) : Out :=
  issue .ast c s (fun _ k w =>
    let t := k.tdNow (bits w 21 19)
    if tdSrc t ≠ 0 ∨ tdRows t ≠ 8 ∨ tdCols t ≠ 16 then .trap k 0x3182 0
    else if 4 ≤ k.unitLen true then .stall
    else
      let e := mixerEntry (k.drainSpans [tileSpan t]) w (decide (tdFmt t ≠ 5) && decide (tdFmt t ≠ 6)) [t]
      e.1.enqueue e.2)

/-- ALD: an 8 × 16 tile of FP32 or INT32 (R171). -/
def execAld (c : Nat) (s : State) : Out :=
  issue .ald c s (fun _ k w =>
    let t := k.tdNow (bits w 21 19)
    if tdSrc t ≠ 0 ∨ tdRows t ≠ 8 ∨ tdCols t ≠ 16 ∨ (tdFmt t ≠ 5 ∧ tdFmt t ≠ 6) then .trap k 0x3182 0
    else if 4 ≤ k.unitLen true then .stall
    else let e := mixerEntry (k.drainSpans [tileSpan t]) w false [t]; e.1.enqueue e.2)

/-- AZERO (R171). -/
def execAzero (c : Nat) (s : State) : Out := issue .azero c s mixerOp
/-- AXV (R171). -/
def execAxv (c : Nat) (s : State) : Out := issue .axv c s mixerOp
/-- AVX (R171). -/
def execAvx (c : Nat) (s : State) : Out := issue .avx c s mixerOp

end Sys2Proof.Machine
end

