-- ==== Sys2Proof/Machine/Message.lean ====
section
/-! DEFINITION. Sending and receiving messages from a core, and the credit they need (R173 to R175, R240 to R246). -/

namespace Sys2Proof.Machine

/-- Half CCLK of a field's clock; 3 of them are 2 MCLK (R7, R242). -/
def State.half (s : State) (c : Nat) : Nat := (s.field (fieldOf c)).clk.halfCclk

/-- The partition a core's field belongs to. -/
def State.partOfCore (s : State) (c : Nat) : Option Nat := s.partOf (fieldOf c)

/-- A core's packet to another core; what it sends itself stays inside its interface (R246). -/
def corePacket (s : State) (c dst vc : Nat) (ctl : Bool) (task : DWord) (tag : Nat) (b : Payload) : Packet :=
  { src := .core c, dst := .core dst, vc := vc, ctl := ctl, bus := decide (c = dst), part := s.partOfCore c, tag := tag,
    task := task, at' := 0, body := b }

/-- The credit entry for a destination and channel. -/
def NetIf.entry (n : NetIf) (dst vc : Nat) : Option CreditEntry := n.credits.find? (fun e => decide (e.dst = dst ∧ e.vc = vc))
/-- The other credit entries, least recently used first. -/
def NetIf.others (n : NetIf) (dst vc : Nat) : List CreditEntry := n.credits.filter (fun e => !decide (e.dst = dst ∧ e.vc = vc))

/-- What the interface does for a message of `n` slots (R242): credit taken; or a request sent and the message, a recipe's or the steward's, to wait; while another
message waits for the same credit it waits behind that one (R247). -/
def Core.sendCredit (k : Core) (s : State) (c dst vc n : Nat) (recipe : Bool) : Bool × Core × List Packet :=
  let h := s.half c
  let others := k.nif.others dst vc
  let place (e : CreditEntry) (l : List CreditEntry) : Core := { k with nif := { k.nif with credits := l ++ [e] } }
  let want (held : Nat) : Nat := min 64 (max n 16) - held
  let ask (held : Nat) : Packet :=
    corePacket s c dst vc true k.desc.taskId k.nif.nextTag (.creditReq (want held))
  match k.nif.entry dst vc with
  | some e =>
    if e.waiter = some !recipe then (false, k, [])
    else if n ≤ e.held then (true, place { e with held := e.held - n, lastUse := h, waiter := none } others, [])
    else if e.asked ∨ e.retryAt.isSome then (false, place { e with waiter := some recipe } others, [])
    else (false, place { e with asked := true, want := want e.held, lastUse := h, waiter := some recipe } others, [ask e.held])
  | none =>
    let e : CreditEntry := { dst := dst, vc := vc, held := 0, want := want 0, lastUse := h, asked := true, retryAt := none, waiter := some recipe }
    match others with
    | old :: rest =>
      if 8 ≤ others.length then
        let back := if old.held = 0 then [] else
          [corePacket s c old.dst old.vc true k.desc.taskId k.nif.nextTag (.creditReturn old.held)]
        (false, place e rest, back ++ [ask 0])
      else (false, place e others, [ask 0])
    | [] => (false, place e [], [ask 0])

/-- The commit notice that goes before a task's first packet with an effect outside the core (R502). -/
def Core.commitFirst (k : Core) (c : Nat) : Core × List Packet :=
  if k.commit then (k, [])
  else ({ k with commit := true }, [busPacket (.core c) (ownField c) k.desc.taskId 0 .commitNotice])

/-- Hands a message to the mesh: credit is already taken (R174, R244). `bind` is the FS_BEN binding of a finish-send. -/
def Core.handOver (k : Core) (s : State) (c dst vc : Nat) (data : List Byte) (bind : Option (Nat × Nat × Nat)) : Core × List Packet :=
  let cm := k.commitFirst c
  let k1 := cm.1
  let tag := k1.nif.nextTag % 65536
  let u : Unacked := { tag := tag, seq := k1.nif.sendSeq, dst := dst, vc := vc, at' := s.tstamp, len := data.length,
                       task := k1.desc.taskId, bind := bind }
  let n1 := { k1.nif with unacked := k1.nif.unacked ++ [u], sendSeq := k1.nif.sendSeq + 1, nextTag := (tag + 1) % 65536 }
  ({ k1 with nif := n1 }, cm.2 ++ [corePacket s c dst vc false k1.desc.taskId tag (.msg data)])

/-- A core may be addressed by a partition's task: it exists and its field lies in the partition (R174). -/
def State.inPartOf (s : State) (c dst : Nat) : Bool :=
  decide (dst < nCores) && decide (s.partOfCore c ≠ none) && decide (s.partOfCore dst = s.partOfCore c)

/-- Issue goes on when a finish-send that held it has left (R244). -/
def Core.endHold (k : Core) : Core :=
  if k.finHold then { k with finHold := false, run := if k.run = .sleepSend then .run else k.run } else k

/-- SEND: operand checks, credit, payload, message (R174). A core without credit, or with 16 messages unacknowledged, sleeps
in SLEEP_SEND at this instruction; CORE_WAKE makes it try again. A payload with an uncorrectable word sends nothing; the slots it took stay taken
(DESIGN CHOICE, log entry 87). -/
def sendBody (c : Nat) (s : State) (k : Core) (w : Nat) : Issue :=
  let dst := k.sreg (aField w)
  let a := k.sreg (bField w)
  let len := k.sreg (cField w)
  let vc := msVc w
  if sramSize < a + len ∨ sramSize ≤ a then .trap k 0x3180 a
  else if a % 8 ≠ 0 then .trap k 0x3181 a
  else if len % 8 ≠ 0 ∨ len < 8 ∨ 4032 < len ∨ !s.inPartOf c dst then .trap k 0x3186 0
  else if k.readBlocked a len then .stall
  else if 16 ≤ k.nif.unacked.length then .sleep { k with run := .sleepSend } []
  else
    let r := k.sendCredit s c dst vc (slotsFor len) false
    if r.1 then
      let k1 := r.2.1.drainFor a len
      let k2 := k1.readCe (wordsOf a len)
      match k2.firstUe (wordsOf a len) with
      | some u => .done ({ k2.unitError k.pc (k.counter 6) u with run := .run } : Core).advance []
      | none =>
        let h := k2.handOver s c dst vc (Memory.bytes k2.sram a len) none
        .done ({ h.1 with run := .run } : Core).advance h.2
    else .sleep { r.2.1 with run := .sleepSend } r.2.2

/-- SEND (R173, R174). -/
def execSend (c : Nat) (s : State) : Out :=
  issue .send c s (fun s k w => whenFree k [aField w, bField w, cField w] (sendBody c s k w))

/-! ### Receiving -/

/-- A queue's interface takes a credit request (R241, R485): a sender the deterministic lock shuts out is answered LOST; a request that fits is granted, and in deterministic mode
the grant sets the lock. `none` where it must wait for slots. -/
def takeRequest (s : State) (c vc : Nat) (q : InQueue) (r : CreditWait) : Option (InQueue × Packet) :=
  let answer (b : Payload) : Packet := corePacket s c r.core vc true r.task r.tag b
  if s.detMode && q.lock.isSome && decide (q.lock ≠ some r.core) then some (q, answer (.lost 0x3149 (.core c) (.creditReq r.slots)))
  else if r.slots ≤ q.free then
    some ({ q with free := q.free - r.slots, lock := if s.detMode then some r.core else q.lock }, answer (.creditGrant r.slots))
  else none

/-- Serves the waiting requests, oldest first, while slots last (R241): the packets that answer them. -/
def grantWaiting (s : State) (c vc : Nat) (q : InQueue) (waiting : List CreditWait) : InQueue × List Packet :=
  match waiting with
  | [] => ({ q with waiting := [] }, [])
  | r :: rest =>
    match takeRequest s c vc q r with
    | some (q1, p) =>
      let g := grantWaiting s c vc q1 rest
      (g.1, p :: g.2)
    | none => ({ q with waiting := r :: rest }, [])

/-- Returns slots to a queue, never above 64, and serves the waiting requests first (R241). -/
def InQueue.giveBack (q : InQueue) (s : State) (c vc n : Nat) : InQueue × List Packet :=
  grantWaiting s c vc { q with free := min 64 (q.free + n) } q.waiting

/-- Takes the oldest whole message off a queue and frees its slots (R133, R241). -/
def Core.popMsg (k : Core) (s : State) (c vc : Nat) : Option (Msg × Core × List Packet) :=
  let q := k.queue vc
  match q.msgs with
  | [] => none
  | m :: rest =>
    let g := InQueue.giveBack { q with msgs := rest } s c vc (slotsFor m.data.length)
    some (m, (k.setQueue vc g.1).addCounter 12 1, g.2)

/-- A recipe of the queue is still to take slices from inbox queue `vc` (R218). -/
def Core.arrivalPending (k : Core) (vc : Nat) : Bool :=
  k.uq.any (fun u => match u with
    | .op _ => false
    | .recipe r =>
      let w0 := wordAt r.block 0
      let td := match bits w0 49 48 with | 1 => wordAt r.block 4 | 2 => wordAt r.block 5 | _ => wordAt r.block 6
      let per := if bits w0 63 56 = 16 then 16 else if bits w0 49 48 = 1 then tdCols td else tdRows td
      decide (bits w0 49 48 ≠ 0) && decide (tdVc td = vc) && decide (r.slices.length < bits (wordAt r.block 1) 63 48 / per))

/-- RECV: the oldest whole message, or sleep in SLEEP_RECV (R175). -/
def recvBody (c : Nat) (s : State) (k : Core) (w : Nat) : Issue :=
  let a := k.sreg (aField w)
  let cap := k.sreg (bField w)
  let vc := msVc w
  if sramSize < a + cap ∨ sramSize ≤ a then .trap k 0x3180 a
  else if a % 8 ≠ 0 then .trap k 0x3181 a
  else if k.arrivalPending vc then .stall
  else match k.popMsg s c vc with
    | none => .sleep { k with run := .sleepRecv } []
    | some (m, k1, out) =>
      if cap < m.data.length then .trap k 0x3186 0
      else if k.writeBlocked a m.data.length then .stall
      else
        let k2 := (k1.drainFor a m.data.length).unitWrite a m.data
        .done (((({ k2 with run := .run } : Core).setS (dField w) m.data.length).setS (dField w + 1) m.sender)).advance out

/-- RECV (R173, R175). -/
def execRecv (c : Nat) (s : State) : Out :=
  issue .recv c s (fun s k w => whenFree k [aField w, bField w, dField w, dField w + 1] (recvBody c s k w))

/-- RPEEK: refused in deterministic mode (R173, R181). -/
def execRpeek (c : Nat) (s : State) : Out :=
  issue .rpeek c s (fun _ k w =>
    if k.csr.det then .trap k 0x3188 0
    else if k.arrivalPending (msVc w) then .stall
    else whenFree k [dField w]
      (k.setS (dField w) (match (k.queue (msVc w)).msgs with | [] => 0 | m :: _ => m.data.length)).okNext)

end Sys2Proof.Machine
end

