-- ==== Sys2Proof/Machine/RecipeMath.lean ====
section
/-! DEFINITION. What a recipe computes: operands, masks, stages, the chain, activations (R206 to R214). -/

namespace Sys2Proof.Machine

/-! ### The descriptor block (R206) -/

/-- A 64-bit word of the block. -/
def rw (b : List Nat) (i : Nat) : Nat := wordAt b i
/-- RID. -/
def rRid (b : List Nat) : Nat := bits (rw b 0) 63 56
/-- ACT. -/
def rAct (b : List Nat) : Nat := bits (rw b 0) 55 53
/-- MASK. -/
def rMask (b : List Nat) : Nat := bits (rw b 0) 52 50
/-- ARR. -/
def rArr (b : List Nat) : Nat := bits (rw b 0) 49 48
/-- FS. -/
def rFs (b : List Nat) : Nat := bits (rw b 0) 47 46
/-- ROWFN. -/
def rRowfn (b : List Nat) : Bool := bit (rw b 0) 45
/-- OFMT. -/
def rOfmt (b : List Nat) : Nat := bits (rw b 0) 44 42
/-- PFMT. -/
def rPfmt (b : List Nat) : Nat := bits (rw b 0) 41 40
/-- FS_VC. -/
def rFsVc (b : List Nat) : Nat := bits (rw b 0) 37 36
/-- ARR_BEN. -/
def rArrBen (b : List Nat) : Bool := bit (rw b 0) 35
/-- ARR_BIND. -/
def rArrBind (b : List Nat) : Nat := bits (rw b 0) 34 32
/-- FS_BEN. -/
def rFsBen (b : List Nat) : Bool := bit (rw b 0) 31
/-- FS_BIND. -/
def rFsBind (b : List Nat) : Nat := bits (rw b 0) 30 28
/-- KTOT. -/
def rKtot (b : List Nat) : Nat := bits (rw b 1) 63 48
/-- KVALID. -/
def rKvalid (b : List Nat) : Nat := bits (rw b 1) 47 32
/-- MOFF, signed. -/
def rMoff (b : List Nat) : Int := signed 32 (rw b 1)
/-- WIN. -/
def rWin (b : List Nat) : Nat := bits (rw b 2) 63 48
/-- SCALE. -/
def rScale (b : List Nat) : Nat := bits (rw b 2) 31 0
/-- ARR_SENDER. -/
def rArrSender (b : List Nat) : Nat := bits (rw b 3) 48 32
/-- FS_DEST. -/
def rFsDest (b : List Nat) : Nat := bits (rw b 3) 16 0
/-- TD_A. -/
def rA (b : List Nat) : Nat := rw b 4
/-- TD_B. -/
def rB (b : List Nat) : Nat := rw b 5
/-- TD_B2. -/
def rB2 (b : List Nat) : Nat := rw b 6
/-- TD_OUT. -/
def rOut (b : List Nat) : Nat := rw b 7
/-- TD_BIAS. -/
def rBias (b : List Nat) : Nat := rw b 8
/-- TD_CSCALE. -/
def rCscale (b : List Nat) : Nat := rw b 9
/-- TD_RES. -/
def rRes (b : List Nat) : Nat := rw b 10
/-- TD_MASK. -/
def rMaskTd (b : List Nat) : Nat := rw b 11
/-- STATS. -/
def rStats (b : List Nat) : Nat := bits (rw b 12) 18 0
/-- The recipe is the chain. -/
def rChain (b : List Nat) : Bool := decide (rRid b = 0x10)
/-- The descriptor of the arriving operand (R216). -/
def rArrTd (b : List Nat) : Nat := match rArr b with | 1 => rA b | 2 => rB b | _ => rB2 b
/-- Extent of one slice along K or L (R216). -/
def rPer (b : List Nat) : Nat := if rChain b then 16 else if rArr b = 1 then tdCols (rA b) else tdRows (rArrTd b)
/-- Slices of a launch (R216); none without arrival-start. -/
def rSlices (b : List Nat) : Nat := if rArr b = 0 then 0 else rKtot b / rPer b
/-- Output columns: N, or Dv of the chain. -/
def rCols (b : List Nat) : Nat := if rChain b then tdCols (rB2 b) else tdCols (rB b)
/-- Output blocks of 16 columns (R214). -/
def rBlocks (b : List Nat) : Nat := rCols b / 16
/-- Messages of finish-send (R219). -/
def rMsgs (b : List Nat) : Nat := if rFs b = 0 then 0 else if rChain b then 1 else rBlocks b

/-! ### Operands -/

/-- Element (r, c) of an operand: from SRAM, or from the arrival slices, which are packed without padding (R216).
`alongRows` says whether slices follow one another along the rows. -/
def operand (r : Recipe) (td which : Nat) (alongRows : Bool) (i j : Nat) : Nat :=
  if rArr r.block = which ∧ rArr r.block ≠ 0 then
    let per := rPer r.block
    let sl := (r.slices).getD ((if alongRows then i else j) / per) []
    let i' := if alongRows then i % per else i
    let j' := if alongRows then j else j % per
    let sz := fmtSize (tdFmt td)
    let o := (if tdTr td then j' * tdRows td + i' else i' * tdCols td + j') * sz
    ofBytes ((sl.drop o).take sz)
  else tdElem (r.mem.getD []) td i j

/-- A bit of the bitmap mask: bit `j` of row `i` (R210). -/
def maskBit (r : Recipe) (i j : Nat) : Bool := bit (tdElem (r.mem.getD []) (rMaskTd r.block) i (j / 8)) (j % 8)

/-- A of a product after the mask (R210). -/
def productA (r : Recipe) (i k : Nat) : Nat :=
  let masked := match rMask r.block with
    | 1 => decide (rKvalid r.block ≤ k)
    | 4 => !maskBit r i k
    | _ => false
  if masked then 0 else operand r (rA r.block) 1 false i k

/-- B or B2 of a product after the mask (R210). -/
def productB (r : Recipe) (td which k j : Nat) : Nat :=
  if rMask r.block = 1 ∧ rKvalid r.block ≤ k then 0 else operand r td which true k j

/-! ### Activations (R209) -/

/-- log2 e with 120 fraction bits. -/
def log2e : Nat := 1917670637729674084946755258930051709

/-- x / (1 + 2^(-t)) to well below the FP32 grid, from below, `t` in units of 2^-90. Where |x| is below 2^-60 the value is x / 2, a little above it for a positive x and
a little below it for a negative one. -/
def logisticMag (m : Nat) (e : Int) (neg : Bool) (t : Int) : Mag :=
  if (bitLen m : Int) + e < -60 then { m := (m <<< 30) - b2n neg, e := e - 31, sticky := true }
  else
    let n := (-t) / (2 ^ 90 : Int)
    let f := ((-t) % (2 ^ 90 : Int)).toNat
    -- an upper bound of 2^(-t): the roots, the product and the cut of `t` lose less than this
    let ex := exp2Frac f
    let hi := ex + (ex >>> 86) + 1024
    if 400 < n then { m := 1, e := -1000, sticky := true }
    else
      let den := (1 <<< 128) + (if 0 ≤ n then hi <<< n.toNat else hi >>> (-n).toNat) + 1
      { m := (m <<< 300) / den, e := e + 128 - 300, sticky := true }

/-- log2 e · x for a finite number, in units of 2^-90; large magnitudes are cut at 2^10. -/
def timesLog2e (m : Nat) (e : Int) : Nat :=
  if (bitLen m : Int) + e > 10 then 1024 <<< 90
  else
    let p := m * log2e
    let sh := e - 30
    if 0 ≤ sh then p <<< sh.toNat else p >>> (-sh).toNat

/-- The argument of GELU's logistic form: 2 · 0.797 884 56 · (x + 0.044 715 x³) as mantissa over 10^14 and exponent. -/
def geluArg (m : Nat) (e : Int) : Nat × Int :=
  -- 2·0.79788456·m·2^e·(1 + 0.044715·m²·2^(2e)), cut where it is far beyond the range
  if (bitLen m : Int) + e > 10 then (1, 10)
  else
    let e2 := 2 * e
    let sq := m * m * 44715
    let k := if 0 ≤ e2 then ((1000000 <<< 100) + (sq <<< e2.toNat <<< 100), (-100 : Int))
             else ((1000000 <<< 100) + (sq <<< 100) >>> (-e2).toNat, (-100 : Int))
    -- (2 · 79788456 / 10^8) · m · k / 10^6, kept as a 60-bit-plus integer quotient
    let num := 159576912 * m * k.1
    (((num <<< 60) / 100000000000000), e - 160)

/-- The delivered neighbour of an activation's exact magnitude: within 2 ulp, the free value choosing; the second code above the exact value is more than 2 ulp away where a
binade lies between (R209, log entry 9). -/
def activationResult (act operandCode : Nat) (neg : Bool) (x : Mag) : FRes :=
  let base := (roundMag .fp32 1 false false x 0).1
  let d := min (Config.activationUlp act operandCode % 4) (if base % 2 ^ 23 = 2 ^ 23 - 1 then 2 else 3)
  let code := min 0x7F7FFFFF (base + d - (if base + d = 0 then 0 else 1))
  ((if neg then FFmt.fp32.signBit else 0) + code, flagNX ||| (if code < 0x00800000 then flagUF else 0))

/-- An activation function on an FP32 code (R209). -/
def activation (act code : Nat) : FRes :=
  match fp code with
  | .nan s => (FFmt.fp32.nanCode, if s then flagNV else 0)
  | .inf a =>
    (match act with
     | 0 => code
     | 1 => if a then 0 else code
     | _ => if a then FFmt.fp32.signBit else code, 0)
  | .fin a m e =>
    match act with
    | 0 => (code, 0)
    | 1 => (if a ∨ m = 0 then 0 else code, 0)
    | _ =>
      if m = 0 then (code, 0)
      else if code = 0x00000001 then (code, flagUF ||| flagNX)
      else if code = 0x80000001 then (FFmt.fp32.signBit, flagUF ||| flagNX)
      else if code = 0x7F7FFFFF then (code, flagNX)
      else if code = 0xFF7FFFFF then (FFmt.fp32.signBit, flagUF ||| flagNX)
      else
        let t : Nat := if act = 2 then (let g := geluArg m e; timesLog2e g.1 g.2) else timesLog2e m e
        activationResult act code a (logisticMag m e a (if a then -(t : Int) else (t : Int)))

/-! ### Product recipes (R208) -/

/-- Applies a stage to every element of a block, its index given. -/
def stage (f : Nat → Nat → FRes) (x : List Nat × Nat) : List Nat × Nat :=
  let r := x.1.mapIdx f
  (codes r, x.2 ||| flagUnion r)

/-- A widened vector or tile element as a number: BF16, FP16 or FP32 (R208). -/
def widened (r : Recipe) (td i j : Nat) : Fp := (fmtFloat (tdFmt td)).decode (tdElem (r.mem.getD []) td i j)

/-- The dequantise stage (R208). -/
def dequantise (r : Recipe) (int8 : Bool) (n : Nat) (x : List Nat × Nat) : List Nat × Nat :=
  stage (fun i v =>
    let c := if int8 then intToFp 32 0 v 0 else (v, 0)
    let y := fpMul .fp32 0 (fp c.1) (widened r (rCscale r.block) 0 (16 * n + i % 16)) 0
    (y.1, c.2 ||| y.2)) x

/-- The bias stage (R208). -/
def biasStage (r : Recipe) (n : Nat) (x : List Nat × Nat) : List Nat × Nat :=
  stage (fun i v => fpAdd .fp32 0 false (fp v) (widened r (rBias r.block) 0 (16 * n + i % 16)) 0) x

/-- The activation stage (R208, R209). -/
def actStage (r : Recipe) (x : List Nat × Nat) : List Nat × Nat := stage (fun _ v => activation (rAct r.block) v) x

/-- The residual stage (R208). -/
def resStage (r : Recipe) (n : Nat) (x : List Nat × Nat) : List Nat × Nat :=
  stage (fun i v => fpAdd .fp32 0 false (fp v) (widened r (rRes r.block) (i / 16) (16 * n + i % 16)) 0) x

/-- The output scale stage (R208). -/
def scaleStage (r : Recipe) (x : List Nat × Nat) : List Nat × Nat :=
  stage (fun _ v => fpMul .fp32 0 (fp v) (fp (rScale r.block)) 0) x

/-- The product of A with one 16-column panel (R208). -/
def productOf (r : Recipe) (td which n : Nat) : List Nat × Nat :=
  let kind := (pairKind (tdFmt (rA r.block)) (tdFmt td)).getD 0
  let x := mmaTile kind (tdFmt (rA r.block)) (tdFmt td) (productA r) (fun k j => productB r td which k (16 * n + j))
    (rKtot r.block) (List.replicate 128 0)
  (codes x, flagUnion x)

/-- Output block `n` of a product recipe before the convert stage (R207, R208). -/
def productBlock (r : Recipe) (n : Nat) : List Nat × Nat :=
  let x := productOf r (rB r.block) 2 n
  let int8 := decide (tdFmt (rA r.block) = 4)
  match rRid r.block with
  | 0x01 => x
  | 0x02 => biasStage r n x
  | 0x03 => actStage r (biasStage r n x)
  | 0x04 => resStage r n (actStage r (biasStage r n x))
  | 0x05 => actStage r (biasStage r n (dequantise r int8 n x))
  | 0x06 => scaleStage r (actStage r (biasStage r n (dequantise r int8 n x)))
  | _ =>
    let g := actStage r x
    let y := productOf r (rB2 r.block) 3 n
    let z := stage (fun i v => fpMul .fp32 0 (fp v) (fp (wordAt y.1 i)) 0) g
    (z.1, z.2 ||| y.2)

/-- The convert stage of block `n` (R208, R214). -/
def convertBlock (r : Recipe) (n : Nat) (x : List Nat × Nat) : List Nat × Nat :=
  stage (fun e v => convertOut (rOfmt r.block) r.rm r.satur v (drawOf ((r.base + n) % 2 ^ 32) e)) x

/-! ### The chain (R211, R212) -/

/-- One row's running state: maximum, sum, and the weighted sum of V's rows. -/
structure ChainRow where
  m : Nat
  l : Nat
  o : List Nat
deriving DecidableEq, Repr

/-- −∞ in FP32. -/
def negInf : Nat := 0xFF800000

/-- A score is masked (R210). -/
def scoreMasked (r : Recipe) (i l : Nat) : Bool :=
  let b := r.block
  match rMask b with
  | 1 => decide (rKvalid b ≤ l)
  | 2 => decide ((i : Int) + rMoff b < (l : Int))
  | 3 => decide ((i : Int) + rMoff b < (l : Int)) || decide ((l : Int) ≤ (i : Int) + rMoff b - (rWin b : Int))
  | 4 => !maskBit r i l
  | _ => false

/-- A probability in PFMT; a subnormal result is +0 and raises FZ in place of UF (R211). -/
def toPfmt (f : FFmt) (code : Nat) : FRes :=
  let r := fpConvert .fp32 f 0 false code 0
  if r.2.testBit 3 ∨ f.isSubnormal r.1 then (0, (r.2 &&& (63 - flagUF)) ||| flagFZ) else r

/-- The scaled and masked scores of row `i` in block `j`; a masked one raises no flag (R210, R211). -/
def chainScores (r : Recipe) (i j : Nat) : List Nat × Nat :=
  let b := r.block
  let kind := (pairKind (tdFmt (rA b)) (tdFmt (rB b))).getD 0
  let xs := (upTo 16).map (fun c =>
    let p := mmaElem kind (tdFmt (rA b)) (tdFmt (rB b)) (fun k => operand r (rA b) 1 false i k)
      (fun k => operand r (rB b) 2 false k (16 * j + c)) (tdCols (rA b)) 0
    let q := fpMul .fp32 0 (fp (rScale b)) (fp p.1) 0
    if scoreMasked r i (16 * j + c) then (negInf, 0) else (q.1, p.2 ||| q.2))
  (codes xs, flagUnion xs)

/-- Maximum of a row of 16 scores, as VRMAXF (R211). -/
def rowMax (x : List Nat) : FRes :=
  x.tail.foldl (fun (a : FRes) v => let r := fp32Max a.1 v; (r.1, a.2 ||| r.2)) (x.headD 0, 0)

/-- One block of the chain for one row (R211): the new row state and the flags. A row masked throughout up to and with this block stays as it began and raises no flag
(R212). -/
def chainBlock (r : Recipe) (i j : Nat) (st : ChainRow) : ChainRow × Nat :=
  if (upTo (16 * (j + 1))).all (scoreMasked r i) then (st, 0) else
  let b := r.block
  let pf := fmtFloat (rPfmt b)
  let s := chainScores r i j
  let rm := rowMax s.1
  let mx := fp32Max st.m rm.1
  let mn := mx.1
  let pick : FRes × List FRes × Nat :=
    if mn = negInf then ((0x3F800000, 0), List.replicate 16 (0, 0), 0)
    else
      let d := fpAdd .fp32 0 false (fp st.m) (fp mn).negate 0
      let a := fp32Exp2 0 d.1
      let ps := s.1.map (fun v =>
        let x := fpAdd .fp32 0 false (fp v) (fp mn).negate 0
        let e := fp32Exp2 0 x.1
        let p := toPfmt pf e.1
        (p.1, x.2 ||| e.2 ||| p.2))
      ((a.1, d.2 ||| a.2), ps, 0)
  let alpha := pick.1
  let ps := pick.2.1
  let l0 := fpMul .fp32 0 (fp alpha.1) (fp st.l) 0
  let l1 := ps.foldl (fun (a : FRes) p =>
    let y := fpAdd .fp32 0 false (fp a.1) (pf.decode p.1) 0
    (y.1, a.2 ||| y.2)) l0
  let o0 : List FRes := if alpha.1 = 0x3F800000 then st.o.map (fun v => (v, 0))
    else st.o.map (fun v => fpMul .fp32 0 (fp alpha.1) (fp v) 0)
  let kind := (pairKind (rPfmt b) (tdFmt (rB2 b))).getD 0
  let o1 := (codes o0).mapIdx (fun d v =>
    mmaElem kind (rPfmt b) (tdFmt (rB2 b)) (fun k => wordAt (codes ps) k) (fun k => operand r (rB2 b) 3 true (16 * j + k) d) 16 v)
  ({ m := mn, l := l1.1, o := codes o1 },
   s.2 ||| rm.2 ||| mx.2 ||| alpha.2 ||| flagUnion ps ||| l1.2 ||| flagUnion o0 ||| flagUnion o1)

/-- One row of the chain over all blocks. -/
def chainRow (r : Recipe) (i : Nat) : ChainRow × Nat :=
  (upTo (rKtot r.block / 16)).foldl (fun st j =>
    let x := chainBlock r i j st.1
    (x.1, st.2 ||| x.2)) ({ m := negInf, l := 0, o := List.replicate (rCols r.block) 0 }, 0)

/-- The chain's rows. -/
def chainRows (r : Recipe) : List (ChainRow × Nat) := (upTo 8).map (chainRow r)

/-- The FP32 output of the chain, row by row, normalised unless ROWFN is 1 (R211, R213). -/
def chainOut (r : Recipe) (rows : List (ChainRow × Nat)) : List FRes :=
  rows.flatMap (fun x => x.1.o.map (fun v =>
    if rRowfn r.block then (v, 0)
    else if fpEq (fp x.1.l) (fp 0) then (0, 0) else fpDiv .fp32 0 (fp v) (fp x.1.l) 0))

/-- The chain's output in OFMT, row by row (R214). -/
def chainConverted (r : Recipe) (rows : List (ChainRow × Nat)) : List FRes :=
  let dv := rCols r.block
  (codes (chainOut r rows)).mapIdx (fun i v =>
    convertOut (rOfmt r.block) r.rm r.satur v
      (drawOf ((r.base + i % dv / 16) % 2 ^ 32) (i / dv * 16 + i % dv % 16)))

/-- The statistics record (R213). -/
def chainStats (rows : List (ChainRow × Nat)) : List Byte := rows.flatMap (fun x => toBytes 4 x.1.m ++ toBytes 4 x.1.l)

/-! ### Blocks as they are delivered -/

/-- What finish-send message or stored part `n` holds: the 8 × 16 block of a product, the whole output of a chain. -/
def deliverBlock (r : Recipe) (n : Nat) : List Nat :=
  if rChain r.block then codes (chainConverted r (chainRows r)) else (convertBlock r n (productBlock r n)).1

/-- The bytes of finish-send message `n` (R219). -/
def messageBytes (r : Recipe) (n : Nat) : List Byte :=
  let body := (deliverBlock r n).flatMap (fun v => toBytes (fmtSize (rOfmt r.block)) v)
  if rChain r.block && rRowfn r.block then body ++ chainStats (chainRows r) else body

/-- Every flag the recipe's stages raise (R215). -/
def recipeFlags (r : Recipe) : Nat :=
  if rChain r.block then
    let rows := chainRows r
    rows.foldl (fun a x => a ||| x.2) 0 ||| flagUnion (chainOut r rows) ||| flagUnion (chainConverted r rows)
  else (upTo (rBlocks r.block)).foldl (fun a n => a ||| (convertBlock r n (productBlock r n)).2) 0

/-- Mixer steps of the recipe's multiplier stages, by the kind of their operands (R519). -/
def recipeSteps (r : Recipe) : List (Nat × Nat) :=
  let b := r.block
  let kind := (pairKind (tdFmt (rA b)) (tdFmt (rB b))).getD 0
  if rChain b then
    let kv := (pairKind (rPfmt b) (tdFmt (rB2 b))).getD 0
    [(kind, rKtot b / 16 * mmaSteps kind (tdCols (rA b))), (kv, rKtot b / 16 * (rBlocks b * mmaSteps kv 16))]
  else [(kind, rBlocks b * mmaSteps kind (rKtot b) * (if rRid b = 8 then 2 else 1))]
/-- Counts them. -/
def Core.recipeCount (k : Core) (r : Recipe) : Core := (recipeSteps r).foldl (fun k (p : Nat × Nat) => k.addSteps p.1 p.2) k

/-- Stores block `n` through TD_OUT (R208, R219). -/
def Core.storeBlock (k : Core) (r : Recipe) (n : Nat) : Core :=
  if rChain r.block then k.writeTile (rOut r.block) 0 (rCols r.block) (deliverBlock r n)
  else k.writeTile (rOut r.block) (16 * n) 16 (deliverBlock r n)

end Sys2Proof.Machine
end

