-- ==== Sys2Proof/Machine/Recipe.lean ====
section
/-! DEFINITION. Recipe launch and the recipe's own events (R172, R205, R215 to R224). -/

namespace Sys2Proof.Machine

/-! ### Launch checks (R220 to R223) -/

/-- RIDs of the menu (R207). -/
def ridListed (rid : Nat) : Bool := [0x01, 0x02, 0x03, 0x04, 0x05, 0x06, 0x08, 0x10].contains rid
/-- RIDs with a bias stage. -/
def ridBias (rid : Nat) : Bool := [0x02, 0x03, 0x04, 0x05, 0x06].contains rid
/-- RIDs with a dequantise stage. -/
def ridDq (rid : Nat) : Bool := decide (rid = 0x05) || decide (rid = 0x06)
/-- RIDs with an activation. -/
def ridAct (rid : Nat) : Bool := [0x03, 0x04, 0x05, 0x06, 0x08].contains rid

/-- A tile has these rows and columns. -/
def shaped (td rows cols : Nat) : Bool := decide (tdRows td = rows) && decide (tdCols td = cols)

/-- The shape rules common to all recipes (R220). -/
def shapeAll (b : List Nat) : Bool :=
  (decide (rFs b = 1) || decide (tdFmt (rOut b) = rOfmt b)) &&
  (decide (rMask b ≠ 4) || (shaped (rMaskTd b) 8 ((rKtot b + 7) / 8) && decide (tdFmt (rMaskTd b) = 4))) &&
  (decide (rMask b ≠ 1) || (decide (1 ≤ rKvalid b) && decide (rKvalid b ≤ rKtot b))) &&
  (decide (rMask b ≠ 3) || decide (1 ≤ rWin b))

/-- The shape rules of product recipes (R220). -/
def shapeProduct (b : List Nat) : Bool :=
  let n := tdCols (rB b)
  let kt := rKtot b
  let gate := decide (rRid b = 8)
  let spanOk (which extent : Nat) : Bool := if rArr b = which then decide (kt % extent = 0) else decide (extent = kt)
  decide (1 ≤ kt) && decide (tdRows (rA b) = 8) && decide (n % 16 = 0) && decide (n ≤ 1024) &&
  spanOk 1 (tdCols (rA b)) && spanOk 2 (tdRows (rB b)) &&
  (!gate || (spanOk 3 (tdRows (rB2 b)) && decide (tdCols (rB2 b) = n) && decide (tdFmt (rB2 b) = tdFmt (rB b)))) &&
  (decide (rFs b = 1) || shaped (rOut b) 8 n) &&
  (!ridBias (rRid b) || shaped (rBias b) 1 n) &&
  (!ridDq (rRid b) || shaped (rCscale b) 1 n) &&
  (decide (rRid b ≠ 4) || shaped (rRes b) 8 n)

/-- The shape rules of the chain (R220). -/
def shapeChain (b : List Nat) : Bool :=
  let d := tdCols (rA b)
  let l := rKtot b
  let dv := tdCols (rB2 b)
  decide (1 ≤ l) && decide (l % 16 = 0) && decide (tdRows (rA b) = 8) && decide (tdRows (rB b) = d) &&
  decide (tdCols (rB b) = if rArr b = 2 then 16 else l) && decide (tdRows (rB2 b) = if rArr b = 3 then 16 else l) &&
  [16, 32, 48, 64].contains dv && (decide (rFs b = 1) || shaped (rOut b) 8 dv)

/-- R220 holds. -/
def recipeShape (b : List Nat) : Bool := shapeAll b && (if rChain b then shapeChain b else shapeProduct b)

/-- The operand pair of the RID (R207, R221). -/
def pairOk (b : List Nat) : Bool :=
  let k := pairKind (tdFmt (rA b)) (tdFmt (rB b))
  if rChain b then k.isSome && (pairKind (rPfmt b) (tdFmt (rB2 b))).isSome
  else match k with
    | none => false
    | some 2 => decide (rRid b = 1) || ridDq (rRid b)
    | some _ => true

/-- Output formats (R221). -/
def ofmtOk (b : List Nat) : Bool :=
  let int8 := decide (tdFmt (rA b) = 4)
  (decide (rOfmt b ≠ 6) || (decide (rRid b = 1) && int8)) &&
  (!(decide (rRid b = 1) && int8) || decide (rOfmt b = 6)) &&
  (decide (rRid b ≠ 6) || [2, 3, 4].contains (rOfmt b)) &&
  (!rChain b || (decide (rOfmt b ≠ 4) && decide (rOfmt b ≠ 6)))

/-- Formats of bias, column scale and residual (R221). -/
def sideOk (b : List Nat) : Bool :=
  (!ridBias (rRid b) || [0, 1, 5].contains (tdFmt (rBias b))) &&
  (!ridDq (rRid b) || decide (tdFmt (rCscale b) = 5)) &&
  (decide (rRid b ≠ 4) || [0, 1, 5].contains (tdFmt (rRes b)))

/-- Sources: only the operand ARR names comes from an inbox queue (R221). -/
def sourceOk (b : List Nat) : Bool :=
  let src (i which : Nat) : Bool := decide (tdSrc (rw b i) = if rArr b = which ∧ rArr b ≠ 0 then 1 else 0)
  src 4 1 && src 5 2 && src 6 3 && [7, 8, 9, 10, 11].all (fun i => decide (tdSrc (rw b i) = 0))

/-- Fields and words the recipe does not use are 0 (R206, R221). -/
def unusedOk (b : List Nat) : Bool :=
  let rid := rRid b
  let z (used : Bool) (v : Nat) : Bool := used || decide (v = 0)
  z (ridAct rid) (rAct b) && z (rChain b || decide (rid = 6)) (rScale b) &&
  z (decide (rArr b ≠ 0)) (rArrSender b) && z (decide (rArr b ≠ 0)) (b2n (rArrBen b)) && z (rArrBen b) (rArrBind b) &&
  z (decide (rFs b ≠ 0)) (rFsVc b) && z (decide (rFs b ≠ 0)) (rFsDest b) && z (decide (rFs b ≠ 0)) (b2n (rFsBen b)) &&
  z (rFsBen b) (rFsBind b) && z (rChain b) (rPfmt b) && z (decide (rMask b = 1)) (rKvalid b) &&
  z (decide (rMask b = 2) || decide (rMask b = 3)) (bits (rw b 1) 31 0) && z (decide (rMask b = 3)) (rWin b) &&
  z (rChain b || decide (rid = 8)) (rB2 b) && z (decide (rFs b ≠ 1)) (rOut b) && z (ridBias rid) (rBias b) &&
  z (ridDq rid) (rCscale b) && z (decide (rid = 4)) (rRes b) && z (decide (rMask b = 4)) (rMaskTd b) &&
  z (rChain b && rRowfn b && decide (rFs b ≠ 1)) (rStats b)

/-- R221 holds: no rejected combination. -/
def recipeCombination (b : List Nat) : Bool :=
  pairOk b && ofmtOk b && sideOk b && !(!rChain b && (decide (rMask b = 2) || decide (rMask b = 3))) &&
  !(rChain b && decide (rArr b = 1)) && !(decide (rArr b = 3) && !(rChain b || decide (rRid b = 8))) &&
  sourceOk b && !(rRowfn b && !rChain b) && decide (rFs b ≠ 3) && unusedOk b

/-- Accumulators a recipe holds (R222). -/
def recipeAccs (b : List Nat) : Nat :=
  if rChain b then tdCols (rB2 b) / 16
  else (if rArr b = 0 then 2 else tdCols (rB b) / 16) * (if rRid b = 8 then 2 else 1)

/-- Bytes of the staging buffer a recipe needs (R222). -/
def recipeRsb (b : List Nat) : Nat :=
  let n := tdCols (rB b)
  let dv := tdCols (rB2 b)
  let so := fmtSize (rOfmt b)
  (if ridBias (rRid b) then 4 * n else 0) + (if ridDq (rRid b) then 4 * n else 0) +
  (if rMask b = 4 then (8 * ((rKtot b + 7) / 8) + 31) / 32 * 32 else 0) +
  (if rChain b then 32 * dv + 256 * fmtSize (rPfmt b) + 128 else 1024) +
  (if rFs b = 0 then 0 else if rChain b then 8 * dv * so + (if rRowfn b then 64 else 0) else 256 * so)

/-- Bytes of an arrival slice (R216). -/
def sliceBytes (b : List Nat) : Nat := tdRows (rArrTd b) * tdCols (rArrTd b) * fmtSize (tdFmt (rArrTd b))
/-- Bytes of a finish-send message (R219). -/
def sendBytes (b : List Nat) : Nat :=
  if rChain b then 8 * rCols b * fmtSize (rOfmt b) + (if rRowfn b then 64 else 0) else 128 * fmtSize (rOfmt b)

/-- R222 holds: the recipe fits. -/
def recipeFit (b : List Nat) : Bool :=
  decide (recipeAccs b ≤ 4) && decide (recipeRsb b ≤ 8192) && (decide (rArr b = 0) || decide (sliceBytes b ≤ 4032)) &&
  (decide (rFs b = 0) || decide (sendBytes b ≤ 4032))

/-- A reserved bit of the block is set (R206, order 7 of R223). -/
def recipeReserved (b : List Nat) : Bool :=
  decide (bits (rw b 0) 39 38 ≠ 0) || decide (bits (rw b 0) 27 0 ≠ 0) || decide (bits (rw b 2) 47 32 ≠ 0) ||
  decide (bits (rw b 3) 63 49 ≠ 0) || decide (bits (rw b 3) 31 17 ≠ 0) || decide (bits (rw b 12) 63 19 ≠ 0) ||
  decide (rw b 13 ≠ 0) || decide (rw b 14 ≠ 0) || decide (rw b 15 ≠ 0)

/-- A binding of the task with this index and KIND (R87, R97). -/
def Core.bindIs (k : Core) (i kind : Nat) : Bool := decide (i < k.bindCount) && decide (bits (k.bind i) 63 62 = kind)

/-- The first descriptor of the block whose check has this cause, with its address. -/
def blockFault (b : List Nat) (cause : Nat) : Option Nat :=
  ((b.drop 4).take 8).findSome? (fun td => match tdescFault td with
    | some f => if f.1 = cause then some f.2 else none
    | none => none)

/-- The launch checks in the order of R223: the first failure's cause and address. -/
def launchFault (s : State) (c : Nat) (k : Core) (a : Nat) (b : List Nat) : Option (Nat × Nat) :=
  match blockFault b 0x3182 with
  | some _ => some (0x3182, 0)
  | none =>
    if sramSize < a + 128 then some (0x3180, a)
    else match blockFault b 0x3180 with
    | some x => some (0x3180, x)
    | none =>
      if a % 64 ≠ 0 then some (0x3181, a)
      else match blockFault b 0x3181 with
      | some x => some (0x3181, x)
      | none =>
        if rStats b % 64 ≠ 0 then some (0x3181, rStats b)
        else match k.firstUe (wordsOf a 128) with
        | some u => some (0x3183, 8 * u)
        | none =>
          if (rArrBen b && !k.bindIs (rArrBind b) 1) || (rFsBen b && !k.bindIs (rFsBind b) 0) then some (0x3168, 0)
          else if k.csr.det && decide (rArr b ≠ 0) && decide (rArrSender b = 0x1FFFF) then some (0x3188, 0)
          else if recipeReserved b then some (0x3010, 0)
          else if !ridListed (rRid b) || decide (4 ≤ rAct b) || decide (5 ≤ rMask b) || decide (rOfmt b = 7) then some (0x3190, 0)
          else if !recipeShape b then some (0x3191, 0)
          else if !recipeCombination b then some (0x3192, 0)
          else if (decide (rFs b ≠ 0) && !s.inPartOf c (rFsDest b)) ||
              (decide (rArr b ≠ 0) && decide (rArrSender b ≠ 0x1FFFF) && !s.inPartOf c (rArrSender b)) then some (0x3186, 0)
          else if !recipeFit b then some (0x3193, 0)
          else none

/-- The sixteen words of the block at an address. -/
def readBlock (m : Memory) (a : Nat) : List Nat := (upTo 16).map (fun i => Memory.value m (a + 8 * i) 8)

/-- RLAUNCH: the block is read and checked as it stands; older buffered stores that overlap what the recipe reads or writes drain (R124, R130), and a
good recipe joins the mixer queue (R172, R205, R214, R223). -/
def execRlaunch (c : Nat) (s : State) : Out :=
  issue .rlaunch c s (fun s k w =>
    whenFree k [aField w]
      (let a := k.sreg (aField w)
       if k.readBlocked a 128 || decide (4 ≤ k.unitLen true) then .stall
       else
         let k1 := (k.drainFor a 128).readCe (wordsOf a 128)
         let b := readBlock k1.sram a
         match launchFault s c k1 a b with
         | some f => .trap (if f.1 = 0x3183 then { k1 with found := k1.found ++ [(.sram, f.2 / 8)] } else k1) f.1 f.2
         | none =>
           let base := k1.csr.seed.toNat
           let k2 := if k1.csr.rm = 4 then
             { k1 with csr := { k1.csr with seed := k1.csr.seed + BitVec.ofNat 32 (rBlocks b) } } else k1
           let rc : Recipe := { block := b, pc := k.pc, nth := k.counter 6, rm := k.csr.rm, satur := k.csr.satur, base := base, mem := none, bad := none,
                                slices := [], sent := 0 }
           let k3 := k2.drainSpans (UnitItem.reads (.recipe rc) ++ UnitItem.writes (.recipe rc))
           .done (Core.runUnits { k3 with uq := k3.uq ++ [.recipe rc] } 16).advance []))

/-! ### The running recipe -/

/-- The recipe that has begun, with the entries before and after it. -/
def activeRecipe (before after : List UnitItem) : Option (List UnitItem × Recipe × List UnitItem) :=
  match after with
  | [] => none
  | .recipe r :: rest => if r.mem.isSome then some (before, r, rest) else none
  | u :: rest => activeRecipe (before ++ [u]) rest

/-- The fault a running recipe has met (R132, R217, R224): cause and address. -/
def recipeFault (k : Core) (r : Recipe) : Option (Nat × Nat) :=
  match r.bad with
  | some w => some (0x3183, 8 * w)
  | none =>
    if r.slices.length < rSlices r.block then
      match (k.queue (tdVc (rArrTd r.block))).msgs with
      | [] => none
      | m :: _ =>
        if m.data.length ≠ sliceBytes r.block then some (0x3194, 0)
        else if rArrSender r.block ≠ 0x1FFFF ∧ m.sender ≠ rArrSender r.block then some (0x3195, 0)
        else none
    else none

/-- Delivers a fault of an instruction at place `nth`: pending for the next boundary, or, while a later instruction's failure is still to be reported, in its
stead (R145); but of an uncorrectable word and another failure the one delivered first stands. Log entry 103. -/
def Core.deliver (k : Core) (cause : Nat) (pc addr nth : Nat) : Core :=
  match k.ending with
  | .failed .. => if nth < k.errAt ∧ cause ≠ 0x3183 then { k with ending := .failed cause pc addr, errAt := nth } else k
  | _ => k.pend cause (some pc) addr nth

/-- A recipe's fault stops it at once: nothing further is written, no ADVANCE is posted for what it sent, and the fault is delivered as a refusal with the RLAUNCH's
program counter (R224). -/
def Core.failRecipe (k : Core) (before : List UnitItem) (r : Recipe) (f : Nat × Nat) : Core :=
  let quiet (u : Unacked) : Unacked := match u.bind with
    | some (_, _, n) => if n = r.nth then { u with bind := none } else u
    | none => u
  let nif := k.nif.stopWaiting true
  let k1 := ({ k with uq := before, nif := { nif with unacked := nif.unacked.map quiet } } : Core).deliver f.1 r.pc f.2 r.nth
  if f.1 = 0x3183 then { k1 with found := k1.found ++ [(.sram, f.2 / 8)] } else k1

/-- RECIPE_RUN_FAULT (R224). -/
def execRecipeRunFault (c : Nat) (s : State) : Out :=
  onCore c s (fun s =>
    let k := s.core c
    match activeRecipe [] k.uq with
    | none => s
    | some (b, r, _) =>
      match recipeFault k r with
      | none => s
      | some f => (s.setCore c (k.failRecipe b r f)).finishFail c)

/-- RECIPE_ARRIVAL_SLICE: the head message of the arrival queue is checked, taken, its slots freed, and a consumer ADVANCE
posted when ARR_BEN asks for it (R216, R217). -/
def execRecipeArrivalSlice (c : Nat) (s : State) : Out :=
  onCore c s (fun s =>
    let k := s.core c
    match activeRecipe [] k.uq with
    | none => s
    | some (b, r, a) =>
      let vc := tdVc (rArrTd r.block)
      if rSlices r.block ≤ r.slices.length ∨ (rArrBen r.block ∧ 4 ≤ k.outq.length) then s
      else match recipeFault k r, k.popMsg s c vc with
      | some f, _ => (s.setCore c (k.failRecipe b r f)).finishFail c
      | none, none => s
      | none, some (m, k1, out) =>
        let r1 := { r with slices := r.slices ++ [m.data] }
        let k2 : Core := { k1 with uq := b ++ [.recipe r1] ++ a }
        (s.setCore c (if rArrBen r.block then
          k2.post { op := .sadv (rArrBind r.block) 1 true, after := k1.nif.sendSeq, rpc := some (r.pc, r.nth) } else k2)).inject out)

/-- FINISH_SEND: the next finished block leaves for FS_DEST when credit is there; with FS = 2 it is also stored (R219). With 16 messages unacknowledged it waits,
and a steward that runs holds issue in SLEEP_SEND for that time (R244). -/
def execFinishSend (c : Nat) (s : State) : Out :=
  onCore c s (fun s =>
    let k := s.core c
    match activeRecipe [] k.uq with
    | none => s
    | some (b, r, a) =>
      if r.slices.length < rSlices r.block ∨ rMsgs r.block ≤ r.sent ∨ (recipeFault k r).isSome then s
      else if 16 ≤ k.nif.unacked.length then
        (if k.run = .run ∧ k.ending = .none ∧ k.asyncErr.isNone then s.setCore c { k with run := .sleepSend, finHold := true } else s)
      else
        let cr := k.sendCredit s c (rFsDest r.block) (rFsVc r.block) (slotsFor (sendBytes r.block)) true
        if cr.1 then
          let k0 := cr.2.1.endHold
          let k1 := if rFs r.block = 2 then k0.storeBlock r r.sent else k0
          let h := k1.handOver s c (rFsDest r.block) (rFsVc r.block) (messageBytes r r.sent)
            (if rFsBen r.block then some (rFsBind r.block, r.pc, r.nth) else none)
          (s.setCore c { h.1 with uq := b ++ [.recipe { r with sent := r.sent + 1 }] ++ a }).inject h.2
        else (s.setCore c cr.2.1).inject cr.2.2)

/-- RECIPE_FINISH: what is still to be stored is stored, the stages' flags are ORed in, a0 to a3 become zero, and the queues
behind go on (R213, R215). -/
def execRecipeFinish (c : Nat) (s : State) : Out :=
  onCore c s (fun s =>
    let k := s.core c
    match activeRecipe [] k.uq with
    | none => s
    | some (b, r, a) =>
      if r.slices.length < rSlices r.block ∨ r.sent < rMsgs r.block ∨ (recipeFault k r).isSome then s
      else
        let k1 := if rFs r.block = 0 then
          (if rChain r.block then k.storeBlock r 0 else (upTo (rBlocks r.block)).foldl (fun k n => k.storeBlock r n) k) else k
        let k2 := if rChain r.block && rRowfn r.block && decide (rFs r.block ≠ 1)
          then k1.unitWrite (rStats r.block) (chainStats (chainRows r)) else k1
        let k3 := ({ k2 with regs := { k2.regs with a := [] }, uq := b ++ a } : Core)
        (s.setCore c (((k3.raise (recipeFlags r)).recipeCount r).runUnits 16)).finishFail c)

end Sys2Proof.Machine
end

