-- ==== Sys2Proof/Machine/Scalar.lean ====
section
/-! DEFINITION. Scalar instructions, branches and jumps (R156 to R160). -/

namespace Sys2Proof.Machine

/-- An RR instruction: s(D) := f(s(A), s(B)) modulo 2^32, no flag (R156). -/
def rrOp (f : Nat → Nat → Nat) (_ : State) (k : Core) (w : Nat) : Issue :=
  whenFree k [aField w, bField w, dField w]
    ((k.setS (dField w) (f (k.sreg (aField w)) (k.sreg (bField w)))).okNext)

/-- An RI instruction: s(D) := f(s(A), IMM16) (R158). -/
def riOp (f : Nat → Nat → Nat) (_ : State) (k : Core) (w : Nat) : Issue :=
  whenFree k [aField w, dField w] ((k.setS (dField w) (f (k.sreg (aField w)) (imm16 w))).okNext)

/-- A branch: taken when `f(s(A), s(B))`, with A in bits 25:21 and B in bits 20:16 (R152, R159). -/
def brOp (f : Nat → Nat → Bool) (_ : State) (k : Core) (w : Nat) : Issue :=
  whenFree k [dField w, aField w]
    (if f (k.sreg (dField w)) (k.sreg (aField w)) then
      .done (k.goto (wrap 32 ((k.pc : Int) + simm16 w * 4))) []
    else k.okNext)

/-- Signed comparison of words. -/
def sltW (a b : Nat) : Bool := decide (signed 32 a < signed 32 b)
/-- Arithmetic right shift of a word. -/
def sraW (a n : Nat) : Nat := wrap 32 (signed 32 a / 2 ^ n)
/-- Sign extension of a 16-bit immediate to a word. -/
def sext16 (i : Nat) : Nat := wrap 32 (signed 16 i)
/-- Leading zero count of a word, 0 to 32. -/
def clzW (a : Nat) : Nat := 32 - bitLen32 a
where
  /-- Bit length of a word. -/
  bitLen32 (a : Nat) : Nat := if a % 2 ^ 32 = 0 then 0 else Nat.log2 (a % 2 ^ 32) + 1
/-- Bits set in a word. -/
def popW (a : Nat) : Nat := ((upTo 32).filter (fun i => a.testBit i)).length

/-- Signed division (R157). -/
def divW (a b : Nat) : Nat :=
  if b = 0 then 0xFFFFFFFF else if a = 0x80000000 ∧ b = 0xFFFFFFFF then 0x80000000
  else wrap 32 (Int.tdiv (signed 32 a) (signed 32 b))
/-- Signed remainder (R157). -/
def remW (a b : Nat) : Nat :=
  if b = 0 then a else if a = 0x80000000 ∧ b = 0xFFFFFFFF then 0
  else wrap 32 (Int.tmod (signed 32 a) (signed 32 b))
/-- Unsigned division (R157). -/
def divuW (a b : Nat) : Nat := if b = 0 then 0xFFFFFFFF else a / b
/-- Unsigned remainder (R157). -/
def remuW (a b : Nat) : Nat := if b = 0 then a else a % b

/-- DIV, DIVU, REM and REMU by FN (R156). -/
def divRemW (fn a b : Nat) : Nat :=
  match fn with
  | 0x14 => divW a b
  | 0x15 => divuW a b
  | 0x16 => remW a b
  | _ => remuW a b

/-- MIN, MAX, MINU and MAXU by FN (R156). -/
def minMaxW (fn a b : Nat) : Nat :=
  match fn with
  | 0x0B => if sltW a b then a else b
  | 0x0C => if sltW a b then b else a
  | 0x0D => if a < b then a else b
  | _ => if a < b then b else a

/-- SHI: direction in IMM16[15:14], amount in IMM16[4:0] (R158). -/
def shiW (a imm : Nat) : Nat :=
  match bits imm 15 14 with
  | 0 => a <<< bits imm 4 0
  | 1 => a >>> bits imm 4 0
  | _ => sraW a (bits imm 4 0)

/-- ADD (R156). -/
def execAdd (c : Nat) (s : State) : Out := issue .add c s (rrOp (fun a b => a + b))
/-- SUB (R156). -/
def execSub (c : Nat) (s : State) : Out := issue .sub c s (rrOp (fun a b => a + 2 ^ 32 - b))
/-- AND (R156). -/
def execAnd (c : Nat) (s : State) : Out := issue .and' c s (rrOp (fun a b => a &&& b))
/-- OR (R156). -/
def execOr (c : Nat) (s : State) : Out := issue .or' c s (rrOp (fun a b => a ||| b))
/-- XOR (R156). -/
def execXor (c : Nat) (s : State) : Out := issue .xor' c s (rrOp (fun a b => a ^^^ b))
/-- SLL (R156). -/
def execSll (c : Nat) (s : State) : Out := issue .sll c s (rrOp (fun a b => a <<< (b % 32)))
/-- SRL (R156). -/
def execSrl (c : Nat) (s : State) : Out := issue .srl c s (rrOp (fun a b => a >>> (b % 32)))
/-- SRA (R156). -/
def execSra (c : Nat) (s : State) : Out := issue .sra c s (rrOp (fun a b => sraW a (b % 32)))
/-- SLT (R156). -/
def execSlt (c : Nat) (s : State) : Out := issue .slt c s (rrOp (fun a b => b2n (sltW a b)))
/-- SLTU (R156). -/
def execSltu (c : Nat) (s : State) : Out := issue .sltu c s (rrOp (fun a b => b2n (decide (a < b))))
/-- MIN, MAX, MINU, MAXU (R156). -/
def execMinMax (c : Nat) (s : State) : Out :=
  issue .minMax c s (fun s k w => rrOp (minMaxW (bits w 10 0)) s k w)
/-- MUL (R156). -/
def execMul (c : Nat) (s : State) : Out := issue .mul c s (rrOp (fun a b => a * b))
/-- MULH (R156). -/
def execMulh (c : Nat) (s : State) : Out := issue .mulh c s (rrOp (fun a b => wrap 32 (signed 32 a * signed 32 b / 2 ^ 32)))
/-- MULHU (R156). -/
def execMulhu (c : Nat) (s : State) : Out := issue .mulhu c s (rrOp (fun a b => (a * b) >>> 32))
/-- DIV, DIVU, REM, REMU (R156, R157). -/
def execDivRem (c : Nat) (s : State) : Out :=
  issue .divRem c s (fun s k w => rrOp (divRemW (bits w 10 0)) s k w)
/-- CLZ (R156). -/
def execClz (c : Nat) (s : State) : Out := issue .clz c s (rrOp (fun a _ => clzW a))
/-- POPC (R156). -/
def execPopc (c : Nat) (s : State) : Out := issue .popc c s (rrOp (fun a _ => popW a))
/-- ADDI (R158). -/
def execAddi (c : Nat) (s : State) : Out := issue .addi c s (riOp (fun a i => a + sext16 i))
/-- ANDI (R158). -/
def execAndi (c : Nat) (s : State) : Out := issue .andi c s (riOp (fun a i => a &&& i))
/-- ORI (R158). -/
def execOri (c : Nat) (s : State) : Out := issue .ori c s (riOp (fun a i => a ||| i))
/-- XORI (R158). -/
def execXori (c : Nat) (s : State) : Out := issue .xori c s (riOp (fun a i => a ^^^ i))
/-- SHI (R158). -/
def execShi (c : Nat) (s : State) : Out := issue .shi c s (riOp shiW)
/-- SLTI (R158). -/
def execSlti (c : Nat) (s : State) : Out := issue .slti c s (riOp (fun a i => b2n (sltW a (sext16 i))))
/-- SLTIU (R158). -/
def execSltiu (c : Nat) (s : State) : Out := issue .sltiu c s (riOp (fun a i => b2n (decide (a < sext16 i))))
/-- LUI (R158). -/
def execLui (c : Nat) (s : State) : Out := issue .lui c s (riOp (fun _ i => i <<< 16))

/-- JAL (R160). -/
def execJal (c : Nat) (s : State) : Out :=
  issue .jal c s (fun _ k w => whenFree k [dField w]
    (.done ((k.setS (dField w) (k.pc + 4)).goto (wrap 32 ((k.pc : Int) + soff21 w * 4))) []))
/-- JALR: the target is read before s(D) is written, bits 1:0 cleared (R160). -/
def execJalr (c : Nat) (s : State) : Out :=
  issue .jalr c s (fun _ k w => whenFree k [aField w, dField w]
    (let t := wrap 32 ((k.sreg (aField w) : Int) + simm16 w)
     .done ((k.setS (dField w) (k.pc + 4)).goto (t - t % 4)) []))

/-- BEQ (R159). -/
def execBeq (c : Nat) (s : State) : Out := issue .beq c s (brOp (fun a b => decide (a = b)))
/-- BNE (R159). -/
def execBne (c : Nat) (s : State) : Out := issue .bne c s (brOp (fun a b => decide (a ≠ b)))
/-- BLT (R159). -/
def execBlt (c : Nat) (s : State) : Out := issue .blt c s (brOp sltW)
/-- BGE (R159). -/
def execBge (c : Nat) (s : State) : Out := issue .bge c s (brOp (fun a b => !sltW a b))
/-- BLTU (R159). -/
def execBltu (c : Nat) (s : State) : Out := issue .bltu c s (brOp (fun a b => decide (a < b)))
/-- BGEU (R159). -/
def execBgeu (c : Nat) (s : State) : Out := issue .bgeu c s (brOp (fun a b => decide (b ≤ a)))

end Sys2Proof.Machine
end

