-- ==== Sys2Proof/Machine/Objects.lean ====
section
/-! DEFINITION. The object table of the Object Dictionary Reference (R361 to R387) as data: type, access, role set, default, range. -/

namespace Sys2Proof.Machine

/-- Access codes that objects of the reference carry (R333). -/
inductive Access where
  | ro | const | rw | wo
deriving DecidableEq, Repr

/-- One row of the reference: a span of indices and of subindices, the size in bytes (0 for a DOMAIN), whether the type is signed, the access
code, the roles of the role set as bits (1 O, 2 H, 4 T), the default, the ranges a write may carry (none: every value), and whether it is stored. -/
structure ObjRow where
  ilo  : Nat
  ihi  : Nat
  slo  : Nat
  shi  : Nat
  size : Nat
  sgn  : Bool
  acc  : Access
  roles : Nat
  dflt : Nat
  range : List (Nat × Nat)
  stored : Bool
deriving DecidableEq, Repr

/-- A row for one index. -/
def row (i slo shi size : Nat) (acc : Access) (roles dflt : Nat) (range : List (Nat × Nat)) (stored : Bool) : ObjRow :=
  { ilo := i, ihi := i, slo := slo, shi := shi, size := size, sgn := false, acc := acc, roles := roles, dflt := dflt, range := range, stored := stored }
/-- A row whose type is signed. -/
def srow (i slo shi size : Nat) (acc : Access) (roles dflt : Nat) : ObjRow :=
  { ilo := i, ihi := i, slo := slo, shi := shi, size := size, sgn := true, acc := acc, roles := roles, dflt := dflt, range := [], stored := false }
/-- A row for a span of indices. -/
def rows (ilo ihi slo shi size : Nat) (roles dflt : Nat) (range : List (Nat × Nat)) : ObjRow :=
  { ilo := ilo, ihi := ihi, slo := slo, shi := shi, size := size, sgn := false, acc := .rw, roles := roles, dflt := dflt, range := range, stored := true }

/-- The communication objects (R369, R370); identifier defaults are given without the node-ID. -/
def commRows : List ObjRow := [
  row 0x1000 0 0 4 .const 3 0 [] false, row 0x1001 0 0 1 .ro 3 0 [] false, row 0x1003 0 0 1 .rw 1 0 [(0, 0)] true,
  row 0x1003 1 16 4 .ro 3 0 [] false, row 0x1011 1 1 4 .wo 1 0 [(0x64616F6C, 0x64616F6C)] true, row 0x1014 0 0 4 .ro 3 0x80 [] false,
  row 0x1015 0 0 2 .rw 1 0 [] true, row 0x1016 1 4 4 .rw 1 0 [(0, 0x7FFFFF)] true, row 0x1017 0 0 2 .rw 1 100 [(0, 0), (10, 65535)] true,
  row 0x1018 1 1 4 .const 7 0x53465A00 [] false, row 0x1018 2 2 4 .const 7 0x7200 [] false, row 0x1018 3 3 4 .const 7 0x420000 [] false,
  row 0x1018 4 4 4 .const 7 0 [] false, row 0x1F80 0 0 4 .rw 1 0 [(0, 0), (4, 4)] true,
  rows 0x1400 0x1403 1 1 4 1 0 [(0, 0x7FF), (0x80000000, 0x800007FF)], rows 0x1400 0x1403 2 2 1 1 0xFF [(0xFE, 0xFF)],
  rows 0x1400 0x1403 3 3 2 1 0 [(0, 0)], rows 0x1400 0x1403 5 5 2 1 0 [(0, 0)],
  rows 0x1800 0x1807 1 1 4 1 0 [(0, 0x7FF), (0x80000000, 0x800007FF)], rows 0x1800 0x1807 2 2 1 1 0xFF [(0xFE, 0xFF)],
  rows 0x1800 0x1807 3 3 2 1 0 [], rows 0x1800 0x1800 5 5 2 1 100 [], rows 0x1801 0x1807 5 5 2 1 0 [],
  rows 0x1600 0x1603 0 0 1 1 0 [(0, 16)], rows 0x1A00 0x1A00 0 0 1 1 3 [(0, 16)], rows 0x1A01 0x1A07 0 0 1 1 0 [(0, 16)],
  rows 0x1600 0x1603 1 16 4 1 0 [], rows 0x1A00 0x1A00 1 1 4 1 0x10010008 [], rows 0x1A00 0x1A00 2 2 4 1 0x24200120 [],
  rows 0x1A00 0x1A00 3 3 4 1 0x24900110 [], rows 0x1A00 0x1A00 4 16 4 1 0 [], rows 0x1A01 0x1A07 1 16 4 1 0 []]

/-- Dictionary, buses, pair, geometry, partitions and clocks (R371 to R375). -/
def baseRows : List ObjRow := [
  row 0x2000 1 1 1 .ro 3 0 [] false, row 0x2000 2 2 1 .ro 3 0 [] false, row 0x2000 3 4 4 .ro 3 0 [] false,
  row 0x2001 1 1 1 .rw 1 1 [(0, 1)] true, row 0x2001 2 2 2 .rw 1 500 [(10, 10000)] true, row 0x2002 1 0x11 8 .ro 3 0 [] false,
  row 0x2003 1 1 4 .wo 1 0 [(0x64616F6C, 0x64616F6C)] false, row 0x2010 1 2 1 .ro 3 0 [] false, row 0x2010 3 3 4 .ro 3 0 [] false,
  row 0x2010 4 4 4 .ro 3 0 [] true, row 0x2010 5 5 8 .ro 3 0 [] false, row 0x2010 6 6 1 .ro 3 0 [] false,
  row 0x2100 1 3 1 .ro 3 0 [] false, row 0x2100 4 4 4 .ro 3 0 [] false, row 0x2110 1 2 2 .ro 3 0 [] false,
  row 0x2110 3 4 4 .wo 1 0 [] false, row 0x2110 5 5 1 .rw 1 1 [(0, 1)] true, row 0x2110 6 6 1 .wo 1 0 [(1, 1)] false,
  row 0x2110 7 7 1 .wo 1 0 [] false, row 0x2111 1 0x48 1 .ro 7 0 [] false, row 0x2120 0 0 0 .ro 3 0 [] false,
  row 0x2210 1 16 4 .rw 3 0 [] false, row 0x2211 1 16 1 .ro 7 3 [] false, row 0x2212 1 16 4 .ro 7 0 [] false,
  row 0x2300 1 1 1 .ro 3 0 [] false, row 0x2300 2 2 8 .ro 7 0 [] false, row 0x2300 3 3 2 .const 3 20 [] false,
  row 0x2301 1 0x48 1 .ro 7 0 [] false, row 0x2302 1 16 1 .rw 7 0 [(0, 15)] false, row 0x2303 1 16 1 .rw 3 0xFF [(0, 15), (0xFF, 0xFF)] false,
  row 0x2304 1 1 4 .ro 3 0 [] false]

/-- Power, energy, thermal, coolant and ageing (R377, R378). -/
def powerRows : List ObjRow := [
  row 0x2400 1 1 4 .rw 1 16000 [(6000, 20000)] false, row 0x2400 2 2 4 .ro 3 16000 [] false, row 0x2400 3 3 4 .const 3 20000 [] false,
  row 0x2401 1 2 1 .rw 1 1 [(0, 1)] false, row 0x2401 3 3 1 .rw 3 1 [(0, 1)] false, row 0x2410 1 16 4 .ro 3 0 [] false,
  row 0x2420 1 1 4 .ro 3 0 [] false, row 0x2420 2 2 8 .ro 3 0 [] false, row 0x2421 1 16 4 .ro 7 0 [] false, row 0x2422 1 16 8 .ro 7 0 [] false,
  row 0x2430 1 1 4 .ro 3 0 [] false, row 0x2430 2 2 8 .ro 3 0 [] false, srow 0x2430 3 3 2 .ro 3 0, row 0x2430 4 4 4 .ro 3 0 [] false,
  row 0x2440 1 1 1 .ro 3 0 [] false, row 0x2440 2 2 4 .ro 3 0 [] false,
  srow 0x2480 1 1 2 .const 3 900, srow 0x2480 2 2 2 .const 3 1000, srow 0x2480 3 3 2 .const 3 1100, srow 0x2490 1 1 2 .ro 3 0,
  row 0x2490 2 2 1 .ro 3 0 [] false, srow 0x2491 1 0x48 2 .ro 7 0, row 0x2492 1 1 1 .ro 3 0 [] false, row 0x2492 2 2 4 .ro 3 0 [] true,
  row 0x24A0 1 2 1 .ro 3 0 [] false, row 0x24A0 3 3 4 .ro 3 0 [] true, row 0x24B0 1 0x48 1 .ro 3 0 [] true, row 0x24B1 1 1 4 .ro 3 0 [] true,
  row 0x24C0 1 1 1 .ro 3 1 [] false]

/-- Scheduler, synchronisation, Sluice, ingress, determinism, faults, traces and tray (R379 to R387). -/
def upperRows : List ObjRow := [
  row 0x2540 1 0x48 2 .ro 7 0 [] false, row 0x2541 1 0x48 4 .ro 7 0 [] false, row 0x2542 1 0x48 2 .ro 7 0 [] false,
  row 0x2543 1 0x48 2 .ro 7 0 [] false, row 0x2544 1 0x48 2 .ro 7 0 [] false, row 0x2545 1 0x48 4 .ro 3 0 [] false,
  row 0x2550 1 16 8 .ro 7 0 [] false, row 0x2580 1 16 4 .rw 7 100000 [(0, 0), (10, 1000000)] false, row 0x2581 1 16 1 .rw 3 1 [(0, 1)] false,
  row 0x2582 1 16 4 .ro 7 0 [] false, row 0x2583 1 16 8 .ro 7 0 [] false, row 0x2590 1 0x48 4 .ro 3 0 [] false,
  row 0x2600 1 12 4 .rw 1 3 [(0, 7)] true, row 0x2601 1 1 2 .rw 1 0 [(0, 4095)] true, row 0x2601 2 2 2 .rw 1 0xFFFF [(0, 4095), (0xFFFF, 0xFFFF)] true,
  row 0x2601 3 3 1 .ro 3 0 [] false, row 0x2602 1 16 2 .rw 3 0 [] false, row 0x2603 1 12 1 .ro 3 0 [] false, row 0x2604 1 12 4 .ro 3 0 [] false,
  row 0x2700 1 1 4 .rw 3 500000 [(1000, 60000000)] true, row 0x2700 2 5 4 .ro 3 500000 [] false, row 0x2701 1 4 2 .ro 3 0 [] false,
  row 0x2702 1 4 4 .ro 3 0 [] false, row 0x2800 1 1 1 .rw 3 0 [(0, 1)] false, row 0x2800 2 2 4 .ro 3 0 [] false,
  row 0x2900 1 1 4 .ro 3 0 [] false, row 0x2901 1 1 2 .ro 3 0 [] false, row 0x2901 2 3 1 .ro 3 0 [] false, row 0x2901 4 4 4 .ro 3 0 [] false,
  row 0x2901 5 5 8 .ro 3 0 [] false, row 0x2902 1 16 4 .ro 7 0 [] false, row 0x2903 1 16 2 .ro 7 0 [] false, row 0x2910 1 1 4 .const 3 50 [] false,
  row 0x2920 1 4 8 .ro 3 0 [] false, row 0x2930 1 2 2 .ro 3 0 [] false, row 0x2940 0 0 0 .ro 3 0 [] false, row 0x2941 0 0 1 .wo 1 0 [(1, 1)] false,
  row 0x2A00 1 16 4 .rw 7 0 [(0, 3)] false, row 0x2A01 1 16 4 .ro 7 0 [] false,
  row 0x2B00 1 1 1 .ro 3 0 [] false, row 0x2B00 2 2 2 .ro 3 0 [] false, row 0x2B01 1 1 1 .ro 3 0 [] false, row 0x2B01 2 2 4 .ro 3 0 [] false,
  row 0x2B02 1 1 1 .ro 3 0 [] false, row 0x2B02 2 2 2 .wo 1 0 [(0x5A17, 0x5A17)] false, row 0x2B03 1 2 1 .ro 3 0 [] false]

/-- Every row of the reference. -/
def objTable : List ObjRow := commRows ++ (baseRows ++ (powerRows ++ upperRows))

/-- An index exists (R329). -/
def indexExists (i : Nat) : Bool := objTable.any (fun r => decide (r.ilo ≤ i) && decide (i ≤ r.ihi))

/-- Highest subindex of an index, which its subindex 0 holds (R331); the communication records' is 5 (R370). -/
def topSub (i : Nat) : Nat :=
  objTable.foldl (fun a r => if r.ilo ≤ i ∧ i ≤ r.ihi then max a r.shi else a) 0

/-- The row of an object; subindex 0 of an array or record that lists none is UNSIGNED8, CONST (R331). -/
def objRow (i sub : Nat) : Option ObjRow :=
  match objTable.find? (fun r => decide (r.ilo ≤ i) && decide (i ≤ r.ihi) && decide (r.slo ≤ sub) && decide (sub ≤ r.shi)) with
  | some r => some r
  | none =>
    if sub = 0 ∧ indexExists i then
      let roles := objTable.foldl (fun a r => if r.ilo ≤ i ∧ i ≤ r.ihi then a ||| r.roles else a) 0
      some (row i 0 0 1 .const roles (topSub i) [] false)
    else none

/-- The default of an object; CAN identifiers add the node-ID (R336, R370). -/
def objDefault (nodeId i sub : Nat) : Nat :=
  if 0x1400 ≤ i ∧ i ≤ 0x1403 ∧ sub = 1 then 0x200 + 0x100 * (i - 0x1400) + nodeId
  else if 0x1800 ≤ i ∧ i ≤ 0x1803 ∧ sub = 1 then 0x180 + 0x100 * (i - 0x1800) + nodeId
  else if 0x1804 ≤ i ∧ i ≤ 0x1807 ∧ sub = 1 then 0x80000000
  else if i = 0x1014 then 0x80 + nodeId
  else match objRow i sub with
    | some r => r.dflt
    | none => 0

/-- Arrays with one subindex per partition (R331, R366). -/
def perPart (i : Nat) : Bool :=
  [0x2210, 0x2211, 0x2212, 0x2302, 0x2303, 0x2421, 0x2422, 0x2550, 0x2580, 0x2581, 0x2582, 0x2583, 0x2602, 0x2902, 0x2903, 0x2A00, 0x2A01].contains i
/-- Arrays with one subindex per field (R331). -/
def perField (i : Nat) : Bool :=
  [0x2111, 0x2301, 0x2491, 0x24B0, 0x2540, 0x2541, 0x2542, 0x2543, 0x2544, 0x2545, 0x2590].contains i

/-- The key a value is kept under. -/
def objKey (i sub : Nat) : Nat := i * 256 + sub

end Sys2Proof.Machine
end

