-- ==== Sys2Proof/Machine/Task.lean ====
section
/-! DEFINITION. Pair, barrier and event instructions, the outbound queue, sleep and wake, and the start and end of a task on
its core (R138 to R147, R176 to R180). -/

namespace Sys2Proof.Machine

/-! ### Reaching pairs and groups -/

/-- Key of a core's arrival state for a binding index (R108). -/
def arrivalKey (c i : Nat) : Nat := localOf c * 8 + i

/-- The arrival state of a core and binding. -/
def State.arrival (s : State) (c i : Nat) : Arrival := Tab.read (s.field (fieldOf c)).syn.arrivals .none (arrivalKey c i)
/-- Sets the arrival state of a core and binding. -/
def State.setArrival (s : State) (c i : Nat) (a : Arrival) : State :=
  s.modSyn (fieldOf c) (fun y => { y with arrivals := Tab.write y.arrivals .none (arrivalKey c i) a })

/-- A packet from a core to the agent of a field: on the field bus to its own, on VC2 of the mesh to another (R228, R236). -/
def syncPacket (s : State) (c f tag : Nat) (task : DWord) (b : Payload) : Packet :=
  if f = fieldOf c then busPacket (.core c) (.field f) task tag b
  else ctlPacket (.core c) (.field f) 2 (s.partOfCore c) task tag b

/-- Records an error of the pair or Well units (R101, R114): the SX_ERR bit, and cause and index where none is recorded. -/
def SyncUnit.error (y : SyncUnit) (bitNo cause index : Nat) : SyncUnit :=
  let e := y.sxErr ||| 1 <<< bitNo
  { y with sxErr := e, sxIndex := if y.sxErr = 0 ∧ y.sxIndex = 0 then (cause <<< 16) + index else y.sxIndex }

/-- A fault of the pair or Well units, counted in the field, with the task and core whose operation it refused (R489, R492, R493). -/
def State.syncFault (s : State) (f bitNo cause index : Nat) (group : Bool) (who : Option (DWord × Nat)) : State :=
  (s.modSyn f (fun y => y.error bitNo cause index)).report f
    { plainFault cause 2 f ((b2n group <<< 31) + index) with task := who.map Prod.fst, core := who.map Prod.snd }

/-- The group a barrier binding names (R87). -/
def groupOf (rec : Nat) : Nat := bits rec 11 0
/-- The field a pair binding names (R87). -/
def pairField (rec : Nat) : Nat := bits rec 46 40
/-- The descriptor of a group in a core's own field (R105). -/
def State.wellDesc (s : State) (f g : Nat) : Nat := (Tab.read (s.field f).syn.descs 0 g).toNat
/-- The well field named by a group descriptor. -/
def wellFieldOf (d : Nat) : Nat := bits d 61 55
/-- The cause with which operations on a broken group are refused in a field; 0 while it is not broken there (R112). -/
def State.brokenCause (s : State) (f g : Nat) : Nat := Tab.read (s.field f).syn.broken 0 g

/-- Counts a progress event of a field's partition (R116). -/
def State.progress (s : State) (f : Nat) : State :=
  let s1 := s.modSyn f (fun y => { y with progress := (y.progress + 1) % 2 ^ 32 })
  match s1.partOf f with
  | none => s1
  | some p => s1.modPart p (fun x => { x with det := { x.det with last := s1.tstamp, armed := true } })

/-- Answers a core from its field's agent. -/
def State.answerCore (s : State) (f c tag : Nat) (task : DWord) (b : Payload) : State :=
  if f = fieldOf c then s.inject [busPacket (.field f) (.core c) task tag b]
  else s.inject [ctlPacket (.field f) (.core c) 2 (s.partOf f) task tag b]

/-- An ARRIVE of a core at its own field's Well unit (R108, R112): refused, or ARRIVED with one arrival sent to the well
field. The second component says whether it was accepted. -/
def State.arrive (s : State) (c i tag : Nat) (task : DWord) : State × Bool :=
  let f := fieldOf c
  let g := groupOf ((s.core c).bind i)
  let refuse (s : State) (cause : Nat) : State := s.answerCore f c tag task (.syncAns cause 0 0 0)
  if s.brokenCause f g ≠ 0 then (refuse s (s.brokenCause f g), false)
  else if s.arrival c i ≠ .none then (refuse (s.syncFault f 6 0x3170 g true (some (task, c))) 0x3170, false)
  else
    let s1 := s.setArrival c i .arrived
    (s1.inject [syncPacket s1 c (wellFieldOf (s1.wellDesc f g)) tag task (.syncOp .arrive false 1 g)], true)

/-- An AWAIT of a core at its own field's Well unit (R108): refused, answered at once, or left asleep. -/
def State.await (s : State) (c i tag : Nat) (task : DWord) : State :=
  let f := fieldOf c
  let g := groupOf ((s.core c).bind i)
  if s.brokenCause f g ≠ 0 then s.answerCore f c tag task (.syncAns (s.brokenCause f g) 0 0 0)
  else match s.arrival c i with
    | .none => (s.syncFault f 6 0x3170 g true (some (task, c))).answerCore f c tag task (.syncAns 0x3170 0 0 0)
    | .released => (s.setArrival c i .none).answerCore f c tag task (.syncAns 0 0 0 0)
    | .arrived => s

/-! ### The outbound queue (R178) -/

/-- Tag of a blocking operation's packets. -/
def blockTag : Nat := 1
/-- Tag of a posted operation's packets: 0, or from 2 on the place in `rposts` of the recipe that posted it; and the core with that place taken. -/
def Core.postTag (k : Core) (e : OutEntry) : Core × Nat :=
  match e.rpc with
  | none => (k, 0)
  | some r =>
    match k.rposts.findIdx? (fun x => decide (x = r)) with
    | some i => (k, 2 + i % 65534)
    | none => ({ k with rposts := k.rposts ++ [r] }, 2 + k.rposts.length % 65534)

/-- Sends the commit notice of a core's task if it has not been sent (R502). -/
def State.commit (s : State) (c : Nat) : State :=
  let r := (s.core c).commitFirst c
  (s.setCore c r.1).inject r.2

/-- The blocking operation of a core leaves once its outbound queue is empty (R178). -/
def State.leaveBlocking (s : State) (c : Nat) : State :=
  let k := s.core c
  match k.blocked with
  | none => s
  | some b =>
    if b.left ∨ !k.outq.isEmpty then s
    else
      let s1 := s.setCore c { k with blocked := some { b with left := true } }
      let task := k.desc.taskId
      let rec_ := k.bind b.bind
      let consumer := decide (bits rec_ 63 62 = 1)
      let send (s : State) (op : SyncKind) (n : Nat) : State :=
        s.inject [syncPacket s c (pairField rec_) blockTag task (.syncOp op consumer n (groupOf rec_))]
      match b.op with
      | .wait n => send s1 .wait n
      | .read => send s1 .read 0
      | .clear => send (s1.commit c) .clear 0
      | .await => s1.await c b.bind blockTag task
      | .arriveAwait =>
        let r := (s1.commit c).arrive c b.bind blockTag task
        if r.2 then r.1.await c b.bind blockTag task else r.1

/-- OUTBOUND_ENTRY_LEAVE: the oldest posted operation leaves once every earlier message has been accepted (R178). -/
def execOutboundEntryLeave (c : Nat) (s : State) : Out :=
  onCore c s (fun s =>
    let k := s.core c
    match k.outq with
    | [] => s
    | e :: rest =>
      if (s.field (fieldOf c)).clk.cd ≠ .on ∨ !k.olderAcked e.after then s
      else
        let r := ({ k with outq := rest } : Core).postTag e
        let s1 := (s.setCore c r.1).commit c
        let task := k.desc.taskId
        let s2 := match e.op with
          | .sadv i n consumer =>
            s1.inject [syncPacket s1 c (pairField (k.bind i)) r.2 task (.syncOp .advance consumer n (groupOf (k.bind i)))]
          | .warr i => (s1.arrive c i r.2 task).1
          | .post r => s1.inject [busPacket (.core c) (ownField c) task 0 (.post r)]
        (s2.leaveBlocking c).finishFail c)

/-- Queues a posted operation (R178). -/
def postOp (k : Core) (op : PostedOp) : Issue :=
  if 4 ≤ k.outq.length then .stall
  else .done (k.post { op := op, after := k.nif.sendSeq, rpc := none }).advance []

/-- SADV: an ADVANCE on the binding's side (R97, R176). -/
def execSadv (c : Nat) (s : State) : Out :=
  issue .sadv c s (fun _ k w =>
    if k.bindIs (syBind w) 0 ∨ k.bindIs (syBind w) 1 then postOp k (.sadv (syBind w) (syN w) (k.bindIs (syBind w) 1))
    else .trap k 0x3168 0)

/-- WARR: an ARRIVE (R97, R176). -/
def execWarr (c : Nat) (s : State) : Out :=
  issue .warr c s (fun _ k w => if k.bindIs (syBind w) 2 then postOp k (.warr (syBind w)) else .trap k 0x3168 0)

/-- POST: the record is checked, then queued for the core's own Cistern (R177). Log entry 71. -/
def execPost (c : Nat) (s : State) : Out :=
  issue .post c s (fun _ k w =>
    whenFree k [aField w, aField w + 1]
      (let r := k.pair (aField w)
       let kind := bits r 63 62
       let reserved := decide (bits r 49 48 ≠ 0) || decide (bits r 7 0 ≠ 0) || (decide (kind ≠ 1) && decide (bits r 61 50 ≠ 0))
       if reserved then .trap k 0x3010 0
       else if 2 ≤ kind then .trap k 0x3132 0
       else postOp k (.post (BitVec.ofNat 64 r))))

/-- Puts a core to sleep on a blocking operation, once the registers it names are free; it leaves at once when the outbound queue is empty. -/
def issueBlocking (op : CoreOp) (c : Nat) (s : State) (check : Core → Nat → Option Nat) (names : Nat → List Nat) (mk : Nat → BlockOp) : Out :=
  match issue op c s (fun _ k w =>
    match check k w with
    | some cause => .trap k cause 0
    | none => whenFree k (names w)
        (.sleep { k.addCounter 6 1 with run := .sleepSync,
                                        blocked := some { op := mk w, bind := syBind w, left := false, answer := none } } [])) with
  | .next t => .next (if (s.core c).blocked.isNone then t.leaveBlocking c else t)
  | r => r

/-- SWAIT (R176). -/
def execSwait (c : Nat) (s : State) : Out :=
  issueBlocking .swait c s (fun k w => if k.bindIs (syBind w) 0 ∨ k.bindIs (syBind w) 1 then none else some 0x3168) (fun _ => []) (fun w => .wait (syN w))
/-- SREAD: refused in deterministic mode (R176, R181). -/
def execSread (c : Nat) (s : State) : Out :=
  issueBlocking .sread c s (fun k w =>
    if k.bindIs (syBind w) 0 ∨ k.bindIs (syBind w) 1 then (if k.csr.det then some 0x3188 else none) else some 0x3168) (fun w => [dField w, dField w + 1]) (fun _ => .read)
/-- SCLR: consumer side only, refused in deterministic mode (R97, R176, R181). -/
def execSclr (c : Nat) (s : State) : Out :=
  issueBlocking .sclr c s (fun k w => if k.bindIs (syBind w) 1 then (if k.csr.det then some 0x3188 else none) else some 0x3168) (fun w => [dField w]) (fun _ => .clear)
/-- WAWT (R176). -/
def execWawt (c : Nat) (s : State) : Out :=
  issueBlocking .wawt c s (fun k w => if k.bindIs (syBind w) 2 then none else some 0x3168) (fun _ => []) (fun _ => .await)
/-- WAA (R176). -/
def execWaa (c : Nat) (s : State) : Out :=
  issueBlocking .waa c s (fun k w => if k.bindIs (syBind w) 2 then none else some 0x3168) (fun _ => []) (fun _ => .arriveAwait)

/-! ### Answers, refusals and wake -/

/-- A refusal or loss that reaches a core's running task is delivered at the next instruction boundary, as an exception of the instruction about to issue;
an error pending from an earlier instruction, or an earlier refusal, stands (R145, R179). -/
def Core.refuse (k : Core) (cause : Nat) : Core := k.pend cause none 0 (k.counter 6)

/-- The core holds this task and has not yet reported its end. -/
def Core.holdsTask (k : Core) (task : DWord) : Bool :=
  decide (k.run ≠ .idle) && decide (k.run ≠ .off) && decide (k.desc.taskId = task)

/-- The core runs this task and no failure of it is being reported. -/
def Core.runsTask (k : Core) (task : DWord) : Bool :=
  k.holdsTask task && (match k.ending with | .failed .. => false | _ => true)

/-- A refusal of an ADVANCE that a recipe posted: it stops the recipe while that runs (R224). -/
def Core.refuseRecipe (k : Core) (cause : Nat) (r : Nat × Nat) : Core :=
  match activeRecipe [] k.uq with
  | some (b, rc, _) => if rc.nth = r.2 then k.failRecipe b rc (cause, 0) else k.deliver cause r.1 0 r.2
  | none => k.deliver cause r.1 0 r.2

/-- A refusal or loss for a task whose completion report is on its way and not yet accepted fails the task (R72, R101): the report becomes a failure report with END's
program counter. -/
def State.recall (s : State) (c : Nat) (task : DWord) (cause : Nat) : Option State :=
  let mine (p : Packet) : Bool := decide (p.src = .core c ∧ p.task = task) && (match p.body with | .completion _ => true | _ => false)
  if s.net.any mine then
    some { s with net := s.net.map (fun p => if mine p then { p with body := .failure cause (istoreBase + p.tag) 0 } else p) }
  else none

/-- SYNC_ANSWER: an answer reaches its core: it answers the blocking operation, or is a refusal of a posted one (R100, R101,
R179). A refusal for a task that has sent its completion report fails it until that is accepted, and is dropped after that. -/
def execSyncAnswer (i : Nat) (s : State) : Out :=
  .next (match s.arriving i with
    | none => s
    | some p =>
      match p.dst, p.body with
      | .core c, .syncAns cause cleared pp cc =>
        let s1 := s.take i
        let k := s1.core c
        if !k.holdsTask p.task then (if cause = 0 then s1 else (s1.recall c p.task cause).getD s1)
        else if p.tag = blockTag then
          (match k.blocked with
           | some b =>
             if b.left ∧ b.answer.isNone then
               s1.setCore c { k with blocked := some { b with answer := some { cause := cause, cleared := cleared, p := pp, c := cc } } }
             else s1
           | none => s1)
        else if cause = 0 then s1
        else match k.rposts[p.tag - 2]? with
          | some r => if 2 ≤ p.tag then (s1.setCore c (k.refuseRecipe cause r)).finishFail c else s1
          | none => if k.runsTask p.task then s1.setCore c (k.refuse cause) else s1
      | _, _ => s)

/-- REFUSAL_DELIVERY: the pending refusal ends the task at the instruction boundary (R132, R179). A core asleep on an instruction is at that instruction's boundary:
its program counter is reported (DEDUCED, log entry 88). -/
def execRefusalDelivery (c : Nat) (s : State) : Out :=
  onCore c s (fun s =>
    let k := s.core c
    match k.asyncErr with
    | none => s
    | some (cause, pc, addr) =>
      if k.run = .idle ∨ k.run = .off then s
      else match k.ending with
        | .failed .. => s.setCore c { k with asyncErr := none }
        | _ => s.trapCore c cause (pc.getD k.pc) addr k)

/-- The instruction word a sleeping core sleeps at. -/
def Core.wordAtPc (k : Core) : Nat := Memory.value k.istore (k.pc - istoreBase) 4

/-- Applies an issue result at a wake: the instruction completes, sleeps on, or faults. -/
def State.applyIssue (s : State) (c : Nat) (r : Issue) : State :=
  match r with
  | .stall => s
  | .done k out => (s.setCore c (k.addCounter 6 1)).inject out
  | .sleep k out => (s.setCore c k).inject out
  | .trap k cause addr => s.trapCore c cause k.pc addr k

/-- A core woken from SLEEP_SYNC or FILLER completes its blocking operation, or fails with its refusal (R147, R176, R179). -/
def State.wakeSync (s : State) (c : Nat) (b : Blocked) (a : SyncAnswer) : State :=
  let k := s.core c
  let w := k.wordAtPc
  if a.cause ≠ 0 then s.trapCore c a.cause k.pc 0 k
  else
    let k1 : Core := { k with run := .run, blocked := none }
    let k2 := match b.op with
      | .read => (k1.setS (dField w) a.p).setS (dField w + 1) a.c
      | .clear => k1.setS (dField w) a.cleared
      | _ => k1
    s.setCore c k2.advance

/-- CORE_WAKE: the wake condition of the core's sleep state holds, and the sleeping instruction completes (R146, R147). -/
def execCoreWake (c : Nat) (s : State) : Out :=
  onCore c s (fun s =>
    let k := s.core c
    if k.asyncErr.isSome ∨ (s.field (fieldOf c)).clk.cd ≠ .on ∨ k.ending ≠ .none then s
    else match k.run with
      | .sleepSync | .filler =>
        (match k.blocked with
         | some b => (match b.answer with | some a => s.wakeSync c b a | none => s)
         | none => s)
      | .sleepRecv =>
        if (k.queue (msVc k.wordAtPc)).msgs.isEmpty then s else s.applyIssue c (recvBody c s k k.wordAtPc)
      | .sleepSend =>
        if k.finHold then (if k.nif.unacked.length < 16 then s.setCore c k.endHold else s)
        else s.applyIssue c (sendBody c s k k.wordAtPc)
      | _ => s)

/-! ### Start and end of a task -/

/-- TASK_START: a core begins its task; its registers, flags, rounding mode, seed, descriptor and program counter are set in
one step, its arrival states become NONE, and its start report leaves (R108, R138, R191). -/
def execTaskStart (c : Nat) (s : State) : Out :=
  onCore c s (fun s =>
    let k := s.core c
    match k.staged with
    | none => s
    | some d =>
      if k.run ≠ .idle ∨ (s.field (fieldOf c)).clk.cd ≠ .on then s
      else
        let k1 : Core := { k.layAside with
          run := .run, staged := none, desc := d, regs := Regs.zero,
          csr := { flags := 0, tflags := 0, rm := 0, satur := true, seed := BitVec.ofNat 32 (seedOf d.taskId.toNat), det := k.csr.det },
          pc := istoreBase + bits d.info.toNat 15 0, prevPc := istoreBase + bits d.info.toNat 15 0,
          blocked := none, asyncErr := none, commit := false, ending := .none, outq := [], uq := [],
          errAt := 0, lostSeq := none, rposts := [], finHold := false }
        let s1 := (upTo 8).foldl (fun s i => s.setArrival c i .none) (s.setCore c (k1.addCounter 16 1))
        s1.inject [busPacket (.core c) (ownField c) d.taskId 0 (.startReport (s.field (fieldOf c)).clk.halfCclk)])

/-- END: the task waits for its work to finish (R140). -/
def execEnd (c : Nat) (s : State) : Out := issue .endOp c s (fun _ k _ => .done { k with ending := .endWait } [])

/-- FAIL: the task ends at once with KERNEL_ABORT, its code in the address field (R180). -/
def execFail (c : Nat) (s : State) : Out := issue .failOp c s (fun _ k w => .trap k 0x3185 (w % 256))

/-- Returns the credit of every entry of a core's interface (R242, R243). -/
def Core.returnCredits (k : Core) (s : State) (c : Nat) : Core × List Packet :=
  ({ k with nif := { k.nif with credits := [] } },
   (k.nif.credits.filter (fun e => decide (e.held ≠ 0))).map (fun e =>
     corePacket s c e.dst e.vc true k.desc.taskId k.nif.nextTag (.creditReturn e.held)))

/-- END's conditions (R140). -/
def Core.endReady (k : Core) : Bool :=
  decide (k.ending = .endWait) && k.uq.isEmpty && k.outq.isEmpty && k.sbuf.isEmpty &&
    k.nif.unacked.all (fun u => decide (u.task ≠ k.desc.taskId)) &&
    k.asyncErr.isNone && decide (k.run = .run)

/-- END_COMPLETION_SEND: the completion report leaves with `c.tflags`, and the core is idle (R140, R242). Its tag is END's offset in the instruction store. -/
def execEndCompletionSend (c : Nat) (s : State) : Out :=
  onCore c s (fun s =>
    let k := s.core c
    if k.endReady ∧ (s.field (fieldOf c)).clk.cd = .on then
      let r := ({ k with ending := .none, run := .idle } : Core).returnCredits s c
      (s.setCore c (r.1.addCounter 14 1)).inject
        (r.2 ++ [busPacket (.core c) (ownField c) k.desc.taskId (k.pc - istoreBase) (.completion k.csr.tflags)])
    else s)

/-- WITHDRAW_REQUEST: the core discards a task it has not begun, or answers that it has started (R142). -/
def execWithdrawRequest (i : Nat) (s : State) : Out :=
  .next (match s.arriving i with
    | none => s
    | some p =>
      match p.dst, p.body with
      | .core c, .withdrawReq =>
        let s1 := s.take i
        let k := s1.core c
        let held := match k.staged with | some d => decide (d.taskId = p.task) | none => false
        let s2 := if held then s1.setCore c { k with staged := none } else s1
        s2.inject [busPacket (.core c) (ownField c) p.task 0 (.withdrawAns (!held))]
      | _, _ => s)

/-- ABORT_REQUEST: the core stops, drains its stores, abandons its units, its outbound queue and any sleep, returns its credit
and reports (R143, R242). It is ignored once the task has reported its end. -/
def execAbortRequest (i : Nat) (s : State) : Out :=
  .next (match s.arriving i with
    | none => s
    | some p =>
      match p.dst, p.body with
      | .core c, .abortReq =>
        let s1 := s.take i
        let k := s1.core c
        if k.run = .idle ∨ k.run = .off ∨ k.desc.taskId ≠ p.task then s1
        else
          let k1 : Core := { k.drainAll with run := .idle, uq := [], outq := [], blocked := none, asyncErr := none, ending := .none, finHold := false }
          let r := k1.returnCredits s1 c
          (s1.setCore c r.1).inject (r.2 ++ [busPacket (.core c) (ownField c) p.task 0 .abortReport])
      | _, _ => s)

end Sys2Proof.Machine
end

