-- ==== Sys2Proof/Machine/Trace.lean ====
section
/-! DEFINITION. Dictionary settings as hardware reads them, and the making of trace records (R521 to R525). -/

namespace Sys2Proof.Machine

/-- The value of a dictionary setting: as last applied, else its default (R328, R364). -/
def State.setting (s : State) (i sub : Nat) : Nat := Tab.read s.fw.dict (objDefault s.sd.nodeId i sub) (objKey i sub)
/-- Sets a dictionary value. -/
def State.setDict (s : State) (i sub v : Nat) : State :=
  { s with fw := { s.fw with dict := Tab.insert s.fw.dict (objKey i sub) v }, wh := { s.wh with changed := true } }
/-- Returns a dictionary value to its default. -/
def State.clearDict (s : State) (i sub : Nat) : State :=
  { s with fw := { s.fw with dict := Tab.erase s.fw.dict (objKey i sub) }, wh := { s.wh with changed := true } }

/-- The trace destination of a partition. -/
def State.traceDest (s : State) (p : Nat) : TraceDest := Tab.read s.rd.traces TraceDest.reset p
/-- Replaces a trace destination. -/
def State.setTraceDest (s : State) (p : Nat) (t : TraceDest) : State :=
  { s with rd := { s.rd with traces := Tab.write s.rd.traces TraceDest.reset p t } }
/-- Adds to an engine counter of the observation block (R520). -/
def State.addRdCtr (s : State) (off n : Nat) : State :=
  { s with rd := { s.rd with counters := Tab.write s.rd.counters 0 off ((Tab.read s.rd.counters 0 off + n) % 2 ^ 64) } }

/-- Word 0 of a record (R521). -/
def traceWord0 (kind part sub field layer oper : Nat) : Nat :=
  kind <<< 59 + part <<< 55 + sub <<< 51 + field <<< 44 + layer <<< 16 + oper

/-- Counts records a field dropped (R529). -/
def State.fieldDropped (s : State) (f p n : Nat) : State :=
  ((s.addFieldCtr f 0x70 n).addRdCtr 0x18 n).modField f (fun x => { x with obs := { x.obs with dropped := x.obs.dropped + n } })
    |>.modPart p (fun x => { x with traceDropped := (x.traceDropped + n) % 2 ^ 32 })

/-- A field makes a scheduling record of a moment (R521, R527): it takes buffer space or is dropped. Log entry 15. -/
def State.traceMake (s : State) (f kind layer oper : Nat) (task : DWord) (ts w3 : Nat) : State :=
  match s.partOf f with
  | none => s
  | some p =>
    if (s.traceDest p).en then
      let obs := (s.field f).obs
      let made := Tab.read obs.counters 0 0x68
      let r : TraceRec := { w0 := traceWord0 kind p (Config.traceSub f made % 8) f layer oper, w1 := task.toNat, w2 := ts, w3 := w3 }
      let s1 := s.addFieldCtr f 0x68 1
      if obs.trace.length < 512 then s1.modField f (fun x => { x with obs := { x.obs with trace := x.obs.trace ++ [r] } })
      else s1.fieldDropped f p 1
    else s

end Sys2Proof.Machine
end

