-- ==== Sys2Proof/Machine/Command.lean ====
section
/-! DEFINITION. Ports and the commands they execute: lookup, answers to their accesses, and reaching their end (R303, R312, R314). -/

namespace Sys2Proof.Machine

/-- A PCIe port. -/
def State.port (s : State) (p : Nat) : Port := Tab.read s.ports Port.reset p
/-- Replaces a port. -/
def State.setPort (s : State) (p : Nat) (x : Port) : State := { s with ports := Tab.write s.ports Port.reset p x }
/-- Changes a port. -/
def State.modPort (s : State) (p : Nat) (g : Port → Port) : State := s.setPort p (g (s.port p))
/-- A ring of a port. -/
def Port.ring (x : Port) (r : Nat) : Ring := Tab.read x.rings Ring.reset r
/-- Replaces a ring. -/
def Port.setRing (x : Port) (r : Nat) (y : Ring) : Port := { x with rings := Tab.write x.rings Ring.reset r y }
/-- Changes a ring. -/
def Port.modRing (x : Port) (r : Nat) (g : Ring → Ring) : Port := x.setRing r (g (x.ring r))
/-- Adds to a counter of a PCIe port (R520). -/
def Port.count (x : Port) (off n : Nat) : Port := { x with counters := Tab.write x.counters 0 off ((Tab.read x.counters 0 off + n) % 2 ^ 64) }
/-- BIND_V and BIND_PART of a ring (R299). -/
def Ring.bound (r : Ring) : Option Nat := if bit r.cfg 15 then some (bits r.cfg 11 8) else none
/-- CTX of a ring. -/
def Ring.ctx (r : Ring) : Nat := bits r.cfg 7 4
/-- Entries of the command ring. -/
def Ring.sqSize (r : Ring) : Nat := 2 ^ (bits r.cfg 23 20 + 6)
/-- Records of the completion queue. -/
def Ring.cqSize (r : Ring) : Nat := 2 ^ (bits r.cfg 19 16 + 6)

/-- Word `i` of a command. -/
def Cmd.word (c : Cmd) (i : Nat) : Nat := wordAt c.words i
/-- OPC of a command (R308). -/
def Cmd.opc (c : Cmd) : Nat := bits (c.word 0) 63 56

/-- The partition of a command that only a bound ring may issue. -/
def Cmd.part (c : Cmd) : Nat := c.bound.getD 0

/-- Ends a command with a cause and its INFO words. -/
def Cmd.endWith (c : Cmd) (cause info0 info1 : Nat) (halts : Bool) : Cmd :=
  { c with ended := true, cause := cause, info0 := info0, info1 := info1, halts := halts, reads := [], wait := .none }

/-- A command whose reads and accesses have all been answered reaches its end (R312); the failing access of lowest address names
its cause (R314). -/
def Cmd.settle (c : Cmd) : Cmd :=
  if c.ended ∨ !c.issued ∨ !c.reads.isEmpty ∨ !c.accs.isEmpty ∨ c.wait ≠ .none then c
  else if c.cause ≠ 0 then { c with ended := true }
  else match c.bad with
    | some (a, cause) => c.endWith cause (if c.opc = 8 then 0 else a) 0 false
    | none => { c with ended := true }

/-- Keeps the failing access of lowest fabric address. -/
def Cmd.blame (c : Cmd) (addr cause : Nat) : Cmd :=
  match c.bad with
  | some (a, _) => if addr < a then { c with bad := some (addr, cause) } else c
  | none => { c with bad := some (addr, cause) }

/-- The command that waits for a tag, with its place. -/
def Port.cmdOf (x : Port) (tag : Nat) : Option (Nat × Cmd × FabAcc) :=
  let hit (c : Cmd) : Option FabAcc := c.accs.find? (fun a => decide (a.tag = tag))
  (x.cmds.zipIdx).findSome? (fun e => match hit e.1 with | some a => some (e.2, e.1, a) | none => none)

/-- An access of a command is answered: 0, or the cause and the address blamed; of a REMOTE_WRITE the first XLOST counts (R314). An answer no command waits for is discarded (R326). -/
def State.answerCmd (s : State) (p tag cause : Nat) (at' : Option Nat) : State :=
  let x := s.port p
  match x.cmdOf tag with
  | none => s
  | some (i, c, a) =>
    let c1 := { c with accs := c.accs.filter (fun b => !decide (b.tag = tag)) }
    let c2 := if cause = 0 ∨ (c1.opc = 12 ∧ c1.bad.isSome) then c1 else c1.blame (at'.getD a.addr) cause
    s.setPort p { x with cmds := setAt x.cmds i c2.settle }

end Sys2Proof.Machine
end

