-- ==== Sys2Proof/Machine/Partition.lean ====
section
/-! DEFINITION. Nodes and the state of a partition's graph: what every step of the Cistern shares (R15 to R20, R58 to R93, R490, R504). -/

namespace Sys2Proof.Machine

/-! ### Node words (R85) -/

/-- A 32-bit word of a slot of Cistern memory. -/
def Cistern.word (c : Cistern) (n off : Nat) : Nat := Memory.value c.mem (n * 64 + off) 4
/-- The slot holds a task node (R58). -/
def Cistern.isNode (c : Cistern) (n : Nat) : Bool := decide (n < c.nodeLimit) && bit (c.word n 0) 31
/-- MASK of a node. -/
def Cistern.mask (c : Cistern) (n : Nat) : Nat := c.word n 4
/-- FIRE_DECL of a node. -/
def Cistern.fireDecl (c : Cistern) (n : Nat) : Nat := bits (c.word n 0) 15 0
/-- PSET of a node. -/
def Cistern.psetOf (c : Cistern) (n : Nat) : Nat := bits (c.word n 0) 23 16
/-- PCLASS of a node. -/
def Cistern.pclass (c : Cistern) (n : Nat) : Nat := bits (c.word n 0) 27 24
/-- WDOG of a node. -/
def Cistern.wdog (c : Cistern) (n : Nat) : Nat := bits (c.word n 8) 31 16
/-- OUT_COUNT of a node. -/
def Cistern.outCount (c : Cistern) (n : Nat) : Nat := bits (c.word n 0xC) 15 8
/-- OUT_SLOT of a node. -/
def Cistern.outSlot (c : Cistern) (n : Nat) : Nat := bits (c.word n 0xC) 31 16
/-- BIND_COUNT of a node. -/
def Cistern.bindCount (c : Cistern) (n : Nat) : Nat := bits (c.word n 0xC) 7 4
/-- BIND_SLOT of a node. -/
def Cistern.bindSlot (c : Cistern) (n : Nat) : Nat := bits (c.word n 0x14) 31 16
/-- Output record `i` of a node (R86). -/
def Cistern.outRec (c : Cistern) (n i : Nat) : Nat := Memory.value c.mem (c.outSlot n * 64 + 8 * i) 8
/-- Binding record `i` of a node (R87). -/
def Cistern.bindRec (c : Cistern) (n i : Nat) : Nat := Memory.value c.mem (c.bindSlot n * 64 + 8 * i) 8
/-- The run state of a node. -/
def Cistern.node (c : Cistern) (n : Nat) : NodeRun := Tab.read c.nodes NodeRun.reset n
/-- Replaces the run state of a node. -/
def Cistern.setNode (c : Cistern) (n : Nat) (r : NodeRun) : Cistern := { c with nodes := Tab.write c.nodes NodeRun.reset n r }
/-- A core's slots. -/
def Cistern.slot (c : Cistern) (li : Nat) : CoreSlot := Tab.read c.slots CoreSlot.idle li
/-- Replaces a core's slots. -/
def Cistern.setSlot (c : Cistern) (li : Nat) (x : CoreSlot) : Cistern := { c with slots := Tab.write c.slots CoreSlot.idle li x }
/-- A node is exhausted (R61). -/
def Cistern.exhausted (c : Cistern) (n : Nat) : Bool := decide (c.fireDecl n ≠ 0) && decide ((c.node n).fireLeft = 0)

/-- STATE as R85 encodes it. -/
def NodeState.code (x : NodeState) : Nat :=
  match x with
  | .waiting => 0 | .ready => 1 | .pending => 2 | .staged => 3 | .running => 4 | .done => 5 | .failed => 6

/-- The task ID of a node's present firing (R71). -/
def taskIdOf (f n firing : Nat) : DWord := BitVec.ofNat 64 (f <<< 48 + n <<< 32 + (firing + 2 ^ 32 - 1) % 2 ^ 32)
/-- The task ID a node has outstanding. -/
def State.taskOf (s : State) (f n : Nat) : DWord := taskIdOf f n ((s.field f).cis.node n).firing
/-- The field of a task ID (R71). -/
def taskField (t : DWord) : Nat := bits t.toNat 54 48
/-- The node of a task ID (R71). -/
def taskNode (t : DWord) : Nat := bits t.toNat 47 32
/-- LAYER and OPER of a node. -/
def Cistern.layer (c : Cistern) (n : Nat) : Nat := bits (c.word n 0x10) 31 16
/-- See `Cistern.layer`. -/
def Cistern.oper (c : Cistern) (n : Nat) : Nat := bits (c.word n 0x10) 15 0

/-- Records an error in CS_ERR, and in CS_ERR_NODE where it is empty (R93). -/
def Cistern.error (c : Cistern) (bitNo cause n : Nat) : Cistern :=
  { c with err := c.err ||| 1 <<< bitNo, errNode := if c.err = 0 ∧ c.errNode = 0 then cause <<< 16 + n else c.errNode }

/-- A trace record of a traced firing of a node, of a moment. -/
def State.traceAt (s : State) (f n kind ts w3 : Nat) : State :=
  let c := (s.field f).cis
  if (c.node n).traced then s.traceMake f kind (c.layer n) (c.oper n) (s.taskOf f n) ts w3 else s
/-- The same of this moment. -/
def State.traceNode (s : State) (f n kind w3 : Nat) : State := s.traceAt f n kind s.tstamp w3

/-! ### Placement sets (R67, R88) -/

/-- A placement set holds a local core index of the field, of which there are 1,280: the bitmap has 160 bytes. -/
def Cistern.psetHas (c : Cistern) (set li : Nat) : Bool :=
  let d := (Tab.read c.psets 0 set).toNat
  let r := li / 32
  let lc := li % 32
  decide (li < 1280) && match bits d 63 62 with
  | 1 => decide (bits d 21 16 ≤ r) && decide (r ≤ bits d 29 24) && decide (bits d 4 0 ≤ lc) && decide (lc ≤ bits d 12 8)
  | 2 => bit (Memory.byte c.mem (bits d 47 32 * 64 + li / 8)).toNat (li % 8)
  | _ => false
/-- The cores of a placement set, in rising local index. -/
def Cistern.psetCores (c : Cistern) (set : Nat) : List Nat := (upTo 1280).filter (c.psetHas set)
/-- NOSTAGE of a placement set. -/
def Cistern.noStage (c : Cistern) (set : Nat) : Bool := bit (Tab.read c.psets 0 set).toNat 61
/-- A core of the field that is idle and usable (R66, R68, R70). -/
def Cistern.idleCore (c : Cistern) (li : Nat) : Bool :=
  let x := c.slot li
  x.running.isNone && x.staged.isNone && !x.lost
/-- A usable core that runs a task and has an empty staged slot (R67). -/
def Cistern.stageable (c : Cistern) (li : Nat) : Bool :=
  let x := c.slot li
  x.running.isSome && x.staged.isNone && !x.lost

/-! ### Firing and failing (R61, R65, R76) -/

/-- Puts a fired node into the pool, or at the tail of the overflow chain (R65). -/
def Cistern.enter (c : Cistern) (n : Nat) (r : NodeRun) : Cistern :=
  if c.pool.length < 1024 ∧ c.chain.isEmpty then
    let l := c.pool.length + 1
    { c.setNode n { r with state := .ready } with pool := c.pool ++ [n], hwm := max c.hwm l, poolHwmIv := max c.poolHwmIv l }
  else
    { c.setNode n { r with state := .pending, chained := true } with
      chain := c.chain ++ [n], ovfEntered := (c.ovfEntered + 1) % 2 ^ 32, chainHwm := max c.chainHwm (c.chain.length + 1) }

/-- A firing's trace records are wanted (R524). -/
def State.wantsTrace (s : State) (f ordinal : Nat) : Bool :=
  match s.partOf f with
  | none => false
  | some p =>
    (s.traceDest p).en && bit (s.setting 0x2A00 (p + 1)) 0 &&
      decide (ordinal % 2 ^ bits (s.traceDest p).cfg 11 8 = 0)

/-- NODE_FIRE: a WAITING node whose mask is met and that is not exhausted consumes a firing (R61). `src` is SRC of R523. -/
def State.fireNode (s : State) (f n src : Nat) : State :=
  let c := (s.field f).cis
  let r := c.node n
  if s.graphOf f = .running ∧ c.isNode n ∧ r.state = .waiting ∧ r.flags &&& c.mask n = c.mask n ∧ !c.exhausted n then
    let r1 : NodeRun :=
      { r with flags := r.flags - (r.flags &&& c.mask n), fireLeft := if c.fireDecl n = 0 then r.fireLeft else r.fireLeft - 1,
               firing := (r.firing + 1) % 2 ^ 32, outRead := .none, outRecs := [], scrubBad := false, commit := false, restarts := 0,
               wdogEnd := none, acceptAt := (s.field f).clk.halfCclk, chained := false,
               traced := s.wantsTrace f r.firing }
    let s1 := (s.modCis f (fun c => c.enter n r1)).addFieldCtr f 0x50 1
    let c1 := (s1.field f).cis
    s1.traceNode f n 1 (c.pclass n <<< 60 + c.psetOf n <<< 48 + src <<< 14 + b2n (c1.node n).chained <<< 13 + c1.pool.length)
  else s

/-- A node enters FAILED with a cause (R76): counted, traced, its watchdog stopped. -/
def State.failQuiet (s : State) (f n cause : Nat) : State :=
  let s1 := s.modCis f (fun c => c.setNode n { c.node n with state := .failed, cause := cause, wdogEnd := none })
  let r := (s1.field f).cis.node n
  (s1.addFieldCtr f 0x60 1).traceNode f n 4 (cause <<< 48 + r.core)
/-- The same as a progress event of the partition (R116). -/
def State.failNode (s : State) (f n cause : Nat) : State := (s.progress f).failQuiet f n cause

/-- Frees the running slot of a core. -/
def State.freeRunning (s : State) (f li : Nat) : State :=
  s.modCis f (fun c => c.setSlot li { c.slot li with running := none, aborting := none })
/-- Frees the staged slot of a core. -/
def State.freeStaged (s : State) (f li : Nat) : State :=
  s.modCis f (fun c => c.setSlot li { c.slot li with staged := none })

/-- Sends a request on the field bus to a core of the field. -/
def State.toCore (s : State) (f li : Nat) (task : DWord) (b : Payload) : State :=
  s.inject [busPacket (.field f) (.core (coreId f li)) task 0 b]

/-! ### The graph of a partition -/

/-- A field has a task running or staged. -/
def Cistern.busy (c : Cistern) : Bool := c.slots.any (fun e => e.2.running.isSome || e.2.staged.isSome)

/-- Changes the writes of the queue, and of what the standby holds of it. -/
def State.mapQueue (s : State) (g : WriteReq → WriteReq) : State :=
  let each (f : Firmware) : Firmware := { f with wq := f.wq.map g }
  { s with fw := each s.fw, wh := { s.wh with mirror := each s.wh.mirror, sent := s.wh.sent.map (fun e => (e.1, each e.2)) } }
/-- The accepted writes of some requesters go on with no answer (R340, R349). -/
def State.leaveQueue (s : State) (hit : Requester → Bool) : State := s.mapQueue (fun r => if hit r.who then { r with who := .gone } else r)
/-- A partition's tenant writes in flight are to be refused (R366). -/
def State.voidTenant (s : State) (q : Nat) : State := s.mapQueue (fun r => if r.role = .tenant q then { r with void := true } else r)

/-- The STOP_GRAPH commands that wait for a partition's graph have reached their end (R19, R312). -/
def Port.endStops (x : Port) (p : Nat) : Port :=
  { x with cmds := x.cmds.map (fun (c : Cmd) =>
      if c.bound = some p ∧ c.wait = .idle ∧ !c.ended then { c with ended := true, wait := .none } else c) }
/-- The same on every port. -/
def State.endStops (s : State) (p : Nat) : State := (upTo 4).foldl (fun s i => s.modPort i (fun x => x.endStops p)) s

/-- A partition's graph is IDLE: its claims are released and the commands that waited for it end (R19, R107, R403). -/
def State.idlePart (s : State) (p : Nat) : State :=
  (s.modPart p (fun x => { x with graph := .idle, claims := [], det := { x.det with openAt := none } })).endStops p

/-- The root's engine counts of a job begin again (R280). -/
def RingDomain.clearJob (r : RingDomain) (job : Nat) : RingDomain :=
  let out (g : Nat) : Bool := decide (job ≠ 0) && decide (Tab.read r.ejob 0 g = job)
  { r with ecount := r.ecount.filter (fun e => !out e.1), arrived := r.arrived.filter (fun e => !out e.1), ejob := r.ejob.filter (fun e => !out e.1) }

/-- GRAPH_REACHES_IDLE: a STOPPING partition without running or staged task becomes IDLE; its claims are released and the root
counts of its job cleared (R16, R107, R280). -/
def State.idleCheck (s : State) (p : Nat) : State :=
  if (s.part p).graph = .stopping ∧ !(s.partFields p).any (fun f => (s.field f).cis.busy) then
    let s1 := s.idlePart p
    { s1 with rd := s1.rd.clearJob (s.part p).job }
  else s

/-- The same for the partition of a field. -/
def State.idleCheckOf (s : State) (f : Nat) : State :=
  match s.partOf f with
  | some p => s.idleCheck p
  | none => s

/-- On entering STOPPING a field withdraws its staged tasks, and its running firings without watchdog take one of 1 s (R20, R497). -/
def State.stopField (s : State) (f : Nat) : State :=
  let c := (s.field f).cis
  c.slots.foldl (fun s e =>
    let s1 := match e.2.running with
      | some n =>
        s.modCis f (fun c =>
          if (c.node n).state = .running ∧ c.wdog n = 0 then c.setNode n { c.node n with wdogEnd := some (s.tstamp + 100000000) } else c)
      | none => s
    match e.2.staged with
    | some n =>
      s1.toCore f e.1 (s1.taskOf f n) .withdrawReq
    | none => s1) s

/-- A RUNNING graph moves to STOPPING (R16, R20, R504); a graph in another state stays as it is. -/
def State.stopPartition (s : State) (p : Nat) : State :=
  if (s.part p).graph = .running then
    let s1 := s.modPart p (fun x => { x with graph := .stopping, det := { x.det with openAt := none } })
    ((s1.partFields p).foldl State.stopField s1).idleCheck p
  else s

/-- A fault of class PT found by a field: counted, and its partition stops (R504). -/
def State.stopFault (s : State) (f n cause : Nat) : State :=
  match s.partOf f with
  | none => s.fieldFault f cause 0
  | some p => (s.partFault p f n cause).stopPartition p

/-- Causes of a failed task that the Cistern counts for its partition (R489, R495): those of class TK and scope P that are not counted
where they arise. -/
def countedHere (cause : Nat) : Bool :=
  [0x3010, 0x3132, 0x3143, 0x3144, 0x3145, 0x3149, 0x3151, 0x3168, 0x3180, 0x3181, 0x3182, 0x3185, 0x3186, 0x3188,
   0x3190, 0x3191, 0x3192, 0x3193, 0x3194, 0x3195].contains cause

/-- Counts the failure of a task with the record of R492. -/
def State.taskFault (s : State) (f li : Nat) (task : DWord) (cause pc addr : Nat) : State :=
  if countedHere cause then
    let info := if cause = 0x3180 ∨ cause = 0x3181 then addr else f <<< 16 + taskNode task
    let r : FaultRec := { cause := cause, scope := if (s.partOf f).isSome then 1 else 2, id := (s.partOf f).getD f, info := info, ts := 0,
                          queue := 0, task := some task, pc := bits pc 15 0, core := some (coreId f li), seq := 0, addr := addr % 2 ^ 19 }
    s.report f r
  else s

/-- Counts an uncorrectable word of Cistern memory that a firing read and sets CS_ERR.TABLE_ECC; the record names the firing (R83, R517; log entry 68). -/
def State.tableError (s : State) (f n w : Nat) : State :=
  (s.countUe f .cistern 0 w (some (s.taskOf f n))).modCis f (fun c => c.error 2 0x3141 n)

end Sys2Proof.Machine
end

