-- ==== Sys2Proof/Machine/Mesh.lean ====
section
/-! DEFINITION. Messages, credit, losses and links of the on-wafer mesh (R230 to R253). -/

namespace Sys2Proof.Machine

/-! ### Who can receive (R235) -/

/-- A core can receive a packet (R235). -/
def State.reachable (s : State) (c : Nat) : Bool :=
  decide (c < nCores) && decide ((s.field (fieldOf c)).clk.cd = .on) && !(s.core c).lost && decide ((s.core c).run ≠ .off)

/-! ### Acceptance and acknowledgement (R245) -/

/-- A message can be written into its queue: its core can receive; or the core was lost after the message was sent, so that its head may have passed; or the message never
enters the mesh (R235, R246). -/
def State.acceptable (s : State) (c : Nat) (p : Packet) : Bool :=
  let k := s.core c
  s.reachable c || (decide ((s.field (fieldOf c)).clk.cd = .on) && k.lost && (p.bus || decide (p.at' ≤ k.lostAt)))

/-- MESSAGE_ACCEPT: the last flit of the message at `k` is written and its ACK leaves (R133, R245). A message whose head had passed when
its core was lost is accepted too (R235). -/
def execMessageAccept (k : Nat) (s : State) : Out :=
  .next (match s.arriving k with
    | none => s
    | some p =>
      match p.dst, p.src, p.body with
      | .core c, .core src, .msg data =>
        if !s.acceptable c p then s
        else
          let s1 := s.take k
          let q := (s1.core c).queue p.vc
          let q1 : InQueue := { q with msgs := q.msgs ++ [{ sender := src, data := data }] }
          let s2 := s1.modCore c (fun k => k.setQueue p.vc { q1 with hwm := max q1.hwm q1.occupied })
          (s2.progress (fieldOf c)).inject [{ corePacket s2 c src p.vc true p.task p.tag .ack with part := p.part }]
      | _, _, _ => s)

/-- Retires an acknowledged message: its counts, and the producer ADVANCE of a finish-send with FS_BEN (R219, R519). -/
def Core.retire (k : Core) (u : Unacked) : Core :=
  let k1 := { k with nif := { k.nif with unacked := k.nif.unacked.filter (fun x => !decide (x.tag = u.tag)) } }
  let k2 := (k1.addCounter 11 1).addCounter 13 u.len
  match u.bind with
  | some (i, r) => if k2.holdsTask u.task then k2.post { op := .sadv i 1 false, after := u.seq + 1, rpc := some r } else k2
  | none => k2

/-- ACK: the acknowledgement at `k` retires its message, or answers a host event (R245, R312); for a lost core it is counted and
discarded (R243). -/
def execAck (k : Nat) (s : State) : Out :=
  .next (match s.arriving k with
    | none => s
    | some p =>
      match p.dst, p.body with
      | .core c, .ack =>
        let s1 := s.take k
        let kc := s1.core c
        if kc.lost then
          (s1.addFieldCtr (fieldOf c) 0x28 1).modCore c (fun k =>
            { k with nif := { k.nif with unacked := k.nif.unacked.filter (fun u => !decide (u.tag = p.tag)) } })
        else match kc.nif.unacked.find? (fun u => decide (u.tag = p.tag)) with
          | some u => s1.setCore c (kc.retire u)
          | none => s1
      | .ingress q, .ack => (s.take k).answerCmd q p.tag 0 none
      | _, _ => s)

/-! ### Credit (R241 to R243) -/

/-- CREDIT_REQ: a request reaches the queue's interface: granted, held, or answered busy (R241, R485). -/
def execCreditReq (k : Nat) (s : State) : Out :=
  .next (match s.arriving k with
    | none => s
    | some p =>
      match p.dst, p.src, p.body with
      | .core c, .core src, .creditReq n =>
        if !s.reachable c then s
        else
          let s1 := s.take k
          let q := (s1.core c).queue p.vc
          let r : CreditWait := { core := src, slots := n, tag := p.tag, task := p.task }
          match (if q.waiting.isEmpty then takeRequest s1 c p.vc q r else none) with
          | some (q1, a) => (s1.modCore c (fun k => k.setQueue p.vc q1)).inject [a]
          | none =>
            if s1.detMode && q.lock.isSome && decide (q.lock ≠ some src) then
              s1.inject [corePacket s1 c src p.vc true p.task p.tag (.lost 0x3149 p.dst p.body)]
            else if q.waiting.length < 16 then s1.modCore c (fun k => k.setQueue p.vc { q with waiting := q.waiting ++ [r] })
            else (s1.addFieldCtr (fieldOf c) 0x30 1).inject [corePacket s1 c src p.vc true p.task p.tag (.creditGrant 0)]
      | _, _, _ => s)

/-- CREDIT_GRANT: a grant fills its entry, a busy answer sets the retry 64 MCLK later; a grant for a lost core or for no entry goes
straight back (R241 to R243). -/
def execCreditGrant (k : Nat) (s : State) : Out :=
  .next (match s.arriving k with
    | none => s
    | some p =>
      match p.dst, p.src, p.body with
      | .core c, .core src, .creditGrant n =>
        let s1 := s.take k
        let kc := s1.core c
        let back : List Packet := if n = 0 then [] else [corePacket s1 c src p.vc true p.task 0 (.creditReturn n)]
        if kc.lost then s1.inject back
        else match kc.nif.entry src p.vc with
          | some e =>
            if e.asked then
              let e1 := if n = 0 then { e with asked := false, retryAt := some (s1.half c + 96) }
                else { e with asked := false, held := e.held + n, lastUse := s1.half c }
              s1.setCore c { kc with nif := { kc.nif with credits := kc.nif.others src p.vc ++ [e1] } }
            else s1.inject back
          | none => s1.inject back
      | _, _, _ => s)

/-- CREDIT_RETURN: returned slots serve the oldest waiting request first (R241). -/
def execCreditReturn (k : Nat) (s : State) : Out :=
  .next (match s.arriving k with
    | none => s
    | some p =>
      match p.dst, p.body with
      | .core c, .creditReturn n =>
        let s1 := s.take k
        if s1.reachable c then
          let g := ((s1.core c).queue p.vc).giveBack s1 c p.vc n
          (s1.modCore c (fun k => k.setQueue p.vc g.1)).inject g.2
        else s1
      | _, _ => s)

/-- CREDIT_ENTRY_IDLE_TIMEOUT: an entry unused for 4,096 MCLK, which are 6,144 half CCLK, returns its credit (R242). -/
def execCreditEntryIdleTimeout (c i : Nat) (s : State) : Out :=
  onCore c s (fun s =>
    let k := s.core c
    match k.nif.credits[i]? with
    | none => s
    | some e =>
      if e.asked ∨ e.retryAt.isSome ∨ s.half c < e.lastUse + 6144 then s
      else
        let k1 := { k with nif := { k.nif with credits := dropAt k.nif.credits i } }
        (s.setCore c k1).inject (if e.held = 0 then [] else [corePacket s c e.dst e.vc true k.desc.taskId 0 (.creditReturn e.held)]))

/-- CREDIT_BUSY_RETRY: the sender asks again 64 MCLK after a busy answer (R241). -/
def execCreditBusyRetry (c i : Nat) (s : State) : Out :=
  onCore c s (fun s =>
    let k := s.core c
    match k.nif.credits[i]? with
    | none => s
    | some e =>
      match e.retryAt with
      | none => s
      | some t =>
        if s.half c < t ∨ k.lost then s
        else
          let k1 := { k with nif := { k.nif with credits := setAt k.nif.credits i { e with retryAt := none, asked := true } } }
          (s.setCore c k1).inject [corePacket s c e.dst e.vc true k.desc.taskId k.nif.nextTag (.creditReq e.want)])

/-- LOST_CORE_CREDIT_RETURN: a lost core's interface returns the credit of every entry (R243). -/
def execLostCoreCreditReturn (c : Nat) (s : State) : Out :=
  onCore c s (fun s =>
    let k := s.core c
    if k.lost ∧ !k.nif.credits.isEmpty then
      let r := k.returnCredits s c
      (s.setCore c r.1).inject r.2
    else s)

/-! ### Losses (R235, R251 to R253) -/

/-- The LOST report for a packet from the agent or router that refuses it, to its source on the control lane of its channel (R239). -/
def lostReport (by' : Agent) (p : Packet) (cause : Nat) : Packet :=
  { src := by', dst := p.src, vc := p.vc, ctl := true, bus := p.bus, part := p.part, tag := p.tag, task := p.task, at' := 0,
    body := .lost cause p.dst p.body }

/-- Packets a DOWN link discards without a report (R251). -/
def Payload.silent (b : Payload) : Bool :=
  match b with
  | .ack | .lost .. | .creditGrant _ | .creditReturn _ | .syncAns .. => true
  | _ => false

/-- A packet met a DOWN link: discarded, or reported lost to its source by the link's upstream router (R251). -/
def State.loseAt (s : State) (k px py : Nat) (p : Packet) : State :=
  if p.body.silent then s.take k else (s.take k).inject [lostReport (.router px py) p 0x3143]

/-- The router that refuses a packet to a core that cannot receive: the first one of the destination field on the destination row where the field is DEGRADED or its CD OFF, else
the destination's own (R235). -/
def State.refuser (s : State) (p : Packet) (c : Nat) : Agent :=
  let f := fieldOf c
  let d := s.pos (.core c)
  let x := (s.pos p.src).1
  let lo := 33 * (f % 9)
  if (s.field f).clk.repair = .degraded ∨ (s.field f).clk.cd = .off then .router (max lo (min x (lo + 32))) d.2 else .router d.1 d.2

/-- A message was lost: the posted operations that follow it are discarded, those in the outbound queue and those still to come (R141, R178). -/
def Core.loseFrom (k : Core) (n : Nat) : Core :=
  { k with outq := k.outq.filter (fun e => decide (e.after ≤ n)), lostSeq := some (match k.lostSeq with | some m => min m n | none => n) }

/-- A message or credit request of a core's task was lost: the task fails with the cause, its later posted operations are
discarded; a task that has already failed keeps its first cause (R141, R179, R252). -/
def State.lostMessage (s : State) (c : Nat) (tag : Nat) (task : DWord) (dst vc cause : Nat) (isMsg : Bool) : State :=
  let k := s.core c
  let seq := (k.nif.unacked.find? (fun u => decide (u.tag = tag))).map (fun u => u.seq)
  let k1 := if isMsg then { k with nif := { k.nif with unacked := k.nif.unacked.filter (fun u => !decide (u.tag = tag)) } }
    else match k.nif.entry dst vc with
      | some e => { k with nif := { k.nif with credits := k.nif.others dst vc ++ [{ e with asked := false, retryAt := none, waiter := none }] } }
      | none => k
  let s1 := s.addFieldCtr (fieldOf c) 0x20 1
  if k1.holdsTask task ∧ !k1.lost then
    let k2 := match seq with
      | some n => k1.loseFrom n
      | none => k1
    if k1.runsTask task then (s1.setCore c (k2.refuse cause)).finishFail c
    else ((s1.setCore c k2).addFieldCtr (fieldOf c) 0x28 1).finishFail c
  else (s1.setCore c k1).addFieldCtr (fieldOf c) 0x28 1

/-- EVENT_LOST of R82 at the sending Cistern: CS_ERR, and a partition fault that stops the graph. -/
def State.eventLost (s : State) (f node cause : Nat) : State :=
  (s.modCis f (fun c => c.error 1 cause node)).stopFault f node cause

/-- A task has failed or been aborted: its node's present firing has failed, or the report is on its way (R252). -/
def State.taskFailed (s : State) (f : Nat) (task : DWord) : Bool :=
  (decide (((s.field f).cis.node (taskNode task)).state = .failed) && decide (s.taskOf f (taskNode task) = task)) ||
    s.net.any (fun p => decide (p.task = task) && (match p.body with | .failure .. | .abortReport => true | _ => false))

/-- The source of a packet acts on its LOST report (R252). Log entry 73. -/
def State.actLost (s : State) (p : Packet) (cause : Nat) (target : Agent) (what : Payload) : State :=
  match p.dst, what with
  | .core c, .msg _ => s.lostMessage c p.tag p.task (match target with | .core d => d | _ => 0) p.vc cause true
  | .core c, .creditReq _ => s.lostMessage c p.tag p.task (match target with | .core d => d | _ => 0) p.vc cause false
  | .core c, .syncOp .. =>
    let k := s.core c
    let s1 := s.addFieldCtr (fieldOf c) 0x20 1
    if k.lost then s1.addFieldCtr (fieldOf c) 0x28 1
    else if k.runsTask p.task then s1.setCore c (k.refuse 0x3145)
    else if k.holdsTask p.task ∨ s1.taskFailed (fieldOf c) p.task then s1.addFieldCtr (fieldOf c) 0x28 1
    else match s1.recall c p.task 0x3145 with
      | some s2 => s2
      | none => s1.stopFault (fieldOf c) (taskNode p.task) 0x3145
  | .field f, .event r => (s.addFieldCtr f 0x20 1).eventLost f (bits r.toNat 39 24) 0x3140
  | .field f, .xevent r _ => (s.addFieldCtr f 0x20 1).eventLost f (bits r.toNat 39 24) 0x3140
  | .ingress q, .fabric .. => s.answerCmd q p.tag cause none
  | .ingress q, .event _ => s.answerCmd q p.tag cause none
  | .core c, _ => s.addFieldCtr (fieldOf c) 0x20 1
  | .field f, _ => s.addFieldCtr f 0x20 1
  | _, _ => s

/-- LOST: the loss report at `k` reaches the source of the lost packet (R252). -/
def execLost (k : Nat) (s : State) : Out :=
  .next (match s.arriving k with
    | none => s
    | some p =>
      match p.body with
      | .lost cause target what => (s.take k).actLost p cause target what
      | _ => s)

/-- MSG_UNREACHABLE: the head of the packet at `k` meets the router that refuses it; only messages, credit requests and fabric packets
that are not held for a starting field are refused with a report (R52, R235, R252). What a core sends itself meets no router (R246). -/
def execMsgUnreachable (k : Nat) (s : State) : Out :=
  .next (match s.arriving k with
    | none => s
    | some p =>
      match p.dst with
      | .core c =>
        if s.reachable c ∨ p.bus then s
        else match p.body with
          | .msg _ => (s.take k).inject [lostReport (s.refuser p c) p 0x3144]
          | .creditReq _ => (s.take k).inject [lostReport (s.refuser p c) p 0x3144]
          | .fabric .. =>
            if (s.field (fieldOf c)).clk.cd = .starting ∨ (s.field (fieldOf c)).clk.cd = .reset then s
            else (s.take k).inject [lostReport (s.refuser p c) p 0x3144]
          | _ => if (s.field (fieldOf c)).clk.cd = .on then s else s.take k
      | _ => s)

/-- MSG_ACK_TIMEOUT: message `i` of a core's table has waited 100 µs and counts as lost (R253). -/
def execMsgAckTimeout (c i : Nat) (s : State) : Out :=
  onCore c s (fun s =>
    let k := s.core c
    match k.nif.unacked[i]? with
    | none => s
    | some u =>
      if s.tstamp < u.at' + 10000 then s
      else s.lostMessage c u.tag u.task u.dst u.vc 0x3143 true)

/-- Operation codes of a SYNC_OP (R239). -/
def SyncKind.code (k : SyncKind) : Nat := match k with | .advance => 0 | .wait => 1 | .read => 2 | .clear => 3 | .arrive => 4

/-- TYPE, payload bytes and PARAM of a packet of the mesh (R239, R321); none for what travels on the field bus or the release tree (R228). -/
def Payload.form (b : Payload) : Option (Nat × Nat × Nat) :=
  match b with
  | .msg d => some (0, d.length, 0)
  | .event _ => some (1, 8, 0)
  | .xevent _ _ => some (1, 8, 0)
  | .syncOp op consumer n i => some (2, 0, op.code <<< 28 + b2n consumer <<< 27 + n % 256 <<< 19 + i % 4096)
  | .syncAns cause cleared _ _ => some (3, 0, cause <<< 16 + cleared % 2)
  | .ack => some (4, 0, 0)
  | .lost cause _ _ => some (5, 16, cause <<< 16)
  | .creditReq n => some (6, 0, n)
  | .creditGrant n => some (7, 0, n)
  | .creditReturn n => some (8, 0, n)
  | .fabric kind a len d _ =>
    let read := decide (kind = .readData)
    some (9, d.length, b2n read <<< 30 + bits a 46 45 <<< 28 + (if read then len / 8 else 0) <<< 19 + bits a 27 0 / 8)
  | .fabricRsp cause _ d => some (0xA, d.length, cause <<< 16)
  | _ => none

/-- An agent's ID in a header, and whether it is a field agent or gateway (R232, R238); a router has none (log entry 91). -/
def Agent.header (a : Agent) : Bool × Nat :=
  match a with
  | .core c => (false, c)
  | .field f => (true, f)
  | .ingress p => (true, 72 + p)
  | .sluice p => (true, 76 + p)
  | .router _ _ => (true, 0)

/-- A packet answers a READ: the core it goes to sleeps on one. -/
def State.answersRead (s : State) (p : Packet) : Bool :=
  match p.dst, p.body with
  | .core c, .syncAns 0 _ _ _ => (match (s.core c).blocked with | some b => decide (b.op = .read ∧ p.tag = 1) | none => false)
  | _, _ => false

/-- The two header words of a packet (R238); the answer to a READ carries 8 bytes (R239). Log entry 94. -/
def State.header (s : State) (p : Packet) : Option (Nat × Nat) :=
  (p.body.form.map (fun x => if s.answersRead p then (x.1, 8, x.2.2) else x)).map (fun x =>
    let d := p.dst.header
    let r := p.src.header
    (x.1 <<< 60 + p.vc <<< 58 + ((16 + x.2.1 + 63) / 64 - 1) <<< 52 + b2n d.1 <<< 51 + d.2 <<< 34 + b2n r.1 <<< 33 + r.2 <<< 16 + (x.2.1 / 8) <<< 7,
     p.part.getD 0 <<< 60 + b2n p.part.isSome <<< 59 + (p.tag % 65536) <<< 32 + x.2.2))

/-- The bits of PARAM that a packet type reserves (R239). -/
def paramReserved (ty v : Nat) : Nat :=
  match ty with
  | 0 => v | 1 => v | 2 => bits v 18 12 | 3 => bits v 15 1 | 4 => v | 5 => bits v 15 0 | 6 => bits v 31 8 | 7 => bits v 31 8 | 8 => bits v 31 8
  | 0xA => bits v 15 0 | _ => 0

/-- A router or receiver discards a packet with these header words: TYPE reserved, NFLITM1 not agreeing with LEN8, or a reserved bit set (R9, R239). -/
def headerBad (h0 h1 : Nat) : Bool :=
  decide (11 ≤ bits h0 63 60) || decide (bits h0 57 52 + 1 ≠ (16 + 8 * bits h0 15 7 + 63) / 64) || decide (bits h0 6 0 ≠ 0) ||
    decide (bits h1 58 48 ≠ 0) || decide (paramReserved (bits h0 63 60) (bits h1 31 0) ≠ 0)

/-- PACKET_RESERVED_DISCARD: a packet met in a field whose header words are bad is discarded and counted (R9, R238, R239; that a reserved bit is reported by the same count is DEDUCED,
log entry 91). -/
def execPacketReservedDiscard (f : Nat) (h : HeaderWords) (s : State) : Out :=
  onField f s (fun s => if headerBad h.h0 h.h1 ∧ (s.field f).clk.md = .on then s.addFieldCtr f 0x18 1 else s)

/-! ### Links (R250, R251) -/

/-- A command that names a mesh link faults where there is none. -/
def onLink (px py dir : Nat) (s : State) (g : State → State) : Out :=
  if px < 297 ∧ py < 320 ∧ dir < 4 ∧ (linkEnd px py dir).isSome then .next (g s) else .fault .noSuchUnit

/-- LINK_FLIT_ERROR: a flit arrives with an uncorrectable error; the receiver discards it and asks for a resend (R250). -/
def execLinkFlitError (px py dir : Nat) (s : State) : Out :=
  onLink px py dir s (fun s =>
    let f := linkOwner px py dir
    if s.linkDown px py dir then s
    else s.modField f (fun x => { x with
        retries := (x.retries.filter (fun l => !decide (l = (px, py, dir) ∨ l = (px, py, dir + 4)))) ++ [(px, py, dir)],
        linkAt := Tab.write x.linkAt 0 (linkKey px py dir) s.tstamp }))

/-- LINK_RESEND_REQUEST: the upstream router resends from the failed flit; the retry is counted (R250, R520). -/
def execLinkResendRequest (px py dir : Nat) (s : State) : Out :=
  onLink px py dir s (fun s =>
    let f := linkOwner px py dir
    if (s.field f).retries.contains (px, py, dir) then
      (s.modField f (fun x => { x with retries := (x.retries.filter (fun l => !decide (l = (px, py, dir)))) ++ [(px, py, dir + 4)] })).addFieldCtr
        (fieldAt px py) 0x10 1
    else s)

/-- The partition that holds both ends of a link (R251). -/
def State.linkPartition (s : State) (px py dir : Nat) : Option Nat :=
  match linkEnd px py dir with
  | some e => if s.partOf (fieldAt px py) = s.partOf (fieldAt e.1 e.2) then s.partOf (fieldAt px py) else none
  | none => none

/-- MESH_LINK_DOWN: the resent flit fails again; the packets held for the link, named by their places, are lost; the owner reports once and
the partition with both ends stops (R251, R493). -/
def execMeshLinkDown (px py dir : Nat) (held : List Nat) (s : State) : Out :=
  onLink px py dir s (fun s =>
    let f := linkOwner px py dir
    if !(s.field f).retries.contains (px, py, dir + 4) then s
    else
      let s1 := s.modField f (fun x =>
        { x with retries := x.retries.filter (fun l => !decide (l = (px, py, dir + 4))), downLinks := x.downLinks ++ [(px, py, dir)],
                 linkAt := Tab.write x.linkAt 0 (linkKey px py dir) s.tstamp })
      let hit (e : Packet × Nat) : Bool := held.contains e.2 && s1.crosses e.1 px py dir
      let gone : List Packet := (s1.net.zipIdx.filter hit).map (fun e => e.1)
      let s2 := { s1 with net := (s1.net.zipIdx.filter (fun e => !hit e)).map (fun (e : Packet × Nat) => e.1) }
      let s3 := s2.inject ((gone.filter (fun e => !e.body.silent)).map (fun e => lostReport (.router px py) e 0x3143))
      let s4 := s3.fieldFault f 0x3148 (linkKey px py dir)
      match s4.linkPartition px py dir with
      | some p => s4.stopPartition p
      | none => s4)

/-- DOWN_LINK_PACKET_LOST: the packet at `k` is routed to a link that is DOWN (R251). -/
def execDownLinkPacketLost (px py dir k : Nat) (s : State) : Out :=
  onLink px py dir s (fun s =>
    match s.net[k]? with
    | none => s
    | some p => if s.linkDown px py dir ∧ s.crosses p px py dir then s.loseAt k px py p else s)

end Sys2Proof.Machine
end

