-- ==== Sys2Proof/Machine/Cistern.lean ====
section
/-! DEFINITION. The task-graph scheduler: events, dispatch, completion and output, loss of cores (R58 to R93, R496 to R503). -/

namespace Sys2Proof.Machine

/-! ### Events (R61 to R63, R81, R486) -/

/-- An event for a node: index, the 32 flag bits it sets, and SRC of R523. -/
structure NodeEvent where
  node : Nat
  bits : Nat
  src  : Nat
deriving DecidableEq, Repr

/-- A CEV event of the estimator, under offset 0x100 of the field's counters until it is taken (R429). -/
def State.countCev (s : State) (f : Nat) : State := s.addFieldCtr f 0x100 1

/-- The event an output record carries (R86). -/
def recEvent (rec src : Nat) : NodeEvent :=
  { node := bits rec 39 24, bits := bits rec 23 8 <<< (if bit rec 47 then 16 else 0), src := src }

/-- Sets the flags of one event, or discards it (R61 to R63, R81); in deterministic mode a forbidden merge is a partition fault (R486). -/
def State.applyEvent (s : State) (f : Nat) (e : NodeEvent) : State :=
  let c := (s.field f).cis
  let s1 := (s.modCis f (fun c => { c with accepted := (c.accepted + 1) % 2 ^ 32 })).progress f |>.countCev f
  let discard (s : State) : State := s.modCis f (fun c => { c with discarded := (c.discarded + 1) % 2 ^ 32 })
  if !c.isNode e.node then
    ((discard s1).modCis f (fun c => c.error 0 0x3132 e.node)).fieldFault f 0x3132 0
  else if c.exhausted e.node ∨ (c.node e.node).state = .done then discard s1
  else
    let r := c.node e.node
    let merge := decide (r.flags &&& e.bits &&& c.mask e.node ≠ 0)
    let forbidden := s.detMode && merge && (decide (c.fireDecl e.node = 0) || decide (2 ≤ r.fireLeft))
    let nothingNew := decide (r.flags ||| e.bits = r.flags)
    let s2 := s1.modCis f (fun c =>
      { c.setNode e.node { r with flags := r.flags ||| e.bits } with
        merged := if nothingNew || forbidden then (c.merged + 1) % 2 ^ 32 else c.merged })
    if forbidden then s2.stopFault f e.node 0x3137 else s2

/-- Applies the events of one SCLK together, then checks their nodes for readiness, in increasing node index (R61, R525). -/
def State.applyEvents (s : State) (f : Nat) (l : List NodeEvent) : State :=
  (sortKeys (l.map (fun e => (e.node, e.src)))).foldl (fun s e => s.fireNode f e.1 e.2) (l.foldl (fun s e => s.applyEvent f e) s)

/-- The event that the packet at `k` brings to a field over the mesh; a DEGRADED field accepts none (R38, R78, R79). -/
def State.meshEvent (s : State) (f k : Nat) : Option NodeEvent :=
  match s.arriving k with
  | some p =>
    match p.dst, p.body with
    | .field g, .event r =>
      if g = f ∧ (s.field f).clk.repair ≠ .degraded ∧ (s.field f).clk.md = .on then
        some (match p.src with
          | .ingress _ => { node := bits r.toNat 47 32, bits := bits r.toNat 31 0, src := 2 }
          | _ => recEvent r.toNat 3)
      else none
    | _, _ => none
  | none => none

/-- Takes the mesh event at `k`, if it is there: a host event is acknowledged to its port (R312). -/
def State.takeMesh (s : State) (f : Nat) (mesh : Option Nat) : State × List NodeEvent :=
  match mesh with
  | none => (s, [])
  | some k =>
    match s.meshEvent f k, s.net[k]? with
    | some e, some p =>
      let s1 := s.take k
      (match p.src with
       | .ingress _ => s1.inject [ctlPacket (.field f) p.src 3 none p.task p.tag .ack]
       | _ => s1, [e])
    | _, _ => (s, [])

/-- CISTERN_EVENT_ACCEPT: a Cistern accepts the event that waits at its mesh port (R61, R79). Events of its field-local port are accepted by
OUTPUT_RECORD_EMIT and POST_RECEIVE, with a mesh event of the same SCLK. -/
def execCisternEventAccept (f k : Nat) (s : State) : Out :=
  onField f s (fun s =>
    let r := s.takeMesh f (some k)
    r.1.applyEvents f r.2)

/-- OVERFLOW_CHAIN_ADVANCE: the head of the chain moves into the pool while the graph runs (R20, R65). -/
def execOverflowChainAdvance (f : Nat) (s : State) : Out :=
  onField f s (fun s =>
    let c := (s.field f).cis
    match c.chain with
    | [] => s
    | n :: rest =>
      if 1024 ≤ c.pool.length ∨ (s.field f).clk.md ≠ .on ∨ s.graphOf f ≠ .running then s
      else s.modCis f (fun c =>
        let l := c.pool.length + 1
        { c.setNode n { c.node n with state := .ready } with
          chain := rest, pool := c.pool ++ [n], hwm := max c.hwm l, poolHwmIv := max c.poolHwmIv l }))

/-! ### Dispatch (R66 to R71, R83, R137) -/

/-- The start descriptor of a node's firing (R70, R137). -/
def State.startDesc (s : State) (f n : Nat) : StartDesc :=
  let c := (s.field f).cis
  { taskId := s.taskOf f n,
    info := BitVec.ofNat 32 (c.pclass n <<< 24 + c.bindCount n <<< 20 + bits (c.word n 8) 15 0),
    layerOper := BitVec.ofNat 32 (c.word n 0x10),
    args := [0x18, 0x1C, 0x20, 0x24].map (fun o => BitVec.ofNat 32 (c.word n o)),
    binds := (upTo (c.bindCount n)).map (fun i => BitVec.ofNat 64 (c.bindRec n i)) }

/-- The first uncorrectable word of those a firing's start reads: its node slot and its binding records (R83). -/
def Cistern.badStart (c : Cistern) (n : Nat) : Option Nat :=
  ((upTo 8).map (fun i => n * 8 + i) ++ (upTo (c.bindCount n)).map (fun i => c.bindSlot n * 8 + i)).find? (fun w => c.ue.contains w)
/-- The first uncorrectable word of a firing's output records (R83). -/
def Cistern.badOut (c : Cistern) (n : Nat) : Option Nat :=
  ((upTo (c.outCount n)).map (fun i => c.outSlot n * 8 + i)).find? (fun w => c.ue.contains w)

/-- TASK_ASSIGN: the allocator gives pool entry `n` to local core `x.li`, idle or, where no core of the set is idle and staging is allowed, running
(R66, R67). An uncorrectable word read for the firing fails it: from READY where `x.readFirst` says that its reads ended before a core was chosen, else from STAGED,
its staged slot freed again (R83, R91; log entry 74). -/
def execTaskAssign (f n : Nat) (x : AssignAt) (s : State) : Out :=
  onField f s (fun s =>
    let li := x.li
    let c := (s.field f).cis
    let set := c.psetOf n
    let idle := c.idleCore li
    let may := idle || (!c.noStage set && c.stageable li && !(c.psetCores set).any c.idleCore)
    if s.graphOf f ≠ .running ∨ (s.field f).clk.cd ≠ .on ∨ !c.pool.contains n ∨ !c.psetHas set li ∨ !may then s
    else
      let s1 := (s.modCis f (fun c => { c with pool := c.pool.filter (fun m => !decide (m = n)) })).countCev f
      match c.badStart n with
      | some w =>
        let s2 := if x.readFirst then s1
          else (s1.modCis f (fun c => { c.setNode n { c.node n with core := li } with dispatched := (c.dispatched + 1) % 2 ^ 32 })).progress f
        (s2.tableError f n w).failNode f n 0x3141
      | none =>
        let d := s1.startDesc f n
        let r := { c.node n with state := .staged, core := li, outRead := if c.outCount n = 0 then .good else .reading }
        let s2 := s1.modCis f (fun c =>
          { (c.setNode n r).setSlot li { c.slot li with staged := some n } with dispatched := (c.dispatched + 1) % 2 ^ 32 })
        let s3 := (s2.modCore (coreId f li) (fun k => { k with staged := some d })).progress f
        s3.traceNode f n 2 (coreId f li <<< 32 + b2n (!idle) <<< 15 + li))

/-- A report on the field bus: the field, the local core, the task and the payload. -/
def State.report? (s : State) (k : Nat) : Option (Nat × Nat × DWord × Payload) :=
  match s.arriving k with
  | some p =>
    match p.src, p.dst with
    | .core c, .field f => if p.bus ∧ fieldOf c = f then some (f, localOf c, p.task, p.body) else none
    | _, _ => none
  | none => none

/-- START_REPORT: the node enters RUNNING; its watchdog runs from the moment its core sent the report, which the trace record gives (R69, R496, R522). -/
def execStartReport (k : Nat) (s : State) : Out :=
  .next (match s.report? k with
    | some (f, li, task, .startReport begun) =>
      let at' := ((s.arriving k).map Packet.at').getD s.tstamp
      let s1 := s.take k
      let n := taskNode task
      let c := (s1.field f).cis
      let r := c.node n
      if (c.slot li).staged = some n ∧ s1.taskOf f n = task ∧ r.state = .staged then
        let wd := if c.wdog n ≠ 0 then some (at' + c.wdog n * 1000)
          else if s1.graphOf f = .stopping then some (s1.tstamp + 100000000) else none
        let s2 := s1.modCis f (fun c =>
          (c.setNode n { r with state := .running, wdogEnd := wd }).setSlot li
            { c.slot li with running := some n, staged := none })
        let rts := min 0xFFFF ((begun - r.acceptAt) / 3)
        (s2.progress f).traceAt f n 3 at' (coreId f li <<< 32 + rts <<< 16 + b2n (r.chained || decide (r.restarts ≠ 0)) <<< 15 + li)
      else s1
    | _ => s)

/-- The records of a node's output list. -/
def Cistern.outRecs (c : Cistern) (n : Nat) : List DWord := (upTo (c.outCount n)).map (fun i => BitVec.ofNat 64 (c.outRec n i))

/-- The oldest completion of a node whose output records are still being read becomes ready for the emission port. -/
def readyFirst (l : List Emission) (n : Nat) : List Emission :=
  match l with
  | [] => []
  | e :: r => if e.node = n ∧ !e.ready then { e with ready := true } :: r else e :: readyFirst r n

/-- OUTPUT_RECORD_READ_END: the read of a firing's output records ends (R83); records held back for it may then be emitted (R73). Reads end in the order of their
firings. -/
def execOutputRecordReadEnd (f n : Nat) (s : State) : Out :=
  onField f s (fun s =>
    let c := (s.field f).cis
    let r := c.node n
    if (s.field f).clk.md ≠ .on then s
    else if c.emit.any (fun e => decide (e.node = n) && !e.ready) then s.modCis f (fun c => { c with emit := readyFirst c.emit n })
    else if r.outRead = .reading ∧ (r.state = .staged ∨ r.state = .running) then
      match c.badOut n with
      | some w => (s.tableError f n w).modCis f (fun c => c.setNode n { c.node n with outRead := .bad })
      | none => s.modCis f (fun c => c.setNode n { r with outRead := .good, outRecs := c.outRecs n })
    else s)

/-! ### Completion and output (R72 to R77) -/

/-- The completion point of a firing (R72, R75, R83): AFLAGS, the core's slot, and the re-arm, retirement or failure of the node; its output records
wait for the emission port. A read of output records that has not ended by then is judged here, by the words that are bad now (DESIGN CHOICE, log entry 76). -/
def State.complete (s : State) (f li n aflags : Nat) : State :=
  let c := (s.field f).cis
  let r := c.node n
  let task := s.taskOf f n
  let late := if r.outRead = .reading then c.badOut n else none
  let s0 := match late with | some w => s.tableError f n w | none => s
  let bad := r.scrubBad || decide (r.outRead = .bad) || late.isSome
  let s1 := ((s0.freeRunning f li).addFieldCtr f 0x58 1).progress f
  let s2 := s1.modCis f (fun c =>
    { c.setNode n { r with aflags := aflags, wdogEnd := none, cause := 0 } with
      completed := (c.completed + 1) % 2 ^ 32, xtags := c.xtags.map (fun x => if x.post.elim false (fun y => decide (y.1 = task)) then { x with post := none } else x) })
  let s3 := match s2.partOf f with | some p => s2.modPart p (fun x => { x with completed := x.completed + 1 }) | none => s2
  if bad then
    let s4 := s3.modCis f (fun c => c.setNode n { c.node n with state := .failed, cause := 0x3141 })
    (s4.addFieldCtr f 0x60 1).traceNode f n 4 (0x3141 <<< 48 + aflags <<< 32 + li)
  else
    let s4 := s3.traceNode f n 4 (aflags <<< 32 + c.outCount n <<< 16 + li)
    let em : Emission := { node := n, ready := decide (r.outRead ≠ .reading), aflags := aflags, task := task,
                           layerOper := BitVec.ofNat 32 (c.word n 0x10), ts := s.tstamp,
                           stopping := decide (s.graphOf f = .stopping), recs := if r.outRead = .good then r.outRecs else c.outRecs n }
    let s5 := s4.modCis f (fun c =>
      { c.setNode n { c.node n with state := if c.exhausted n then .done else .waiting } with
        emit := if c.outCount n = 0 then c.emit else c.emit ++ [em] })
    s5.fireNode f n 0

/-- The running node of a core that a report names: its firing is still the one in flight. -/
def State.runningNode (s : State) (f li : Nat) (task : DWord) : Option Nat :=
  let n := taskNode task
  let c := (s.field f).cis
  if (c.slot li).running = some n ∧ s.taskOf f n = task ∧ (c.node n).state = .running then some n else none

/-- A report ends its core's task: the running slot of that task is freed even where the firing had already failed (R498). -/
def State.freeEnded (s : State) (f li : Nat) (task : DWord) : State :=
  if ((s.field f).cis.slot li).running = some (taskNode task) then s.freeRunning f li else s

/-- COMPLETION_REPORT (R72, R75): a report of a firing that has already failed is discarded (R498). -/
def execCompletionReport (k : Nat) (s : State) : Out :=
  .next (match s.report? k with
    | some (f, li, task, .completion aflags) =>
      let s1 := s.take k
      (match s1.runningNode f li task with
       | some n => s1.complete f li n aflags
       | none => s1.freeEnded f li task).idleCheckOf f
    | _ => s)

/-- FAILURE_REPORT: the node enters FAILED with the cause; the first failure accepted stands (R76, R490). -/
def execFailureReport (k : Nat) (s : State) : Out :=
  .next (match s.report? k with
    | some (f, li, task, .failure cause pc addr) =>
      let s1 := s.take k
      (match s1.runningNode f li task with
       | some n => ((s1.taskFault f li task cause pc addr).failNode f n cause).freeRunning f li
       | none => s1.freeEnded f li task).idleCheckOf f
    | _ => s)

/-- A valid route toward an engine (R265). -/
def State.routeOf (s : State) (e : Nat) : Option Nat :=
  let v := Tab.read s.rd.route 0 e
  if bit v 7 ∧ bits v 3 0 < 12 ∧ e ≠ s.rd.ownId then some (bits v 3 0) else none

/-- Sends a cross-engine event toward its gateway under the next tag (R271). -/
def State.sendXevent (s : State) (f q : Nat) (part : Option Nat) (task : DWord) (post : Option (DWord × Nat)) (rec : DWord) : State :=
  let tag := ((s.field f).cis.nextTag + 1) % 65536
  let x : XTag := { tag := tag, node := bits rec.toNat 39 24, post := post }
  let s1 := s.modCis f (fun c => { c with nextTag := tag, xtags := c.xtags.filter (fun x => !decide (x.tag = tag)) ++ [x] })
  s1.inject [ctlPacket (.field f) (.sluice q) 3 part task tag (.xevent rec (match part with | some q => (s.part q).job | none => 0))]

/-- Emits one record of a completed task (R73, R74, R78, R271): the packets to send, or an event of this field. -/
def State.emitRecord (s : State) (f : Nat) (e : Emission) (rec : DWord) : State × List NodeEvent :=
  let r := rec.toNat
  match bits r 63 62 with
  | 0 =>
    if bits r 46 40 = f then (s, [recEvent r 0])
    else (s.inject [ctlPacket (.field f) (.field (bits r 46 40)) 3 (s.partOf f) e.task 0 (.event rec)], [])
  | 1 =>
    (match s.routeOf (bits r 61 50) with
     | some p => (s.sendXevent f p (s.partOf f) e.task none rec, [])
     | none => (s.eventLost f (bits r 39 24) 0x3147, []))
  | _ =>
    (s.inject [{ busPacket (.field f) (.ingress (bits r 47 46)) e.task 0 (.hostNote rec e.aflags e.layerOper.toNat e.ts e.stopping) with part := s.partOf f }], [])

/-- OUTPUT_RECORD_EMIT: the oldest completion's next record leaves the emission port, with the mesh event accepted in the same SCLK, if any (R73,
R79). -/
def execOutputRecordEmit (f : Nat) (mesh : Option Nat) (s : State) : Out :=
  onField f s (fun s =>
    match (s.field f).cis.emit with
    | [] => s
    | e :: rest =>
      if !e.ready ∨ (s.field f).clk.md ≠ .on then s
      else match e.recs with
        | [] => s.modCis f (fun c => { c with emit := rest })
        | r :: more =>
          let left := if more.isEmpty then rest else { e with recs := more } :: rest
          let m := (s.modCis f (fun c => { c with emit := left })).takeMesh f mesh
          let o := m.1.emitRecord f e r
          o.1.applyEvents f (o.2 ++ m.2))

/-! ### Withdrawal, abort and watchdog (R20, R142, R143, R496 to R498) -/

/-- WITHDRAW_ANSWER: a withdrawn node returns to WAITING, its firing not given back; a started one stays (R91, R142). -/
def execWithdrawAnswer (k : Nat) (s : State) : Out :=
  .next (match s.report? k with
    | some (f, li, task, .withdrawAns started) =>
      let s1 := s.take k
      let n := taskNode task
      let c := (s1.field f).cis
      if (c.slot li).staged = some n ∧ s1.taskOf f n = task then
        if started then s1
        else
          let s2 := (s1.freeStaged f li).modCis f (fun c => c.setNode n { c.node n with state := .waiting, outRead := .none })
          (s2.traceNode f n 5 li).idleCheckOf f
      else s1
    | _ => s)

/-- ABORT_REPORT: the core's slot is freed (R496). -/
def execAbortReport (k : Nat) (s : State) : Out :=
  .next (match s.report? k with
    | some (f, li, task, .abortReport) => ((s.take k).freeEnded f li task).idleCheckOf f
    | _ => s)

/-- Removes the WAITs a core has registered for a task, in every field that declares pairs (R104, R113). -/
def State.dropWaits (s : State) (c : Nat) : State :=
  { s with fields := s.fields.map (fun e =>
      (e.1, { e.2 with syn := { e.2.syn with pairs := e.2.syn.pairs.map (fun p =>
        (p.1, { p.2 with waitP := if (p.2.waitP.map Waiter.core) = some c then none else p.2.waitP,
                         waitC := if (p.2.waitC.map Waiter.core) = some c then none else p.2.waitC })) } })) }

/-- Sends an abort request for a core's running task (R143, R498). -/
def State.abortCore (s : State) (f li : Nat) (task : DWord) : State :=
  (s.modCis f (fun c => c.setSlot li { c.slot li with aborting := some (s.field f).clk.halfCclk })).toCore f li task .abortReq

/-- TASK_WATCHDOG: a running firing's watchdog has expired (R496); its registered WAITs are removed (R113). -/
def execTaskWatchdog (f n : Nat) (s : State) : Out :=
  onField f s (fun s =>
    let r := (s.field f).cis.node n
    match r.wdogEnd with
    | some t =>
      if r.state = .running ∧ t ≤ s.tstamp ∧ (s.field f).clk.md = .on then
        let task := s.taskOf f n
        let s1 := (s.taskFault f r.core task 0x3151 0 0).failNode f n 0x3151
        (s1.dropWaits (coreId f r.core)).abortCore f r.core task
      else s
    | none => s)

/-! ### Core loss (R500 to R503) -/

/-- FIRING_RESTART: a firing failed by core loss returns to READY or PENDING when R503 allows it. -/
def State.restartNode (s : State) (f n : Nat) : State :=
  let c := (s.field f).cis
  let r := c.node n
  if bit (c.word n 0) 30 ∧ s.graphOf f = .running ∧ !r.commit ∧ r.restarts < 2 then
    let r1 := { r with restarts := r.restarts + 1, outRead := .none, acceptAt := (s.field f).clk.halfCclk }
    (s.modCis f (fun c => c.enter n r1)).traceNode f n 6 (r.restarts + 1)
  else s

/-- The runtime repair entry of a physical position (R40). -/
def repairEntry (f row col : Nat) : Nat := f <<< 16 + row <<< 8 + col

/-- Declares a core lost (R501): its firings fail, then those that may restart do (R503, R525), its WAITs go, its position goes OFF; its network interface works on (R243). -/
def State.declareLost (s : State) (f li reason : Nat) : State :=
  let c := coreId f li
  let x := (s.field f).cis.slot li
  if x.lost then s
  else
    let row := li / 32
    let info := row <<< 24 + s.physCol f row (li % 32) <<< 16 + reason
    let s1 := s.report f { plainFault 0x3153 2 f info with core := some c, task := x.running.map (fun n => s.taskOf f n) }
    let s2 := s1.modCis f (fun cs => cs.setSlot li { CoreSlot.idle with lost := true })
    let s3 := (s2.dropWaits c).modCore c (fun k =>
      { k with run := .off, lost := true, autoAdd := some (repairEntry f row (s.physCol f row (li % 32))), staged := none, sbuf := [], uq := [], outq := [], blocked := none,
               asyncErr := none, ending := .none, finHold := false, lostAt := s.tstamp })
    let ns := (sortKeys ((x.running.toList ++ x.staged.toList).map (fun n => (n, n)))).map (·.1) |>.filter (fun n => !decide (((s3.field f).cis.node n).state = .failed))
    (ns.foldl (fun s n => s.restartNode f n) (ns.foldl (fun s n => s.failNode f n 0x3153) s3)).idleCheckOf f

/-- ABORT_NO_ANSWER: no abort report within 1,024 CCLK, so the core is lost with reason 2 (R498, R500). -/
def execAbortNoAnswer (f li : Nat) (s : State) : Out :=
  onField f s (fun s =>
    match ((s.field f).cis.slot li).aborting with
    | some t => if t + 2048 ≤ (s.field f).clk.halfCclk ∧ (s.field f).clk.cd = .on then s.declareLost f li 2 else s
    | none => s)

/-- CORE_LOST: a field-bus error (reason 1) or an error the core found in itself (reason 3) makes a core lost (R500, R501). -/
def execCoreLost (c reason : Nat) (s : State) : Out :=
  onCore c s (fun s =>
    if (reason = 1 ∨ reason = 3) ∧ (s.field (fieldOf c)).clk.cd = .on then s.declareLost (fieldOf c) (localOf c) reason else s)

/-- COMMIT_NOTICE: the Cistern keeps one notice bit per firing (R502). -/
def execCommitNotice (k : Nat) (s : State) : Out :=
  .next (match s.report? k with
    | some (f, _, task, .commitNotice) =>
      let s1 := s.take k
      let n := taskNode task
      if s1.taskOf f n = task then s1.modCis f (fun c => c.setNode n { c.node n with commit := true }) else s1
    | _ => s)

/-! ### POST (R80, R271) -/

/-- POST_RECEIVE: a kernel's POST is checked, then applied here, sent on, or refused; `mesh` names the mesh event of the same SCLK (R79, R80,
R271). -/
def execPostReceive (k : Nat) (mesh : Option Nat) (s : State) : Out :=
  .next (match s.report? k with
    | some (f, li, task, .post rec) =>
      let m := (s.take k).takeMesh f (mesh.bind (fun j => if j = k then none else if k < j then some (j - 1) else some j))
      let s0 := m.1
      let r := rec.toNat
      let refuse (s : State) : State := s.inject [busPacket (.field f) (.core (coreId f li)) task 0 (.syncAns 0x3132 0 0 0)]
      if bits r 63 62 = 0 then
        if bits r 46 40 < nFields ∧ s.partOf f ≠ none ∧ s.partOf (bits r 46 40) = s.partOf f then
          if bits r 46 40 = f then s0.applyEvents f (recEvent r 1 :: m.2)
          else (s0.inject [ctlPacket (.field f) (.field (bits r 46 40)) 3 (s.partOf f) task 0 (.event rec)]).applyEvents f m.2
        else (refuse s0).applyEvents f m.2
      else
        match s.partOf f, s.routeOf (bits r 61 50) with
        | some p, some q =>
          if (s.part p).job = 0 then (refuse s0).applyEvents f m.2
          else (s0.sendXevent f q (some p) task (some (task, li)) rec).applyEvents f m.2
        | _, _ => (refuse s0).applyEvents f m.2
    | _ => s)

/-- EVENT_LOST: the loss report of an event message reaches its sending Cistern (R82). -/
def execEventLost (k : Nat) (s : State) : Out :=
  .next (match s.arriving k with
    | some p =>
      match p.dst, p.body with
      | .field _, .lost cause target (.event r) => (s.take k).actLost p cause target (.event r)
      | .field _, .lost cause target (.xevent r j) => (s.take k).actLost p cause target (.xevent r j)
      | _, _ => s
    | none => s)

/-- Clears CS_ERR bits; with every bit clear CS_ERR_NODE is empty (R93). -/
def Cistern.clearErr (c : Cistern) (v : Nat) : Cistern :=
  let e := c.err - (c.err &&& v)
  { c with err := e, errNode := if e = 0 then 0 else c.errNode }

/-- CS_ERR_CLEAR: a W1C write of CS_ERR, which reaches it as a WRITE_TABLE does, while the graph is IDLE (R59, R93). -/
def execCsErrClear (f v : Nat) (s : State) : Out :=
  onField f s (fun s => if (s.field f).clk.md = .on ∧ s.graphOf f = .idle then s.modCis f (fun c => c.clearErr v) else s)

end Sys2Proof.Machine
end

