-- ==== Sys2Proof/Machine/Cluster.lean ====
section
/-! DEFINITION. Cross-engine packets on their way out, and the releases and breaks of barrier groups (R109, R112, R264 to R268, R275, R279 to R283). -/

namespace Sys2Proof.Machine

/-! ### Ports and the ring domain -/

/-- This engine's cluster engine ID (R265). -/
def State.engineId (s : State) : Nat := s.rd.ownId
/-- A Sluice port. -/
def State.sl (s : State) (p : Nat) : Sluice := Tab.read s.sluice Sluice.reset p
/-- Changes a Sluice port. -/
def State.modSl (s : State) (p : Nat) (g : Sluice → Sluice) : State :=
  { s with sluice := Tab.write s.sluice Sluice.reset p (g (s.sl p)) }
/-- Adds to a counter of a Sluice port (R520). -/
def Sluice.count (x : Sluice) (off n : Nat) : Sluice :=
  { x with counters := Tab.write x.counters 0 off ((Tab.read x.counters 0 off + n) % 2 ^ 64) }
/-- Changes the ring domain. -/
def State.modRd (s : State) (g : RingDomain → RingDomain) : State := { s with rd := g s.rd }

/-- The sync state becomes `x`; in every state but MASTER and LOCKED CSYNC_OUT is held low (R286, R401). -/
def RingDomain.enter (r : RingDomain) (x : SyncState) : RingDomain :=
  { r with sync := x, csyncOut := if x = .master ∨ x = .locked then r.csyncOut else 0 }

/-- The sync state follows TIME_MASTER, ENGINE_ID and the route to the master (R286). -/
def State.syncRefresh (s : State) : State :=
  let tm := s.rd.master
  if tm = s.engineId then s.modRd (fun r => { r.enter .master with dist := 0 })
  else if tm = 0xFFFF ∨ (s.routeOf tm).isNone ∨ s.rd.sync = .master then
    s.modRd (fun r => { r.enter .free with dist := 0, offset := 0, agree := 0, edges := 0 })
  else s

/-- Records an error in SL_ERR, and in SL_ERR_INFO where it is the first since SL_ERR was cleared (R290). -/
def State.slError (s : State) (bitNo cause engine : Nat) : State :=
  s.modRd (fun r => { r with slErr := r.slErr ||| 1 <<< bitNo,
                             slErrInfo := if r.slErr = 0 then cause <<< 16 + engine else r.slErrInfo })

/-- The enabled partition that holds a job ID (R270, R273). -/
def State.jobPart (s : State) (job : Nat) : Option Nat :=
  if job = 0 then none else (upTo 16).find? (fun p => (s.part p).enabled && decide ((s.part p).job = job))

/-! ### Packets (R264 to R268) -/

/-- Word 0 of a packet's header (R266). -/
def XPacket.word0 (x : XPacket) : Nat := x.xtype <<< 60 + x.dst <<< 48 + x.src <<< 36 + x.hops <<< 30 + x.job
/-- The class of a packet, whose link credit it takes (R264, R267). -/
def xclass (xtype : Nat) : Nat :=
  if [2, 3, 4, 6, 7, 8].contains xtype then 2 else if xtype = 0xA then 4 else 3
/-- The place of a packet in the priority order: XACK, of class 3, is sent in turn with XCOPY (R264; log entry 93). -/
def xprio (xtype : Nat) : Nat := if xtype = 0xB then 4 else xclass xtype

/-- Splits bytes into pieces of `n`, at most `fuel` of them. -/
def pieces (n : Nat) (fuel : Nat) (l : List Byte) : List (List Byte) :=
  match fuel with
  | 0 => []
  | fuel + 1 => if l.isEmpty then [] else l.take n :: pieces n fuel (l.drop n)

/-- The flits of a packet: its header and an XCOPY's payload (R267). -/
def XPacket.flits (x : XPacket) : List Flit := .head x :: (pieces 64 64 x.data).map (Flit.body { x with data := [] })

/-- The header a flit belongs to. -/
def Flit.owner (f : Flit) : XPacket := match f with | .head x => { x with data := [] } | .body x _ => x

/-- The 64 bytes of a header flit (R266). -/
def XPacket.headBytes (x : XPacket) : List Byte :=
  toBytes 8 (x.word0 + bits x.resv 13 0 <<< 16) ++ toBytes 8 x.wa ++ toBytes 8 x.wb ++
    toBytes 8 (bits x.resv 38 14 <<< 39 + x.sfield % 128 <<< 32 + bits x.resv 54 39 <<< 16 + x.stag % 65536) ++ toBytes 32 (x.resv >>> 55)

/-- The 64 bytes of a flit; a last payload flit is filled with zeros (R266, R267). -/
def Flit.bytes (f : Flit) : List Byte :=
  match f with
  | .head x => x.headBytes
  | .body _ l => (l ++ List.replicate 64 0).take 64

/-- The CRC of a frame: over bytes 0 to 63, which a frame without a flit has 0, and the upper half of its trailer (R257, R534; log entry 41). -/
def frameCrc (flit : Option Flit) (seq ackSeq ftype resv : Nat) : Nat :=
  crc32 ((match flit with | some f => f.bytes | none => List.replicate 64 0) ++
    toBytes 4 (seq % 4096 <<< 20 + ackSeq % 4096 <<< 8 + ftype % 16 <<< 4 + resv % 16))

/-- A frame this engine sends (R257). -/
def frameOut (port seq ackSeq ftype : Nat) (flit : Option Flit) (credit : List Nat) : FrameOut :=
  { port := port, seq := seq, ackSeq := ackSeq, ftype := ftype, flit := flit, crc := frameCrc flit seq ackSeq ftype 0, credit := credit }

/-- Link credit to return for `n` frames of a class (R264). -/
def Sluice.owe (y : Sluice) (c n : Nat) : Sluice := { y with owed := setAt y.owed (c - 2) (y.owed.getD (c - 2) 0 + n) }

/-- The last sequence number received good, as ACKSEQ carries it (R257). -/
def Sluice.ackSeq (y : Sluice) : Nat := (y.rxSeq + 4095) % 4096

/-- The next flit to send, with its place in the priority order: the oldest waiting there, in the first place whose oldest flit has link credit (R264). -/
def Sluice.nextFlit (y : Sluice) : Option (Nat × Flit) :=
  [2, 3, 4].findSome? (fun c =>
    match y.txq.find? (fun e => decide (e.1 = c)) with
    | some e => if 0 < y.credits.getD (xclass e.2.owner.xtype - 2) 0 then some e else none
    | none => none)

/-- Drops the first waiting flit of a place. -/
def dropClass (c : Nat) (l : List (Nat × Flit)) : List (Nat × Flit) :=
  match l with
  | [] => []
  | e :: r => if e.1 = c then r else e :: dropClass c r

/-- Sends waiting flits as DATA frames while the port is UP, holds credit and has room in its replay buffer (R259, R264). -/
def State.pump (fuel : Nat) (s : State) (p : Nat) : State :=
  match fuel with
  | 0 => s
  | fuel + 1 =>
    let y := s.sl p
    match y.nextFlit with
    | none => s
    | some (c, f) =>
      if y.state ≠ .up ∨ 512 ≤ y.replay.length then s
      else
        let i := xclass f.owner.xtype - 2
        let z := { y with txq := dropClass c y.txq, credits := setAt y.credits i (y.credits.getD i 0 - 1), owed := [0, 0, 0],
                          replay := y.replay ++ [(y.txSeq, s.tstamp, f)], txSeq := (y.txSeq + 1) % 4096 }
        let s1 := { s.modSl p (fun _ => z.count 0 1) with linkOut := s.linkOut ++ [frameOut p y.txSeq y.ackSeq 0 (some f) y.owed] }
        State.pump fuel s1 p

/-- Sends all that a port may send. -/
def State.pumpAll (s : State) (p : Nat) : State := s.pump (s.sl p).txq.length p

/-- Queues a packet's flits at a port, in its place (R264). -/
def State.xput (s : State) (p : Nat) (x : XPacket) : State :=
  State.pumpAll (s.modSl p (fun y => ({ y with txq := y.txq ++ x.flits.map (fun f => (xprio x.xtype, f)) } : Sluice).count 0x48 (b2n (decide (x.xtype = 5))))) p

/-- Hands a packet to this engine's own RD or to the gateway of the port it came by; 12 stands for the RD itself. -/
def State.xlocal (s : State) (p : Nat) (x : XPacket) : State := s.modRd (fun r => { r with xin := r.xin ++ [(p, x)] })

/-- Where a packet goes: the port, or the cause of its XLOST (R268). -/
def State.xroute (s : State) (x : XPacket) : Nat ⊕ Nat :=
  if 32 < x.hops then .inl 0x3147
  else match s.routeOf x.dst with
    | none => .inl 0x3147
    | some p => if (s.sl p).state = .up then .inr p else .inl 0x3146

/-- The XLOST for a packet: its word 0, the cause, and the source's field and tag (R267; log entry 31). -/
def xlostFor (own : Nat) (x : XPacket) (cause : Nat) : XPacket :=
  { xtype := 5, dst := x.src, src := own, hops := 0, job := x.job, wa := x.word0, wb := cause, sfield := x.sfield, stag := x.stag, data := [] }

/-- Sends a packet that is never answered itself: an XLOST (R268). -/
def State.xsendLast (s : State) (x : XPacket) : State :=
  if x.dst = s.engineId then s.xlocal 12 x
  else match s.xroute x with
    | .inr p => s.xput p x
    | .inl _ => s

/-- Raises an XLOST for a packet: counted once here, for the partition of its job where this engine has one (R275; log entry 32). -/
def State.xfail (s : State) (x : XPacket) (cause : Nat) : State :=
  if x.xtype = 5 then s
  else
    let r := match s.jobPart x.job with
      | some p => plainFault cause 1 p (if x.sfield < nFields then x.sfield <<< 16 + (if x.xtype = 1 then bits x.wa 39 24 else 0) else 0)
      | none => plainFault cause 0 0 0
    let s1 := s.report 72 r
    let s2 := if 32 < x.hops then s1.slError 3 cause x.src else s1
    s2.xsendLast (xlostFor s.engineId x cause)

/-- Sends a cross-engine packet from this engine or onward: to this engine's own RD, out at a port, or lost (R268, R279). -/
def State.xsend (s : State) (x : XPacket) : State :=
  if x.dst = s.engineId then s.xlocal 12 x
  else match s.xroute x with
    | .inr p => s.xput p x
    | .inl c => s.xfail x c

/-- A packet of this engine for a barrier group; its tag is the group (log entry 31). -/
def groupPacket (s : State) (xtype dst job g wa wb wf : Nat) : XPacket :=
  { xtype := xtype, dst := dst, src := s.engineId, hops := 0, job := job, wa := wa, wb := wb, sfield := wf, stag := g, data := [] }

/-! ### Groups (R105 to R112, R277 to R283) -/

/-- EXPECT of a group descriptor. -/
def wellExpect (d : Nat) : Nat := bits d 16 0
/-- TMO of a group descriptor. -/
def wellTmo (d : Nat) : Nat := bits d 47 32
/-- CLUSTER of a group descriptor. -/
def wellCluster (d : Nat) : Bool := bit d 62

/-- Run state of a group in a field. -/
def State.well (s : State) (f g : Nat) : Well := Tab.read (s.field f).syn.wells Well.reset g
/-- Sets the run state of a group. -/
def State.setWell (s : State) (f g : Nat) (w : Well) : State := s.modSyn f (fun y => { y with wells := Tab.write y.wells Well.reset g w })

/-- CW_DESC of a group: V, ROOT, EEXPECT (R277). -/
def State.cwDesc (s : State) (g : Nat) : Nat := Tab.read s.rd.cw 0 g
/-- The well field of a group in a partition (R105). -/
def State.wellFieldOfPart (s : State) (p g : Nat) : Option Nat :=
  (s.partFields p).findSome? (fun f => if bit (s.wellDesc f g) 63 then some (wellFieldOf (s.wellDesc f g)) else none)

/-- Sends a packet on the release tree to every field of the partition of a well field (R109, R112). -/
def State.tree (s : State) (wf : Nat) (b : Payload) : State :=
  match s.partOf wf with
  | none => s
  | some p => s.inject ((s.partFields p).map (fun f => busPacket (.field wf) (.field f) 0 0 b))

/-- The engine's arrival for a cluster group leaves (R279). -/
def State.engineArrival (s : State) (wf g : Nat) : State :=
  match s.partOf wf with
  | none => s
  | some p => s.xsend (groupPacket s 2 (bits (s.cwDesc g) 27 16) (s.part p).job g g 0 wf)

/-- WELL_RELEASE: the generation advances and the release leaves on the tree; a held second engine arrival leaves with it (R109, R111, R279). -/
def State.wellRelease (s : State) (wf g : Nat) : State :=
  let w := s.well wf g
  let d := s.wellDesc wf g
  let w1 : Well := { w with gen := (w.gen + 1) % 2 ^ 32, count := if wellCluster d then w.count else 0, timer := w.next, next := none,
                            out := w.held, held := false }
  let s1 := ((s.setWell wf g w1).progress wf).tree wf (.release g)
  if w.held then s1.engineArrival wf g else s1

/-- The root's broken release: a broken XRELEASE to every engine that arrived in the current generation (R282). -/
def State.rootBroken (s : State) (job g cause : Nat) : State :=
  let gone := (Tab.read s.rd.arrived [] g).filter (fun e => !decide (e = s.engineId))
  gone.foldl (fun s e => s.xsend (groupPacket s 3 e job g (256 + g) cause 0)) s

/-- Breaks a group of a partition here: STATE becomes BROKEN and the broken-release leaves on the tree (R112, R282). -/
def State.breakLocal (s : State) (p g cause : Nat) : State :=
  match s.wellFieldOfPart p g with
  | none => s
  | some wf =>
    let w := s.well wf g
    if w.broken then s
    else ((s.setWell wf g { w with broken := true, cause := cause, timer := none, next := none, out := false, held := false }).progress wf).tree wf
      (.brokenRelease g cause)

/-- An engine that breaks a cluster group itself tells the root, or as the root every engine that arrived (R282). -/
def State.breakOwn (s : State) (p g cause : Nat) : State :=
  let s1 := s.breakLocal p g cause
  let cw := s.cwDesc g
  let clustered := match s.wellFieldOfPart p g with
    | some wf => wellCluster (s.wellDesc wf g)
    | none => false
  if !clustered then s1
  else if bits cw 27 16 = s.engineId then s1.rootBroken (s.part p).job g cause
  else s1.xsend (groupPacket s1 4 (bits cw 27 16) (s.part p).job g g cause 0)

end Sys2Proof.Machine
end

