-- ==== Sys2Proof/Machine/Sync.lean ====
section
/-! DEFINITION. Counter pairs, barrier groups in their well field, and the deadlock detector (R94 to R121). -/

namespace Sys2Proof.Machine

/-! ### Pairs (R94 to R104) -/

/-- The run state of a pair. -/
def State.pair (s : State) (f i : Nat) : Pair := Tab.read (s.field f).syn.pairs Pair.reset i
/-- Sets the run state of a pair. -/
def State.setPair (s : State) (f i : Nat) (x : Pair) : State := s.modSyn f (fun y => { y with pairs := Tab.write y.pairs Pair.reset i x })
/-- DEPTH of a pair. -/
def State.depth (s : State) (f i : Nat) : Nat := bits (Tab.read (s.field f).syn.decls 0 i).toNat 7 0

/-- Answers a registered WAIT. -/
def State.answerWaiter (s : State) (f : Nat) (w : Waiter) (cause p c : Nat) : State :=
  s.answerCore f w.core w.tag w.task (.syncAns cause 0 p c)

/-- A WAIT's condition holds (R96). -/
def waitMet (depth : Nat) (x : Pair) (consumer : Bool) (n : Nat) : Bool :=
  if consumer then decide (n ≤ x.p - x.c) else decide (n + (x.p - x.c) ≤ depth)

/-- WAIT_ANSWER: registered WAITs whose condition now holds are answered and removed (R99). -/
def State.checkWaits (s : State) (f i : Nat) : State :=
  let x := s.pair f i
  let d := s.depth f i
  let metP := match x.waitP with | some w => if waitMet d x false w.n then some w else none | none => none
  let metC := match x.waitC with | some w => if waitMet d x true w.n then some w else none | none => none
  let s1 := s.setPair f i { x with waitP := if metP.isSome then none else x.waitP, waitC := if metC.isSome then none else x.waitC }
  let s2 := match metC with | some w => s1.answerWaiter f w 0 x.p x.c | none => s1
  match metP with | some w => s2.answerWaiter f w 0 x.p x.c | none => s2

/-- A refused ADVANCE that is counted: ERR is set with its cause, and every registered WAIT is answered with the refusal (R101, R102). -/
def State.pairError (s : State) (f i cause bitNo : Nat) (who : Option (DWord × Nat)) : State :=
  let x := s.pair f i
  let s1 := (s.setPair f i { x with err := true, cause := cause, waitP := none, waitC := none }).syncFault f bitNo cause i false who
  let s2 := match x.waitC with | some w => s1.answerWaiter f w cause 0 0 | none => s1
  match x.waitP with | some w => s2.answerWaiter f w cause 0 0 | none => s2

/-- SIPHON_SAT: a count saturated (R103). -/
def State.pairSat (s : State) (f i : Nat) : State :=
  (s.setPair f i { s.pair f i with sat := true }).syncFault f 2 0x3162 i false none

/-- An operation that has reached a pair or Well unit: its field, issuing core, packet, kind, side, amount and index. -/
structure PairOp where
  field    : Nat
  core     : Nat
  pkt      : Packet
  op       : SyncKind
  consumer : Bool
  n        : Nat
  index    : Nat
deriving DecidableEq, Repr

/-- The operation that the packet at `k` brings to its unit. -/
def State.pairOp (s : State) (k : Nat) : Option PairOp :=
  match s.arriving k with
  | some p =>
    match p.src, p.dst, p.body with
    | .core c, .field f, .syncOp o consumer n i =>
      if (s.field f).clk.md = .on ∧ i < 4096 then some { field := f, core := c, pkt := p, op := o, consumer := consumer, n := n, index := i } else none
    | _, _, _ => none
  | none => none

/-- Refuses an operation at its issuing core (R101). -/
def State.refuseOp (s : State) (f c : Nat) (p : Packet) (cause : Nat) : State :=
  s.answerCore f c p.tag p.task (.syncAns cause 0 0 0)

/-- What an ADVANCE makes of a count: 2^32 - 1 where it would pass it (R103). -/
def satCount (v n : Nat) : Nat := min (v + n) 0xFFFFFFFF

/-- An ADVANCE at its pair, the counts alone; registered WAITs are checked after it (R96, R98, R101 to R103). -/
def State.advancePair (s : State) (o : PairOp) : State :=
  let f := o.field
  let i := o.index
  let x := s.pair f i
  if x.err then s.refuseOp f o.core o.pkt x.cause
  else if x.sat then s.refuseOp f o.core o.pkt 0x3162
  else if o.n = 0 then s.progress f
  else
    let v := satCount (if o.consumer then x.c else x.p) o.n
    let fits := if o.consumer then decide (v ≤ x.p) else decide (v ≤ x.c + s.depth f i)
    if fits then
      let s1 := (s.setPair f i (if o.consumer then { x with c := v } else { x with p := v })).progress f
      if 0xFFFFFFFF < (if o.consumer then x.c else x.p) + o.n then s1.pairSat f i else s1
    else
      let cause := if o.consumer then 0x3161 else 0x3160
      (s.pairError f i cause (if o.consumer then 1 else 0) (some (o.pkt.task, o.core))).refuseOp f o.core o.pkt cause

/-- A WAIT at its pair: refused, answered at once, or registered (R96, R99, R102). Where several refusals apply, and for a WAIT of 0 on a side that has one registered,
the order is the model's (log entry 80). -/
def State.waitPair (s : State) (o : PairOp) : State :=
  let f := o.field
  let i := o.index
  let x := s.pair f i
  let w : Waiter := { core := o.core, n := o.n, tag := o.pkt.tag, task := o.pkt.task }
  if x.err then s.refuseOp f o.core o.pkt x.cause
  else if s.depth f i < o.n then (s.syncFault f 4 0x3164 i false (some (o.pkt.task, o.core))).refuseOp f o.core o.pkt 0x3164
  else if (if o.consumer then x.waitC.isSome else x.waitP.isSome) then
    (s.syncFault f 3 0x3163 i false (some (o.pkt.task, o.core))).refuseOp f o.core o.pkt 0x3163
  else if waitMet (s.depth f i) x o.consumer o.n then (s.progress f).answerWaiter f w 0 x.p x.c
  else (s.setPair f i (if o.consumer then { x with waitC := some w } else { x with waitP := some w })).progress f

/-- A CLEAR at its pair: both counts become 0 when the pair is empty and quiet (R96, R102, R103). -/
def State.clearPair (s : State) (o : PairOp) : State :=
  let f := o.field
  let x := s.pair f o.index
  if x.err then s.refuseOp f o.core o.pkt x.cause
  else if x.p = x.c ∧ !x.sat ∧ x.waitP.isNone ∧ x.waitC.isNone then
    ((s.setPair f o.index { x with p := 0, c := 0 }).progress f).answerCore f o.core o.pkt.tag o.pkt.task (.syncAns 0 1 0 0)
  else s.answerCore f o.core o.pkt.tag o.pkt.task (.syncAns 0 0 x.p x.c)

/-- A READ at its pair: answered with P and C (R96). -/
def State.readPair (s : State) (o : PairOp) : State :=
  s.answerCore o.field o.core o.pkt.tag o.pkt.task (.syncAns 0 0 (s.pair o.field o.index).p (s.pair o.field o.index).c)

/-- The operations of one SCLK at one pair unit, in the order of R98: consumer-side ADVANCEs, producer-side ADVANCEs, the registered WAITs and the new ones against the
counts so updated, CLEARs, READs. -/
def State.applyPairOps (s : State) (l : List PairOp) : State :=
  let sel (op : SyncKind) : List PairOp := l.filter (fun o => decide (o.op = op))
  let adv := sel .advance
  let s1 := (adv.filter (fun o => o.consumer) ++ adv.filter (fun o => !o.consumer)).foldl State.advancePair s
  let s2 := adv.foldl (fun s o => s.checkWaits o.field o.index) s1
  let s3 := (sel .wait).foldl State.waitPair s2
  let s4 := (sel .clear).foldl State.clearPair s3
  (sel .read).foldl State.readPair s4

/-- Takes the packet at `k`, and the one at `j` where there is one. -/
def State.takeBoth (s : State) (k : Nat) (j : Option Nat) : State :=
  match j with
  | none => s.take k
  | some j => if k < j then (s.take j).take k else (s.take k).take j

/-- The operation that a pair unit's other port brings in the same SCLK: one port is field-local, the other the mesh (R98). -/
def State.pairOther (s : State) (o : PairOp) (other : Option Nat) : Option (Nat × PairOp) :=
  other.bind (fun j => (s.pairOp j).bind (fun q =>
    if q.field = o.field ∧ q.op ≠ .arrive ∧ decide (fieldOf q.core = o.field) ≠ decide (fieldOf o.core = o.field) then some (j, q) else none))

/-- A pair unit accepts the operation at `k`, of the kind and side wanted, and the one at its other port in the same SCLK (R98). -/
def pairStep (op : SyncKind) (side : Bool → Bool) (k : Nat) (other : Option Nat) (s : State) : Out :=
  .next (match s.pairOp k with
    | none => s
    | some o =>
      if o.op ≠ op ∨ !side o.consumer then s
      else match s.pairOther o other with
        | none => (s.take k).applyPairOps [o]
        | some (j, q) => (s.takeBoth k (some j)).applyPairOps [o, q])

/-- PRODUCER_ADVANCE (R96); `x.other` names the operation accepted through the unit's other port in the same SCLK. -/
def execProducerAdvance (x : PairTake) (s : State) : Out := pairStep .advance (fun c => !c) x.k x.other s
/-- CONSUMER_ADVANCE (R96); `x.other` as for PRODUCER_ADVANCE. -/
def execConsumerAdvance (x : PairTake) (s : State) : Out := pairStep .advance (fun c => c) x.k x.other s
/-- PAIR_WAIT: answered at once, registered, or refused (R96, R99, R102). -/
def execPairWait (x : PairTake) (s : State) : Out := pairStep .wait (fun _ => true) x.k x.other s
/-- PAIR_READ: answered with P and C (R96). -/
def execPairRead (x : PairTake) (s : State) : Out := pairStep .read (fun _ => true) x.k x.other s
/-- PAIR_CLEAR: both counts become 0 when the pair is empty and quiet (R96, R102, R103). -/
def execPairClear (x : PairTake) (s : State) : Out := pairStep .clear (fun _ => true) x.k x.other s

/-- Clears SX_ERR bits; with every bit clear SX_ERR_INDEX is empty (R101). -/
def SyncUnit.clearErr (y : SyncUnit) (v : Nat) : SyncUnit :=
  let e := y.sxErr - (y.sxErr &&& v)
  { y with sxErr := e, sxIndex := if e = 0 then 0 else y.sxIndex }

/-- SX_ERR_CLEAR: a W1C write of SX_ERR, which reaches it as a WRITE_TABLE does, while the graph is IDLE (R59, R101, R114). -/
def execSxErrClear (f v : Nat) (s : State) : Out :=
  onField f s (fun s => if (s.field f).clk.md = .on ∧ s.graphOf f = .idle then s.modSyn f (fun y => y.clearErr v) else s)

/-! ### Groups (R105 to R112) -/

/-- Counts an arrival in its well field and releases the group, or sends the engine arrival, at EXPECT (R109, R111, R112, R279). An arrival that reaches a BROKEN
group is dropped uncounted, and a third engine arrival merges into the one held (DESIGN CHOICE, log entries 81 and 82). -/
def State.countArrival (s : State) (wf g : Nat) : State :=
  let w := s.well wf g
  let d := s.wellDesc wf g
  if w.broken ∨ !bit d 63 then s
  else
    let w1 : Well := { w with count := w.count + 1,
                              timer := if w.out then w.timer else match w.timer with | some t => some t | none => some s.tstamp,
                              next := if w.out then (match w.next with | some t => some t | none => some s.tstamp) else w.next }
    let s1 := (s.setWell wf g w1).progress wf
    if w1.count ≠ wellExpect d then s1
    else if !wellCluster d then s1.wellRelease wf g
    else if w.out then s1.setWell wf g { w1 with count := 0, held := true }
    else (s1.setWell wf g { w1 with count := 0, out := true }).engineArrival wf g

/-- WELL_ARRIVAL: the arrival at `k` reaches the well field (R109). -/
def execWellArrival (k : Nat) (s : State) : Out :=
  .next (match s.pairOp k with
    | some o => if o.op = .arrive then (s.take k).countArrival o.field o.index else s
    | none => s)

/-- A core asleep in AWAIT on a group (R108). -/
def Core.awaits (k : Core) (g : Nat) : Bool :=
  match k.blocked with
  | some b =>
    b.left && b.answer.isNone && (decide (b.op = .await) || decide (b.op = .arriveAwait)) && decide (groupOf (k.bind b.bind) = g)
  | none => false

/-- Answers the AWAIT a core sleeps in: its wake input rises, or its refusal is there (R108, R112). -/
def State.wakeAwait (s : State) (c cause : Nat) : State :=
  s.modCore c (fun k =>
    match k.blocked with
    | some b => { k with blocked := some { b with answer := some { cause := cause, cleared := 0, p := 0, c := 0 } } }
    | none => k)

/-- What a release does for one core of a field: a sleeper is woken and its state becomes NONE, another ARRIVED becomes RELEASED (R108). -/
def State.releaseCore (s : State) (c g : Nat) : State :=
  let k := s.core c
  (upTo k.bindCount).foldl (fun s i =>
    if s.arrival c i = .arrived ∧ bits (k.bind i) 63 62 = 2 ∧ groupOf (k.bind i) = g then
      if k.awaits g ∧ (k.blocked.map Blocked.bind) = some i then (s.setArrival c i .none).wakeAwait c 0
      else s.setArrival c i .released
    else s) s

/-- The cores of a field that are listed in State. -/
def State.coresOf (s : State) (f : Nat) : List Nat := (s.cores.map (fun e => e.1)).filter (fun c => decide (fieldOf c = f))

/-- RELEASE_TREE_ARRIVAL: a release reaches a field (R108). -/
def execReleaseTreeArrival (k : Nat) (s : State) : Out :=
  .next (match s.arriving k with
    | some p =>
      match p.dst, p.body with
      | .field f, .release g => (s.coresOf f).foldl (fun s c => s.releaseCore c g) (s.take k)
      | _, _ => s
    | none => s)

/-- WELL_TIMEOUT: a group was not released within TMO of its generation's first arrival; it is broken and the fault counted (R112, R282). -/
def execWellTimeout (f g : Nat) (s : State) : Out :=
  onField f s (fun s =>
    let w := s.well f g
    let tmo := wellTmo (s.wellDesc f g)
    match w.timer, s.partOf f with
    | some t, some p =>
      if (s.field f).clk.md ≠ .on ∨ tmo = 0 ∨ w.broken ∨ s.tstamp < t + tmo * 1000 ∨ s.wellFieldOfPart p g ≠ some f then s
      else (s.syncFault f 5 0x3171 g true none).breakOwn p g 0x3171
    | _, _ => s)

/-- BROKEN_RELEASE_ARRIVAL: a broken-release reaches a field: every AWAIT asleep on the group, and every later operation on it, is refused
(R112). -/
def execBrokenReleaseArrival (k : Nat) (s : State) : Out :=
  .next (match s.arriving k with
    | some p =>
      match p.dst, p.body with
      | .field f, .brokenRelease g cause =>
        let s1 := (s.take k).modSyn f (fun y => { y with broken := Tab.write y.broken 0 g cause })
        (s1.coresOf f).foldl (fun s c => if (s.core c).awaits g then s.wakeAwait c cause else s) s1
      | _, _ => s
    | none => s)

end Sys2Proof.Machine
end

