-- ==== Sys2Proof/Machine/Vector.lean ====
section
/-! DEFINITION. The vector instructions as they issue (R163 to R166). -/

namespace Sys2Proof.Machine

/-- A queued vector instruction as it issues: the rounding mode and, under SR, a draw base are taken now (R162, R192). -/
def vectorEntry (k : Core) (w sA : Nat) (draws : Bool) : Core × QOp :=
  let t := if draws ∧ k.csr.rm = 4 then k.takeDraw else (k, 0)
  (t.1, { mixer := false, word := w, pc := k.pc, sA := sA, rm := k.csr.rm, satur := k.csr.satur, base := t.2, td := [], nth := k.counter 6 })

/-- Issues a VR instruction that names only vector registers. -/
def vectorOp (draws : Bool) (_ : State) (k : Core) (w : Nat) : Issue :=
  if 8 ≤ k.unitLen false then .stall
  else let e := vectorEntry k w 0 draws; e.1.enqueue e.2

/-- Issues a VR instruction that reads s(VA). -/
def vectorScalarOp (_ : State) (k : Core) (w : Nat) : Issue :=
  whenFree k [aField w] (let e := vectorEntry k w (k.sreg (aField w)) false; e.1.enqueue e.2)

/-- Issues VLD or VST: 128 bytes, aligned to 128 (R166). -/
def vectorMemOp (_ : State) (k : Core) (w : Nat) : Issue :=
  let a := memAddr k w
  whenFree k [aField w]
    (match accessFault a 128 with
    | some cause => .trap k cause a
    | none => let e := vectorEntry (k.drainFor a 128) w a false; e.1.enqueue e.2)

/-- VADDF (R163). -/
def execVaddf (c : Nat) (s : State) : Out := issue .vaddf c s (vectorOp true)
/-- VSUBF (R163). -/
def execVsubf (c : Nat) (s : State) : Out := issue .vsubf c s (vectorOp true)
/-- VMULF (R163). -/
def execVmulf (c : Nat) (s : State) : Out := issue .vmulf c s (vectorOp true)
/-- VFMAF (R163). -/
def execVfmaf (c : Nat) (s : State) : Out := issue .vfmaf c s (vectorOp true)
/-- VMINF (R163). -/
def execVminf (c : Nat) (s : State) : Out := issue .vminf c s (vectorOp false)
/-- VMAXF (R163). -/
def execVmaxf (c : Nat) (s : State) : Out := issue .vmaxf c s (vectorOp false)
/-- VCMPEQF (R163). -/
def execVcmpeqf (c : Nat) (s : State) : Out := issue .vcmpeqf c s (vectorOp false)
/-- VCMPLTF (R163). -/
def execVcmpltf (c : Nat) (s : State) : Out := issue .vcmpltf c s (vectorOp false)
/-- VCMPLEF (R163). -/
def execVcmplef (c : Nat) (s : State) : Out := issue .vcmplef c s (vectorOp false)
/-- VRCPF: takes no draw under SR (R163, R188). -/
def execVrcpf (c : Nat) (s : State) : Out := issue .vrcpf c s (vectorOp false)
/-- VRSQF (R163, R188). -/
def execVrsqf (c : Nat) (s : State) : Out := issue .vrsqf c s (vectorOp false)
/-- VEXP2F (R163, R188). -/
def execVexp2f (c : Nat) (s : State) : Out := issue .vexp2f c s (vectorOp false)
/-- VLOG2F (R163, R188). -/
def execVlog2f (c : Nat) (s : State) : Out := issue .vlog2f c s (vectorOp false)
/-- VDIVF (R163). -/
def execVdivf (c : Nat) (s : State) : Out := issue .vdivf c s (vectorOp true)
/-- VSQRTF (R163). -/
def execVsqrtf (c : Nat) (s : State) : Out := issue .vsqrtf c s (vectorOp true)
/-- VADDI (R163). -/
def execVaddi (c : Nat) (s : State) : Out := issue .vaddi c s (vectorOp false)
/-- VSUBI (R163). -/
def execVsubi (c : Nat) (s : State) : Out := issue .vsubi c s (vectorOp false)
/-- VMULI (R163). -/
def execVmuli (c : Nat) (s : State) : Out := issue .vmuli c s (vectorOp false)
/-- VAND (R163). -/
def execVand (c : Nat) (s : State) : Out := issue .vand c s (vectorOp false)
/-- VOR (R163). -/
def execVor (c : Nat) (s : State) : Out := issue .vor c s (vectorOp false)
/-- VXOR (R163). -/
def execVxor (c : Nat) (s : State) : Out := issue .vxor c s (vectorOp false)
/-- VSLL (R163). -/
def execVsll (c : Nat) (s : State) : Out := issue .vsll c s (vectorOp false)
/-- VSRL (R163). -/
def execVsrl (c : Nat) (s : State) : Out := issue .vsrl c s (vectorOp false)
/-- VSRA (R163). -/
def execVsra (c : Nat) (s : State) : Out := issue .vsra c s (vectorOp false)
/-- VMINI (R163). -/
def execVmini (c : Nat) (s : State) : Out := issue .vmini c s (vectorOp false)
/-- VMAXI (R163). -/
def execVmaxi (c : Nat) (s : State) : Out := issue .vmaxi c s (vectorOp false)
/-- VCMPEQI (R163). -/
def execVcmpeqi (c : Nat) (s : State) : Out := issue .vcmpeqi c s (vectorOp false)
/-- VCMPLTI (R163). -/
def execVcmplti (c : Nat) (s : State) : Out := issue .vcmplti c s (vectorOp false)
/-- VSEL (R163). -/
def execVsel (c : Nat) (s : State) : Out := issue .vsel c s (vectorOp false)
/-- VBCAST: VA names an s-register (R163). -/
def execVbcast (c : Nat) (s : State) : Out := issue .vbcast c s vectorScalarOp
/-- VEXT: VD names an s-register, which the vector unit writes (R163). -/
def execVext (c : Nat) (s : State) : Out :=
  issue .vext c s (fun s k w => whenFree k [dField w] (vectorOp false s k w))
/-- VINS: VA names an s-register (R163). -/
def execVins (c : Nat) (s : State) : Out := issue .vins c s vectorScalarOp
/-- VPERM (R163). -/
def execVperm (c : Nat) (s : State) : Out := issue .vperm c s (vectorOp false)
/-- VMOV (R163). -/
def execVmov (c : Nat) (s : State) : Out := issue .vmov c s (vectorOp false)
/-- VRSUMF: the fixed pairwise tree, no draw (R164, R188). -/
def execVrsumf (c : Nat) (s : State) : Out := issue .vrsumf c s (vectorOp false)
/-- VRMAXF (R163, R164). -/
def execVrmaxf (c : Nat) (s : State) : Out := issue .vrmaxf c s (vectorOp false)
/-- VRMINF (R163, R164). -/
def execVrminf (c : Nat) (s : State) : Out := issue .vrminf c s (vectorOp false)
/-- VRSUMI (R163). -/
def execVrsumi (c : Nat) (s : State) : Out := issue .vrsumi c s (vectorOp false)
/-- VCVT: every conversion that can be inexact draws under SR (R165, R188, R192). -/
def execVcvt (c : Nat) (s : State) : Out :=
  issue .vcvt c s (fun s k w => vectorOp (decide (cField w ≤ 0x05) || decide (cField w = 0x0D)) s k w)
/-- VLD (R166). -/
def execVld (c : Nat) (s : State) : Out := issue .vld c s vectorMemOp
/-- VST (R166). -/
def execVst (c : Nat) (s : State) : Out := issue .vst c s vectorMemOp

end Sys2Proof.Machine
end

