-- ==== Sys2Proof/Machine/Detector.lean ====
section
/-! DEFINITION. The deadlock detector of a partition (R115 to R121, R227). -/

namespace Sys2Proof.Machine

/-- What issuing a given instruction on a core comes to: the meaning of its command. -/
def issueOf (op : CoreOp) (c : Nat) (s : State) : Out :=
  match op with
  | .add => execAdd c s
  | .sub => execSub c s
  | .and' => execAnd c s
  | .or' => execOr c s
  | .xor' => execXor c s
  | .sll => execSll c s
  | .srl => execSrl c s
  | .sra => execSra c s
  | .slt => execSlt c s
  | .sltu => execSltu c s
  | .minMax => execMinMax c s
  | .mul => execMul c s
  | .mulh => execMulh c s
  | .mulhu => execMulhu c s
  | .divRem => execDivRem c s
  | .clz => execClz c s
  | .popc => execPopc c s
  | .addi => execAddi c s
  | .andi => execAndi c s
  | .ori => execOri c s
  | .xori => execXori c s
  | .shi => execShi c s
  | .slti => execSlti c s
  | .sltiu => execSltiu c s
  | .lui => execLui c s
  | .jal => execJal c s
  | .jalr => execJalr c s
  | .beq => execBeq c s
  | .bne => execBne c s
  | .blt => execBlt c s
  | .bge => execBge c s
  | .bltu => execBltu c s
  | .bgeu => execBgeu c s
  | .lb => execLb c s
  | .lbu => execLbu c s
  | .lh => execLh c s
  | .lhu => execLhu c s
  | .lw => execLw c s
  | .ld => execLd c s
  | .lq => execLq c s
  | .sb => execSb c s
  | .sh => execSh c s
  | .sw => execSw c s
  | .sd => execSd c s
  | .sq => execSq c s
  | .csrr => execCsrr c s
  | .csrw => execCsrw c s
  | .vaddf => execVaddf c s
  | .vsubf => execVsubf c s
  | .vmulf => execVmulf c s
  | .vfmaf => execVfmaf c s
  | .vminf => execVminf c s
  | .vmaxf => execVmaxf c s
  | .vcmpeqf => execVcmpeqf c s
  | .vcmpltf => execVcmpltf c s
  | .vcmplef => execVcmplef c s
  | .vrcpf => execVrcpf c s
  | .vrsqf => execVrsqf c s
  | .vexp2f => execVexp2f c s
  | .vlog2f => execVlog2f c s
  | .vdivf => execVdivf c s
  | .vsqrtf => execVsqrtf c s
  | .vaddi => execVaddi c s
  | .vsubi => execVsubi c s
  | .vmuli => execVmuli c s
  | .vand => execVand c s
  | .vor => execVor c s
  | .vxor => execVxor c s
  | .vsll => execVsll c s
  | .vsrl => execVsrl c s
  | .vsra => execVsra c s
  | .vmini => execVmini c s
  | .vmaxi => execVmaxi c s
  | .vcmpeqi => execVcmpeqi c s
  | .vcmplti => execVcmplti c s
  | .vsel => execVsel c s
  | .vbcast => execVbcast c s
  | .vext => execVext c s
  | .vins => execVins c s
  | .vperm => execVperm c s
  | .vmov => execVmov c s
  | .vrsumf => execVrsumf c s
  | .vrmaxf => execVrmaxf c s
  | .vrminf => execVrminf c s
  | .vrsumi => execVrsumi c s
  | .vcvt => execVcvt c s
  | .vld => execVld c s
  | .vst => execVst c s
  | .tdesc => execTdesc c s
  | .mma => execMma c s
  | .ast => execAst c s
  | .ald => execAld c s
  | .azero => execAzero c s
  | .axv => execAxv c s
  | .avx => execAvx c s
  | .rlaunch => execRlaunch c s
  | .send => execSend c s
  | .recv => execRecv c s
  | .rpeek => execRpeek c s
  | .sadv => execSadv c s
  | .swait => execSwait c s
  | .sread => execSread c s
  | .sclr => execSclr c s
  | .warr => execWarr c s
  | .wawt => execWawt c s
  | .waa => execWaa c s
  | .post => execPost c s
  | .endOp => execEnd c s
  | .failOp => execFail c s

/-- The steward waits: it has issued END and waits for its conditions, or the instruction at its program counter cannot issue now (R227). -/
def State.stewardWaits (s : State) (c : Nat) : Bool :=
  let k := s.core c
  if k.ending = .endWait then true
  else if !s.canIssue c then false
  else match k.fetch with
    | .inl w =>
      (match decodeOp w with
       | some op => (match issueOf op c s with | .next t => decide (t.core c = k) | _ => false)
       | none => false)
    | .inr _ => false

/-- How a running task is blocked (R117, R120, R227, R244): WAIT of DW_SNAP, binding and channel; none while it is not. -/
def State.blockedTask (s : State) (c : Nat) : Option (Nat × Nat × Nat) :=
  let k := s.core c
  let full : Bool := decide (16 ≤ k.nif.unacked.length)
  let waitsFor (vc : Nat) : Bool := k.nif.credits.any (fun e => decide (e.vc = vc) && (e.asked || e.retryAt.isSome))
  match k.run with
  | .sleepSync | .filler =>
    (match k.blocked with
     | some b =>
       if b.answer.isSome then none
       else if b.op = .await ∨ b.op = .arriveAwait then some (3, b.bind, 0)
       else some (if bits (k.bind b.bind) 63 62 = 1 then 1 else 2, b.bind, 0)
     | none => none)
  | .sleepRecv => let vc := msVc k.wordAtPc
                  if (k.queue vc).msgs.isEmpty then some (4, 0, vc) else none
  | .sleepSend =>
    let vc := match activeRecipe [] k.uq with
      | some (_, r, _) => if k.finHold then rFsVc r.block else msVc k.wordAtPc
      | none => msVc k.wordAtPc
    if full || waitsFor vc then some (5, 0, vc) else none
  | .run =>
    (match activeRecipe [] k.uq with
     | some (_, r, _) =>
       if (recipeFault k r).isSome then none
       else if r.slices.length < rSlices r.block then
         let vc := tdVc (rArrTd r.block)
         if (k.queue vc).msgs.isEmpty ∧ s.stewardWaits c then some (4, 0, vc) else none
       else if r.sent < rMsgs r.block ∧ (full || waitsFor (rFsVc r.block)) ∧ s.stewardWaits c then some (5, 0, rFsVc r.block)
       else none
     | none => none)
  | _ => none

/-- The running tasks of a field: node and local core. -/
def State.runningTasks (s : State) (f : Nat) : List (Nat × Nat) :=
  let c := (s.field f).cis
  c.slots.filterMap (fun e => match e.2.running with
    | some n => if (c.node n).state = .running then some (n, e.1) else none
    | none => none)

/-- A READY or PENDING node is blocked: no usable core of its set is idle or can take a staged task (R117). -/
def Cistern.nodeBlocked (c : Cistern) (n : Nat) : Bool :=
  let set := c.psetCores (c.psetOf n)
  !set.any c.idleCore && (c.noStage (c.psetOf n) || !set.any c.stageable)

/-- READY and PENDING nodes of a field. -/
def Cistern.readyNodes (c : Cistern) : List Nat := c.pool ++ c.chain

/-- A partition is busy and blocked (R117). -/
def State.partBlocked (s : State) (p : Nat) : Bool :=
  let fs := s.partFields p
  fs.any (fun f => !(s.runningTasks f).isEmpty || !(s.field f).cis.readyNodes.isEmpty) &&
    fs.all (fun f => (s.runningTasks f).all (fun t => (s.blockedTask (coreId f t.2)).isSome) &&
      (s.field f).cis.readyNodes.all (s.field f).cis.nodeBlocked)

/-- The window that counts for a graph, in TSTAMP counts: none where detection is off (R118). -/
def State.dryWindow (s : State) (p : Nat) : Option Nat :=
  let w := s.setting 0x2580 (p + 1)
  match (s.part p).graph with
  | .idle => none
  | .running => if w = 0 then none else some (w * 100)
  | .stopping => some (if w = 0 then 100000000 else w * 100)

/-- A DW_SNAP entry (R120). -/
def State.snapEntry (s : State) (f li : Nat) : Nat :=
  let x := (s.field f).cis.slot li
  let st := b2n x.staged.isSome <<< 7
  if x.lost then 6 <<< 13 + st
  else match x.running with
    | none => st
    | some _ => (match s.blockedTask (coreId f li) with
      | some (w, b, vc) => w <<< 13 + b <<< 10 + vc <<< 8 + st
      | none => st)

/-- Writes a field's snapshot for a declaration, without VALID (R119, R120). -/
def State.snapField (s : State) (p f : Nat) : State :=
  let c := (s.field f).cis
  let snap := (c.slots.map (fun e => e.1)).foldl (fun (t : Tab (BitVec 16)) li => Tab.write t 0 li (BitVec.ofNat 16 (s.snapEntry f li))) []
  s.modSyn f (fun y => { y with snapTs := s.tstamp, snapProg := y.progress, snapInfo := p <<< 17 + c.readyNodes.length, snap := snap })

/-- DRY_WELL_DECLARE: a blocked partition without progress for the window is declared dry, and its fields write their snapshots (R118, R119). -/
def execDryWellDeclare (p : Nat) (s : State) : Out :=
  onPart p s (fun s =>
    let x := s.part p
    match s.dryWindow p with
    | none => s
    | some w =>
      if s.tstamp < x.det.last + w ∨ !x.det.armed ∨ x.det.openAt.isSome ∨ !s.partBlocked p then s
      else
        let fs := s.partFields p
        let s1 := fs.foldl (fun s f => s.snapField p f) s
        s1.modPart p (fun x => { x with det := { x.det with openAt := some s.tstamp, progAt := fs.map (fun f => (s.field f).syn.progress) } }))

/-- DRY_WELL_ACTION on one field: every blocked RUNNING task fails with DRY_WELL, in increasing node index (R525), and its core is aborted (R121). What the detector
itself fails is no progress event, as the chapter's example has it (DEDUCED, log entry 83). -/
def State.dryField (s : State) (f : Nat) : State :=
  (sortKeys (s.runningTasks f)).foldl (fun s t =>
    if (s.blockedTask (coreId f t.2)).isSome then
      let task := s.taskOf f t.1
      ((s.failQuiet f t.1 0x3150).dropWaits (coreId f t.2)).abortCore f t.2 task
    else s) s

/-- DRY_WELL_SNAPSHOT_COMMIT: every field sets VALID, or the declaration is withdrawn if progress occurred; then the detector reports and acts
(R119, R121). Log entry 70. -/
def execDryWellSnapshotCommit (p : Nat) (s : State) : Out :=
  onPart p s (fun s =>
    let x := s.part p
    match x.det.openAt with
    | none => s
    | some t =>
      let fs := s.partFields p
      if x.det.progAt ≠ fs.map (fun f => (s.field f).syn.progress) ∨ x.graph = .idle then
        s.modPart p (fun x => { x with det := { x.det with openAt := none } })
      else
        let act := decide (s.setting 0x2581 (p + 1) = 1) || decide (x.graph = .stopping)
        let s1 := fs.foldl (fun s f => s.modSyn f (fun y => { y with snapInfo := y.snapInfo + 1 <<< 31 })) s
        let s2 := s1.modPart p (fun x =>
          { x with dryCount := (x.dryCount + 1) % 2 ^ 32, dryTs := t, det := { x.det with openAt := none, armed := false } })
        let home := bits x.rect.toNat 19 16 * 9 + bits x.rect.toNat 23 20
        let s3 := s2.report home (plainFault 0x3150 1 p (if act then home <<< 16 else 0))
        if act then (fs.foldl State.dryField (s3.stopPartition p)).idleCheck p else s3)

end Sys2Proof.Machine
end

