-- ==== Sys2Proof/Machine/Registers.lean ====
section
/-! DEFINITION. Registers reached by fabric accesses: Cistern memory with its run state, field control space and engine control space
(R59, R85, R92 to R94, R105, R106, R114, R265, R277, R287, R290, R323, R458, R476, R520, R528 to R531). -/

namespace Sys2Proof.Machine

/-- Two 32-bit registers in one 8-byte word. -/
def pair32 (lo hi : Nat) : Nat := lo % 2 ^ 32 + hi % 2 ^ 32 * 2 ^ 32
/-- Four 16-bit registers in one 8-byte word, lowest offset first. -/
def quad16 (g : Nat → Nat) (i : Nat) : Nat := g i + g (i + 1) * 2 ^ 16 + g (i + 2) * 2 ^ 32 + g (i + 3) * 2 ^ 48
/-- Applies a change to each of the numbers `i` to `i + n - 1`. -/
def stepsFrom (s : State) (i n : Nat) (g : State → Nat → State) : State := (upTo n).foldl (fun s j => g s (i + j)) s

/-! ### Cistern memory (R85) -/

/-- NEXT of a node: the node behind it in the overflow chain (R65). -/
def nextIn (l : List Nat) (n : Nat) : Nat :=
  match l with
  | [] => 0
  | a :: r => if a = n then r.headD 0 else nextIn r n

/-- An aligned 8-byte word of Cistern memory as it is read: in a node's slot the run-state words show the node's run state (R85). -/
def Cistern.read64 (c : Cistern) (a : Nat) : Nat :=
  let n := a / 64
  let r := c.node n
  let raw := Memory.value c.mem a 8
  if !c.isNode n then raw
  else match a % 64 with
    | 0x28 => pair32 r.flags (nextIn c.chain n + r.fireLeft <<< 16)
    | 0x30 => pair32 r.firing (r.core + r.aflags <<< 23 + r.state.code <<< 29)
    | 0x38 => r.cause
    | _ => raw

/-- Writes an aligned 8-byte word of Cistern memory, ending any error in it (R59, R517). -/
def Cistern.write64 (c : Cistern) (a v : Nat) : Cistern :=
  { c with mem := Memory.setValue c.mem a 8 v, ce := c.ce.filter (fun w => !decide (w = a / 8)), ue := c.ue.filter (fun w => !decide (w = a / 8)) }

/-! ### Field control space (R92, R93, R94, R105, R106, R114, R120) -/

/-- GSTATE as records and registers code it. -/
def GraphState.code (g : GraphState) : Nat :=
  match g with
  | .idle => 0 | .running => 1 | .stopping => 2

/-- SIPHON_DECL as it is read: SAT and ERR are the pair's own (R8, R94). -/
def State.declRead (s : State) (f i : Nat) : Nat :=
  let x := s.pair f i
  setBits (setBits (Tab.read (s.field f).syn.decls 0 i).toNat 14 14 (b2n x.sat)) 13 13 (b2n x.err)

/-- WELL_STATE of a field: 0 in every field but the well field (R106). -/
def State.wellStateRead (s : State) (f g : Nat) : Nat :=
  let d := s.wellDesc f g
  let w := s.well f g
  if bit d 63 ∧ wellFieldOf d = f then w.gen <<< 32 + b2n w.broken <<< 30 + w.count else 0

/-- A 32-bit register of the field control space. -/
def State.fieldReg32 (s : State) (f o : Nat) : Nat :=
  let c := (s.field f).cis
  let y := (s.field f).syn
  match o with
  | 0x00 => (match s.partOf f with | some p => 1 <<< 11 + p <<< 7 + f | none => f)
  | 0x04 => (s.graphOf f).code <<< 30 + b2n (!c.chain.isEmpty) <<< 26 + c.pool.length
  | 0x08 => c.nodeLimit
  | 0x0C => (c.slots.filter (fun e => e.2.staged.isSome)).length <<< 16 + (c.slots.filter (fun e => e.2.running.isSome)).length
  | 0x10 => c.chain.length
  | 0x14 => c.hwm
  | 0x18 => c.err
  | 0x1C => c.errNode
  | 0x20 => c.accepted
  | 0x24 => c.merged
  | 0x28 => c.discarded
  | 0x2C => c.dispatched
  | 0x30 => c.ovfEntered
  | 0x34 => c.completed
  | 0x7000 => y.sxErr
  | 0x7004 => y.sxIndex
  | 0x7008 => y.progress
  | 0x7018 => y.snapInfo
  | 0x701C => y.snapProg
  | _ => 0

/-- A pool entry: bit 31 valid, bits 15:0 the node (R92). The entries stand packed from index 0 in the order they entered (DESIGN CHOICE, log entry 99). -/
def Cistern.poolReg (c : Cistern) (i : Nat) : Nat := match c.pool[i]? with | some n => 1 <<< 31 + n | none => 0

/-- An aligned 8-byte word of field control space. -/
def State.fieldCtl64 (s : State) (f o : Nat) : Nat :=
  let c := (s.field f).cis
  let y := (s.field f).syn
  if 0x1000 ≤ o ∧ o < 0x1800 then (Tab.read c.psets 0 ((o - 0x1000) / 8)).toNat
  else if 0x2000 ≤ o ∧ o < 0x3000 then pair32 (c.poolReg ((o - 0x2000) / 4)) (c.poolReg ((o - 0x2000) / 4 + 1))
  else if 0x4000 ≤ o ∧ o < 0x6000 then quad16 (s.declRead f) ((o - 0x4000) / 2)
  else if 0x6000 ≤ o ∧ o < 0x6800 then (Tab.read y.descs 0 ((o - 0x6000) / 8)).toNat
  else if 0x6800 ≤ o ∧ o < 0x7000 then s.wellStateRead f ((o - 0x6800) / 8)
  else if o = 0x7010 then y.snapTs
  else if 0x7600 ≤ o ∧ o < 0x8000 then quad16 (fun i => (Tab.read y.snap 0 i).toNat) ((o - 0x7600) / 2)
  else if 0x8000 ≤ o then
    let x := s.pair f ((o - 0x8000) / 8)
    pair32 x.p x.c
  else pair32 (s.fieldReg32 f o) (s.fieldReg32 f (o + 4))

/-- Writes an aligned 8-byte word of field control space: the declaration registers keep every bit, the others their writable fields (R8, R59). -/
def State.fieldCtlWrite (s : State) (f o v : Nat) : State :=
  if 0x1000 ≤ o ∧ o < 0x1800 then s.modCis f (fun c => { c with psets := Tab.write c.psets 0 ((o - 0x1000) / 8) (BitVec.ofNat 64 v) })
  else if 0x4000 ≤ o ∧ o < 0x6000 then
    stepsFrom s 0 4 (fun s j => s.modSyn f (fun y =>
      { y with decls := Tab.write y.decls 0 ((o - 0x4000) / 2 + j) (BitVec.ofNat 16 (v >>> (16 * j))) }))
  else if 0x6000 ≤ o ∧ o < 0x6800 then s.modSyn f (fun y => { y with descs := Tab.write y.descs 0 ((o - 0x6000) / 8) (BitVec.ofNat 64 v) })
  else match o with
    | 0x08 => s.modCis f (fun c => { c with nodeLimit := v % 2 ^ 17 })
    | 0x10 => s.modCis f (fun c => { c with hwm := bits v 42 32 })
    | 0x18 => s.modCis f (fun c => c.clearErr (v % 2 ^ 32))
    | 0x7000 => s.modSyn f (fun y => y.clearErr (v % 2 ^ 32))
    | _ => s

/-! ### The Sluice block (R265, R277, R287, R290, R292) -/

/-- ROUTE_WRITE: an entry keeps V and its port; the MDs' copies follow (R265; log entry 20). -/
def State.writeRoute (s : State) (e v : Nat) : State :=
  let s1 := s.modRd (fun r => { r with route := Tab.write r.route 0 e (v &&& 0x8F) })
  if e = s.rd.master then s1.syncRefresh else s1

/-- A group is claimed by a partition whose graph is RUNNING or STOPPING (R107, R277). -/
def State.groupClaimed (s : State) (g : Nat) : Bool :=
  (upTo 16).any (fun p => decide ((s.part p).graph ≠ .idle) && (s.part p).claims.contains g)

/-- CW_DESC_WRITE: refused with 0x3121 while the group is claimed; else ECOUNT is cleared with it (R277, R280). -/
def State.writeCw (s : State) (g v : Nat) : State × Nat :=
  if s.groupClaimed g then (s, 0x3121)
  else (s.modRd (fun r => { r with cw := Tab.write r.cw 0 g (v &&& 0x8FFF1FFF), ecount := Tab.erase r.ecount g, arrived := Tab.erase r.arrived g, ejob := Tab.erase r.ejob g }), 0)

/-- A partition's frequency lock. -/
def State.lock (s : State) (p : Nat) : FreqLock := Tab.read s.rd.locks FreqLock.reset p
/-- Sets a partition's frequency lock. -/
def State.setLock (s : State) (p : Nat) (l : FreqLock) : State := s.modRd (fun r => { r with locks := Tab.write r.locks FreqLock.reset p l })

/-- FL_DESC_WRITE: refused with 0x3121 while the partition's graph is not IDLE; the lock begins anew (R287; log entry 33). -/
def State.writeFl (s : State) (p v : Nat) : State × Nat :=
  if (s.part p).graph ≠ .idle then (s, 0x3121)
  else
    let l := s.lock p
    ((s.modRd (fun r => { r with fl := Tab.write r.fl 0 p (v &&& 0x8FFF1FFF) })).setLock p
      { FreqLock.reset with missing := l.missing, late := l.late, losts := l.losts, lastCmd := s.tstamp }, 0)

/-- SYNC_STATE as SL_INFO codes it. -/
def SyncState.code (x : SyncState) : Nat :=
  match x with
  | .free => 0 | .master => 1 | .acquire => 2 | .locked => 3 | .holdover => 4

/-- STATE of SL_PORT. -/
def PortState.code (x : PortState) : Nat :=
  match x with
  | .off => 0 | .train => 1 | .up => 2 | .down => 3

/-- SL_PORT of a port (R290). -/
def State.slPort (s : State) (p : Nat) : Nat :=
  if 12 ≤ p then 0
  else
    let x := s.sl p
    x.state.code <<< 29 + x.width <<< 27 + b2n (bit (s.setting 0x2600 (p + 1)) 2) <<< 26 + x.peerEngine <<< 12 + x.peerPort <<< 8

/-- An aligned 8-byte word of the Sluice block. -/
def State.sluiceBlock (s : State) (o : Nat) : Nat :=
  if o = 0 then s.engineId + s.rd.sync.code <<< 12
  else if 0x40 ≤ o ∧ o < 0x70 then pair32 (s.slPort ((o - 0x40) / 4)) (s.slPort ((o - 0x40) / 4 + 1))
  else if o = 0x80 then s.rd.dist + wrap 24 s.rd.offset <<< 8
  else if o = 0x100 then pair32 s.rd.slErr s.rd.slErrInfo
  else if 0x1000 ≤ o ∧ o < 0x2000 then (upTo 8).foldl (fun a j => a + Tab.read s.rd.route 0 (o - 0x1000 + j) <<< (8 * j)) 0
  else if 0x2000 ≤ o ∧ o < 0x2400 then pair32 (s.cwDesc ((o - 0x2000) / 4)) (s.cwDesc ((o - 0x2000) / 4 + 1))
  else if 0x2400 ≤ o ∧ o < 0x2440 then pair32 (Tab.read s.rd.fl 0 ((o - 0x2400) / 4)) (Tab.read s.rd.fl 0 ((o - 0x2400) / 4 + 1))
  else 0

/-! ### The power and thermal blocks (R438, R458, R462, R476) -/

/-- The derated cap, in W; POWER_CAP while the step is 0 (R462). -/
def State.capDerated (s : State) : Nat := s.setting 0x2400 1 * (20 - s.fw.kstep) / 20
/-- The cap in force, 0x2400.02 (R438). -/
def State.capEff (s : State) : Nat :=
  let cap := s.setting 0x2400 1
  let a := if s.therm.state = 0 then cap else s.capDerated
  if s.power.derate.isSome then min a (cap * 3 / 4) else a
/-- Whether a calibration has been accepted since the cold start and is no more than 200 ms old (R456). -/
def State.calValid (s : State) : Bool := decide (s.setting 0x2430 1 ≠ 0) && decide (s.tstamp ≤ s.setting 0x2430 2 + 20000000)
/-- The controller is frozen: no Wellhead runs as the active (R14). -/
def State.frozen (s : State) : Bool :=
  s.wh.takeover.isSome || !(if s.wh.active = 0 then s.wh.a.up else s.wh.b.up)
/-- Engine power over the last 10 µs, in W. -/
def State.power10 (s : State) : Rat := (s.power.recent.take 10).foldl (· + ·) 0 / 10

/-- The fastest F-state a field may run for its age (R471); F0 where nothing restricts it. -/
def State.ageFmax (s : State) (f : Nat) : Nat := Tab.read s.therm.fmax 0 f
/-- The wanted F-state of a partition: PART_FSTATE_FIXED, or the controller's choice where that is 0xFF (R376). -/
def State.wantedOf (s : State) (p : Nat) : Nat :=
  if s.setting 0x2303 (p + 1) = 0xFF then Tab.read s.fw.wanted 15 p else s.setting 0x2303 (p + 1)
/-- The F-state a partition runs when nothing forces or locks it: the slowest of its wanted state, PART_FSTATE_MAX and its fields' age limits (R376, R472). -/
def State.partFstate (s : State) (p : Nat) : Nat :=
  (s.partFields p).foldl (fun a f => max a (s.ageFmax f)) (max (s.wantedOf p) (s.setting 0x2302 (p + 1)))

/-- A field is armed: FONDANT_EN is 1, its partition's graph RUNNING, and its FILL_DUTY above 0 (R449). -/
def State.armed (s : State) (f : Nat) : Bool :=
  decide (s.setting 0x2401 2 = 1) && decide (s.graphOf f = .running) && decide (0 < (s.field f).clk.duty)

/-- FIELD_CTRL of a field. -/
def State.fieldCtrlReg (s : State) (f : Nat) : Nat :=
  if nFields ≤ f then 0
  else
    let k := (s.field f).clk
    k.bub + k.duty <<< 8 + b2n (s.armed f) <<< 15 + (match s.partOf f with | some p => s.wantedOf p <<< 16 | none => 0)

/-- An aligned 8-byte word of the power block. -/
def State.powerBlock (s : State) (o : Nat) : Nat :=
  let fld (base : Nat) (g : Nat → Nat) : Nat :=
    pair32 (if (o - base) / 4 < nFields then g ((o - base) / 4) else 0) (if (o - base) / 4 + 1 < nFields then g ((o - base) / 4 + 1) else 0)
  if o = 0 then
    b2n s.power.guard.isSome + 2 * b2n s.frozen + 4 * b2n s.calValid + 8 * b2n s.power.overcap + 16 * b2n s.power.derate.isSome
  else if o = 8 then s.power10.floor.toNat
  else if 0x100 ≤ o ∧ o < 0x340 then Tab.read s.rd.energy 0 ((o - 0x100) / 8)
  else if 0x400 ≤ o ∧ o < 0x520 then fld 0x400 s.fieldCtrlReg
  else if 0x600 ≤ o ∧ o < 0x720 then fld 0x600 (fun f => Tab.read s.power.droops 0 f)
  else if 0x800 ≤ o ∧ o < 0x920 then fld 0x800 (fun f => (Tab.read s.power.fieldPwr 0 f).floor.toNat)
  else 0

/-- The domain of a junction sensor is ON (R459). -/
def State.sensorOn (s : State) (i : Nat) : Bool :=
  if i < 648 then
    (if i % 9 = 8 then decide ((s.field (i / 9)).clk.md = .on) else decide ((s.field (i / 9)).clk.cd = .on))
  else if i < 650 then decide (s.sd.state = .on)
  else decide (s.rd.state = .on)
/-- The domain of a sensor, as `onAt` numbers it. -/
def sensorDomain (i : Nat) : Nat := if i < 648 then (if i % 9 = 8 then 72 + i / 9 else i / 9) else if i < 650 then 145 else 144
/-- A sensor domain comes on: its sensors have converted nothing since (R459). -/
def State.sensorsOn (s : State) (d : Nat) : State :=
  { s with therm := { s.therm with temp := s.therm.temp.filter (fun e => !decide (sensorDomain e.1 = d)), onAt := Tab.insert s.therm.onAt d s.sd.vtime } }
/-- A sensor's latest value: none while it has failed, is off or has not converted. -/
def State.sensorValue (s : State) (i : Nat) : Option Int :=
  if s.therm.failed.contains i ∨ !s.sensorOn i then none
  else (s.therm.temp.find? (fun e => decide (e.1 = i))).map (fun e => e.2.1)
/-- TH_SENSOR of a sensor. -/
def State.sensorReg (s : State) (i : Nat) : Nat :=
  if 654 ≤ i then 0 else match s.sensorValue i with | some v => wrap 16 v | none => 0x8000
/-- Failed sensors from `base`, as a bit each. -/
def State.failBits (s : State) (base n : Nat) : Nat := (upTo n).foldl (fun a j => a + b2n (s.therm.failed.contains (base + j)) <<< j) 0

/-- An aligned 8-byte word of the thermal block. -/
def State.thermalBlock (s : State) (o : Nat) : Nat :=
  let fld (base : Nat) (g : Nat → Nat) : Nat :=
    pair32 (if (o - base) / 4 < nFields then g ((o - base) / 4) else 0) (if (o - base) / 4 + 1 < nFields then g ((o - base) / 4 + 1) else 0)
  if o = 0 then
    pair32 (s.therm.state + 4 * b2n s.sd.tripLatched + 8 * b2n s.sd.flowStop + 16 * b2n s.sd.flowHw + s.fw.kstep <<< 8) s.capDerated
  else if 0x100 ≤ o ∧ o < 0x220 then fld 0x100 (fun f => s.failBits (9 * f) 9)
  else if o = 0x300 then s.failBits 648 6
  else if 0x400 ≤ o ∧ o < 0x520 then fld 0x400 s.ageFmax
  else if 0x600 ≤ o ∧ o < 0x720 then fld 0x600 (fun f => Tab.read s.therm.slack 0 f)
  else if 0x1000 ≤ o ∧ o < 0x1520 then quad16 s.sensorReg ((o - 0x1000) / 2)
  else 0

/-! ### The observation block (R520, R528 to R531) -/

/-- A counter of a field; those that count traffic and stalls are the log's free values (R520; log entry 12). -/
def State.fieldCounter (s : State) (f o : Nat) : Nat :=
  match o with
  | 0x00 => Config.trafficCount f 0 s.tstamp
  | 0x08 => Config.trafficCount f 8 s.tstamp
  | 0x38 => (upTo 1280).foldl (fun a li => a + Config.stallCycles (coreId f li) 9 ((s.core (coreId f li)).counter 6)) 0 % 2 ^ 64
  | 0x40 => (upTo 1280).foldl (fun a li => a + Config.stallCycles (coreId f li) 10 ((s.core (coreId f li)).counter 6)) 0 % 2 ^ 64
  | _ => Tab.read (s.field f).obs.counters 0 o

/-- ACTIVE of a trace destination: records are held for the ring (R528). -/
def State.traceHeld (s : State) (p : Nat) : Bool :=
  !(s.traceDest p).staging.isEmpty ||
    ((s.traceDest p).en && (s.partFields p).any (fun f => !(s.field f).obs.trace.isEmpty || (s.field f).obs.stats.isSome))

/-- Registers of a partition's trace destination, by word. -/
def State.traceReg (s : State) (p w : Nat) : Nat :=
  let t := s.traceDest p
  match w with
  | 0 => t.base + b2n t.en
  | 1 => t.cfg
  | 2 => t.hdr
  | _ => t.prod <<< 32 + b2n t.readErr <<< 2 + b2n t.device <<< 1 + b2n (s.traceHeld p)

/-- An aligned 8-byte word of the observation block. -/
def State.obsBlock (s : State) (o : Nat) : Nat :=
  if o = 0 then 0x2001
  else if o = 0x10 ∨ o = 0x18 ∨ o = 0xA200 ∨ o = 0xA208 then Tab.read s.rd.counters 0 o
  else if 0x100 ≤ o ∧ o < 0x300 then s.traceReg ((o - 0x100) / 32) ((o - 0x100) % 32 / 8)
  else if 0x1000 ≤ o ∧ o < 0x5800 then s.fieldCounter ((o - 0x1000) / 256) ((o - 0x1000) % 256)
  else if 0x8000 ≤ o ∧ o < 0x8600 then Tab.read (s.sl ((o - 0x8000) / 128)).counters 0 ((o - 0x8000) % 128)
  else if 0x9000 ≤ o ∧ o < 0x9200 then Tab.read (s.port ((o - 0x9000) / 128)).counters 0 ((o - 0x9000) % 128)
  else if 0xA000 ≤ o ∧ o < 0xA200 then
    let l := s.lock ((o - 0xA000) / 32)
    match (o - 0xA000) % 32 with
    | 0 => l.missing | 8 => l.late | 16 => l.losts | _ => 0
  else 0

/-- A range of bus addresses meets a host device window of a port or a BAR of the engine's four ports (R300, R318). -/
def State.meetsDevice (s : State) (p a len : Nat) : Bool :=
  let x := s.port p
  (upTo 8).any (fun w =>
    let b := Tab.read x.devBase 0 w
    let lo := bits b 51 12 <<< 12
    let hi := (bits (Tab.read x.devLimit 0 w) 51 12 + 1) <<< 12
    bit b 0 && decide (lo < hi) && decide (a < hi) && decide (lo < a + len)) ||
  (upTo 4).any (fun q => match (s.port q).bar with
    | some b => decide (a < b + 0x100000) && decide (b < a + len)
    | none => false)

/-- The engine writes host memory through a port (R305, R520). -/
def State.hostWrite (s : State) (p a : Nat) (data : List Byte) : State :=
  { (s.modPort p (fun x => x.count 0x28 data.length)) with hostOut := s.hostOut ++ [.write p a data] }

/-- Drops what a partition's fields hold for its trace stream, uncounted (R531). -/
def State.dropTrace (s : State) (p : Nat) : State :=
  (s.partFields p).foldl (fun s f => s.modField f (fun x => { x with obs := { x.obs with trace := [], stats := none, dropped := 0 } })) s

/-- TR_DISABLE: EN reads 0, and the records held are discarded uncounted (R531). -/
def State.traceDisable (s : State) (p : Nat) : State :=
  (s.dropTrace p).setTraceDest p { s.traceDest p with en := false, staging := [], dropped := 0 }

/-- TR_ENABLE: the ring and header are checked; an accepted enable writes PROD 0 into the header (R530). -/
def State.traceEnable (s : State) (p : Nat) : State :=
  let t := s.traceDest p
  let q := t.cfg % 4
  let sz := bits t.cfg 7 4
  if 12 < sz ∨ s.meetsDevice q t.base (32 * 2 ^ (sz + 7)) ∨ s.meetsDevice q t.hdr 64 then s.setTraceDest p { t with device := true }
  else
    (((s.setTraceDest p { t with en := true, prod := 0, index := 0, cons := 0, staging := [], dropped := 0,
                                 consAt := s.tstamp }).dropTrace p).hostWrite q t.hdr (toBytes 4 0))

/-- A write of a register of a trace destination (R528). -/
def State.traceWrite (s : State) (p w v : Nat) : State :=
  let t := s.traceDest p
  match w with
  | 0 =>
    if t.en then (if bit v 0 then s else s.traceDisable p)
    else
      let s1 := s.setTraceDest p { t with base := bits v 51 12 <<< 12 }
      if bit v 0 then s1.traceEnable p else s1
  | 1 => if t.en then s else s.setTraceDest p { t with cfg := v &&& 0x7FF3 }
  | 2 => if t.en then s else s.setTraceDest p { t with hdr := bits v 51 6 <<< 6 }
  | _ => s.setTraceDest p { t with readErr := t.readErr && !bit v 2, device := t.device && !bit v 1 }

/-! ### Engine control space (R323) -/

/-- An aligned 8-byte word of engine control space. -/
def State.engineCtl64 (s : State) (o : Nat) : Nat :=
  match o / 0x10000 with
  | 1 => s.sluiceBlock (o - 0x10000)
  | 2 => s.powerBlock (o - 0x20000)
  | 3 => s.thermalBlock (o - 0x30000)
  | 4 => s.obsBlock (o - 0x40000)
  | _ => 0

/-- Writes an aligned 8-byte word of engine control space; the cause of the first write of it that is refused, 0 if none. -/
def State.engineCtlWrite (s : State) (o v : Nat) : State × Nat :=
  if o = 0x10100 then
    (s.modRd (fun r =>
      let e := r.slErr - (r.slErr &&& (v % 2 ^ 32))
      { r with slErr := e, slErrInfo := if e = 0 then 0 else r.slErrInfo }), 0)
  else if 0x11000 ≤ o ∧ o < 0x12000 then ((upTo 8).foldl (fun s j => s.writeRoute (o - 0x11000 + j) (v >>> (8 * j))) s, 0)
  else if 0x12000 ≤ o ∧ o < 0x12400 then
    let a := s.writeCw ((o - 0x12000) / 4) (v % 2 ^ 32)
    let b := a.1.writeCw ((o - 0x12000) / 4 + 1) (v >>> 32)
    (b.1, if a.2 = 0 then b.2 else a.2)
  else if 0x12400 ≤ o ∧ o < 0x12440 then
    let a := s.writeFl ((o - 0x12400) / 4) (v % 2 ^ 32)
    let b := a.1.writeFl ((o - 0x12400) / 4 + 1) (v >>> 32)
    (b.1, if a.2 = 0 then b.2 else a.2)
  else if 0x40100 ≤ o ∧ o < 0x40300 then (s.traceWrite ((o - 0x40100) / 32) ((o - 0x40100) % 32 / 8) v, 0)
  else (s, 0)

/-! ### The commands that are writes of these registers -/

/-- ROUTE_WRITE (R265). -/
def execRouteWrite (e v : Nat) (s : State) : Out := .next (if s.rd.state = .on ∧ e < 4096 then s.writeRoute e v else s)
/-- CW_DESC_WRITE (R277). -/
def execCwDescWrite (g v : Nat) (s : State) : Out := .next (if s.rd.state = .on ∧ g < 256 then (s.writeCw g v).1 else s)
/-- FL_DESC_WRITE (R287). -/
def execFlDescWrite (p v : Nat) (s : State) : Out := onPart p s (fun s => if s.rd.state = .on then (s.writeFl p v).1 else s)
/-- TR_ENABLE: TR_BASE is written with EN 1 (R530). -/
def execTrEnable (p base : Nat) (s : State) : Out :=
  onPart p s (fun s => if s.rd.state = .on then s.traceWrite p 0 (bits base 51 12 <<< 12 + 1) else s)
/-- TR_DISABLE: TR_BASE is written with EN 0 (R531). -/
def execTrDisable (p : Nat) (s : State) : Out :=
  onPart p s (fun s => if s.rd.state = .on ∧ (s.traceDest p).en then s.traceWrite p 0 0 else s)

end Sys2Proof.Machine
end

