-- ==== Sys2Proof/Machine/Fabric.lean ====
section
/-! DEFINITION. Fabric addresses, their checks, and the accesses that FABRIC packets make (R48 to R52, R59, R276, R321, R322). -/

namespace Sys2Proof.Machine

/-! ### Addresses and checks (R48 to R51) -/

/-- SPACE of a fabric address. -/
def fabSpace (a : Nat) : Nat := bits a 47 45
/-- UNIT of a fabric address. -/
def fabUnit (a : Nat) : Nat := bits a 44 28
/-- OFFSET of a fabric address. -/
def fabOff (a : Nat) : Nat := bits a 27 0
/-- Bytes of a unit of a space; 0 for a reserved space (R49). -/
def spaceSize (sp : Nat) : Nat :=
  match sp with
  | 0 => 0x50000 | 1 => 0x6000 | 2 => 0x400000 | 3 => 0x10000 | 4 => 0x100000 | _ => 0
/-- Units of a space (R49). -/
def spaceUnits (sp : Nat) : Nat :=
  match sp with
  | 0 => nCores | 1 => nCores | 2 => nFields | 3 => nFields | 4 => 1 | _ => 0
/-- The field a unit lies in. -/
def unitField (sp unit : Nat) : Nat := if sp < 2 then fieldOf unit else unit

/-- The engine is in START_FAILED (R424). -/
def State.startFailed (s : State) : Bool := match s.sd.step with | .failed _ _ => true | _ => false

/-- SPACE, range and alignment of an access: the first cause that applies, 0 if none (R50). -/
def fabShape (a len : Nat) : Nat :=
  let sp := fabSpace a
  if 5 ≤ sp then 0x5210
  else if spaceUnits sp ≤ fabUnit a ∨ spaceSize sp < fabOff a + len then 0x5211
  else if fabOff a % 8 ≠ 0 ∨ len % 8 ≠ 0 then 0x5214
  else 0

/-- The DEGRADED step of R50. -/
def State.fabDegraded (s : State) (a : Nat) : Bool :=
  decide (fabSpace a ≠ 4) &&
    (decide ((s.field (unitField (fabSpace a) (fabUnit a))).clk.repair = .degraded) || s.startFailed || s.sd.tripLatched)

/-- The checks of R50 for a ring bound as `bind` says; `kindOk` tells whether the command may make this kind of access to the space. -/
def State.fabCheck (s : State) (bind : Option Nat) (a len : Nat) (kindOk : Bool) : Nat :=
  let shape := fabShape a len
  let sp := fabSpace a
  let outside := match bind with
    | none => false
    | some p => decide (sp = 4) || !decide (s.partOf (unitField sp (fabUnit a)) = some p)
  if shape ≠ 0 then shape
  else if outside || !kindOk then 0x5212
  else if s.fabDegraded a then 0x5213
  else 0

/-- What each command may do to a space (R51, R59, order 7 of R309): `opc` is its OPC. -/
def State.fabKind (s : State) (opc a : Nat) : Bool :=
  let sp := fabSpace a
  match opc with
  | 2 => decide (sp = 0) || decide (sp = 4)
  | 3 => decide (sp ≠ 1) || decide (s.graphOf (fieldOf (fabUnit a)) = .idle)
  | 4 => decide (sp = 1)
  | 5 => decide (sp = 2) || decide (sp = 3)
  | _ => false

/-! ### Reading and writing at the target (R321, R322) -/

/-- Cuts `len` bytes from `done` on at the multiples of `sz` of their address, `off` being the address of the first: offset from the start, and
length (R321). -/
def cutAt (sz fuel off done len : Nat) : List (Nat × Nat) :=
  match fuel with
  | 0 => []
  | fuel + 1 =>
    if len ≤ done then []
    else
      let n := min (len - done) (sz - (off + done) % sz)
      (done, n) :: cutAt sz fuel off (done + n) len

/-- Writes core data SRAM: whole words, which end the errors in them (R50, R517). -/
def Core.fabWrite (k : Core) (off : Nat) (data : List Byte) : Core :=
  let ws := wordsOf off data.length
  { k with sram := Memory.setBytes k.sram off data, ue := k.ue.filter (fun w => !ws.contains w), ce := k.ce.filter (fun w => !ws.contains w),
           wback := k.wback.filter (fun w => !ws.contains w) }
/-- Writes an instruction store. -/
def Core.imageWrite (k : Core) (off : Nat) (data : List Byte) : Core :=
  let ws := wordsOf off data.length
  { k with istore := Memory.setBytes k.istore off data, iue := k.iue.filter (fun w => !ws.contains w), ice := k.ice.filter (fun w => !ws.contains w) }

/-- The words of an access of a space that are uncorrectable, by index. -/
def State.badWords (s : State) (a len : Nat) : List Nat :=
  let ws := wordsOf (fabOff a) len
  match fabSpace a with
  | 0 => ws.filter (fun w => (s.core (fabUnit a)).ue.contains w)
  | 1 => ws.filter (fun w => (s.core (fabUnit a)).iue.contains w)
  | 2 => ws.filter (fun w => (s.field (fabUnit a)).cis.ue.contains w)
  | _ => []

/-- Counts what a read of a space found in its words: uncorrectable ones as R517 gives, correctable ones of a core as R131 gives (R131, R322). -/
def State.countRead (s : State) (a len : Nat) : State :=
  let u := fabUnit a
  let ws := wordsOf (fabOff a) len
  let bad := s.badWords a len
  match fabSpace a with
  | 0 => bad.foldl (fun s w => s.countUe (fieldOf u) .sram u w none) (s.modCore u (fun k => k.readCe ws))
  | 1 => bad.foldl (fun s w => s.countUe (fieldOf u) .istore u w none) (ws.foldl (fun s w => s.meetIce u w) s)
  | 2 =>
    let ce := (ws.filter (fun w => (s.field u).cis.ce.contains w)).length
    bad.foldl (fun s w => (s.countUe u .cistern 0 w none).modCis u (fun c => c.error 2 0x3141 (w / 8))) (if ce = 0 then s else s.addTotal 3 ce)
  | _ => s

/-- The bytes of an access of spaces 0 to 4. -/
def State.fabBytes (s : State) (a len : Nat) : List Byte :=
  let u := fabUnit a
  let off := fabOff a
  let words (g : Nat → Nat) : List Byte := (upTo (len / 8)).flatMap (fun i => toBytes 8 (g (off + 8 * i)))
  match fabSpace a with
  | 0 => Memory.bytes (s.core u).sram off len
  | 1 => Memory.bytes (s.core u).istore off len
  | 2 => words (s.field u).cis.read64
  | 3 => words (s.fieldCtl64 u)
  | _ => words s.engineCtl64

/-- Writes bytes word by word with a writer of aligned 8-byte words. -/
def writeWords (s : State) (off : Nat) (data : List Byte) (g : State → Nat → Nat → State) : State :=
  (upTo (data.length / 8)).foldl (fun s i => g s (off + 8 * i) (ofBytes ((data.drop (8 * i)).take 8))) s

/-- Makes a write of spaces 0 to 3. -/
def State.fabStore (s : State) (a : Nat) (data : List Byte) : State :=
  let u := fabUnit a
  match fabSpace a with
  | 0 => s.modCore u (fun k => k.fabWrite (fabOff a) data)
  | 1 => s.modCore u (fun k => k.imageWrite (fabOff a) data)
  | 2 => writeWords s (fabOff a) data (fun s o v =>
      (s.modCis u (fun c => c.write64 o v)).modField u (fun x => { x with ueTab := x.ueTab.filter (fun e => !decide (e = (.cistern, 0, o / 8))) }))
  | 3 => writeWords s (fabOff a) data (fun s o v => s.fieldCtlWrite u o v)
  | _ => s

/-- The domain a fabric access needs: the field's CD for a core's spaces, its MD for the field's. -/
def State.fabDomain (s : State) (a : Nat) : DomState :=
  let f := unitField (fabSpace a) (fabUnit a)
  if fabSpace a < 2 then (s.field f).clk.cd else (s.field f).clk.md

/-- The FABRIC_RSP of a packet. -/
def fabReply (p : Packet) (cause : Nat) (bad : List Nat) (data : List Byte) : Packet :=
  { src := p.dst, dst := p.src, vc := 0, ctl := true, bus := false, part := p.part, tag := p.tag, task := p.task, at' := 0,
    body := .fabricRsp cause bad data }

/-- Makes the access of a FABRIC packet, taken off its way, or refuses it at its target, and answers it (R321, R322, R421). -/
def State.fabMake (s : State) (p : Packet) (kind : FabricKind) (a len : Nat) (data : List Byte) : State :=
  if s.fabDegraded a then s.inject [fabReply p 0x5213 [] []]
  else match kind with
    | .readData =>
      let bad := s.badWords a len
      let r := fabReply p (if bad.isEmpty then 0 else 0x3112) bad (s.fabBytes a len)
      (s.countRead a len).inject [r]
    | _ => (s.fabStore a data).inject [fabReply p 0 [] []]

/-- FABRIC_ACCESS: the FABRIC packet at `k` reaches its core or field; while the domain is in reset or starting the access is held (R52, R321, R403). -/
def execFabricAccess (k : Nat) (s : State) : Out :=
  .next (match s.arriving k with
    | some p =>
      match p.body with
      | .fabric kind a len data false =>
        (match s.fabDomain a with
         | .on => if fabSpace a < 2 ∧ !s.reachable (fabUnit a) then s else (s.take k).fabMake p kind a len data
         | .off => if s.fabDegraded a then (s.take k).inject [fabReply p 0x5213 [] []] else s
         | _ => { s with net := setAt s.net k { p with body := .fabric kind a len data true } })
      | _ => s
    | none => s)

/-- FABRIC_ACCESS_RELEASE: a held access is made once the start has ended, or refused where the field came up DEGRADED (R51, R52). -/
def execFabricAccessRelease (k : Nat) (s : State) : Out :=
  .next (match s.arriving k with
    | some p =>
      match p.body with
      | .fabric kind a len data true =>
        (match s.fabDomain a with
         | .on => (s.take k).fabMake p kind a len data
         | .off => if s.fabDegraded a then (s.take k).inject [fabReply p 0x5213 [] []] else s
         | _ => s)
      | _ => s
    | none => s)

end Sys2Proof.Machine
end

