-- ==== Sys2Proof/Machine/Graph.lean ====
section
/-! DEFINITION. The checks of START_GRAPH and what an accepted one resets (R17, R18, R85 to R90, R107, R272, R278, R484). -/

namespace Sys2Proof.Machine

/-- A check that failed: its cause and INFO0 (R314). -/
abbrev CheckFault := Nat × Nat

/-- INFO0 of a failed check: WHERE (0 slot, 1 field control offset, 2 barrier group), field and number (R314). Log entry 69. -/
def whereInfo (where_ f n : Nat) : Nat := where_ <<< 62 + f <<< 48 + n

/-- The first of the checks that fails. -/
def firstFault {α : Type} (l : List α) (g : α → Option CheckFault) : Option CheckFault := l.findSome? g

/-- A cause with its place when a condition holds. -/
def faultIf (b : Bool) (cause info : Nat) : Option CheckFault := if b then some (cause, info) else none

/-- The nodes of a field (R58). -/
def Cistern.nodeList (c : Cistern) : List Nat := (upTo (min c.nodeLimit 65536)).filter c.isNode
/-- The placement sets whose descriptor holds a bit. -/
def Cistern.psetList (c : Cistern) : List (Nat × Nat) := c.psets.map (fun e => (e.1, e.2.toNat))
/-- Slots a list of 8-byte records takes. -/
def recSlots (n : Nat) : Nat := (n + 7) / 8
/-- The output records of a node, with the slot each lies in. -/
def Cistern.outList (c : Cistern) (n : Nat) : List (Nat × Nat) := (upTo (c.outCount n)).map (fun i => (c.outRec n i, c.outSlot n + i / 8))
/-- The binding records of a node. -/
def Cistern.bindList (c : Cistern) (n : Nat) : List Nat := (upTo (c.bindCount n)).map (c.bindRec n)

/-! ### Order 1: reserved bits (R9, R85 to R88, R107) -/

/-- A reserved bit is set in a node's slot. -/
def Cistern.nodeReserved (c : Cistern) (n : Nat) : Bool :=
  decide (bits (c.word n 0) 29 28 ≠ 0) || decide (bits (c.word n 0xC) 3 0 ≠ 0) || decide (bits (c.word n 0x14) 15 0 ≠ 0) ||
  decide (bits (c.word n 0x34) 22 11 ≠ 0) || decide (bits (c.word n 0x38) 31 16 ≠ 0) || decide (c.word n 0x3C ≠ 0)
/-- A reserved bit is set in an output record (R86). -/
def outReserved (r : Nat) : Bool :=
  if bits r 63 62 = 2 then decide (bits r 61 48 ≠ 0) || decide (bits r 45 44 ≠ 0) || decide (bits r 23 0 ≠ 0)
  else decide (bits r 49 48 ≠ 0) || decide (bits r 7 0 ≠ 0) || (decide (bits r 63 62 ≠ 1) && decide (bits r 61 50 ≠ 0))
/-- A reserved bit is set in a binding record (R87). -/
def bindReserved (r : Nat) : Bool := decide (bits r 61 47 ≠ 0) || decide (bits r 39 12 ≠ 0)
/-- A reserved bit is set in a placement set descriptor (R88). -/
def psetReserved (d : Nat) : Bool :=
  decide (bits d 60 48 ≠ 0) || decide (bits d 31 30 ≠ 0) || decide (bits d 23 22 ≠ 0) || decide (bits d 15 13 ≠ 0) || decide (bits d 7 5 ≠ 0)
/-- A reserved bit is set in the padding of a bitmap (R88). -/
def Cistern.padReserved (c : Cistern) (d : Nat) : Bool :=
  decide (bits d 63 62 = 2) && decide (Memory.value c.mem (bits d 47 32 * 64 + 160) 32 ≠ 0)

/-- Order 1 in a field. Reserved bits are checked also in the records of lists that order 2 calls invalid (R90; DESIGN CHOICE, log entry 98). -/
def State.check1 (s : State) (f : Nat) : Option CheckFault :=
  let c := (s.field f).cis
  let y := (s.field f).syn
  (firstFault c.nodeList (fun n =>
    (faultIf (c.nodeReserved n) 0x3010 (whereInfo 0 f n)).orElse (fun _ =>
      (firstFault (c.outList n) (fun r => faultIf (outReserved r.1) 0x3010 (whereInfo 0 f r.2))).orElse (fun _ =>
        firstFault (c.bindList n) (fun r => faultIf (bindReserved r) 0x3010 (whereInfo 0 f (c.bindSlot n))))))).orElse (fun _ =>
  (firstFault c.psetList (fun e =>
    (faultIf (psetReserved e.2) 0x3010 (whereInfo 1 f (0x1000 + 8 * e.1))).orElse (fun _ =>
      faultIf (c.padReserved e.2) 0x3010 (whereInfo 0 f (bits e.2 47 32 + 2))))).orElse (fun _ =>
  (firstFault y.decls (fun e => faultIf (decide (bits e.2.toNat 12 8 ≠ 0)) 0x3010 (whereInfo 1 f (0x4000 + 2 * e.1)))).orElse (fun _ =>
  firstFault y.descs (fun e =>
    faultIf (decide (bits e.2.toNat 54 48 ≠ 0) || decide (bits e.2.toNat 31 17 ≠ 0)) 0x3010 (whereInfo 1 f (0x6000 + 8 * e.1))))))

/-! ### Order 2: TABLE_INVALID (R90, R107, R278) -/

/-- A list of slots lies within the auxiliary slots. -/
def Cistern.auxFits (c : Cistern) (slot n : Nat) : Bool := decide (c.nodeLimit ≤ slot) && decide (slot + n ≤ 65536)

/-- Order 2 for a node's slot. -/
def Cistern.nodeInvalid (c : Cistern) (n : Nat) : Bool :=
  let entry := bits (c.word n 8) 15 0
  decide (entry % 4 ≠ 0) || decide (0x6000 ≤ entry) || decide (8 < c.bindCount n) ||
  (decide (0 < c.outCount n) && !c.auxFits (c.outSlot n) (recSlots (c.outCount n))) ||
  (decide (0 < c.bindCount n) && !c.auxFits (c.bindSlot n) 1) ||
  (decide (c.mask n = 0) && decide (c.fireDecl n = 0))
/-- Order 2 for a binding record. -/
def bindInvalid (r : Nat) : Bool :=
  decide (bits r 63 62 = 3) || (decide (bits r 63 62 = 2) && (decide (255 < bits r 11 0) || decide (bits r 46 40 ≠ 0)))
/-- Order 2 for a placement set. -/
def Cistern.psetInvalid (c : Cistern) (d : Nat) : Bool :=
  match bits d 63 62 with
  | 0 => false
  | 1 => decide (bits d 29 24 < bits d 21 16) || decide (39 < bits d 29 24) || decide (bits d 12 8 < bits d 4 0) || decide (bits d 47 32 ≠ 0)
  | 2 => decide (bits d 31 0 ≠ 0) || !c.auxFits (bits d 47 32) 3
  | _ => true

/-- Order 2 for a group a field declares: its descriptor against the partition and the other fields, and its cluster description. -/
def State.wellInvalid (s : State) (p f g d : Nat) : Option CheckFault :=
  let fs := s.partFields p
  let cw := s.cwDesc g
  let root := bits cw 27 16
  (faultIf (!fs.contains (wellFieldOf d) || decide (wellExpect d = 0) || decide (92160 < wellExpect d) ||
      fs.any (fun h => bit (s.wellDesc h g) 63 && decide (s.wellDesc h g ≠ d))) 0x3130 (whereInfo 1 f (0x6000 + 8 * g))).orElse (fun _ =>
  faultIf (wellCluster d && (!bit cw 31 || decide (bits cw 12 0 = 0) || decide (4096 < bits cw 12 0) || decide ((s.part p).job = 0) ||
      (decide (root ≠ s.engineId) && (s.routeOf root).isNone))) 0x3130 (whereInfo 2 f g))

/-- Order 2 in a field. -/
def State.check2 (s : State) (p f : Nat) : Option CheckFault :=
  let c := (s.field f).cis
  let y := (s.field f).syn
  (faultIf (decide (65536 < c.nodeLimit)) 0x3130 (whereInfo 1 f 8)).orElse (fun _ =>
  (firstFault c.nodeList (fun n =>
    (faultIf (c.nodeInvalid n) 0x3130 (whereInfo 0 f n)).orElse (fun _ =>
      (firstFault (c.outList n) (fun r => faultIf (decide (bits r.1 63 62 = 3)) 0x3130 (whereInfo 0 f r.2))).orElse (fun _ =>
        firstFault (c.bindList n) (fun r => faultIf (bindInvalid r) 0x3130 (whereInfo 0 f (c.bindSlot n))))))).orElse (fun _ =>
  (firstFault c.psetList (fun e => faultIf (c.psetInvalid e.2) 0x3130 (whereInfo 1 f (0x1000 + 8 * e.1)))).orElse (fun _ =>
  (firstFault y.decls (fun e => faultIf (bit e.2.toNat 15 && decide (bits e.2.toNat 7 0 = 0)) 0x3130 (whereInfo 1 f (0x4000 + 2 * e.1)))).orElse (fun _ =>
  firstFault y.descs (fun e => if bit e.2.toNat 63 then s.wellInvalid p f e.1 e.2.toNat else none)))))

/-! ### Orders 3 to 5 (R17, R90, R107, R272) -/

/-- Order 3 in a field. -/
def State.check3 (s : State) (f : Nat) : Option CheckFault :=
  let c := (s.field f).cis
  (firstFault c.nodeList (fun n => faultIf (decide (1 ≤ c.wdog n) && decide (c.wdog n ≤ 4)) 0x3131 (whereInfo 0 f n))).orElse (fun _ =>
  firstFault (s.field f).syn.descs (fun e =>
    faultIf (bit e.2.toNat 63 && decide (1 ≤ wellTmo e.2.toNat) && decide (wellTmo e.2.toNat ≤ 4)) 0x3131 (whereInfo 1 f (0x6000 + 8 * e.1))))

/-- An output record's target fails order 4 (R90, R272). -/
def State.outTargetBad (s : State) (p r : Nat) : Bool :=
  match bits r 63 62 with
  | 0 =>
    let f := bits r 46 40
    !(s.partFields p).contains f || !(s.field f).cis.isNode (bits r 39 24)
  | 1 => decide ((s.part p).job = 0) || decide (bits r 61 50 = s.engineId) || (s.routeOf (bits r 61 50)).isNone
  | _ => false

/-- Order 4 in a field. -/
def State.check4 (s : State) (p f : Nat) : Option CheckFault :=
  let c := (s.field f).cis
  firstFault c.nodeList (fun n =>
    (firstFault (c.outList n) (fun r => faultIf (s.outTargetBad p r.1) 0x3132 (whereInfo 0 f r.2))).orElse (fun _ =>
      firstFault (c.bindList n) (fun r =>
        faultIf (decide (bits r 63 62 ≠ 2) && !(s.partFields p).contains (bits r 46 40)) 0x3132 (whereInfo 0 f (c.bindSlot n)))))

/-- A placement set counts as undeclared (R88). -/
def Cistern.psetMissing (c : Cistern) (set : Nat) : Bool :=
  let d := (Tab.read c.psets 0 set).toNat
  decide (bits d 63 62 = 0) || (decide (bits d 63 62 = 2) && (c.psetCores set).isEmpty)
/-- A binding names a pair or group that is not declared (R107). -/
def State.bindMissing (s : State) (f r : Nat) : Bool :=
  if bits r 63 62 = 2 then
    let d := s.wellDesc f (bits r 11 0)
    !bit d 63 || !bit (s.wellDesc (wellFieldOf d) (bits r 11 0)) 63
  else !bit (Tab.read (s.field (bits r 46 40)).syn.decls 0 (bits r 11 0)).toNat 15

/-- Order 5 in a field. -/
def State.check5 (s : State) (f : Nat) : Option CheckFault :=
  let c := (s.field f).cis
  firstFault c.nodeList (fun n =>
    (faultIf (c.psetMissing (c.psetOf n)) 0x3122 (whereInfo 0 f n)).orElse (fun _ =>
      firstFault (c.bindList n) (fun r => faultIf (s.bindMissing f r) 0x3122 (whereInfo 0 f n))))

/-- The field (FX_LO, FY_LO) of a partition. -/
def Part.home (x : Part) : Nat := bits x.rect.toNat 19 16 * 9 + bits x.rect.toNat 23 20

/-- The groups a partition declares (R107). -/
def State.groupsOf (s : State) (p : Nat) : List Nat :=
  (upTo 256).filter (fun g => (s.partFields p).any (fun f => bit (s.wellDesc f g) 63))

/-- The field in which a partition's group lives: the one that the first descriptor declaring it names (R107). -/
def State.groupField (s : State) (p g : Nat) : Nat :=
  ((s.partFields p).find? (fun f => bit (s.wellDesc f g) 63)).elim 0 (fun f => wellFieldOf (s.wellDesc f g))

/-- START_GRAPH's checks in their order: the first that fails (R90, R107, R278, R484). -/
def State.graphCheck (s : State) (p : Nat) : Option CheckFault :=
  let fs := s.partFields p
  (firstFault fs s.check1).orElse (fun _ =>
  (firstFault fs (s.check2 p)).orElse (fun _ =>
  (firstFault fs s.check3).orElse (fun _ =>
  (firstFault fs (s.check4 p)).orElse (fun _ =>
  (firstFault fs s.check5).orElse (fun _ =>
  (faultIf (fs.all (fun f => (s.field f).cis.nodeList.isEmpty)) 0x3122 (whereInfo 0 (s.part p).home 0xFFFFFFFF)).orElse (fun _ =>
  (if s.detMode then firstFault fs (fun f => firstFault (s.field f).cis.nodeList (fun n =>
      faultIf (decide (1 < ((s.field f).cis.psetCores ((s.field f).cis.psetOf n)).length)) 0x3136 (whereInfo 0 f n))) else none).orElse (fun _ =>
  firstFault (s.groupsOf p) (fun g => faultIf (s.groupClaimed g) 0x3134 (whereInfo 2 (s.groupField p g) g)))))))))

/-! ### The reset of run state (R18, R89, R106, R114, R485) -/

/-- The Cistern's part (R18, R89, R92). -/
def Cistern.startReset (c : Cistern) : Cistern :=
  { c with
    nodes := c.nodeList.foldl (fun (t : Tab NodeRun) n => Tab.write t NodeRun.reset n { NodeRun.reset with fireLeft := c.fireDecl n }) [],
    pool := [], chain := [], accepted := 0, merged := 0, discarded := 0, dispatched := 0, ovfEntered := 0, completed := 0 }

/-- The pair and Well units' part; the declarations and the snapshot stay (R94, R106, R114). -/
def SyncUnit.startReset (y : SyncUnit) : SyncUnit :=
  { y with pairs := [], wells := [], arrivals := [], broken := [], sxErr := 0, sxIndex := 0, progress := 0 }

/-- START_GRAPH is accepted: run state is reset, the groups are claimed, the graph is RUNNING, and the nodes with mask 0 become ready (R18, R107). -/
def State.startGraph (s : State) (p : Nat) : State :=
  let fs := s.partFields p
  let claims := s.groupsOf p
  let s1 := fs.foldl (fun s f => (s.modCis f Cistern.startReset).modSyn f SyncUnit.startReset) s
  let s2 := { s1 with cores := s1.cores.map (fun (e : Nat × Core) =>
    if fs.contains (fieldOf e.1) then (e.1, { e.2 with inq := e.2.inq.map (fun (q : Nat × InQueue) => (q.1, { q.2 with lock := none })) }) else e) }
  let s3 := s2.modPart p (fun x => { x with graph := .running, claims := claims, completed := 0, det := { last := s.tstamp, armed := true, openAt := none, progAt := [] } })
  fs.foldl (fun s f => (s.field f).cis.nodeList.foldl (fun s n => if (s.field f).cis.mask n = 0 then s.fireNode f n 0 else s) s) s3

end Sys2Proof.Machine
end

