-- ==== Sys2Proof/Machine/Ingress.lean ====
section
/-! DEFINITION. Command rings: fetching, the checks of a command in their order, and starting it (R299 to R309). -/

namespace Sys2Proof.Machine

/-! ### Rings (R299 to R306) -/

/-- The completion queue has no free slot (R306). -/
def Ring.full (y : Ring) : Bool := decide (y.cqSize ≤ y.cqTail - y.cqHead)
/-- Host bytes read through a port (R520). -/
def State.hostRead (s : State) (p n : Nat) : State := s.modPort p (fun x => x.count 0x20 n)
/-- AER records a failed read: poisoned TLP received, completion timeout, completer abort, unsupported request, at the bits that PCI Express gives them (R294; log entry 95). -/
def Port.aerRecord (x : Port) (e : ReadFail) : Port :=
  { x with aer := x.aer ||| 1 <<< (match e with | .poisoned => 12 | .timeout => 14 | .abort => 15 | .unsupported => 20) }
/-- The upper value of a completion timeout range, in µs (R294). -/
def cplUpper (enc : Nat) : Nat :=
  match enc with
  | 1 => 100 | 2 => 10000 | 5 => 55000 | 6 => 210000 | _ => 50000
/-- A read that left at TSTAMP `since` may end so now: a completion timeout fires no earlier than its upper value (R294). -/
def State.mayEnd {α : Type} (s : State) (p since : Nat) (a : ReadFail ⊕ α) : Bool :=
  !(match a with | .inl e => decide (e = .timeout) | .inr _ => false) || decide (since + 100 * cplUpper (s.port p).cplRange ≤ s.tstamp)

/-- A port's engine logic works: the RD is up and the port's link has trained (R394). -/
def State.portUp (s : State) (p : Nat) : Bool := decide (s.rd.state = .on) && (s.port p).linkUp

/-- A port's mailbox works: with the rest of the port, and on a link that has survived a loss of REFCLK (R427). -/
def State.mailUp (s : State) (p : Nat) : Bool := (decide (s.rd.state = .on) || !s.sd.refclkOk) && (s.port p).linkUp

/-- Commands of a ring in execution. -/
def Port.running (x : Port) (r : Nat) : List Cmd := x.cmds.filter (fun c => decide (c.ring = r) && !c.completed && !c.silent)
/-- The value of an absolute index as the ring's slots are numbered. -/
def Ring.slot (y : Ring) (idx : Nat) : Nat := idx % y.sqSize

/-- SQ_HEAD for a record that frees its slots up to `upto`: no slot the engine still needs is given up (R313, R324). -/
def Port.sqHead (x : Port) (r upto : Nat) : Nat :=
  let y := x.ring r
  let need := y.head :: ((y.fetched.map (fun (e : Nat × List Nat) => e.1)) ++ ((x.cmds.filter (fun c => decide (c.ring = r) && !c.silent)).map (fun c => c.idx)) ++ y.failed.toList)
  y.slot (need.foldl min upto)

/-- SQ_TAIL: the doorbell records the tail, or is ignored out of range; a ring that is not enabled fetches nothing (R302). -/
def execSqTail (p r v : Nat) (s : State) : Out :=
  onRing p r s (fun s =>
    let y := (s.port p).ring r
    let v := v % 65536
    if !s.portUp p then s
    else if y.sqSize ≤ v then s.modPort p (fun x => x.setRing r { y with dbInvalid := true })
    else s.modPort p (fun x => x.setRing r { y with tail := y.head + (v + y.sqSize - y.slot y.head) % y.sqSize }))

/-- CQ_HEAD: the doorbell frees slots up to the written head; a value beyond the records written is out of range (R306). -/
def execCqHead (p r v : Nat) (s : State) : Out :=
  onRing p r s (fun s =>
    let y := (s.port p).ring r
    let v := v % 65536
    let freed := (v + y.cqSize - y.cqHead % y.cqSize) % y.cqSize
    let all := decide (freed = 0) && y.full && decide (v = y.cqTail % y.cqSize)
    if !s.portUp p then s
    else if y.cqSize ≤ v ∨ y.cqTail - y.cqHead < freed then s.modPort p (fun x => x.setRing r { y with dbInvalid := true })
    else s.modPort p (fun x => x.setRing r { y with cqHead := if all then y.cqTail else y.cqHead + freed }))

/-- A command of a ring that has just started. -/
def newCmd (y : Ring) (r idx : Nat) (words : List Nat) (now : Nat) : Cmd :=
  { ring := r, bound := y.bound, ctx := y.ctx, silent := false, readAt := now, idx := idx, words := words, start := now, walks := [], issued := false, reads := [], buf := [], accs := [], bad := none, wait := .none,
    cause := 0, info0 := 0, info1 := 0, ended := false, halts := false, completed := false, ts := 0 }

/-! ### Completion and halts (R312, R313, R324) -/

/-- Replaces the command at a place of a port. -/
def State.setCmd (s : State) (p i : Nat) (c : Cmd) : State := s.modPort p (fun x => { x with cmds := setAt x.cmds i c })

/-- A ring halts at a command: fetched commands not started are discarded; where several fail, the lowest index is the failed command
(R324; log entry 35). -/
def Ring.halt (y : Ring) (idx cause : Nat) : Ring :=
  let first := match y.failed with | some f => decide (idx < f) | none => true
  { y with halted := true, fetched := [], failed := if first then some idx else y.failed, haltCause := if first then cause else y.haltCause }

/-- The causes of class L that a port's commands raise (R489): recorded as faults of the port. -/
def portCause (cause : Nat) : Bool := [0x3102, 0x3103, 0x3107, 0x3108].contains cause

/-- RING_HALT (R324): the first halt counts; a cause of class L is a fault of the port, signalled by vector 16 (R293). -/
def State.haltRing (s : State) (p : Nat) (c : Cmd) : State :=
  let x := s.port p
  let y := x.ring c.ring
  let s1 := s.setPort p ((if y.halted then x else x.count 0x30 1).setRing c.ring (y.halt c.idx c.cause))
  if portCause c.cause then (s1.portFault p c.cause c.ring).modPort p (fun x => { x with msixPend := if x.msixPend.contains 16 then x.msixPend else x.msixPend ++ [16] })
  else s1

/-- Splits off the completed commands at the head of a ring's commands. -/
def takeDone (r : Nat) (l : List Cmd) : List Cmd × List Cmd :=
  match l with
  | [] => ([], [])
  | c :: rest =>
    if c.ring ≠ r ∨ c.silent then
      let e := takeDone r rest
      (e.1, c :: e.2)
    else if c.completed then
      let e := takeDone r rest
      (c :: e.1, e.2)
    else ([], c :: rest)

/-- GSTATE and PART as records carry them. -/
def State.recordPart (s : State) (y : Ring) : Nat :=
  match y.bound with
  | some q => (s.part q).graph.code <<< 56 + q <<< 52
  | none => 3 <<< 56

/-- A command's completion record, but for PHASE (R313); that of a failed fetch gives the index of the unread command (R324). -/
def State.recordOf (s : State) (p : Nat) (c : Cmd) : Record :=
  let x := s.port p
  let y := x.ring c.ring
  let h := if c.cause = 0x3108 then y.slot c.idx else x.sqHead c.ring (c.idx + 1)
  { w0 := s.recordPart y + h <<< 32 + c.cause <<< 16 + bits (c.word 0) 15 0, w1 := c.info0, w2 := c.info1, w3 := c.ts }

/-- Prepares the records of the completed commands that are next in ring order (R304). -/
def State.flush (s : State) (p r : Nat) : State :=
  let x := s.port p
  let e := takeDone r x.cmds
  let s1 := s.setPort p { x with cmds := e.2 }
  let recs := e.1.map (s1.recordOf p)
  s1.modPort p (fun x => x.modRing r (fun y => { y with recs := y.recs ++ recs }))

/-- A command that has reached its end completes: counted, its ring halted where its cause halts it, its record prepared in its turn; a silent one only goes (R295). -/
def State.finishCmd (s : State) (p i : Nat) (c : Cmd) : State :=
  if c.silent then s.modPort p (fun x => { x with cmds := dropAt x.cmds i })
  else
  let s1 := s.setCmd p i { c with completed := true, ts := s.tstamp }
  let s2 := if c.cause = 0x3108 then s1 else s1.modPort p (fun x => x.count 0 1)
  let s3 := if c.halts then s2.haltRing p c else s2
  s3.flush p c.ring

/-- Rings take turns round-robin: the first that has work after the one last served (R303; log entry 96). -/
def turnOf (last : Nat) (want : Nat → Bool) : Option Nat := ((upTo 16).map (fun i => (last + 1 + i) % 16)).find? want
/-- A ring has commands to fetch (R302, R324). -/
def Port.wantsFetch (x : Port) (r : Nat) : Bool := (x.ring r).en && !(x.ring r).halted && decide ((x.ring r).head < (x.ring r).tail)

/-- COMMAND_FETCH: in the ring's turn up to 8 commands from HEAD to the tail arrive, in order; a failed read ends as FETCH_READ does (R302, R303, R324). `data` is what
the host memory returns, eight words a command. Log entry 36. -/
def execCommandFetch (p r : Nat) (data : ReadFail ⊕ List (List Nat)) (s : State) : Out :=
  onRing p r s (fun s =>
    let x := { s.port p with fetchTurn := r }
    let y := x.ring r
    let n := min 8 (y.tail - y.head)
    if !s.portUp p ∨ turnOf (s.port p).fetchTurn (s.port p).wantsFetch ≠ some r then s
    else match data with
      | .inl e =>
        let c := (newCmd y r y.head [] s.tstamp).endWith 0x3108 0 0 true
        (s.setPort p ({ x with cmds := x.cmds ++ [c] }.aerRecord e)).finishCmd p x.cmds.length c
      | .inr l =>
        let got := (upTo n).map (fun i => (y.head + i, (upTo 8).map (fun j => wordAt (l.getD i []) j % 2 ^ 64)))
        let y1 := { y with head := y.head + n, fetched := y.fetched ++ got }
        (s.setPort p (x.setRing r y1)).hostRead p (64 * n))

/-! ### What a command's words name (R308, R311) -/

/-- OPC of a command's words. -/
def opcOf (w : List Nat) : Nat := bits (wordAt w 0) 63 56
/-- OPC is listed (R308). -/
def opcListed (o : Nat) : Bool := decide (1 ≤ o) && decide (o ≤ 12)
/-- The transfer commands (R304). -/
def transfer (o : Nat) : Bool := [2, 3, 4, 5, 12].contains o
/-- The commands a bound ring alone may issue (R308). -/
def boundOnly (o : Nat) : Bool := [6, 7, 8, 9, 10, 12].contains o
/-- The fabric address of word 1. -/
def cmdFab (w : List Nat) : Nat := bits (wordAt w 1) 47 0
/-- The host buffer's address: word 1 of LOAD_IMAGE, word 2 of the others. -/
def cmdHost (w : List Nat) : Nat := if opcOf w = 4 then bits (wordAt w 1) 47 0 else bits (wordAt w 2) 47 0
/-- The host buffer's length: LEN, or the header and the largest code of LOAD_IMAGE (R304). -/
def cmdLen (w : List Nat) : Nat := if opcOf w = 4 then 0x6040 else bits (wordAt w 3) 21 0
/-- X_LO, X_HI, Y_LO, Y_HI of LOAD_IMAGE. -/
def cmdRect (w : List Nat) : Nat × Nat × Nat × Nat :=
  (bits (wordAt w 2) 56 48, bits (wordAt w 2) 8 0, bits (wordAt w 2) 24 16, bits (wordAt w 2) 40 32)
/-- The cores of a rectangle, in rising core ID. -/
def rectCores (q : Nat × Nat × Nat × Nat) : List Nat :=
  (upTo (q.2.2.2 + 1 - q.2.2.1)).flatMap (fun i => (upTo (q.2.1 + 1 - q.1)).map (fun j => (q.2.2.1 + i) * 288 + q.1 + j))
/-- The fabric address of a core's instruction store. -/
def istoreFab (c : Nat) : Nat := 1 <<< 45 + c <<< 28

/-! ### Which commands may start (R303, R304) -/

/-- A core lies in a rectangle of LOAD_IMAGE. -/
def inRect (q : Nat × Nat × Nat × Nat) (c : Nat) : Bool :=
  decide (q.1 ≤ c % 288) && decide (c % 288 ≤ q.2.1) && decide (q.2.2.1 ≤ c / 288) && decide (c / 288 ≤ q.2.2.2)

/-- The fabric ranges of two transfer commands overlap and one of them is written (R304). -/
def fabClash (a b : List Nat) : Bool :=
  let o := opcOf a
  let o' := opcOf b
  let imageMeets (q : Nat × Nat × Nat × Nat) (w : List Nat) : Bool :=
    decide (fabSpace (cmdFab w) = 1) && inRect q (fabUnit (cmdFab w)) && decide (fabOff (cmdFab w) < 0x6000)
  if o = 12 ∨ o' = 12 then
    decide (o = o') && decide (bits (wordAt a 3) 43 32 = bits (wordAt b 3) 43 32) && overlaps (cmdFab a) (cmdLen a) (cmdFab b) (cmdLen b)
  else if o = 4 ∧ o' = 4 then
    let q := cmdRect a
    let u := cmdRect b
    decide (q.1 ≤ u.2.1) && decide (u.1 ≤ q.2.1) && decide (q.2.2.1 ≤ u.2.2.2) && decide (u.2.2.1 ≤ q.2.2.2)
  else if o = 4 then imageMeets (cmdRect a) b
  else if o' = 4 then imageMeets (cmdRect b) a
  else overlaps (cmdFab a) (cmdLen a) (cmdFab b) (cmdLen b) && !(decide (o = 3) && decide (o' = 3))

/-- The host buffers of two transfer commands overlap and one of them is a READ_DATA (R304). -/
def hostClash (a b : List Nat) : Bool :=
  overlaps (cmdHost a) (cmdLen a) (cmdHost b) (cmdLen b) && (decide (opcOf a = 3) || decide (opcOf b = 3))

/-- A ring may start a command with these words (R303, R304, R306). -/
def Port.mayStart (x : Port) (r : Nat) (w : List Nat) : Bool :=
  let mine := x.running r
  decide ((x.cmds.filter (fun c => !c.completed)).length < 64) && decide (mine.length < 16) && !(x.ring r).full &&
    (mine.isEmpty ||
      (transfer (opcOf w) && decide (mine.length ≤ 7) &&
        mine.all (fun c => transfer c.opc && !fabClash c.words w && !hostClash c.words w)))

/-! ### The checks of R309 -/

/-- The bits of a command's word that its OPC names; those of an OPC that is not listed are not checked (log entry 34). -/
def cmdMask (o i : Nat) : Nat :=
  let all := 2 ^ 64 - 1
  let adr := 2 ^ 48 - 1
  match i with
  | 0 => 0xFF0000000000FFFF
  | 1 => (match o with
    | 2 => adr | 3 => adr | 4 => adr | 5 => adr | 12 => adr
    | 8 => 2 ^ 55 - 1
    | 9 => 0xFF010F
    | 10 => 0xFFFF0001
    | 11 => 0xF3
    | _ => if opcListed o then 0 else all)
  | 2 => (match o with
    | 2 => adr | 3 => adr | 5 => adr | 12 => adr
    | 4 => 0x01FF01FF01FF01FF
    | 9 => 0xFFFFFFFF
    | 11 => 0xFFFFFFFFF000
    | _ => if opcListed o then 0 else all)
  | 3 => (match o with
    | 2 => 0x3FFFFF | 3 => 0x3FFFFF | 5 => 0x3FFFFF
    | 11 => 2 ^ 37 - 1
    | 12 => 0xFFF003FFFFF
    | _ => if opcListed o then 0 else all)
  | _ => 0

/-- Order 1: a reserved bit is set. -/
def cmdReserved (w : List Nat) : Bool := (upTo 8).any (fun i => decide (wordAt w i ||| cmdMask (opcOf w) i ≠ cmdMask (opcOf w) i))

/-- Order 2: OPC, a length, an address, SCOPE or the rectangle is out of range. Log entries 23 and 65. -/
def cmdInvalid (w : List Nat) : Bool :=
  let o := opcOf w
  let q := cmdRect w
  !opcListed o ||
  (transfer o && (decide (cmdHost w % 8 ≠ 0) || decide (2 ^ 48 < cmdHost w + cmdLen w))) ||
  (transfer o && decide (o ≠ 4) && (decide (cmdLen w % 8 ≠ 0) || decide (cmdLen w < 8) || decide (0x200000 < cmdLen w))) ||
  (decide (o = 4) && (decide (q.2.1 < q.1) || decide (287 < q.2.1) || decide (q.2.2.2 < q.2.2.1) || decide (319 < q.2.2.2))) ||
  (decide (o = 11) && (decide (bits (wordAt w 1) 1 0 = 3) ||
    (decide (bits (wordAt w 1) 1 0 = 2) && (decide (bits (wordAt w 3) 36 0 = 0) || decide (2 ^ 36 < bits (wordAt w 3) 36 0)))))

/-- Order 3: the ring kind does not fit, or its partition is not enabled (R301, R308). -/
def State.cmdUnbound (s : State) (y : Ring) (w : List Nat) : Bool :=
  match y.bound with
  | none => boundOnly (opcOf w)
  | some q => !(s.part q).enabled

/-- The graph of a field's partition is RUNNING or STOPPING. -/
def State.fieldBusy (s : State) (f : Nat) : Bool := !decide (s.graphOf f = .idle)
/-- Graph state of the partition a ring is bound to. -/
def State.boundGraph (s : State) (y : Ring) : GraphState := match y.bound with | some q => (s.part q).graph | none => .idle

/-- Order 4: the graph state refuses the command (R19): its cause, or 0. Log entry 22. -/
def State.cmdGraph (s : State) (y : Ring) (w : List Nat) : Nat :=
  let o := opcOf w
  let sp := fabSpace (cmdFab w)
  let u := fabUnit (cmdFab w)
  let busy :=
    if o = 4 then (rectCores (cmdRect w)).any (fun c => s.fieldBusy (fieldOf c))
    else if o = 5 then decide (sp < 4) && decide (u < spaceUnits sp) && s.fieldBusy (unitField sp u)
    else decide (o = 6) && !decide (s.boundGraph y = .idle)
  if busy then 0x3121
  else if o = 8 ∧ s.boundGraph y ≠ .running then 0x3120
  else 0

/-- Order 5: POST_EVENT outside the partition. -/
def State.cmdTarget (s : State) (y : Ring) (w : List Nat) : Bool :=
  decide (opcOf w = 8) && (match y.bound with
    | some q => decide (nFields ≤ bits (wordAt w 1) 54 48) || !rectHas (s.part q).rect (bits (wordAt w 1) 54 48)
    | none => true)

/-- Order 6: REMOTE_WRITE without a job, or to this engine. -/
def State.cmdRemote (s : State) (y : Ring) (w : List Nat) : Bool :=
  decide (opcOf w = 12) && (decide (bits (wordAt w 3) 43 32 = s.engineId) || (match y.bound with
    | some q => decide ((s.part q).job = 0)
    | none => true))

/-- Order 7: a fabric access fails R50, R51 or R59: cause and fabric address. -/
def State.cmdFabric (s : State) (y : Ring) (w : List Nat) : Option (Nat × Nat) :=
  let o := opcOf w
  let a := cmdFab w
  let one (a cause : Nat) : Option (Nat × Nat) := if cause = 0 then none else some (cause, a)
  if o = 2 ∨ o = 3 ∨ o = 5 then one a (s.fabCheck y.bound a (cmdLen w) (s.fabKind o a))
  else if o = 12 then one a (if fabShape a (cmdLen w) ≠ 0 then fabShape a (cmdLen w) else if fabSpace a ≠ 0 then 0x5212 else 0)
  else if o = 4 then (rectCores (cmdRect w)).findSome? (fun c => one (istoreFab c) (s.fabCheck y.bound (istoreFab c) 8 true))
  else none

/-- The open mark of a tag. -/
def Part.markOf (x : Part) (tag : Nat) : Option Mark := x.marks.find? (fun m => decide (m.tag = tag))
/-- Order 8: ENERGY_MARK on a tag already open, a ninth mark, or a tag not open. -/
def State.cmdTag (s : State) (y : Ring) (w : List Nat) : Bool :=
  decide (opcOf w = 10) && (match y.bound with
    | none => true
    | some q =>
      let tag := bits (wordAt w 1) 31 16
      if bit (wordAt w 1) 0 then ((s.part q).markOf tag).isNone
      else ((s.part q).markOf tag).isSome || decide (8 ≤ (s.part q).marks.length))

/-- Orders 1 to 8 of R309: the first cause that applies, with INFO0; none where the command may begin. -/
def State.cmdCheck (s : State) (y : Ring) (w : List Nat) : Option (Nat × Nat) :=
  if cmdReserved w then some (0x3010, 0)
  else if cmdInvalid w then some (0x3101, 0)
  else if s.cmdUnbound y w then some (0x3109, 0)
  else if s.cmdGraph y w ≠ 0 then some (s.cmdGraph y w, 0)
  else if s.cmdTarget y w then some (0x3132, 0)
  else if s.cmdRemote y w then some (0x3114, 0)
  else match s.cmdFabric y w with
    | some e => some e
    | none => if s.cmdTag y w then some (0x3113, 0) else none

/-! ### Starting -/

/-- A ring has a fetched command that may start (R303, R304). -/
def Port.wantsStart (x : Port) (r : Nat) : Bool :=
  (x.ring r).en && !(x.ring r).halted && (match (x.ring r).fetched with | e :: _ => x.mayStart r e.2 | [] => false)

/-- Starts, in the ring's turn, its next fetched command where `sel` takes its words: it leaves the fetched ones, is checked, and `eff` gives it its effect; a
refused one has none (R303, R304, R309). Log entry 7. -/
def State.startCmd (s : State) (p r : Nat) (sel : List Nat → Bool) (eff : State → Ring → Cmd → State × Cmd) : State :=
  let x := s.port p
  let y := x.ring r
  match y.fetched with
  | [] => s
  | (idx, w) :: rest =>
    if !s.portUp p ∨ !sel w ∨ turnOf x.startTurn x.wantsStart ≠ some r then s
    else
      let s1 := s.setPort p ({ x with startTurn := r }.setRing r { y with fetched := rest })
      let c := newCmd y r idx w s.tstamp
      let e := match s.cmdCheck y w with
        | some (cause, info) => (s1, c.endWith cause info 0 false)
        | none => eff s1 y c
      e.1.modPort p (fun x => { x with cmds := x.cmds ++ [e.2] })

/-- Words of an OPC; any row may take up a command whose OPC is not listed, which is refused. -/
def selOpc (o : Nat) (w : List Nat) : Bool := decide (opcOf w = o) || !opcListed (opcOf w)

end Sys2Proof.Machine
end

