-- ==== Sys2Proof/Machine/Transfer.lean ====
section
/-! DEFINITION. Host buffers: translation, the data reads and writes of transfer commands, and the answers to their accesses (R276, R305, R310,
R311, R316 to R322). -/

namespace Sys2Proof.Machine

/-! ### Translation (R316 to R319) -/

/-- Ends a command whose walk failed: INFO0 is the first byte of the buffer in the page, INFO1 LEVEL and ADDR (R314, R317). -/
def Cmd.walkFail (c : Cmd) (page cause level addr : Nat) : Cmd :=
  c.endWith cause (max (cmdHost c.words) (page * 4096)) (level <<< 60 + addr) true

/-- The access to the host buffer needs WR for READ_DATA, RD for the others. -/
def Cmd.mayUse (c : Cmd) (rd wr : Bool) : Bool := if c.opc = 3 then wr else rd

/-- Fills the cache, evicting the least recently used entry, which is the first (R319). -/
def fillCache (l : List TcEntry) (e : TcEntry) : List TcEntry :=
  let l1 := l.filter (fun x => !decide (x.ctx = e.ctx ∧ x.page = e.page))
  (if 1024 ≤ l1.length then l1.drop 1 else l1) ++ [e]

/-- Begins the translation of one page: a cached one is used, else the walk begins at CTX_ROOT (R316, R319). -/
def State.beginPage (s : State) (p ctx page : Nat) (c : Cmd) : State × Cmd :=
  let x := s.port p
  match x.cache.find? (fun e => decide (e.ctx = ctx ∧ e.page = page)) with
  | some e =>
    let s1 := s.setPort p ({ x with cache := fillCache x.cache e }.count 0x10 1)
    if c.mayUse e.rd e.wr then (s1, { c with walks := c.walks ++ [{ page := page, level := 0, addr := e.addr, rd := e.rd, wr := e.wr, fill := false, at' := s.tstamp }] })
    else (s1, c.walkFail page 0x3106 0 e.addr)
  | none =>
    let root := Tab.read x.ctxRoot 0 ctx
    let addr := bits root 51 12 <<< 12
    let s1 := s.setPort p ((x.count 0x18 1).count 0x08 1)
    if !bit root 0 then (s1, c.walkFail page 0x3105 4 addr)
    else if s.meetsDevice p addr 4096 then (s1, c.walkFail page 0x3104 4 addr)
    else (s1, { c with walks := c.walks ++ [{ page := page, level := 4, addr := addr, rd := true, wr := true, fill := true, at' := s.tstamp }] })

/-- The pages of a command's host buffer, which of LOAD_IMAGE is the header and the largest code (R304, R310; log entry 17). -/
def cmdPages (w : List Nat) : List Nat :=
  let a := cmdHost w
  (upTo ((a + cmdLen w - 1) / 4096 + 1 - a / 4096)).map (fun i => a / 4096 + i)

/-- The page's chunks of a buffer: offset from its start and length. -/
def hostPieces (w : List Nat) (from_ len : Nat) : List (Nat × Nat) :=
  (cutAt 4096 ((len + 4095) / 4096 + 1) (cmdHost w + from_) 0 len).map (fun e => (from_ + e.1, e.2))

/-- The bus address of a byte of the host buffer, by the walks of its command. -/
def Cmd.busAddr (c : Cmd) (off : Nat) : Nat :=
  let a := cmdHost c.words + off
  match c.walks.find? (fun k => decide (k.page = a / 4096)) with
  | some k => k.addr + a % 4096
  | none => a

/-- The engine writes bytes of a command's host buffer, but not after a reset of the port (R295, R305). -/
def State.hostPut (s : State) (p : Nat) (c : Cmd) (off : Nat) (data : List Byte) : State :=
  if c.silent then s else (hostPieces c.words off data.length).foldl (fun s e => s.hostWrite p (c.busAddr e.1) ((data.drop (e.1 - off)).take e.2)) s

/-! ### Fabric packets (R321) -/

/-- The FABRIC packet for a piece of a command's access. -/
def fabPacket (p : Nat) (part : Option Nat) (tag a len : Nat) (kind : FabricKind) (data : List Byte) : Packet :=
  { src := .ingress p, dst := if fabSpace a < 2 then .core (fabUnit a) else .field (fabUnit a), vc := 0, ctl := false, bus := false, part := part,
    tag := tag, task := 0, at' := 0, body := .fabric kind a len data false }

/-- Sends the packets for `len` bytes from fabric address `a` on; `data` is empty for a read. -/
def State.fabSend (s : State) (p : Nat) (c : Cmd) (a len : Nat) (kind : FabricKind) (data : List Byte) : State × Cmd :=
  (cutAt 2048 (len / 2048 + 2) (fabOff a) 0 len).foldl (fun (e : State × Cmd) (d : Nat × Nat) =>
    let tag := 65536 + (e.1.port p).nextTag
    let s1 := e.1.modPort p (fun x => { x with nextTag := x.nextTag + 1 })
    (s1.inject [fabPacket p c.bound tag (a + d.1) d.2 kind ((data.drop d.1).take d.2)],
     { e.2 with accs := e.2.accs ++ [{ tag := tag, addr := a + d.1, len := d.2 }] })) (s, c)

/-- Sends an XCOPY of a REMOTE_WRITE (R267, R276). -/
def State.xcopySend (s : State) (p : Nat) (c : Cmd) (off : Nat) (data : List Byte) : State × Cmd :=
  let tag := (s.port p).xTag
  let job := match c.bound with | some q => (s.part q).job | none => 0
  let pk : XPacket := { xtype := 0xA, dst := bits (c.word 3) 43 32, src := s.engineId, hops := 0, job := job, wa := cmdFab c.words + off, wb := data.length,
                        sfield := 72 + p, stag := tag, data := data }
  ((s.modPort p (fun x => { x with xTag := (x.xTag + 1) % 65536 })).xsend pk,
   { c with accs := c.accs ++ [{ tag := tag, addr := cmdFab c.words + off, len := data.length }] })

/-! ### Moving the data (R305, R310, R311) -/

/-- Writes engine control space directly, keeping the first refusal (R321). -/
def State.ectlPut (s : State) (c : Cmd) (a : Nat) (data : List Byte) : State × Cmd :=
  (upTo (data.length / 8)).foldl (fun (e : State × Cmd) i =>
    let r := e.1.engineCtlWrite (fabOff a + 8 * i) (ofBytes ((data.drop (8 * i)).take 8))
    (r.1, if r.2 = 0 then e.2 else e.2.blame (a + 8 * i) r.2)) (s, c)

/-- CODE_LEN of the image that has been read (R311). -/
def Cmd.codeLen (c : Cmd) : Nat := Memory.value c.buf 4 2

/-- Every page is translated: the data reads of all of them leave, or READ_DATA's fabric reads (R310, R322). -/
def State.issueCmd (s : State) (p : Nat) (c : Cmd) : State × Cmd :=
  if c.ended || !c.walks.all (fun k => decide (k.level = 0)) then (s, c)
  else
    let c1 := { c with issued := true, readAt := s.tstamp }
    if c.opc = 3 then
      let a := cmdFab c.words
      let e := if fabSpace a = 4 then (s.hostPut p c1 0 (s.fabBytes a (cmdLen c.words)), c1)
               else s.fabSend p c1 a (cmdLen c.words) .readData []
      (e.1, e.2.settle)
    else (s, { c1 with reads := hostPieces c.words 0 (cmdLen c.words) })

/-- The effect of a transfer command: every page of its host buffer is translated, up to the first that fails at once; with all of them translated the reads leave (R310). -/
def State.beginTransfer (s : State) (p : Nat) (y : Ring) (c : Cmd) : State × Cmd :=
  let e := (cmdPages c.words).foldl (fun (e : State × Cmd) g => if e.2.ended then e else e.1.beginPage p y.ctx g e.2) (s, c)
  e.1.issueCmd p e.2

/-- Why an image is refused, in the order of R311: 0 if it is good (R3). -/
def State.imageCause (s : State) (m : Memory) : Nat :=
  let n := Memory.value m 4 2
  if Memory.value m 0 4 ≠ s.setting 0x1018 3 then 0x3110
  else if Memory.value m 6 2 ≠ 0 ∨ Memory.value m 0xC 0x34 ≠ 0 ∨ n % 8 ≠ 0 ∨ n < 8 ∨ 0x6000 < n ∨ crc32 (Memory.bytes m 0x40 n) ≠ Memory.value m 8 4 then 0x3111
  else 0

/-- The whole image has been read: it is checked, and its code is written to every core of the rectangle (R311). -/
def State.imageRead (s : State) (p : Nat) (c : Cmd) : State × Cmd :=
  let code := Memory.bytes c.buf 0x40 c.codeLen
  if s.imageCause c.buf ≠ 0 then (s, c.endWith (s.imageCause c.buf) 0 0 false)
  else (rectCores (cmdRect c.words)).foldl (fun (e : State × Cmd) k =>
    e.1.fabSend p e.2 (istoreFab k) code.length .loadImage code) (s, { c with buf := [] })

/-- A piece of the host buffer has been read: its bytes move on by the command's kind. -/
def State.dataIn (s : State) (p : Nat) (c : Cmd) (off : Nat) (data : List Byte) : State × Cmd :=
  let a := cmdFab c.words + off
  match c.opc with
  | 2 => if fabSpace a = 4 then s.ectlPut c a data else s.fabSend p c a data.length .writeData data
  | 5 => s.fabSend p c a data.length .writeTable data
  | 12 => s.xcopySend p c off data
  | _ =>
    let c1 := { c with buf := Memory.setBytes c.buf off data }
    if c1.reads.isEmpty then s.imageRead p c1 else (s, c1)

/-- WRITE_DATA (R310). -/
def execWriteData (p r : Nat) (s : State) : Out := onRing p r s (fun s => s.startCmd p r (selOpc 2) (fun s y c => s.beginTransfer p y c))
/-- READ_DATA (R322). -/
def execReadData (p r : Nat) (s : State) : Out := onRing p r s (fun s => s.startCmd p r (selOpc 3) (fun s y c => s.beginTransfer p y c))
/-- LOAD_IMAGE (R311). -/
def execLoadImage (p r : Nat) (s : State) : Out := onRing p r s (fun s => s.startCmd p r (selOpc 4) (fun s y c => s.beginTransfer p y c))
/-- WRITE_TABLE (R59). -/
def execWriteTable (p r : Nat) (s : State) : Out := onRing p r s (fun s => s.startCmd p r (selOpc 5) (fun s y c => s.beginTransfer p y c))
/-- REMOTE_WRITE (R276). -/
def execRemoteWrite (p r : Nat) (s : State) : Out := onRing p r s (fun s => s.startCmd p r (selOpc 12) (fun s y c => s.beginTransfer p y c))

/-! ### Answers from the host (R310, R316, R317) -/

/-- A walk after its table's entry has been read: the command as it then stands, and the entry to cache. -/
def State.walkStep (s : State) (p ctx : Nat) (c : Cmd) (wi : Nat) (k : PageWalk) (entry : ReadFail ⊕ Nat) : Cmd × Option TcEntry :=
  match entry with
  | .inl _ => (c.walkFail k.page 0x3103 k.level k.addr, none)
  | .inr v =>
    let v := v % 2 ^ 64
    let next := bits v 51 12 <<< 12
    let rd := k.rd && bit v 2
    let wr := k.wr && bit v 1
    if bits v 63 52 ≠ 0 ∨ bits v 11 3 ≠ 0 then (c.walkFail k.page 0x3010 k.level k.addr, none)
    else if !bit v 0 then (c.walkFail k.page 0x3105 k.level k.addr, none)
    else if s.meetsDevice p next 4096 then (c.walkFail k.page 0x3104 (k.level - 1) next, none)
    else if k.level = 1 ∧ !c.mayUse rd wr then (c.walkFail k.page 0x3106 0 next, none)
    else
      let k1 : PageWalk := { k with level := k.level - 1, addr := next, rd := rd, wr := wr, at' := s.tstamp }
      ({ c with walks := setAt c.walks wi k1 },
       if k.level = 1 ∧ k.fill then some { ctx := ctx, page := k.page, addr := next, rd := rd, wr := wr } else none)

/-- WALK_READ_RESPONSE: the entry read for walk `wi` of command `ci` returns, or fails (R316). -/
def execWalkReadResponse (p ci wi : Nat) (entry : ReadFail ⊕ Nat) (s : State) : Out :=
  onPort p s (fun s =>
    let x := s.port p
    match x.cmds[ci]? with
    | none => s
    | some c =>
      match c.walks[wi]? with
      | none => s
      | some k =>
        if c.ended ∨ k.level = 0 ∨ !s.portUp p ∨ !s.mayEnd p k.at' entry then s
        else
          let e := s.walkStep p c.ctx c wi k entry
          let s1 := match entry with | .inr _ => s.hostRead p 8 | .inl e => s.modPort p (fun x => x.aerRecord e)
          let s2 := s1.modPort p (fun x => match e.2 with | some t => { x with cache := fillCache x.cache t } | none => x)
          let i := s2.issueCmd p e.1
          i.1.setCmd p ci i.2)

/-- HOST_DATA_READ_RESPONSE: data read `ri` of command `ci` returns, or fails with DMA_READ, after which nothing more is written (R310). -/
def execHostDataReadResponse (p ci ri : Nat) (data : ReadFail ⊕ List Byte) (s : State) : Out :=
  onPort p s (fun s =>
    match (s.port p).cmds[ci]? with
    | none => s
    | some c =>
      match c.reads[ri]? with
      | none => s
      | some (off, len) =>
        if c.ended ∨ !s.portUp p ∨ !s.mayEnd p c.readAt data then s
        else match data with
          | .inl e => (s.modPort p (fun x => x.aerRecord e)).setCmd p ci { c with cause := 0x3107, info0 := cmdHost c.words + off, halts := true, reads := [] }.settle
          | .inr d =>
            let bytes := (upTo len).map (fun i => d.getD i 0)
            let e := (s.hostRead p len).dataIn p { c with reads := dropAt c.reads ri } off bytes
            e.1.setCmd p ci e.2.settle)

/-- The data of a read's answer that is good, as offset in the packet and bytes (R322). -/
def goodRuns (a : Nat) (bad : List Nat) (data : List Byte) : List (Nat × List Byte) :=
  if bad.isEmpty then [(0, data)]
  else ((upTo (data.length / 8)).filter (fun i => !bad.contains (fabOff a / 8 + i))).map (fun i => (8 * i, (data.drop (8 * i)).take 8))

/-- FABRIC_RSP: the answer at `k` reaches its gateway; a read's good data goes to the host, and a bad word is blamed at its own address (R321,
R322, R326). -/
def execFabricRsp (k : Nat) (s : State) : Out :=
  .next (match s.arriving k with
    | some pk =>
      match pk.dst, pk.body with
      | .ingress p, .fabricRsp cause bad data =>
        let s1 := s.take k
        (match (s1.port p).cmdOf pk.tag with
         | none => s1
         | some (_, c, a) =>
           let put := if c.ended ∨ c.opc ≠ 3 then s1
             else (goodRuns a.addr bad data).foldl (fun s e => s.hostPut p c (a.addr - cmdFab c.words + e.1) e.2) s1
           let at' := match bad with | w :: _ => some (a.addr - fabOff a.addr + 8 * w) | [] => none
           put.answerCmd p pk.tag cause at')
      | _, _ => s
    | none => s)

end Sys2Proof.Machine
end

