-- ==== Sys2Proof/Machine/HostCommand.lean ====
section
/-! DEFINITION. The host commands that move no data: NOP, START_GRAPH, STOP_GRAPH, POST_EVENT, HINT_PHASE, ENERGY_MARK and INVALIDATE (R20, R90,
R308, R312, R320, R421, R446, R455). -/

namespace Sys2Proof.Machine

/-- A command that is done. -/
def Cmd.done (c : Cmd) : Cmd := { c with ended := true }
/-- The partition of a command that only a bound ring may issue. -/
def Ring.part (y : Ring) : Nat := y.bound.getD 0

/-- NOP (R308). -/
def execNop (p r : Nat) (s : State) : Out := onRing p r s (fun s => s.startCmd p r (selOpc 1) (fun s _ c => (s, c.done)))

/-- A field of a partition has its CD STARTING. -/
def State.cdStarting (s : State) (q : Nat) : Bool := (s.partFields q).any (fun f => decide ((s.field f).clk.cd = .starting))

/-- START_GRAPH makes its checks: the command ends with the first that fails, or the graph is RUNNING (R90). -/
def State.checkGraph (s : State) (q : Nat) (c : Cmd) : State × Cmd :=
  match s.graphCheck q with
  | some (cause, info) => (s, c.endWith cause info 0 false)
  | none => (s.startGraph q, c.done)

/-- START_GRAPH: it waits while a CD of its partition is STARTING (R90, R421). -/
def execStartGraph (p r : Nat) (s : State) : Out :=
  onRing p r s (fun s => s.startCmd p r (selOpc 6) (fun s y c =>
    if s.cdStarting y.part then (s, { c with wait := .cds }) else s.checkGraph y.part c))

/-- START_GRAPH_DEFERRED_CHECK: every CD the command waited for is ON (R421); its time runs from here. -/
def execStartGraphDeferredCheck (p ci : Nat) (s : State) : Out :=
  onPort p s (fun s =>
    match (s.port p).cmds[ci]? with
    | none => s
    | some c =>
      let q := c.part
      if c.wait ≠ .cds ∨ c.ended ∨ s.cdStarting q then s
      else if !(s.part q).enabled then s.setCmd p ci (c.endWith 0x3109 0 0 false)
      else
        let e := s.checkGraph q { c with wait := .none, start := s.tstamp }
        e.1.setCmd p ci e.2)

/-- STOP_GRAPH: a RUNNING graph stops; the command completes on IDLE (R20, R312). -/
def execStopGraph (p r : Nat) (s : State) : Out :=
  onRing p r s (fun s => s.startCmd p r (selOpc 7) (fun s y c =>
    if (s.part y.part).graph = .idle then (s, c.done) else (s.stopPartition y.part, { c with wait := .idle })))

/-- POST_EVENT: the event leaves for its field's Cistern; its acceptance or loss answers it (R252, R312). -/
def execPostEvent (p r : Nat) (s : State) : Out :=
  onRing p r s (fun s => s.startCmd p r (selOpc 8) (fun s y c =>
    let tag := 65536 + (s.port p).nextTag
    let w := c.word 1
    let rec_ : DWord := BitVec.ofNat 64 (bits w 47 32 <<< 32 + bits w 31 0)
    let s1 := s.modPort p (fun x => { x with nextTag := x.nextTag + 1 })
    (s1.inject [ctlPacket (.ingress p) (.field (bits w 54 48)) 3 (some y.part) 0 tag (.event rec_)],
     { c with issued := true, accs := [{ tag := tag, addr := 0, len := 0 }] })))

/-! ### HINT_PHASE (R446) -/

/-- Words of HINT_PHASE with a KIND. -/
def selHint (kind : Bool) (w : List Nat) : Bool := (decide (opcOf w = 9) && (bit (wordAt w 1) 8 == kind)) || !opcListed (opcOf w)
/-- Cores of a partition's rectangle, PARTITION_CORES (R366). -/
def State.partCores (s : State) (q : Nat) : Nat := if (s.part q).enabled then 1280 * (s.partFields q).length else 0
/-- The open hint of a class is closed. -/
def Part.closeHint (x : Part) (pc : Nat) : Part := { x with hints := x.hints.filter (fun h => !decide (h.pclass = pc)) }

/-- HINT_PHASE_BEGIN (R446). -/
def execHintPhaseBegin (p r : Nat) (s : State) : Out :=
  onRing p r s (fun s => s.startCmd p r (selHint false) (fun s y c =>
    let w := c.word 1
    let us := bits (c.word 2) 31 0
    let h : Hint := { pclass := bits w 3 0, level := bits w 23 16 * s.partCores y.part / 255, expiry := if us = 0 then 0 else s.tstamp + 100 * us }
    (if s.setting 0x2401 3 = 1 then s.modPart y.part (fun x => { x.closeHint h.pclass with hints := (x.closeHint h.pclass).hints ++ [h] }) else s, c.done)))

/-- HINT_PHASE_END (R446). -/
def execHintPhaseEnd (p r : Nat) (s : State) : Out :=
  onRing p r s (fun s => s.startCmd p r (selHint true) (fun s y c =>
    (if s.setting 0x2401 3 = 1 then s.modPart y.part (fun x => x.closeHint (bits (c.word 1) 3 0)) else s, c.done)))

/-! ### ENERGY_MARK (R455) -/

/-- Words of ENERGY_MARK with a KIND. -/
def selMark (kind : Bool) (w : List Nat) : Bool := (decide (opcOf w = 10) && (bit (wordAt w 1) 0 == kind)) || !opcListed (opcOf w)

/-- ENERGY_MARK_OPEN: every field's energy is captured at this TSTAMP, which INFO1 reports (R314, R455). -/
def execEnergyMarkOpen (p r : Nat) (s : State) : Out :=
  onRing p r s (fun s => s.startCmd p r (selMark false) (fun s y c =>
    let m : Mark := { tag := bits (c.word 1) 31 16, ts := s.tstamp, closed := false,
                      shares := (s.partFields y.part).map (fun f => ({ field := f, since := s.tstamp, base := none, till := none, last := none } : Share)) }
    (s.modPart y.part (fun x => { x with marks := x.marks ++ [m] }), { c with ended := true, info1 := s.tstamp })))

/-- A mark whose fields all leave it at a TSTAMP. -/
def Mark.closeAt (m : Mark) (ts : Nat) : Mark :=
  { m with closed := true, shares := m.shares.map (fun (h : Share) => if h.till.isNone then { h with till := some ts } else h) }

/-- ENERGY_MARK_CLOSE: every field's energy is captured at this TSTAMP; the sum follows once it has been added (R455). -/
def execEnergyMarkClose (p r : Nat) (s : State) : Out :=
  onRing p r s (fun s => s.startCmd p r (selMark true) (fun s y c =>
    let tag := bits (c.word 1) 31 16
    (s.modPart y.part (fun x => { x with marks := x.marks.map (fun (m : Mark) => if m.tag = tag then m.closeAt s.tstamp else m) }),
     { c with wait := .close })))

/-- The energy of a closed mark in µJ, rounded to nearest, once every share has both its values: units of 1/16 µJ, held in hundredths (R430, R455). -/
def Mark.energy (m : Mark) : Option Nat :=
  m.shares.foldl (fun (a : Option Nat) (h : Share) => match a, h.base, h.last with | some n, some b, some l => some (n + (l + 100 * 2 ^ 64 - b) % (100 * 2 ^ 64)) | _, _, _ => none) (some 0)
    |>.map (fun n => (2 * n + 1600) / 3200)

/-! ### INVALIDATE (R320) -/

/-- A context and page lie in the scope of an INVALIDATE. -/
def inScope (w : List Nat) (ctx page : Nat) : Bool :=
  let cx := bits (wordAt w 1) 7 4
  let first := bits (wordAt w 2) 47 12
  match bits (wordAt w 1) 1 0 with
  | 0 => true
  | 1 => decide (ctx = cx)
  | _ => decide (ctx = cx) && decide (first ≤ page) && decide (page < first + bits (wordAt w 3) 36 0)

/-- Drops cached translations, and keeps walks in progress from filling the cache (R297, R320). -/
def Port.dropPages (x : Port) (hit : Nat → Nat → Bool) : Port :=
  let each (c : Cmd) : Cmd :=
    { c with walks := c.walks.map (fun (k : PageWalk) => if hit c.ctx k.page then { k with fill := false } else k) }
  { x with cache := x.cache.filter (fun e => !hit e.ctx e.page), cmds := x.cmds.map each }

/-- A command before place `i` of its port holds, or walks for, a translation in scope and has not completed (R320). -/
def Port.holdsScope (x : Port) (i : Nat) (w : List Nat) : Bool :=
  (x.cmds.take i).any (fun c => !c.completed && c.walks.any (fun k => inScope w c.ctx k.page))

/-- Words of INVALIDATE with a SCOPE; a reserved SCOPE is refused by any of the rows. -/
def selInval (scope : Nat) (w : List Nat) : Bool :=
  (decide (opcOf w = 11) && (decide (bits (wordAt w 1) 1 0 = scope) || decide (bits (wordAt w 1) 1 0 = 3))) || !opcListed (opcOf w)

/-- INVALIDATE takes effect, and waits for the commands that hold what it dropped. -/
def State.invalidate (s : State) (p : Nat) (c : Cmd) : State × Cmd :=
  (s.modPort p (fun x => x.dropPages (inScope c.words)), { c with wait := .close })

/-- INVALIDATE_PORT (R320). -/
def execInvalidatePort (p r : Nat) (s : State) : Out := onRing p r s (fun s => s.startCmd p r (selInval 0) (fun s _ c => s.invalidate p c))
/-- INVALIDATE_CONTEXT (R320). -/
def execInvalidateContext (p r : Nat) (s : State) : Out := onRing p r s (fun s => s.startCmd p r (selInval 1) (fun s _ c => s.invalidate p c))
/-- INVALIDATE_RANGE (R320). -/
def execInvalidateRange (p r : Nat) (s : State) : Out := onRing p r s (fun s => s.startCmd p r (selInval 2) (fun s _ c => s.invalidate p c))

end Sys2Proof.Machine
end

