-- ==== Sys2Proof/Machine/Completion.lean ====
section
/-! DEFINITION. Completion of commands, records and notifications, ring and port registers, and the resets of a port (R74, R293 to R300, R306, R307,
R312 to R315, R320, R324 to R327, R394). -/

namespace Sys2Proof.Machine

/-! ### Completion (R312, R326) -/

/-- A command as it completes, once its condition of R312 is met. -/
def State.completing (s : State) (p i : Nat) (c : Cmd) : Option Cmd :=
  let x := s.port p
  let q := c.part
  if c.completed then none
  else if c.ended then some c
  else match c.wait with
    | .idle => if (s.part q).graph = .idle then some c.done else none
    | .close =>
      if c.opc = 11 then (if x.holdsScope i c.words then none else some c.done)
      else (match (s.part q).markOf (bits (c.word 1) 31 16) with
        | none => some (c.endWith 0x3113 0 0 false)
        | some m => m.energy.map (fun e => { c with ended := true, info0 := e, info1 := c.start - m.ts }))
    | _ => none

/-- COMMAND_COMPLETION: the command at place `ci` of a port completes (R312, R324); a closed mark goes. -/
def execCommandCompletion (p ci : Nat) (s : State) : Out :=
  onPort p s (fun s =>
    match (s.port p).cmds[ci]? with
    | none => s
    | some c =>
      match s.completing p ci c with
      | none => s
      | some c1 =>
        let q := c.part
        let s1 := if c.opc = 10 ∧ c.wait = .close ∧ c1.cause = 0
          then s.modPart q (fun x => { x with marks := x.marks.filter (fun m => !decide (m.tag = bits (c.word 1) 31 16)) }) else s
        s1.finishCmd p ci c1)

/-- The effective command timeout of a port, in µs (R327). -/
def State.cmdTimeoutEff (s : State) (p : Nat) : Nat := max (s.setting 0x2700 1) (6 * cplUpper (s.port p).cplRange)

/-- CMD_TIMEOUT: a command has not completed within the effective timeout: it completes with 0x3102 and halts its ring; later answers find no
command waiting (R326). STOP_GRAPH and a START_GRAPH that waits for CDs have no timeout (R326, R421). -/
def execCmdTimeout (p i : Nat) (s : State) : Out :=
  onPort p s (fun s =>
    match (s.port p).cmds[i]? with
    | none => s
    | some c =>
      if c.completed ∨ c.cause ≠ 0 ∨ (c.ended ∧ c.cause = 0) ∨ c.opc = 7 ∨ c.wait = .cds ∨ s.tstamp < c.start + 100 * s.cmdTimeoutEff p then s
      else s.finishCmd p i { c.endWith 0x3102 0 0 true with accs := [] })

/-! ### The completion queue (R306, R307, R313, R315) -/

/-- Writes a record into the next slot of a ring's queue, with its PHASE; the ring's vector becomes pending (R306). -/
def State.putRecord (s : State) (p r : Nat) (e : Record) : State :=
  let y := (s.port p).ring r
  let phase := if y.cqTail / y.cqSize % 2 = 0 then 1 else 0
  let a := bits y.cqBase 51 12 <<< 12 + 32 * (y.cqTail % y.cqSize)
  (s.hostWrite p a (toBytes 8 (phase <<< 63 + e.w0) ++ toBytes 8 e.w1 ++ toBytes 8 e.w2 ++ toBytes 8 e.w3)).modPort p (fun x =>
    { x.setRing r { y with cqTail := y.cqTail + 1 } with msixPend := if x.msixPend.contains r then x.msixPend else x.msixPend ++ [r] })

/-- The first waiting notification of a ring, and the others. -/
def takeNote (r : Nat) (l : List (Nat × Record)) : Option (Record × List (Nat × Record)) :=
  match l with
  | [] => none
  | e :: rest => if e.1 = r then some (e.2, rest) else (takeNote r rest).map (fun f => (f.1, e :: f.2))

/-- Writes a notification, completing its SQ_HEAD and GSTATE of the moment (R315). -/
def State.putNote (s : State) (p r : Nat) (e : Record) : State :=
  let h := (s.port p).sqHead r ((s.port p).ring r).head
  (s.putRecord p r { e with w0 := e.w0 + h <<< 32 }).modPort p (fun x => x.count 0x38 1)

/-- COMPLETION_RECORD_WRITE: a held record of the ring, or a waiting notification for it, takes a free slot (R306, R307). -/
def execCompletionRecordWrite (p r : Nat) (s : State) : Out :=
  onRing p r s (fun s =>
    let x := s.port p
    let y := x.ring r
    if !s.portUp p ∨ y.full then s
    else match y.recs with
      | e :: rest => (s.setPort p (x.setRing r { y with recs := rest })).putRecord p r e
      | [] =>
        match takeNote r x.notes with
        | some (e, rest) => (s.setPort p { x with notes := rest }).putNote p r e
        | none => s)

/-- Vector `v`'s message may leave: MSI-X is enabled and the vector unmasked in the MSI-X table, whose mask bits are kept inverted, being 1 at reset (R293, R394;
log entry 37). -/
def Port.unmasked (x : Port) (v : Nat) : Bool := x.msixEn && !x.msixMask && bit (Memory.value x.msixTable (16 * v + 12) 1) 0

/-- MSIX_SIGNAL: a pending vector is sent, at most once per 2 µs (R306). -/
def execMsixSignal (p v : Nat) (s : State) : Out :=
  onPort p s (fun s =>
    let x := s.port p
    let last := Tab.read x.msixLast 0 v
    if !s.portUp p ∨ !x.msixPend.contains v ∨ !x.unmasked v ∨ (last ≠ 0 ∧ s.tstamp + 1 < last + 200) then s
    else
      { s.setPort p { x with msixPend := x.msixPend.filter (fun w => !decide (w = v)), msixLast := Tab.write x.msixLast 0 v (s.tstamp + 1) } with
        hostOut := s.hostOut ++ [.msix p v] })

/-- HOST_NOTIFICATION: the notification at `k` is written, buffered while the queue is full, or dropped: with CS_ERR.NOTIFY_DROP where its ring is not bound to
the node's partition, with CQ_OVERFLOW where the buffer is full (R74, R307). -/
def execHostNotification (k : Nat) (s : State) : Out :=
  .next (match s.arriving k with
    | some pk =>
      match pk.src, pk.dst, pk.body with
      | .field f, .ingress p, .hostNote rec_ aflags layerOper ts stopping =>
        let s1 := s.take k
        let r := bits rec_.toNat 43 40
        let x := s1.port p
        let y := x.ring r
        if !s1.portUp p ∨ !y.en ∨ pk.part = none ∨ y.bound ≠ pk.part then
          s1.modCis f (fun c => c.error 3 0x3109 (taskNode pk.task))
        else
          let q := pk.part.getD 0
          let g := if stopping then 2 else (s1.part q).graph.code
          let e : Record := { w0 := 1 <<< 60 + g <<< 56 + q <<< 52 + bits rec_.toNat 39 24, w1 := pk.task.toNat, w2 := aflags <<< 32 + layerOper, w3 := ts }
          if !y.full ∧ !x.notes.any (fun n => decide (n.1 = r)) then s1.putNote p r e
          else if x.notes.length < 256 then s1.setPort p { x with notes := x.notes ++ [(r, e)] }
          else ((s1.setPort p (x.setRing r { y with overflow := true })).portFault p 0x310A r).modPort p (fun x =>
            { x with msixPend := if x.msixPend.contains 16 then x.msixPend else x.msixPend ++ [16] })
      | _, _, _ => s
    | none => s)

/-! ### Ring registers (R299, R300, R325) -/

/-- The fields of RING_CFG but EN. -/
def ringCfg (v : Nat) : Nat := v &&& 0xFF8FF0

/-- RING_ENABLE: RING_CFG is written with EN 1 (R300). While EN is 1 the write changes nothing. Log entry 64. -/
def execRingEnable (p r v : Nat) (s : State) : Out :=
  onRing p r s (fun s =>
    let x := s.port p
    let y := x.ring r
    if !s.portUp p ∨ y.en then s
    else
      let z := { y with cfg := ringCfg v }
      let big := decide (10 < bits v 23 20) || decide (10 < bits v 19 16)
      let dev := s.meetsDevice p z.base (64 * z.sqSize) || s.meetsDevice p z.cqBase (32 * z.cqSize)
      let w : Ring :=
        if big || dev then { z with enRefused := true, haltCause := if big then 0x3101 else 0x3104 }
        else { z with en := true, head := 0, tail := 0, cqTail := 0, cqHead := 0, halted := false, fetched := [], failed := none }
      s.setPort p (x.setRing r w))

/-- RING_DISABLE: RING_CFG is written with EN 0: the ring fetches no more, and what it has started completes (R300). -/
def execRingDisable (p r : Nat) (s : State) : Out :=
  onRing p r s (fun s =>
    let y := (s.port p).ring r
    if !s.portUp p ∨ !y.en then s else s.modPort p (fun x => x.setRing r { y with en := false, fetched := [] }))

/-- RING_RESUME with REDO 0: fetching goes on after the failed command (R325). -/
def execRingResume (p r : Nat) (s : State) : Out :=
  onRing p r s (fun s =>
    let y := (s.port p).ring r
    match y.halted, y.failed with
    | true, some f =>
      s.modPort p (fun x => x.setRing r { y with head := f + 1, halted := false, failed := none })
    | _, _ => s)

/-- RING_RESUME with REDO 1: fetching starts at the failed command again (R325). -/
def execRingResumeRedo (p r : Nat) (s : State) : Out :=
  onRing p r s (fun s =>
    let y := (s.port p).ring r
    match y.halted, y.failed with
    | true, some f =>
      s.modPort p (fun x => x.setRing r { y with head := f, halted := false, failed := none })
    | _, _ => s)

/-! ### Port registers (R8, R296, R297, R347) -/

/-- CTX_ROOT_WRITE: ignored while an enabled ring uses the context (R297). -/
def execCtxRootWrite (p c v : Nat) (s : State) : Out :=
  onPort p s (fun s =>
    let x := s.port p
    if !s.portUp p ∨ 16 ≤ c ∨ (upTo 16).any (fun r => (x.ring r).en && decide ((x.ring r).ctx = c)) then s
    else s.setPort p ({ x with ctxRoot := Tab.write x.ctxRoot 0 c (v &&& 0xFFFFFFFFFF001) }.dropPages (fun ctx _ => decide (ctx = c))))

/-- DEVWIN_WRITE: DEVWIN_BASE or DEVWIN_LIMIT of a window; every cached translation of the port goes (R297). -/
def execDevwinWrite (p w : Nat) (limit : Bool) (v : Nat) (s : State) : Out :=
  onPort p s (fun s =>
    let x := s.port p
    if !s.portUp p ∨ 8 ≤ w then s
    else
      let y := if limit then { x with devLimit := Tab.write x.devLimit 0 w (v &&& 0xFFFFFFFFFF000) }
               else { x with devBase := Tab.write x.devBase 0 w (v &&& 0xFFFFFFFFFF001) }
      s.setPort p (y.dropPages (fun _ _ => true)))

/-- A mailbox channel. -/
def Port.chan (x : Port) (c : Nat) : Channel := Tab.read x.chans Channel.reset c
/-- Replaces a mailbox channel. -/
def Port.setChan (x : Port) (c : Nat) (y : Channel) : Port := { x with chans := Tab.write x.chans Channel.reset c y }

/-- A ring register without behaviour of its own is written: RING_BASE, RING_CFG with EN 0, CQ_BASE, RING_STATUS (R299). -/
def Ring.write (y : Ring) (o v : Nat) : Ring :=
  match o with
  | 0x00 => if y.en then y else { y with base := bits v 51 12 <<< 12 }
  | 0x08 => if y.en ∨ bit v 31 then y else { y with cfg := ringCfg v }
  | 0x10 => if y.en then y else { y with cqBase := bits v 51 12 <<< 12 }
  | 0x18 => { y with overflow := y.overflow && !bit v 29, dbInvalid := y.dbInvalid && !bit v 28, enRefused := y.enRefused && !bit v 27 }
  | _ => y

/-- The register at a BAR0 offset is written: 8 bytes of a buffer or the MSI-X table, a ring register, or MB_STATUS; an offset without such a register
ignores it (R8, R296). -/
def Port.writeReg (x : Port) (o v : Nat) : Port :=
  if 0x10000 ≤ o ∧ o < 0x11000 then x.modRing ((o - 0x10000) / 256) (fun y => y.write (o % 256) v)
  else if 0x30000 ≤ o ∧ o < 0x30110 ∧ o % 8 = 0 then
    { x with msixTable := Memory.setValue x.msixTable (o - 0x30000) 8 (if o % 16 = 8 then v ^^^ (1 <<< 32) else v) }
  else if 0x80000 ≤ o ∧ o < 0x81000 ∧ o % 8 = 0 then
    let c := (o - 0x80000) / 0x400
    let y := x.chan c
    let i := o % 0x400
    if i < 0x110 then x.setChan c { y with req := Memory.setValue y.req i 8 v }
    else if i = 0x3F8 then x.setChan c { y with overrun := y.overrun && !bit v 8 }
    else x
  else x

/-- An offset of the mailbox block (R347). -/
def mailboxOffset (o : Nat) : Bool := decide (0x80000 ≤ o) && decide (o < 0x81000)

/-! ### Configuration space (R293, R294, R318, R394) -/

/-- A port whose link trains answers configuration requests with retry status, for no more than 100 ms (R394). -/
def State.configRetry (s : State) (p : Nat) : Bool :=
  !s.portUp p || decide (s.tstamp < (s.port p).perstAt + Config.trainTime p (s.port p).perstAt % 10000001)

/-- A doubleword of configuration space as it is read, at this model's offset from 0x100000 on; none where the port answers Configuration Request Retry Status, 0 for the
registers the spec gives no value (R293, R294, R394; log entry 38). -/
def State.configRead (s : State) (p o : Nat) : Option Nat :=
  let x := s.port p
  if s.configRetry p then none
  else some (match o with
    | 0x100000 => 0x7200 <<< 16
    | 0x100008 => 0x120000 <<< 8
    | 0x100010 => 4 + wrap 32 (x.bar.getD 0)
    | 0x100014 => x.bar.getD 0 / 2 ^ 32
    | 0x100078 => x.mps <<< 5 + x.mrrs <<< 12
    | 0x100098 => x.cplRange
    | 0x1000B0 => 16 <<< 16 + b2n x.msixMask <<< 30 + b2n x.msixEn <<< 31
    | 0x100104 => x.aer
    | _ => 0)

/-- A configuration register is written: BAR0's base, Device Control, MSI-X Message Control, or AER's Uncorrectable Error Status, W1C (R293, R294, R318; log entry 38). -/
def Port.configWrite (x : Port) (o v : Nat) : Port :=
  match o with
  | 0x100010 => { x with bar := some (v / 0x100000 * 0x100000) }
  | 0x100078 => { x with mps := if bits v 7 5 ≤ 2 then bits v 7 5 else x.mps, mrrs := if bits v 14 12 ≤ 5 then bits v 14 12 else x.mrrs }
  | 0x1000B0 => { x with msixEn := bit v 31, msixMask := bit v 30 }
  | 0x100104 => { x with aer := x.aer - (x.aer &&& v) }
  | _ => x

/-- REGISTER_WRITE: a register without behaviour of its own takes its writable fields (R8). Offsets from 0x100000 on stand for the port's configuration space (R293, R318;
log entry 38). -/
def execRegisterWrite (p o v : Nat) (s : State) : Out :=
  onPort p s (fun s =>
    if !s.portUp p ∧ !(s.mailUp p ∧ mailboxOffset o) then s
    else if 0x100000 ≤ o then (if s.configRetry p then s else s.modPort p (fun x => x.configWrite o v))
    else s.modPort p (fun x => x.writeReg o v))

/-- DEVICE_CONTROL_2_WRITE: the completion timeout range; an encoding not listed leaves it (R294, R327). -/
def execDeviceControl2Write (p v : Nat) (s : State) : Out :=
  onPort p s (fun s =>
    if !s.configRetry p ∧ [0, 1, 2, 5, 6].contains (v % 16) then s.modPort p (fun x => { x with cplRange := v % 16 }) else s)

/-! ### Reads of BAR0 (R296, R299, R347) -/

/-- PORT_INFO (R296). -/
def State.portInfo (s : State) (p : Nat) : Nat := p + (s.port p).width <<< 4 + (s.port p).rate <<< 8

/-- RING_STATUS as it is read: ACTIVE while the ring has commands in execution or records pending (R299). -/
def Port.ringStatus (x : Port) (r : Nat) : Nat :=
  let y := x.ring r
  let active := x.cmds.any (fun c => decide (c.ring = r) && !c.silent) || !y.recs.isEmpty || x.notes.any (fun e => decide (e.1 = r))
  b2n active <<< 31 + b2n y.halted <<< 30 + b2n y.overflow <<< 29 + b2n y.dbInvalid <<< 28 + b2n y.enRefused <<< 27 + y.haltCause % 65536

/-- An aligned 8-byte word of a ring's registers (R299). -/
def Port.ringRead (x : Port) (r o : Nat) : Nat :=
  let y := x.ring r
  match o with
  | 0x00 => y.base
  | 0x08 => b2n y.en <<< 31 + y.cfg
  | 0x10 => y.cqBase
  | 0x18 => pair32 (x.ringStatus r) (y.slot y.head)
  | _ => 0

/-- An aligned 8-byte word of a mailbox channel; of the doorbell 0 (R347). -/
def Port.chanRead (x : Port) (c i : Nat) : Nat :=
  let y := x.chan c
  if i < 0x110 then Memory.value y.req i 8
  else if 0x200 ≤ i ∧ i < 0x310 then Memory.value y.rsp (i - 0x200) 8
  else if i = 0x3F8 then y.state + b2n y.overrun <<< 8
  else 0

/-- An aligned 8-byte word of BAR0 as it is read; 0 at an offset that is not listed, and of a doorbell (R296). -/
def State.barRead (s : State) (p o : Nat) : Nat :=
  let x := s.port p
  if o = 0 then s.portInfo p
  else if 0x100 ≤ o ∧ o < 0x180 then Tab.read x.ctxRoot 0 ((o - 0x100) / 8)
  else if 0x200 ≤ o ∧ o < 0x280 then (if o % 16 = 0 then Tab.read x.devBase 0 ((o - 0x200) / 16) else Tab.read x.devLimit 0 ((o - 0x200) / 16))
  else if o = 0x300 then x.cache.length
  else if 0x10000 ≤ o ∧ o < 0x11000 then x.ringRead ((o - 0x10000) / 256) (o % 256)
  else if 0x30000 ≤ o ∧ o < 0x30110 then
    let v := Memory.value x.msixTable (o - 0x30000) 8
    if o % 16 = 8 then v ^^^ (1 <<< 32) else v
  else if o = 0x30800 then x.msixPend.foldl (fun a v => a ||| 1 <<< v) 0
  else if mailboxOffset o then x.chanRead ((o - 0x80000) / 0x400) (o % 0x400)
  else 0

/-! ### Resets of a port (R295, R394) -/

/-- The steps of R295: rings disabled, commands in execution left to finish their fabric accesses with no record, but a START_GRAPH that has still to check, cache emptied,
BAR0 registers and mailbox channels reset (R349; log entry 39). -/
def Port.functionReset (x : Port) : Port :=
  let quiet (c : Cmd) : Cmd := { c with silent := true, halts := false, walks := c.walks.map (fun k => { k with fill := false }) }
  { x with rings := [], cmds := (x.cmds.filter (fun c => !c.completed && !decide (c.wait = .cds))).map quiet, cache := [], ctxRoot := [], devBase := [], devLimit := [], chans := [], notes := [], msixTable := [], msixPend := [],
           msixLast := [] }

/-- The mailbox channels of a port return to IDLE: an accepted write goes on, and its answer is dropped (R349). -/
def State.dropMailbox (s : State) (p : Nat) : State :=
  s.leaveQueue (fun w => match w with | .mailbox q _ => decide (q = p) | _ => false)

/-- FUNCTION_LEVEL_RESET (R295). -/
def execFunctionLevelReset (p : Nat) (s : State) : Out :=
  onPort p s (fun s => if s.portUp p then (s.modPort p Port.functionReset).dropMailbox p else s)

/-- With the link down a command's host reads have no answer any more: one that waits for its pages goes, of the others the accesses already made go on (log entry 39). -/
def Port.linkLost (x : Port) : Port :=
  { x with cmds := (x.cmds.filter (fun c => c.issued || c.ended || !decide (c.wait = .none))).map (fun c => { c with reads := [] }.settle) }

/-- PERST_N: an honoured low resets the port, its link and its configuration space (R394). -/
def execPerstN (p : Nat) (s : State) : Out :=
  onPort p s (fun s =>
    (s.modPort p (fun x => { x.functionReset.linkLost with
      linkUp := false, perst := false, width := 0, rate := 0, cplRange := 0, bar := none, mps := 0, mrrs := 2, msixEn := false, msixMask := false, aer := 0 })).dropMailbox p)

/-- PERST_N_RISE: the port trains its link, at once or when the RD comes up, to the width and rate negotiated (R296, R394). -/
def execPerstNRise (p width rate : Nat) (s : State) : Out :=
  onPort p s (fun s => s.modPort p (fun x =>
    if x.perst then x
    else { x with perst := true, perstAt := s.tstamp, width := min width 4, rate := max 1 (min rate 5), linkUp := decide (s.rd.state = .on) }))

end Sys2Proof.Machine
end

