-- ==== Sys2Proof/Machine/Clock.lean ====
section
/-! DEFINITION. REFCLK periods: TSTAMP and the field clocks it drives (R4, R409 to R415, R427). -/

namespace Sys2Proof.Machine

/-- The half CCLK periods of field `f` in the REFCLK period from TSTAMP `now` on: 24 - n at F-state n (R7, R410). A change to a slower state has PLLOUT at the new one
from 8 µs on, one to a faster state leaves the old one at 12 µs; while PLLOUT slews the rate lies between the two and is a free value (R413). -/
def FieldClock.rate (k : FieldClock) (f now : Nat) : Nat :=
  let slew (a b : Nat) : Nat := 24 - a + Config.slewRate f now % (a - b + 1)
  match k.change with
  | none => 24 - k.fstate
  | some (b, t) =>
    if k.top < b then (if now < t + 800 then slew b k.top else 24 - b)
    else if now < t + 1200 then 24 - k.top
    else slew k.top b

/-- A field's clocks in one REFCLK period, while its compute domain is ON; a stretch removes one edge in five (R452). -/
def FieldClock.tick (k : FieldClock) (f now : Nat) : FieldClock :=
  if k.cd ≠ .on then k
  else if k.stretch.isSome then
    { k with halfCclk := k.halfCclk + (4 * k.rate f now + k.fifths) / 5, fifths := (4 * k.rate f now + k.fifths) % 5 }
  else { k with halfCclk := k.halfCclk + k.rate f now }

/-- Step 1 of a cold start ends, and step 2 begins, as the always-on PLL locks (R422). -/
def ServiceDomain.lockStep (d : ServiceDomain) : ServiceDomain :=
  match d.step, d.lockAt with
  | .at 1, some t => if t ≤ d.vtime then { d with step := .at 2, stepAt := t } else d
  | _, _ => d

/-- One REFCLK period in which TSTAMP advances by `adv` counts (R285, R415). While REFCLK is lost TSTAMP holds and no field clock runs, but VCLK does (R409, R427); with
the SD in reset nothing counts. -/
def State.tick (s : State) (adv : Nat) : State :=
  if s.sd.state ≠ .on then s
  else
    let on := s.fields.any (fun (e : Nat × Field) => decide (e.2.clk.md ≠ .off))
    let s1 := { s with sd := { s.sd with vtime := s.sd.vtime + 1, compTime := s.sd.compTime + b2n on }.lockStep }
    if s1.sd.refclkOk then
      { s1 with tstamp := s1.tstamp + adv, fields := s1.fields.map (fun (e : Nat × Field) => (e.1, { e.2 with clk := e.2.clk.tick e.1 s.tstamp })) }
    else s1

end Sys2Proof.Machine
end

