-- ==== Sys2Proof/Machine/Flash.lean ====
section
/-! DEFINITION. Service flash: the two copies of the stored objects and of the runtime repair list, their CRC-32 and the order they are written in (R41, R42, R364,
R534). -/

namespace Sys2Proof.Machine

/-- The bytes a copy of the stored objects is closed over: each object's key and value (log entry 77). -/
def objBytes (l : Tab Nat) : List Byte := l.flatMap (fun e => toBytes 4 e.1 ++ toBytes 8 e.2)
/-- A copy of stored objects with its CRC-32 (R364). -/
def ObjsCopy.of (l : Tab Nat) : ObjsCopy := { objs := l, crc := crc32 (objBytes l) }
/-- Its CRC-32 matches. -/
def ObjsCopy.good (x : ObjsCopy) : Bool := decide (crc32 (objBytes x.objs) = x.crc)

/-- The bytes a copy of the runtime list is closed over: its entries, little-endian (R6, R41). -/
def repairBytes (l : List Word) : List Byte := l.flatMap (fun w => toBytes 4 w.toNat)
/-- A copy of the runtime list with its CRC-32 (R41). -/
def RepairCopy.of (l : List Word) : RepairCopy := { words := l, crc := crc32 (repairBytes l) }
/-- Its CRC-32 matches. -/
def RepairCopy.good (x : RepairCopy) : Bool := decide (crc32 (repairBytes x.words) = x.crc)

/-- Writes the stored objects: the second copy once the first has been read back with a matching CRC (R41, R364). -/
def Flash.writeObjs (x : Flash) (l : Tab Nat) : Flash :=
  let c := ObjsCopy.of l
  let x1 := { x with objs := c }
  if x1.objs.good then { x1 with objs2 := c } else x1
/-- Writes the runtime list: the second copy once the first has been read back with a matching CRC (R41). -/
def Flash.writeRepair (x : Flash) (l : List Word) : Flash :=
  let c := RepairCopy.of l
  let x1 := { x with repair := c }
  if x1.repair.good then { x1 with repair2 := c } else x1

/-- The stored objects as last read or written. -/
def Flash.stored (x : Flash) : Tab Nat := x.objs.objs
/-- The runtime list as last read or written. -/
def Flash.list (x : Flash) : List Word := x.repair.words

/-- Reads the stored objects: with one copy failing its CRC the other is used and the failed one rewritten; with both failing there are none (R364, R422). The
second component says that both failed. -/
def Flash.readObjs (x : Flash) (r : FlashRead) : Flash × Bool :=
  let a := r.objs.getD x.objs
  let b := r.objs2.getD x.objs2
  if a.good then ({ x with objs := a, objs2 := if b.good then b else a }, false)
  else if b.good then ({ x with objs := b, objs2 := b }, false)
  else (x.writeObjs [], true)
/-- Reads the runtime list in the same way (R42). -/
def Flash.readRepair (x : Flash) (r : FlashRead) : Flash × Bool :=
  let a := r.repair.getD x.repair
  let b := r.repair2.getD x.repair2
  if a.good then ({ x with repair := a, repair2 := if b.good then b else a }, false)
  else if b.good then ({ x with repair := b, repair2 := b }, false)
  else (x.writeRepair [], true)

/-- A Wellhead's firmware image passes its check (R422). -/
def Image.good (x : Image) : Bool := decide (crc32 x.code = x.crc)

/-- A reading that finds every copy as it was last written. -/
def FlashRead.asWritten : FlashRead := { objs := none, objs2 := none, repair := none, repair2 := none }

end Sys2Proof.Machine
end

