-- ==== Sys2Proof/Machine/Sluice.lean ====
section
/-! DEFINITION. Sluice ports, cross-engine packets, timestamp synchronisation and frequency lock (R257 to R289, R401). -/

namespace Sys2Proof.Machine

/-! ### Port states (R260 to R263, R275) -/

/-- The packets a port holds: those of the flits it has sent without acknowledgement and of those that wait, each once. -/
def Sluice.held (y : Sluice) : List XPacket :=
  ((y.replay.map (fun (e : Nat × Nat × Flit) => e.2.2.owner)) ++ (y.txq.map (fun (e : Nat × Flit) => e.2.owner))).foldl
    (fun (l : List XPacket) x => if l.contains x then l else l ++ [x]) []

/-- Leaves UP: nothing is held any more, and every packet held is answered by XLOST, cause 0x3146 (R275). -/
def State.portEmpty (s : State) (p : Nat) (st : PortState) : State :=
  let held := (s.sl p).held
  let s1 := s.modSl p (fun y => { y with state := st, since := s.tstamp, replay := [], txq := [], rx := none, replays := 0, discarding := false })
  held.foldl (fun s x => s.xfail x 0x3146) s1

/-- Enters DOWN: counted, and reported once as a fault of the port (R260, R275). -/
def State.portDown (s : State) (p : Nat) : State :=
  (s.portEmpty p .down).modSl p (fun y => y.count 0x50 1) |>.portFault (16 + p) 0x3301 (s.sl p).peerEngine

/-- A frame without a flit leaves: an acknowledgement, a NAK, a TRAIN or a TIME frame (R257). -/
def State.sendBare (s : State) (p ftype ackSeq : Nat) : State :=
  let y := s.sl p
  { s.modSl p (fun y => { y.count 0 1 with owed := [0, 0, 0] }) with linkOut := s.linkOut ++ [frameOut p y.txSeq ackSeq ftype none y.owed] }

/-- Enters TRAIN, in which the port sends TRAIN frames only (R262). -/
def State.portTrain (s : State) (p : Nat) : State :=
  let s1 := if (s.sl p).state = .up then s.portEmpty p .train else s.modSl p (fun y => { y with state := .train, since := s.tstamp })
  (s1.modSl p (fun y => { y with txSeq := 0, rxSeq := 0, owed := [0, 0, 0] })).sendBare p 3 0

/-- Goes OFF; what it holds is lost as at DOWN (R262; log entry 40). -/
def State.portOff (s : State) (p : Nat) : State :=
  if (s.sl p).state = .off then s else s.portEmpty p .off

/-- PORT_CTRL of a port (R291). -/
def State.portCtrl (s : State) (p : Nat) : Nat := s.setting 0x2600 (p + 1)

/-- TRAIN_COMPLETE: `width` 0 four lanes, 1 or 2 one lane pair, 3 a failure; the peer's engine ID and port are recorded. A peer with the engine's own ID fails
training (R263). -/
def execTrainComplete (p width engine port : Nat) (s : State) : Out :=
  onSluice p s (fun s =>
    if (s.sl p).state ≠ .train then s
    else if 3 ≤ width ∨ engine % 4096 = s.engineId then s.portDown p
    else
      s.modSl p (fun y => { y with state := .up, since := s.tstamp, width := width, peerEngine := engine % 4096, peerPort := port % 16, txSeq := 0, rxSeq := 0,
                                   discarding := false, replay := [], credits := [64, 64, 256], owed := [0, 0, 0], replays := 0, rx := none }))

/-- TRAIN_TIMEOUT: training has run 100 ms (R262). -/
def execTrainTimeout (p : Nat) (s : State) : Out :=
  onSluice p s (fun s => if (s.sl p).state = .train ∧ (s.sl p).since + 10000000 ≤ s.tstamp then s.portDown p else s)

/-- AUTO_RETRAIN: a DOWN port with AUTO_RETRAIN trains again 10 ms after going DOWN (R262). -/
def execAutoRetrain (p : Nat) (s : State) : Out :=
  onSluice p s (fun s =>
    if (s.sl p).state = .down ∧ (s.sl p).since + 1000000 ≤ s.tstamp ∧ bit (s.portCtrl p) 0 ∧ bit (s.portCtrl p) 1 ∧ s.rd.state = .on then s.portTrain p else s)

/-- SLUICE_PORT_DOWN: a lane lost FEC lock for 1 µs (`fec`), or 4 µs have passed since the first replay of the oldest frame (R260). -/
def execSluicePortDown (p : Nat) (fec : Bool) (s : State) : Out :=
  onSluice p s (fun s =>
    let y := s.sl p
    if y.state = .up ∧ (fec ∨ (0 < y.replays ∧ y.firstReplay + 400 ≤ s.tstamp)) then s.portDown p else s)

/-! ### Frames (R257 to R259, R264, R284) -/

/-- Drops the frames acknowledged up to and including a sequence number; the oldest frame's replay count clears (R257, R260). -/
def Sluice.acked (y : Sluice) (seq : Nat) : Sluice :=
  if y.replay.any (fun e => decide (e.1 = seq)) then
    { y with replay := (y.replay.dropWhile (fun e => !decide (e.1 = seq))).drop 1, replays := 0 }
  else y

/-- Adds the link credit a frame returns (R264; log entry 30). -/
def Sluice.addCredit (y : Sluice) (l : List Nat) : Sluice := { y with credits := (upTo 3).map (fun i => min (y.credits.getD i 0 + l.getD i 0) ([64, 64, 256].getD i 0)) }

/-- A packet for the gateway or the switch leaves the receive buffer of the port it came by, which returns its link credit (R264; log entry 30). -/
def State.freeBuffer (s : State) (p : Nat) (x : XPacket) : State :=
  if p < 12 then s.modSl p (fun y => y.owe (xclass x.xtype) x.flits.length) else s

/-- A whole packet has been received: one of a reserved type or with a reserved header bit set is discarded and counted (R9, R267; log entry 91), any other waits for the
gateway or the switch. -/
def State.xreceived (s : State) (p : Nat) (x : XPacket) : State :=
  if x.xtype = 0 ∨ x.xtype = 9 ∨ 12 ≤ x.xtype ∨ x.resv ≠ 0 then (s.modSl p (fun y => y.count 0x40 1)).freeBuffer p x else s.xlocal p x

/-- A flit accepted in sequence: a header, between whose payload flits those of another class may come, or the payload that an XCOPY still wants (R264, R267). -/
def State.flitIn (s : State) (p : Nat) (f : Flit) : State :=
  match f, (s.sl p).rx with
  | .head x, _ => if x.xtype = 10 ∧ 0 < x.wb % 8192 then s.modSl p (fun y => { y with rx := some (x, []) }) else s.xreceived p x
  | .body _ bytes, some (x, l) =>
    let n := x.wb % 8192
    let l1 := (l ++ bytes).take n
    if n ≤ l1.length then (s.modSl p (fun y => { y with rx := none })).xreceived p { x with data := l1 }
    else s.modSl p (fun y => { y with rx := some (x, l1) })
  | .body _ _, none => s

/-- A frame is discarded for its place or its errors: the first one is answered by a NAK naming the frame expected (R258). -/
def State.frameBad (s : State) (p : Nat) : State :=
  if (s.sl p).discarding then s
  else ((s.modSl p (fun y => { y with discarding := true })).sendBare p 2 (s.sl p).rxSeq).modSl p (fun y => y.count 0x18 1)

/-- FRAME_RECEIVE: a port takes a frame whose codewords FEC decoded, whose CRC matches and whose SEQ is the one expected; of those only DATA frames advance the sequence
(R257, R258; log entry 41). NAK frames are the row below. -/
def execFrameReceive (p : Nat) (f : Frame) (s : State) : Out :=
  onSluice p s (fun s =>
    let y := s.sl p
    if y.state ≠ .up then s
    else
      let s1 := s.modSl p (fun y => (y.count 0x28 f.corr).count 0x30 (b2n !f.fecOk))
      if !f.fecOk then s1.frameBad p
      else if f.crc ≠ frameCrc f.flit f.seq f.ackSeq f.ftype f.resv then (s1.modSl p (fun y => y.count 0x20 1)).frameBad p
      else if 5 ≤ f.ftype ∨ f.resv ≠ 0 then s1.modSl p (fun y => y.count 0x38 1)
      else if f.ftype = 2 ∨ f.ftype = 3 then s1
      else if f.seq ≠ y.rxSeq then s1.frameBad p
      else
        let s2 := s1.modSl p (fun y => { (((y.acked f.ackSeq).addCredit f.credit).count 0x08 1) with discarding := false })
        let s3 := if f.ftype = 0 then
            let s3 := (s2.modSl p (fun y => { y with rxSeq := (y.rxSeq + 1) % 4096 })).sendBare p 1 f.seq
            match f.flit with | some fl => s3.flitIn p fl | none => s3
          else s2
        s3.pumpAll p)

/-- Resends every frame held, oldest first (R259); where a ninth sending of the oldest would be needed the port goes DOWN (R260). -/
def State.replayAll (s : State) (p : Nat) : State :=
  let y := s.sl p
  if y.replay.isEmpty then s
  else if 8 ≤ y.replays then s.portDown p
  else
    let n := y.replay.length
    let z := { y with replays := y.replays + 1, firstReplay := if y.replays = 0 then s.tstamp else y.firstReplay,
                      replay := y.replay.map (fun (e : Nat × Nat × Flit) => (e.1, s.tstamp, e.2.2)) }
    { s.modSl p (fun _ => (z.count 0x10 n).count 0 n) with
      linkOut := s.linkOut ++ y.replay.map (fun (e : Nat × Nat × Flit) => frameOut p e.1 y.ackSeq 0 (some e.2.2) [0, 0, 0]) }

/-- NAK: the frames before the one named have been received good; from it on all are resent (R259). -/
def execNak (p named : Nat) (s : State) : Out :=
  onSluice p s (fun s =>
    if (s.sl p).state ≠ .up then s
    else (s.modSl p (fun y => if (y.txSeq = named ∧ !y.replay.any (fun e => decide (e.1 = named))) then { y with replay := [], replays := 0 }
                              else y.acked ((named + 4095) % 4096))).replayAll p |>.pumpAll p)

/-- REPLAY_TIMEOUT: the oldest frame is 400 ns old without acknowledgement (R259). -/
def execReplayTimeout (p : Nat) (s : State) : Out :=
  onSluice p s (fun s =>
    let y := s.sl p
    match y.replay with
    | [] => s
    | e :: _ => if y.state = .up ∧ e.2.1 + 40 ≤ s.tstamp then s.replayAll p else s)

/-- LINK_DELAY_MEASURE: a TIME exchange took `trip`, in 1/64 counts; the delay is half of it (R284). -/
def execLinkDelayMeasure (p trip : Nat) (s : State) : Out :=
  onSluice p s (fun s => if (s.sl p).state = .up then (s.modSl p (fun y => { y with delay := trip / 2 })).sendBare p 4 (s.sl p).ackSeq else s)

/-! ### Cross-engine packets on arrival (R268, R273, R275, R276) -/

/-- The packet at `k` of those received, with the port it came by, if no earlier one has its source and class. -/
def State.xat (s : State) (k : Nat) : Option (Nat × XPacket) :=
  match s.rd.xin[k]? with
  | none => none
  | some e =>
    if s.rd.state = .on ∧ !(s.rd.xin.take k).any (fun f => decide (f.2.src = e.2.src ∧ xclass f.2.xtype = xclass e.2.xtype)) then some e else none

/-- Takes the packet at `k` where it is for this engine and of a type. -/
def State.xtake (s : State) (k xtype : Nat) (g : State → Nat → XPacket → State) : Out :=
  .next (match s.xat k with
    | some (p, x) => if x.dst = s.engineId ∧ x.xtype = xtype then g ((s.modRd (fun r => { r with xin := dropAt r.xin k })).freeBuffer p x) p x else s
    | none => s)

/-- Counts a packet discarded by the gateway of a port (R520). -/
def State.xdiscard (s : State) (p : Nat) : State := if p < 12 then s.modSl p (fun y => y.count 0x40 1) else s

/-- CROSS_ENGINE_TRANSIT: with `fromMesh`, the event packet at `k` of the mesh reaches its Sluice gateway and leaves as an XEVENT (R271); else the packet at `k`
of those received is for another engine, and goes on or is answered by XLOST (R268). -/
def execCrossEngineTransit (fromMesh : Bool) (k : Nat) (s : State) : Out :=
  .next (if fromMesh then
    match s.arriving k with
    | some pk =>
      match pk.src, pk.dst, pk.body with
      | .field f, .sluice p, .xevent rec_ job =>
        let x : XPacket := { xtype := 1, dst := bits rec_.toNat 61 50, src := s.engineId, hops := 0, job := job,
                             wa := rec_.toNat, wb := 0, sfield := f, stag := pk.tag, data := [] }
        if s.rd.state ≠ .on then s
        else if (s.sl p).state = .up then (s.take k).xput p x
        else (s.take k).xfail x 0x3146
      | _, _, _ => s
    | none => s
  else
    match s.xat k with
    | some (p, x) =>
      if x.dst = s.engineId then s
      else ((s.modRd (fun r => { r with xin := dropAt r.xin k })).freeBuffer p x).xsend { x with hops := x.hops + 1 }
    | none => s)

/-- XEVENT: delivered to a field of the job's RUNNING partition, or discarded with REMOTE_REFUSED in SL_ERR (R273). -/
def execXevent (k : Nat) (s : State) : Out :=
  s.xtake k 1 (fun s p x =>
    let f := bits x.wa 46 40
    match s.jobPart x.job with
    | some q =>
      if (s.part q).graph = .running ∧ f < nFields ∧ rectHas (s.part q).rect f then
        (s.progress f).inject [ctlPacket (.sluice p) (.field f) 3 (some q) 0 0 (.event (BitVec.ofNat 64 x.wa))]
      else (s.slError 0 0x3302 x.src).xdiscard p
    | none => (s.slError 0 0x3302 x.src).xdiscard p)

/-- A cross-engine arrival received for a job's partition is a progress event, counted in the group's well field, or in the partition's first field where it has none here
(R116; log entry 84). -/
def State.groupProgress (s : State) (job g : Nat) : State :=
  match s.jobPart job with
  | some q => s.progress ((s.wellFieldOfPart q g).getD (s.part q).home)
  | none => s

/-- XARRIVE: the root checks, counts, and at EEXPECT releases every engine that arrived (R280, R283). -/
def execXarrive (k : Nat) (s : State) : Out :=
  s.xtake k 2 (fun s p x =>
    let g := x.wa % 256
    let cw := s.cwDesc g
    if !bit cw 31 ∨ bits cw 27 16 ≠ s.engineId ∨ (s.jobPart x.job).isNone then
      (s.slError 1 0x3303 x.src).xsend (groupPacket s 4 x.src x.job g g 0x3303 0)
    else
      let gone := Tab.read s.rd.arrived [] g
      if gone.contains x.src then (s.slError 2 0 x.src).xdiscard p
      else
        let n := Tab.read s.rd.ecount 0 g + 1
        let s0 := if x.src = s.engineId then s else s.groupProgress x.job g
        if n = bits cw 12 0 then
          let s1 := s0.modRd (fun r => { r with ecount := Tab.erase r.ecount g, arrived := Tab.erase r.arrived g, ejob := Tab.erase r.ejob g })
          (gone ++ [x.src]).foldl (fun s e => s.xsend (groupPacket s 3 e x.job g g 0 0)) s1
        else s0.modRd (fun r =>
          { r with ecount := Tab.write r.ecount 0 g n, arrived := Tab.write r.arrived [] g (gone ++ [x.src]), ejob := Tab.write r.ejob 0 g x.job }))

/-- XRELEASE: a RUNNING partition's well field releases, another ignores it; a broken release breaks the group (R280, R282). -/
def execXrelease (k : Nat) (s : State) : Out :=
  s.xtake k 3 (fun s _ x =>
    let g := x.wa % 256
    match s.jobPart x.job with
    | none => s
    | some q =>
      if bit x.wa 8 then s.breakLocal q g (x.wb % 65536)
      else match s.wellFieldOfPart q g with
        | some wf => if (s.part q).graph = .running ∧ !(s.well wf g).broken then s.wellRelease wf g else s
        | none => s)

/-- XBREAK: the group breaks here, and the root passes the break on (R282). -/
def execXbreak (k : Nat) (s : State) : Out :=
  s.xtake k 4 (fun s _ x =>
    let g := x.wa % 256
    let cause := x.wb % 65536
    let s1 := match s.jobPart x.job with | some q => s.breakLocal q g cause | none => s
    if bit (s.cwDesc g) 31 ∧ bits (s.cwDesc g) 27 16 = s.engineId then s1.rootBroken x.job g cause else s1)

/-- The partition of a field, if it has one, stops. -/
def State.stopOf (s : State) (f : Nat) : State :=
  match s.partOf f with | some q => s.stopPartition q | none => s

/-- The XEVENT of a field was lost: the task whose POST it was fails while it runs, else CS_ERR takes the loss and the partition stops; the fault is counted
where the XLOST was raised (R275; log entry 42). -/
def State.xeventLost (s : State) (f tag cause : Nat) : State :=
  let c := (s.field f).cis
  match c.xtags.find? (fun e => decide (e.tag = tag)) with
  | some e =>
    let s1 := s.modCis f (fun c => { c with xtags := c.xtags.filter (fun e => !decide (e.tag = tag)) })
    let gone := (s1.modCis f (fun c => c.error 1 cause e.node)).stopOf f
    match e.post with
    | some (task, li) =>
      let k := s1.core (coreId f li)
      if k.runsTask task ∧ !k.lost then s1.setCore (coreId f li) (k.refuse cause) else gone
    | none => gone
  | none => s

/-- XLOST: the source acts by the type of the packet lost (R275). -/
def execXlost (k : Nat) (s : State) : Out :=
  s.xtake k 5 (fun s _ x =>
    let cause := x.wb % 65536
    match bits x.wa 63 60 with
    | 1 => if x.sfield < nFields then s.xeventLost x.sfield x.stag cause else s
    | 2 => (match s.jobPart x.job with | some q => s.breakOwn q (x.stag % 256) cause | none => s)
    | 3 => (match s.jobPart x.job with | some q => s.breakOwn q (x.stag % 256) cause | none => s)
    | 10 => if 72 ≤ x.sfield ∧ x.sfield < 76 then s.answerCmd (x.sfield - 72) x.stag cause none else s
    | _ => s.modRd (fun r => { r with xlosses := r.xlosses + 1 }))

/-- XCOPY: checked as an access of the job's partition to core SRAM, written and answered XACK, or answered XLOST (R276). While the target field's CD starts
it waits (R52). -/
def execXcopy (k : Nat) (s : State) : Out :=
  match s.xat k with
  | none => .next s
  | some (_, x) =>
    let a := bits x.wa 47 0
    let cause := match s.jobPart x.job with
      | none => 0x3302
      | some q => s.fabCheck (some q) a x.data.length (decide (fabSpace a = 0))
    if cause = 0 ∧ s.fabDomain a ≠ .on then .next s
    else s.xtake k 10 (fun s _ x =>
      if cause ≠ 0 then s.xsendLast (xlostFor s.engineId x cause)
      else (s.fabStore a x.data).xsend { xtype := 11, dst := x.src, src := s.engineId, hops := 0, job := x.job, wa := 0, wb := 0, sfield := x.sfield, stag := x.stag, data := [] })

/-- XACK: one XCOPY of a REMOTE_WRITE is answered (R276, R312). -/
def execXack (k : Nat) (s : State) : Out :=
  s.xtake k 11 (fun s _ x => if 72 ≤ x.sfield ∧ x.sfield < 76 then s.answerCmd (x.sfield - 72) x.stag 0 none else s)

/-! ### Timestamp synchronisation (R284 to R286, R401) -/

/-- No graph is RUNNING or STOPPING. -/
def State.allIdle (s : State) : Bool := (upTo 16).all (fun p => decide ((s.part p).graph = .idle))
/-- The port toward the time master. -/
def State.parentPort (s : State) : Option Nat :=
  let tm := s.rd.master
  if tm = 0xFFFF ∨ tm = s.engineId then none else s.routeOf tm

/-- TS_SYNC_SEND: a MASTER or LOCKED engine sends TS_SYNC on every UP port every 10 µs (R284). -/
def execTsSyncSend (s : State) : Out :=
  .next (if s.rd.state = .on ∧ (s.rd.sync = .master ∨ s.rd.sync = .locked) ∧ (s.rd.sentSync = 0 ∨ s.rd.sentSync + 1000 ≤ s.tstamp) then
    ((upTo 12).filter (fun p => decide ((s.sl p).state = .up))).foldl (fun s p =>
      s.xput p { xtype := 8, dst := (s.sl p).peerEngine, src := s.engineId, hops := 0, job := 0, wa := s.tstamp, wb := s.rd.dist % 64, sfield := 0, stag := 0, data := [] })
      (s.modRd (fun r => { r with sentSync := s.tstamp }))
  else s)

/-- TSTAMP steps by the whole counts of the offset (R285). -/
def State.tsStep (s : State) : State :=
  let d : Int := s.rd.offset / 64
  { s with tstamp := ((s.tstamp : Int) + d).toNat, rd := { s.rd with offset := s.rd.offset - d * 64, lastSample := s.rd.lastSample - d * 64 } }

/-- TS_SYNC: a sample from the parent's port gives the sync distance and offset; four that agree within 1 count make the engine LOCKED, stepping TSTAMP if no
graph is RUNNING or STOPPING (R284 to R286; log entry 43). -/
def execTsSync (k : Nat) (s : State) : Out :=
  s.xtake k 8 (fun s p x =>
    if some p ≠ s.parentPort then s
    else
      let sample : Int := (x.wa : Int) * 64 + (s.sl p).delay - (s.tstamp : Int) * 64
      let near := decide ((sample - s.rd.lastSample).natAbs ≤ 64)
      let n := if s.rd.agree ≠ 0 ∧ near then s.rd.agree + 1 else 1
      let was := s.rd.sync
      let now : SyncState := if 4 ≤ n then .locked else .acquire
      let s1 := (s.modRd (fun r =>
        { r.enter now with dist := (x.wb % 64 + 1) % 64, offset := sample, lastSample := sample, agree := min n 4, lastSync := s.tstamp })).addRdCtr 0xA200 1
      if was ≠ .locked ∧ now = .locked ∧ s.allIdle then s1.tsStep else s1)

/-- TSTAMP_SLEW: one REFCLK period of each 1,000 advances TSTAMP by 2 or by 0 (R285). -/
def execTstampSlew (s : State) : Out :=
  .next (if s.rd.state = .on ∧ (s.rd.sync = .locked ∨ s.rd.sync = .master) ∧ 64 ≤ s.rd.offset.natAbs ∧ s.rd.lastSlew + 1000 ≤ s.tstamp ∧
      s.sd.refclkOk ∧ s.sd.state = .on then
    let up := decide (0 < s.rd.offset)
    let s1 := s.tick (if up then 2 else 0)
    s1.modRd (fun r => { r with offset := if up then r.offset - 64 else r.offset + 64, lastSample := if up then r.lastSample - 64 else r.lastSample + 64,
                                lastSlew := s1.tstamp })
  else s)

/-- HOLDOVER_TIMEOUT: LOCKED, and no TS_SYNC from the parent for 100 µs (R286). -/
def execHoldoverTimeout (s : State) : Out :=
  .next (if s.rd.state = .on ∧ s.rd.sync = .locked ∧ s.rd.lastSync + 10000 ≤ s.tstamp then
    ((s.modRd (fun r => { r.enter .holdover with agree := 0 })).addRdCtr 0xA208 1).report 72 (plainFault 0x3304 0 0 0)
  else s)

/-- CSYNC_IN_EDGE: four rising edges 10,000 ± 1 periods apart make epoch marks, toward which a master corrects TSTAMP (R401; log entry 43). -/
def execCsyncInEdge (s : State) : Out :=
  .next (if s.rd.state = .on ∧ s.rd.sync = .master then
    let gap := s.sd.vtime - s.rd.lastEdge
    let ok := decide (s.rd.edges = 0) || (decide (9999 ≤ gap) && decide (gap ≤ 10001))
    let n := if ok then min (s.rd.edges + 1) 5 else 0
    let r := s.tstamp % 10000
    let d : Int := if r < 5000 then -(r : Int) else 10000 - (r : Int)
    let s1 := s.modRd (fun x => { x with edges := n, lastEdge := s.sd.vtime, offset := if 4 ≤ n then d * 64 else x.offset })
    if n = 4 ∧ s.allIdle then s1.tsStep else s1
  else s)

/-- CSYNC_OUT_PULSE: CSYNC_OUT goes high for 10 periods at a multiple of 10,000; `csyncOut` is the moment of `vtime` at which it falls (R401). -/
def execCsyncOutPulse (s : State) : Out :=
  .next (if s.rd.state = .on ∧ (s.rd.sync = .master ∨ s.rd.sync = .locked) ∧ s.tstamp % 10000 = 0 then s.modRd (fun r => { r with csyncOut := s.sd.vtime + 10 }) else s)

/-! ### Frequency lock (R287 to R289) -/

/-- FL_DESC of a partition. -/
def State.flDesc (s : State) (p : Nat) : Nat := Tab.read s.rd.fl 0 p
/-- A partition's F-state is locked to its job. -/
def State.locked (s : State) (p : Nat) : Bool := bit (s.flDesc p) 31 && decide ((s.part p).job ≠ 0) && (s.part p).enabled
/-- LEADER of a partition's lock. -/
def State.leader (s : State) (p : Nat) : Nat := bits (s.flDesc p) 27 16
/-- A forced state of thermal limits applies (R463). -/
def State.forced (s : State) : Bool := decide (s.therm.state = 2)

/-- FL_PROPOSE: at each epoch a member proposes the F-state its controller wants, F15 while forced (R288). -/
def execFlPropose (p : Nat) (s : State) : Out :=
  onPart p s (fun s =>
    let l := s.lock p
    let e := s.tstamp / 10000 * 10000
    if s.rd.state = .on ∧ s.locked p ∧ (l.proposedAt < e ∨ (e = 0 ∧ l.proposedAt = 0)) then
      let f := if s.forced then 15 else s.partFstate p
      (s.setLock p { l with proposedAt := s.tstamp }).xsend
        { xtype := 6, dst := s.leader p, src := s.engineId, hops := 0, job := (s.part p).job, wa := f, wb := e, sfield := 0, stag := 0, data := [] }
    else s)

/-- FL_PROPOSE_RECEIVE: the leader keeps each member's latest proposal (R288). -/
def execFlProposeReceive (k : Nat) (s : State) : Out :=
  s.xtake k 6 (fun s _ x =>
    match s.jobPart x.job with
    | some p =>
      if s.locked p ∧ s.leader p = s.engineId then
        let l := s.lock p
        s.setLock p { l with proposals := l.proposals.filter (fun e => !decide (e.1 = x.src)) ++ [(x.src, x.wa % 16)],
                             heard := if l.heard.contains x.src then l.heard else l.heard ++ [x.src] }
      else s
    | none => s)

/-- FL_DECIDE: 20 µs into an epoch the leader commands the slowest state proposed, F15 until it has heard from MEMBERS engines (R288). -/
def execFlDecide (p : Nat) (s : State) : Out :=
  onPart p s (fun s =>
    let l := s.lock p
    let e := s.tstamp / 10000 * 10000
    let due := e + 2000
    if s.rd.state = .on ∧ s.locked p ∧ s.leader p = s.engineId ∧ due ≤ s.tstamp ∧ l.decidedAt < due then
      let members := bits (s.flDesc p) 12 0
      let f := if l.proposals.length < members then 15 else l.proposals.foldl (fun a x => max a x.2) 0
      let s1 := s.setLock p { l with decidedAt := s.tstamp, heard := [], missing := l.missing + (members - l.heard.length) }
      l.proposals.foldl (fun s x => s.xsend
        { xtype := 7, dst := x.1, src := s.engineId, hops := 0, job := (s.part p).job, wa := f, wb := e + 5000, sfield := 0, stag := 0, data := [] }) s1
    else s)

/-- A field is asked for an F-state with start TSTAMP `t`, beside the changes already issued to it (R412, R414). -/
def FieldClock.ask (k : FieldClock) (f t : Nat) : FieldClock :=
  if k.change.isNone ∧ k.nextCmds.isEmpty ∧ k.fstate = f then k else { k with nextCmds := k.nextCmds ++ [(f, t)] }

/-- Schedules a change to an F-state from TSTAMP `t` on in every field of a partition whose CD is ON (R411, R412). -/
def State.schedule (s : State) (p f t : Nat) : State :=
  (s.partFields p).foldl (fun s i => s.modField i (fun x => if x.clk.cd = .on then { x with clk := x.clk.ask f t } else x)) s

/-- FL_COMMAND: a member schedules the change to the commanded state for T, at once where T has passed; a forced state stays (R288, R289). -/
def execFlCommand (k : Nat) (s : State) : Out :=
  s.xtake k 7 (fun s _ x =>
    match s.jobPart x.job with
    | some p =>
      if s.locked p ∧ s.leader p = x.src then
        let l := s.lock p
        let late := decide (x.wb < s.tstamp)
        let s1 := s.setLock p { l with lastCmd := s.tstamp, lost := false, late := l.late + b2n late }
        if s.forced then s1 else s1.schedule p (x.wa % 16) (if late then s.tstamp else x.wb)
      else s
    | none => s)

/-- FLOCK_LOST: a member with no FL_COMMAND for 1 ms is lock-lost (R289). -/
def execFlockLost (p : Nat) (s : State) : Out :=
  onPart p s (fun s =>
    let l := s.lock p
    if s.rd.state = .on ∧ s.locked p ∧ !l.lost ∧ l.lastCmd + 100000 ≤ s.tstamp then
      (s.setLock p { l with lost := true, losts := l.losts + 1 }).report 72 (plainFault 0x3305 1 p 0)
    else s)

end Sys2Proof.Machine
end

