-- ==== Sys2Proof/Machine/Domains.lean ====
section
/-! DEFINITION. Power domains and partitions: switching CDs and MDs, F-state changes, what a warm reset does, and the life of a partition
(R37 to R44, R54 to R57, R366, R402, R403, R411 to R421, R457). -/

namespace Sys2Proof.Machine

/-! ### F-states (R411 to R414) -/

/-- Changes the clocks of a field. -/
def State.modClk (s : State) (f : Nat) (g : FieldClock → FieldClock) : State := s.modField f (fun x => { x with clk := g x.clk })

/-- The F-state a field stands at once what has been issued to it is carried out. -/
def FieldClock.heading (k : FieldClock) : Nat :=
  match k.nextCmds.getLast?, k.heldReq, k.change with
  | some (f, _), _, _ => f
  | none, some (f, _), _ => f
  | none, none, some (f, _) => f
  | none, none, none => k.fstate

/-- An F-state may be issued to a partition by its own controller: not while a forced state applies, nor to a locked member, which in lock-lost may move only to
slower states (R289, R463). -/
def State.mayIssue (s : State) (p n now : Nat) : Bool :=
  !s.forced && (!s.locked p || ((s.lock p).lost && decide (now < n)))

/-- Fields whose CD is ON take an F-state of their partition from TSTAMP `t` on (R411, R412). -/
def State.issuePart (s : State) (p n t : Nat) : State :=
  (s.partFields p).foldl (fun s f =>
    if (s.field f).clk.cd = .on ∧ s.mayIssue p n (s.field f).clk.fstate then s.modClk f (fun k => k.ask n t) else s) s
/-- The partition's F-state is issued 1 µs from now (R376, R412). -/
def State.askPart (s : State) (p : Nat) : State := s.issuePart p (s.partFstate p) (s.tstamp + 100)

/-- The F-state a field whose CD has come ON is asked for: its partition's, or under a lock the one the partition's other fields stand at or move to, F15 where there
is none (R289, R411). -/
def State.joinFstate (s : State) (q f : Nat) : Nat :=
  if s.locked q then
    match (s.partFields q).find? (fun g => decide (g ≠ f) && decide ((s.field g).clk.cd = .on)) with
    | some g => (s.field g).clk.heading
    | none => 15
  else s.partFstate q

/-- A request whose start TSTAMP has come begins a change, or is held while one runs (R412, R414). -/
def FieldClock.start (k : FieldClock) (r : Nat × Nat) : FieldClock :=
  if k.change.isSome then { k with heldReq := some r }
  else if k.fstate = r.1 then k
  else { k with change := some r, top := k.fstate }
/-- Every request that is due, in order of issue; a field whose CD is not ON moves to F15 only (R411). -/
def FieldClock.begin (k : FieldClock) (now : Nat) : FieldClock :=
  let due := k.nextCmds.filter (fun r => decide (r.2 ≤ now))
  (due.filter (fun r => decide (k.cd = .on) || decide (r.1 = 15))).foldl FieldClock.start { k with nextCmds := k.nextCmds.filter (fun r => decide (now < r.2)) }

/-- The start of a field's 100 ms without a quiet window once a deferral ends: they run again where they had run out (R435, R518). -/
def FieldClock.deferQuiet (k : FieldClock) (now : Nat) : Nat := if k.lastQuiet + 10000000 ≤ now then now else k.lastQuiet

/-- A change that began 20 µs ago completes; the latest held request begins at the next count, unless it is the state just reached (R413, R414). -/
def FieldClock.finish (k : FieldClock) (now : Nat) : FieldClock :=
  match k.change with
  | some (f, t) =>
    if now < t + 2000 then k
    else
      let next := match k.heldReq with
        | some (g, _) => if g = f then none else some (g, now + 1)
        | none => none
      { k with fstate := f, change := next, top := f, heldReq := none, lastQuiet := k.deferQuiet now }
  | none => k

/-- A change is due to complete. -/
def FieldClock.due (k : FieldClock) (now : Nat) : Bool :=
  match k.change with
  | some (_, t) => decide (t + 2000 ≤ now)
  | none => false

/-- The fastest F-state a field's clocks may stand at (R413). -/
def FieldClock.fastest (k : FieldClock) (now : Nat) : Nat :=
  match k.change with
  | none => k.fstate
  | some (b, t) => if k.top < b then (if now < t + 800 then k.top else b) else if now < t + 1200 then k.top else b

/-- A forced state: the change in progress is abandoned and one to F15 begins at once, from the clocks of the moment (R414, R463). -/
def FieldClock.force (k : FieldClock) (now : Nat) : FieldClock :=
  { k with nextCmds := [], heldReq := none, top := k.fastest now, change := if k.fstate = 15 ∧ k.change.isNone then none else some (15, now) }

/-- FSTATE_CHANGE_BEGIN: every field with a request whose start TSTAMP has come begins its change, or holds the request (R412, R414). -/
def execFstateChangeBegin (s : State) : Out :=
  .next { s with fields := s.fields.map (fun (e : Nat × Field) => (e.1, { e.2 with clk := if e.2.clk.md = .on then e.2.clk.begin s.tstamp else e.2.clk })) }

/-- FSTATE_CHANGE_COMPLETE: every change that began 20 µs ago completes, each counted in FSTATE_CHANGES (R413). -/
def execFstateChangeComplete (s : State) : Out :=
  let n := (s.fields.filter (fun (e : Nat × Field) => e.2.clk.due s.tstamp)).length
  let s1 := { s with fields := s.fields.map (fun (e : Nat × Field) => (e.1, { e.2 with clk := e.2.clk.finish s.tstamp })) }
  .next (if n = 0 then s else s1.addTotal 0x230401 n)

/-! ### Switching domains (R416 to R420) -/

/-- The earliest moment from `now` on at which one more supply ramp keeps to nine in any 0.5 ms (R417). -/
def rampAt (l : List Nat) (now : Nat) : Nat :=
  let fits (t : Nat) : Bool := decide ((l.filter (fun x => decide (t < x + 50000) && decide (x < t + 50000))).length < 9)
  let cand := now :: (l.map (fun x => x + 50000)).filter (fun t => decide (now ≤ t))
  let ok := cand.filter fits
  ok.foldl min (cand.foldl max now)

/-- Ramps that still count against the pace of R417 at a TSTAMP. -/
def recentRamps (l : List Nat) (now : Nat) : List Nat := l.filter (fun t => decide (now < t + 50000))

/-- The CD ramp of a field, where it has not begun, is taken from the plan (R417). -/
def State.unplanCd (s : State) (f : Nat) : State :=
  match (s.field f).clk.cdAt with
  | some t => if s.tstamp < t then { s with sd := { s.sd with cdRamps := s.sd.cdRamps.erase t } } else s
  | none => s

/-- A packet on its way to a core of a field, but for a host's fabric access (R52): it is discarded without a report when the field's CD goes OFF (R235). -/
def Packet.dropsWith (p : Packet) (f : Nat) : Bool :=
  match p.dst, p.body with
  | .core _, .fabric .. => false
  | .core c, _ => decide (fieldOf c = f)
  | _, _ => false

/-- A CD is switched OFF: its cores and memories are lost, the field is left to F15 (R411, R416, R419), and packets on their way to its cores are discarded (R235).
Firmware's mark for a lost core's repair stays. -/
def State.cdOff (s : State) (f : Nat) : State :=
  let off (e : Nat × Core) : Option (Nat × Core) :=
    if fieldOf e.1 ≠ f then some e
    else if e.2.autoAdd.isSome then some (e.1, { Core.reset with lost := e.2.lost, autoAdd := e.2.autoAdd }) else none
  if (s.field f).clk.cd = .off then s
  else
    let s1 := { s.unplanCd f with cores := s.cores.filterMap off, net := s.net.filter (fun p => !p.dropsWith f) }
    s1.modField f (fun x =>
      { x with cis := { x.cis with slots := [] }, ueTab := x.ueTab.filter (fun e => decide (e.1 = UeSpace.cistern)),
               clk := { (if x.clk.md = .on then { x.clk with heldReq := none, nextCmds := [] }.ask 15 (s.tstamp + 100) else x.clk) with
                          cd := .off, cdAt := none, halfCclk := 0, stretch := none, severe := false } })

/-- A CD start begins once pacing allows, while its MD is ON (R417, R420). -/
def State.cdStart (s : State) (f : Nat) : State :=
  let k := (s.field f).clk
  if k.md = .on ∧ k.cd = .off then
    let l := recentRamps s.sd.cdRamps s.tstamp
    let t := rampAt l s.tstamp
    { s with sd := { s.sd with cdRamps := l ++ [t] } }.modClk f (fun k => { k with cd := .starting, cdAt := some t })
  else s

/-- The MD of a field begins its start at a TSTAMP; its CD is off (R417). -/
def State.mdStart (s : State) (f t tries : Nat) : State :=
  { s with sd := { s.sd with mdRamps := recentRamps s.sd.mdRamps s.tstamp ++ [t] } }.modClk f (fun k => { k with md := .starting, startAt := t, mdTries := tries })

/-- A stop that keeps every CD and MD from starting: a trip, a coolant stop, a regulator fault, a pressed or stuck button, a lost REFCLK or
an RD that is not ON (R404, R408, R417, R427, R434, R466, R469). -/
def State.startBlocked (s : State) : Bool :=
  s.sd.tripLatched || s.sd.flowStop || s.sd.vrStop || decide (s.sd.button.state = 1) || decide (s.sd.button.state = 2) || !s.sd.refclkOk ||
    !decide (s.rd.state = .on)

/-- Every MD begins its start, a row of nine fields every 0.5 ms, FY 0 first, after the MD ramps of the last 0.5 ms; nothing starts while something blocks it (R417,
R422, R426). -/
def State.startFields (s : State) : State :=
  if s.startBlocked then s
  else
    let t0 := (recentRamps s.sd.mdRamps s.tstamp).foldl (fun m t => max m (t + 50000)) s.tstamp
    (upTo nFields).foldl (fun s f => s.mdStart f (t0 + f / 9 * 50000) 0) s

/-! ### What a warm reset does to graphs and commands (R403) -/

/-- A command in execution with a fabric access outstanding completes with 0x5262, its ring not halted; REMOTE_WRITE's packets cross no field's reset (R403). -/
def Cmd.warmReset (c : Cmd) : Cmd :=
  match c.accs with
  | [] => c
  | a :: l =>
    if c.ended ∨ c.opc = 12 then c
    else { c.endWith 0x5262 (if c.opc = 8 then 0 else l.foldl (fun m (b : FabAcc) => min m b.addr) a.addr) 0 false with accs := [] }

/-- The clocks of a field whose MD leaves ON: every F-state change is abandoned, the CD is off already (R411, R414, R417). -/
def FieldClock.mdReset (k : FieldClock) (st : DomState) : FieldClock :=
  { k with md := st, cd := .off, cdAt := none, startAt := 0, mdTries := 0, change := none, top := 15, nextCmds := [], heldReq := none, fstate := 15 }

/-- What an MD holds is lost: its Cistern and units, counters and buffers, and the DOWN links and retries of its routers (R60, R251, R416, R520). -/
def Field.mdLost (x : Field) : Field :=
  { x with cis := Cistern.reset, syn := SyncUnit.reset, obs := FieldObs.reset, ueTab := [], downLinks := [], retries := [], linkAt := [] }

/-- The field's MD leaves ON: in RESET its contents are held until the next start, OFF they are lost (R416). -/
def Field.mdReset (x : Field) (st : DomState) : Field :=
  let y := if st = .off then x.mdLost else x
  { y with clk := y.clk.mdReset st }

/-- A warm reset takes effect: graphs IDLE, tasks ended without report, packets on the mesh lost, commands ended, every CD OFF and every MD in
RESET (or OFF) with every F-state change abandoned (R403, R414). -/
def State.warmReset (s : State) (st : DomState) : State :=
  let s1 := (upTo 16).foldl State.idlePart s
  let s2 := (upTo nFields).foldl State.cdOff s1
  let sd := { s2.sd with cdRamps := s2.sd.cdRamps.filter (fun t => decide (t ≤ s.tstamp)), mdRamps := s2.sd.mdRamps.filter (fun t => decide (t ≤ s.tstamp)) }
  let s3 := (upTo nFields).foldl (fun s f => s.modField f (fun x => x.mdReset st)) { s2 with net := [], sd := sd }
  (upTo 4).foldl (fun s p => s.modPort p (fun x => { x with cmds := x.cmds.map Cmd.warmReset })) s3

/-! ### Steps of a cold start (R422) -/

/-- Changes the service domain's hardware. -/
def State.modSd (s : State) (g : ServiceDomain → ServiceDomain) : State := { s with sd := g s.sd }

/-- A start step begins now. -/
def State.toStep (s : State) (k : Nat) : State := s.modSd (fun d => { d with step := .at k, stepAt := s.sd.vtime })

/-- A cold start goes on: step 9 once every MD is ON, complete once no CD start runs (R422). -/
def State.startCheck (s : State) : State :=
  let mds := (upTo nFields).all (fun f => decide ((s.field f).clk.md = .on))
  let cds := (upTo nFields).all (fun f => !decide ((s.field f).clk.cd = .starting))
  let s1 := if s.sd.step = .at 8 ∧ mds then s.toStep 9 else s
  if s1.sd.step = .at 9 ∧ mds ∧ cds then s1.modSd (fun d => { d with step := .complete, coldCds := false }) else s1

/-! ### Partitions (R54 to R57, R301, R366) -/

/-- The commands in execution of rings bound to a partition complete with 0x3109 (R301, R421). -/
def State.unbindCmds (s : State) (q : Nat) : State :=
  (upTo 4).foldl (fun s p => s.modPort p (fun x =>
    { x with cmds := x.cmds.map (fun (c : Cmd) => if c.bound = some q ∧ !c.ended then { c.endWith 0x3109 0 0 false with accs := [] } else c) })) s

/-- The per-partition settings kept by firmware return to their defaults (R366). -/
def State.clearPartDict (s : State) (q : Nat) : State :=
  [0x2302, 0x2303, 0x2580, 0x2581, 0x2902, 0x2903, 0x2A00].foldl (fun s i => s.clearDict i (q + 1)) s

/-- What the controller has learned and set for a partition is forgotten (R442, R445). -/
def State.forgetPower (s : State) (q : Nat) : State :=
  { s with fw := { s.fw with learned := s.fw.learned.filter (fun e => !decide (e.1 / 16 = q)), wanted := Tab.erase s.fw.wanted q },
           power := { s.power with budget := Tab.erase s.power.budget q } }

/-- A partition ceases to exist: EN is cleared, graph IDLE, its commands end, its tenant's writes in flight are to be refused, its marks and hints are discarded, its trace destination is disabled,
and the CDs of its fields are switched OFF (R57, R366, R419, R446, R457). -/
def State.disablePart (s : State) (q : Nat) : State :=
  let fields := s.partFields q
  let rect := BitVec.ofNat 32 ((s.part q).rect.toNat % 2 ^ 31)
  let s1 := ((s.idlePart q).unbindCmds q).voidTenant q
  let s2 := if (s1.traceDest q).en then s1.traceDisable q else s1
  let s3 := ((s2.setPart q { Part.reset with rect := rect }).clearPartDict q).forgetPower q
  (fields.foldl State.cdOff s3).startCheck

/-- Firmware clears EN of the partition of a field that has come up DEGRADED; the record of 0x5203 names the field in ID and the partition in INFO (R57; log
entry 78). -/
def State.degradedNow (s : State) (f : Nat) : State :=
  match s.partOf f with
  | some q => (s.disablePart q).fieldFault f 0x5203 q
  | none => s
/-- A CD start has left a field DEGRADED: firmware disables its partition, at once or, while no Wellhead is active, once one is (R57, R506). Log entry 78. -/
def State.degraded (s : State) (f : Nat) : State :=
  if s.frozen then { s with sd := { s.sd with degrOwed := s.sd.degrOwed ++ [f] } } else s.degradedNow f
/-- The fields that came up DEGRADED while no Wellhead was active are dealt with (R57, R506). -/
def State.settleDegraded (s : State) : State := s.sd.degrOwed.foldl State.degradedNow { s with sd := { s.sd with degrOwed := [] } }

/-- A field joins the open marks of a partition, or leaves them; a mark whose closing mark has been taken stays as it is (R29, R455). -/
def Part.markJoin (x : Part) (f now : Nat) : Part :=
  let join (m : Mark) : Mark := { m with shares := m.shares ++ [({ field := f, since := now, base := none, till := none, last := none } : Share)] }
  { x with marks := x.marks.map (fun m => if m.closed then m else join m) }
/-- See `Part.markJoin`. -/
def Part.markLeave (x : Part) (f now : Nat) : Part :=
  let leave (h : Share) : Share := if h.field = f ∧ h.till.isNone then { h with till := some now } else h
  { x with marks := x.marks.map (fun (m : Mark) => if m.closed then m else { m with shares := m.shares.map leave }) }

/-- PARTITION_RECT takes effect: defines, enables, rewrites or disables a partition (R54, R55, R366, R419). -/
def State.setRect (s : State) (q v : Nat) : State :=
  let r := BitVec.ofNat 32 v
  let was := (s.part q).enabled
  let old := s.partFields q
  if !bit v 31 then (if was then s.disablePart q else s.voidTenant q).modPart q (fun x => { x with rect := r })
  else if !was then
    let s1 := (((s.setPart q { Part.reset with rect := r, job := (s.part q).job }).clearDict 0x2902 (q + 1)).clearDict 0x2903 (q + 1)).forgetPower q
    (s1.partFields q).foldl State.cdStart (s1.setTraceDest q { s1.traceDest q with newBit := true })
  else
    let new := rectFields r
    let gone := old.filter (fun f => !new.contains f)
    let come := new.filter (fun f => !old.contains f)
    let s1 := gone.foldl State.cdOff (s.modPart q (fun x =>
      { come.foldl (fun y f => Part.markJoin y f s.tstamp) (gone.foldl (fun y f => Part.markLeave y f s.tstamp) x) with rect := r }))
    ((come.foldl State.cdStart s1).askPart q).startCheck

/-! ### The applied map (R33, R37 to R42) -/

/-- Position key of a row of a field. -/
def rowKey (f r : Nat) : Nat := f * 40 + r
/-- Failed physical columns of a row in the applied map: the fused one and the runtime list's, each once (R40). -/
def State.badCols (s : State) (f r : Nat) : List Nat :=
  let rt := Tab.read s.fw.map [] (rowKey f r)
  let fused := Config.fuseCol f r % 64
  if fused < 33 ∧ !rt.contains fused then fused :: rt else rt
/-- A row is dead: two or more of its positions have failed (R37). -/
def State.deadRow (s : State) (f r : Nat) : Bool := decide (2 ≤ (s.badCols f r).length)
/-- A field has a dead row. -/
def State.deadField (s : State) (f : Nat) : Bool := (upTo 40).any (s.deadRow f)
/-- The row shifts of a field: the failed column of each row that has one among physical columns 0 to 31 (R33, R37). -/
def State.shifts (s : State) (f : Nat) : Tab Nat :=
  (upTo 40).filterMap (fun r => match s.badCols f r with | [c] => if c < 32 then some (r, c) else none | _ => none)

/-- Adds a runtime entry to a map. -/
def mapAdd (m : Tab (List Nat)) (e : Word) : Tab (List Nat) :=
  let k := rowKey (bits e.toNat 22 16) (bits e.toNat 13 8)
  let c := bits e.toNat 5 0
  let l := Tab.read m [] k
  if l.contains c then m else Tab.insert m k (l ++ [c])

/-- The applied map is rebuilt from fuses and flash; with both flash copies corrupt the runtime list is taken as empty and 0x5206 recorded (R42). -/
def State.rebuildMap (s : State) (r : FlashRead) : State :=
  let x := s.flash.readRepair r
  let s1 := { s with flash := x.1 }
  let s2 := if x.2 then s1.engineFault 0x5206 0 else s1
  { s2 with fw := { s2.fw with map := s2.flash.list.foldl mapAdd [] }, wh := { s2.wh with changed := true } }

end Sys2Proof.Machine
end

