-- ==== Sys2Proof/Machine/Startup.lean ====
section
/-! DEFINITION. Power-on, the cold start, warm restarts, the button, coolant loss, REFCLK and PLL loss (R393 to R428, R467 to R469). -/

namespace Sys2Proof.Machine

/-! ### Parts of a start -/

/-- Service flash with the hours compute was powered in this power-on added to POWER_ON_HOURS (R378; log entry 49). -/
def Flash.addHours (x : Flash) (powered : Nat) : Flash :=
  let h := powered / 360000000000
  if h = 0 then x else x.writeObjs (Tab.insert x.stored 0x24B101 (Tab.read x.stored 0 0x24B101 + h))

/-- Everything a cold start loses is at its reset value; what survives is service flash, age limits, the levels of external pins and what has already left
the engine (R364, R402, R471). -/
def State.coldReset (s : State) : State :=
  { State.reset with
      flash := s.flash.addHours s.sd.compTime, pending := s.pending, free := s.free, hostOut := s.hostOut, linkOut := s.linkOut, canOut := s.canOut, pmbOut := s.pmbOut,
      therm := { Thermal.reset with fmax := s.therm.fmax },
      ports := (upTo 4).foldl (fun t p =>
        let x := s.port p
        Tab.write t Port.reset p { Port.reset with perst := x.perst, perstAt := x.perstAt, width := x.width, rate := x.rate }) [] }

/-- A port's registers after RD start; its link trains where PERST_N is high (R394). -/
def Port.rdStart (x : Port) (now : Nat) : Port :=
  { Port.reset with perst := x.perst, perstAt := now, width := x.width, rate := x.rate, linkUp := x.perst }

/-- The RD's own contents as its start leaves them: registers and counters zero, marks and hints gone, mailbox channels IDLE, Sluice ports with EN in TRAIN
(R262, R292, R432, R446, R457, R520). -/
def State.rdStarted (s : State) : State :=
  let locks := (upTo 16).foldl (fun t p => Tab.write t FreqLock.reset p { FreqLock.reset with lastCmd := s.tstamp }) []
  let s1 := { s with rd := { RingDomain.reset with state := .on, locks := locks, ownId := s.setting 0x2601 1, master := s.setting 0x2601 2 }, sluice := [] }
  let s2 := (upTo 4).foldl (fun s p => (s.modPort p (fun x => x.rdStart s.tstamp)).dropMailbox p) s1
  let s3 := (upTo 16).foldl (fun s p => if (s.part p).enabled then s.modPart p (fun x => { x with marks := [], hints := [] }) else s) s2
  let s4 := (upTo 12).foldl (fun s p => if bit (s.portCtrl p) 0 then s.portTrain p else s) s3
  s4.syncRefresh

/-- The RD leaves ON: its ports and switch stop (R417, R427). -/
def State.rdStop (s : State) (st : DomState) : State :=
  let s1 := s.modRd (fun r => { r.enter .free with state := st, tries := 0 })
  (upTo 12).foldl (fun s p => s.modSl p (fun y => { Sluice.reset with counters := y.counters })) s1

/-- START_FAILED: no later step runs, and a CD start whose ramp has not begun does not begin (R424). -/
def State.failStart (s : State) (step cause : Nat) : State :=
  let s1 := s.modSd (fun d => { d with step := .failed step cause, cdRamps := d.cdRamps.filter (fun t => decide (t ≤ s.tstamp)) })
  { s1 with fields := s1.fields.map (fun (e : Nat × Field) =>
      match e.2.clk.cdAt with
      | some t => if e.2.clk.cd = .starting ∧ s.tstamp < t then (e.1, { e.2 with clk := { e.2.clk with cd := .off, cdAt := none } }) else e
      | none => e) }

/-- The RD start begins (R422). -/
def State.rdStart (s : State) : State := (s.toStep 7).modRd (fun r => { r with state := .starting, tries := 0 })

/-- A Wellhead's record. -/
def State.wellhead (s : State) (w : Nat) : Wellhead := if w = 0 then s.wh.a else s.wh.b
/-- Changes a Wellhead's record. -/
def State.modWell (s : State) (w : Nat) (g : Wellhead → Wellhead) : State :=
  if w = 0 then { s with wh := { s.wh with a := g s.wh.a } } else { s with wh := { s.wh with b := g s.wh.b } }

/-- Both Wellheads begin to boot, unless held off (R422, R513). -/
def State.bootBoth (s : State) : State :=
  let go (x : Wellhead) : Wellhead := if x.heldOff then x else { x with up := false, booting := true, failed := false }
  { s with wh := { s.wh with a := go s.wh.a, b := go s.wh.b, bothDownAt := none } }

/-- PMBus transactions leave (R433). -/
def State.pmbSend (s : State) (l : List PmbOut) : State := { s with pmbOut := s.pmbOut ++ l }
/-- Commands to a rail: PAGE selects it, then each (R433). -/
def railCmds (r : Nat) (codes : List Nat) : List PmbOut := (0 :: codes).map (fun c => { dev := 0x40 + r / 2, page := r % 2, code := c, data := 0 })
/-- OPERATION on or off for a rail (R425, R433; its data is PMBus 1.3's, log entry 97). -/
def railOperation (r : Nat) (on : Bool) : List PmbOut :=
  railCmds r [] ++ [{ dev := 0x40 + r / 2, page := r % 2, code := 0x01, data := if on then 0x80 else 0 }]

/-! ### POR_N, straps and the Wellheads (R393, R397, R422, R423, R425) -/

/-- When an attempt of the always-on PLL that begins at `now` locks: `lock` periods later, within the limit of 1 ms, or not at all (R422). -/
def lockMoment (now : Nat) (lock : Option Nat) : Option Nat :=
  match lock with
  | some t => if t ≤ 100000 then some (now + t) else none
  | none => none

/-- POR_N_RISE: with input power present a cold start begins at step 1; TSTAMP is 0 and both Wellheads are to boot (R393, R402, R415, R422). Whether input power that was
lost is back, and when the always-on PLL locks, are free values (log entry 108). -/
def execPorNRise (s : State) : Out :=
  .next (if !s.sd.porLow then s
  else
    let s0 := { s with free := s.free + 1 }
    if !s.sd.inputPower ∧ !Config.powerBack s.free then s0
    else
      (s0.coldReset.modSd (fun _ =>
        { ServiceDomain.reset with state := .on, inputPower := true, porLow := false, step := .at 1, lockAt := lockMoment 0 (Config.pllLock s.free), coldCds := true })).bootBoth)

/-- POR_N_FALL: the low is honoured; SD_OPERATIONAL 0, every CD, MD and the RD OFF, the rails switched off, the SD with both Wellheads in RESET (R393, R423, R425,
R433). -/
def execPorNFall (s : State) : Out :=
  .next (if s.sd.porLow then s
  else
    let s1 := ((s.warmReset .off).rdStop .off).pmbSend (s.power.rails.flatMap (fun (e : Nat × Rail) => railOperation e.1 false))
    { s1.modSd (fun d => { d with state := .reset, porLow := true, operational := false, step6 := false, step := .none, lockAt := none,
                                  button := { state := 0, since := 0 }, backup := none, degrOwed := [] }) with wh := WellPair.reset })

/-- INPUT_POWER_LOSS: everything is lost but the stored objects and the runtime repair list (R425). -/
def execInputPowerLoss (s : State) : Out := .next (s.coldReset.modSd (fun _ => { ServiceDomain.reset with inputPower := false }))

/-- STRAP_SAMPLE: the raw strap levels 1 to 8 ms after POR_N rises; the eighth sample decides (R397). -/
def execStrapSample (raw : Nat) (s : State) : Out :=
  .next (
    let n := s.sd.samples.length
    let v := raw % 8192
    if s.sd.state ≠ .on ∨ 8 ≤ n ∨ s.sd.vtime < 100000 * (n + 1) then s
    else
      let l := s.sd.samples ++ [v]
      if n < 7 then s.modSd (fun d => { d with samples := l })
      else if l.all (fun x => decide (x = v)) then
        s.modSd (fun d => { d with samples := l, strapsRaw := v, nodeId := v % 128, slotId := v / 128 })
      else (s.modSd (fun d => { d with samples := l, strapsRaw := v, nodeId := 0, slotId := 0 })).engineFault 0x5263 0)

/-- Step 4: the active Wellhead reads the stored objects and builds the applied map (R42, R364, R422). -/
def State.readFlash (s : State) (r : FlashRead) : State :=
  let x := s.flash.readObjs r
  let s1 := { s with flash := x.1 }
  let s2 := if x.2 then s1.engineFault 0x5277 0 else s1
  { s2 with fw := { Firmware.reset with dict := s2.flash.stored }, wh := { s2.wh with changed := true } }.rebuildMap r

/-- Steps 2 to 4 once each Wellhead has booted or failed: Wellhead A is active when it booted; with neither, both are restarted later (R422). -/
def State.bootsDone (s : State) (r : FlashRead) : State :=
  if s.wh.a.booting ∨ s.wh.b.booting then s
  else if !s.wh.a.up ∧ !s.wh.b.up then { s with wh := { s.wh with bothDownAt := some s.sd.vtime } }
  else
    let s1 := { s with wh := { s.wh with active := if s.wh.a.up then 0 else 1, standbyOk := s.wh.a.up && s.wh.b.up, bothDownAt := none, lastAck := s.sd.vtime } }
    let lost (s : State) (w : Nat) : State := if (s.wellhead w).failed then s.report 73 (plainFault 0x5272 4 w 0) else s
    ((lost (lost s1 0) 1).readFlash r).toStep 5

/-- WELLHEAD_BOOT_COMPLETE in step 2 of a cold start: the CRC-32 of a Wellhead's image is checked, and it has booted or failed. `flash` is what service flash returns
as step 4 reads it (R42, R422, R534). -/
def execWellheadBootComplete (w : Nat) (code : List Byte) (crc : Nat) (flash : FlashRead) (s : State) : Out :=
  if 2 ≤ w then .fault .noSuchUnit
  else .next (
    let good := ({ code := code, crc := crc } : Image).good
    if s.sd.step ≠ .at 2 ∨ !(s.wellhead w).booting then s
    else (s.modWell w (fun x => { x with booting := false, up := good, failed := !good, lastBeat := s.sd.vtime })).bootsDone flash)

/-- NMT state as its heartbeat code (R337). -/
def Nmt.code (n : Nmt) : Nat :=
  match n with
  | .init => 0x00 | .preop => 0x7F | .oper => 0x05 | .stopped => 0x04

/-- A CAN frame leaves while the controller may drive the bus (R334, R336, R427). -/
def State.canSend (s : State) (id : Nat) (data : List Byte) : State :=
  if s.sd.nodeId ≠ 0 ∧ s.sd.refclkOk ∧ s.sd.operational ∧ !s.frozen then { s with canOut := s.canOut ++ [(id, data)] } else s

/-- NMT leaves Initialisation: the boot-up message, then Pre-operational, or Operational where NMT_STARTUP says so; an engine with node-ID 0 stays silent
(R336, R337). -/
def State.nmtBootUp (s : State) : State :=
  if s.sd.nodeId = 0 then { s with can := { s.can with nmt := .init } }
  else
    let s1 := s.canSend (0x700 + s.sd.nodeId) [0]
    { s1 with can := { s1.can with nmt := if bit (s.setting 0x1F80 0) 2 then .oper else .preop, hbLast := s.tstamp } }

/-- The rails of a device. -/
def VrDevice.rails (d : VrDevice) : List Nat := (upTo (min 2 d.pages)).map (fun p => 2 * d.dev + p)
/-- A device whose output voltages are LINEAR16; any other counts as missing (R433). -/
def VrDevice.linear (d : VrDevice) : Bool := decide (bits d.mode 7 5 = 0)
/-- A device is identified and its faults are read; a good one's rails are set and switched on (R422, R433). -/
def VrDevice.cmds (d : VrDevice) : List PmbOut :=
  d.rails.flatMap (fun r => railCmds r ([0x99, 0x9A, 0x20, 0x79] ++ if d.fault then [0x03] else [])) ++
    (if d.linear then d.rails.flatMap (fun r =>
      railCmds r [] ++ [{ dev := 0x40 + d.dev, page := r % 2, code := 0x21, data := Config.railVolt r }] ++ railOperation r true) else [])

/-- PMBUS_SCAN_COMPLETE: step 5 ends, the SD becomes operational, and the RD start begins unless a regulator is missing or reports a fault (R422, R424, R433). -/
def execPmbusScanComplete (devs : List VrDevice) (missing : Bool) (s : State) : Out :=
  if devs.any (fun d => decide (32 ≤ d.dev)) then .fault .noSuchUnit
  else .next (if s.sd.step ≠ .at 5 ∨ s.sd.samples.length < 8 ∨ s.frozen then s
  else
    let up := s.sd.operational
    let good := devs.filter VrDevice.linear
    let rails : Tab Rail := good.foldl (fun t d => d.rails.foldl (fun t r => Tab.insert t r { pout := 0, at' := s.tstamp, fault := d.fault }) t) []
    let bad := missing || devs.any (fun d => d.fault || !d.linear)
    let s0 := { s with power := { s.power with vrFound := good.length, rails := rails } }.pmbSend (devs.flatMap VrDevice.cmds)
    let s1 := if bad then s0.engineFault 0x5273 0 else s0
    let s2 := s1.modSd (fun d => { d with operational := true, step6 := true })
    let s3 := if up then s2 else s2.nmtBootUp
    if bad then s3.failStart 5 0x5273 else s3.rdStart)

/-! ### The RD, the MDs and the CDs (R417, R420, R422, R424, R426) -/

/-- The second failure of the RD start is its last; the first is retried (R422). -/
def State.rdFailed (s : State) : State :=
  if s.rd.tries = 0 then (s.modRd (fun r => { r with tries := 1 })).toStep 7
  else ((s.modRd (fun r => { r with state := .off })).engineFault 0x5274 0).failStart 7 0x5274

/-- RD_START_COMPLETE: the RD start ends, or fails: one retry, then START_FAILED (R422). -/
def execRdStartComplete (ok : Bool) (s : State) : Out :=
  .next (if s.rd.state ≠ .starting then s
  else if ok then ((s.rdStarted.sensorsOn 144).toStep 8).startFields
  else s.rdFailed)

/-- An MD start has failed: one retry, then START_FAILED (R422). -/
def State.mdFailed (s : State) (f : Nat) : State :=
  if (s.field f).clk.mdTries = 0 then
    s.mdStart f (rampAt (recentRamps s.sd.mdRamps s.tstamp) s.tstamp) 1
  else ((s.modClk f (fun k => { k with md := .off })).report 73 (plainFault 0x5275 2 f 0)).failStart 8 0x5275

/-- MD_START_COMPLETE: an MD's start ends ON at F15 with its memory and registers zeroed, its DOWN links up again (R60, R251, R411, R415), and the CD follows: every CD
in a cold start, the CDs of enabled partitions and of an overtaken field restart in a warm one (R422, R426); or the start fails. -/
def execMdStartComplete (f : Nat) (ok : Bool) (s : State) : Out :=
  onField f s (fun s =>
    let k := (s.field f).clk
    if k.md ≠ .starting ∨ s.tstamp < k.startAt then s
    else if !ok then s.mdFailed f
    else
      let s1 := (s.modField f (fun x => { x.mdLost with clk := { x.clk.mdReset .on with startAt := x.clk.startAt } })).sensorsOn (72 + f)
      let s2 := if !s.startFailed ∧ (s.sd.coldCds ∨ (s.partOf f).isSome ∨ k.restart) then s1.cdStart f else s1
      s2.startCheck)

/-- The cores of a field released into IDLE, their memories and queues zeroed, DET as the mode bit has it (R44, R134, R420, R481). -/
def State.releaseCores (s : State) (f : Nat) : State :=
  (upTo 1280).foldl (fun s li =>
    let c := coreId f li
    { s with cores := Tab.insert s.cores c { Core.reset with run := .idle, autoAdd := (s.core c).autoAdd, csr := { Csrs.reset with det := s.detMode } } }) s

/-- A CD start ends without bringing the CD up: it is OFF and the field DEGRADED (R37, R420, R422). -/
def State.cdDegraded (s : State) (f : Nat) (failed : Bool) : State :=
  let s1 := s.modClk f (fun k => { k with cd := .off, cdAt := none, restart := false, repair := .degraded, rowMap := [] })
  ((if failed then s1.fieldFault f 0x5276 0 else s1).degraded f).startCheck

/-- CD_START_COMPLETE: the field takes its repair state from the applied map; unless a row is dead its cores are released, and a field in no enabled partition
is switched OFF again (R37, R43, R44, R419, R420, R422). -/
def execCdStartComplete (f : Nat) (s : State) : Out :=
  onField f s (fun s =>
    let k := (s.field f).clk
    match k.cdAt with
    | none => s
    | some t =>
      if k.cd ≠ .starting ∨ s.tstamp < t then s
      else if s.deadField f then s.cdDegraded f false
      else
        let map := s.shifts f
        let s1 := s.modClk f (fun k => { k with cd := .on, restart := false, repair := if map.isEmpty then .good else .repaired, rowMap := map, halfCclk := 0 })
        let s2 := (s1.modField f (fun x => { x with cis := { x.cis with slots := [] }, obs := { x.obs with statBase := [], partialIv := true } })).releaseCores f |>.sensorsOn f
        let s3 := match s.partOf f with
          | some q => if s2.forced then s2 else s2.modClk f (fun k => k.ask (s2.joinFstate q f) (s2.tstamp + 100))
          | none => s2.cdOff f
        s3.startCheck)

/-- CD_START_TIMEOUT: a CD start reaches its 20 ms limit (R422). -/
def execCdStartTimeout (f : Nat) (s : State) : Out :=
  onField f s (fun s =>
    match (s.field f).clk.cdAt with
    | none => s
    | some t => if (s.field f).clk.cd = .starting ∧ t + 2000000 ≤ s.tstamp then s.cdDegraded f true else s)

/-- START_STEP_TIMEOUT: a step of a cold start overruns its limit (R422): the PLL lock is retried 10 ms after its last attempt, to lock or not (log entry 108);
Wellheads still booting have failed, `x.flash` being what step 4 then reads; the regulators count as missing; the RD and MD starts are retried and then fail. -/
def execStartStepTimeout (x : StepOverrun) (s : State) : Out :=
  .next (
    let k := x.step
    let late (ms : Nat) : Bool := decide (s.sd.stepAt + 100000 * ms ≤ s.sd.vtime)
    if k = 1 ∧ s.sd.step = .at 1 ∧ s.sd.lockAt = none ∧ late 10 then
      ({ s with free := s.free + 1 }.toStep 1).modSd (fun d => { d with lockAt := lockMoment d.vtime (Config.pllLock s.free) })
    else if k = 2 ∧ s.sd.step = .at 2 ∧ late 60 ∧ (s.wh.a.booting ∨ s.wh.b.booting) then
      let fail (x : Wellhead) : Wellhead := if x.booting then { x with booting := false, failed := true } else x
      ({ s with wh := { s.wh with a := fail s.wh.a, b := fail s.wh.b } }).bootsDone x.flash
    else if k = 5 ∧ s.sd.step = .at 5 ∧ late 20 ∧ 8 ≤ s.sd.samples.length ∧ !s.frozen then
      let s1 := (s.engineFault 0x5273 0).modSd (fun d => { d with operational := true, step6 := true })
      (if s.sd.operational then s1 else s1.nmtBootUp).failStart 5 0x5273
    else if k = 7 ∧ s.rd.state = .starting ∧ late 20 then s.rdFailed
    else if k = 8 then
      (upTo nFields).foldl (fun s f =>
        let x := (s.field f).clk
        if x.md = .starting ∧ x.startAt + 500000 ≤ s.tstamp then s.mdFailed f else s) s
    else s)

/-! ### Warm restarts and the button (R402 to R408, R424, R426) -/

/-- The fields start again at the end of a warm reset; a cold start goes on where it stood, and START_FAILED is left from its failed step (R408, R424, R426). -/
def State.restartFields (s : State) : State :=
  match s.sd.step with
  | .failed 5 _ => s.toStep 5
  | .failed 7 _ => s.rdStart
  | .failed _ _ => (s.toStep 8).startFields
  | .at k => if 8 ≤ k then (s.toStep 8).startFields else s
  | .complete => s.startFields
  | .none => s

/-- No rail shows a fault (R434). -/
def State.railsGood (s : State) : Bool := s.power.rails.all (fun e => !e.2.fault)

/-- A press of `long` or short duration ends, or an override acts: the map is rebuilt after a long one, and unless a trip, a coolant stop or a regulator fault
stands the fields start and the reset is counted (R405, R407, R408, R434). -/
def State.pressEnd (s : State) (long : Bool) (r : FlashRead) : State :=
  let s1 := if long then s.rebuildMap r else s
  let s2 := if s1.sd.vrStop ∧ s1.railsGood then s1.modSd (fun d => { d with vrStop := false }) else s1
  if s2.sd.tripLatched ∨ s2.sd.flowStop ∨ s2.sd.vrStop then s2
  else
    (s2.modSd (fun d => { d with lastReset := if long then 2 else 1, warmCount := (d.warmCount + 1) % 2 ^ 32 })).restartFields

/-- RST_BTN_PRESS_BEGIN: every CD and MD enters reset and stays there for the press (R403, R404, R408). -/
def execRstBtnPressBegin (s : State) : Out :=
  .next (if s.sd.state = .on ∧ s.sd.button.state = 0 then
    (s.modSd (fun d => { d with button := { state := 1, since := s.sd.vtime } })).warmReset .reset
  else s)

/-- RST_BTN_PRESS_END: a press shorter than 60 s ends; from 4 s on the applied map is rebuilt first (R405). -/
def execRstBtnPressEnd (flash : FlashRead) (s : State) : Out :=
  .next (
    let d := s.sd.vtime - s.sd.button.since
    if s.sd.button.state = 1 ∧ d < 6000000000 then
      (s.modSd (fun x => { x with button := { state := 0, since := 0 } })).pressEnd (decide (400000000 ≤ d)) flash
    else s)

/-- BUTTON_STUCK: a press reaches 60 s; the input is masked and compute stays in reset (R406). -/
def execButtonStuck (s : State) : Out :=
  .next (if s.sd.button.state = 1 ∧ s.sd.button.since + 6000000000 ≤ s.sd.vtime then
    (s.modSd (fun d => { d with button := { d.button with state := 2 } })).engineFault 0x5261 0
  else s)

/-! ### Coolant (R398, R467 to R469) -/

/-- A stored count of firmware is raised: a stored RO object is maintained in flash, and counts on from what flash holds even before step 4 has read it (R364). -/
def State.countStored (s : State) (i sub : Nat) : State :=
  let v := (Tab.read s.flash.stored 0 (objKey i sub) + 1) % 2 ^ 32
  { s.setDict i sub v with flash := s.flash.writeObjs (Tab.insert s.flash.stored (objKey i sub) v) }

/-- FLOW_LOSS_DECLARE: coolant loss stops compute; with the controller frozen the backup timer is left to act, and the record to the next active Wellhead
(R398, R467, R469). -/
def execFlowLossDeclare (s : State) : Out :=
  .next (if s.sd.state ≠ .on ∨ !s.sd.flowOk then s
  else
    let s1 := (s.modSd (fun d => { d with flowOk := false, flowStop := true, backup := some s.sd.vtime, lossOwed := s.frozen })).countStored 0x24A0 3
    if s.frozen then s1 else (s1.warmReset .off).engineFault 0x5293 0)

/-- COOLANT_BACKUP_TIMEOUT: 20 ms after the declaration a CD or MD is still on, and SD hardware switches all of them off (R398, R467). -/
def execCoolantBackupTimeout (s : State) : Out :=
  .next (match s.sd.backup with
    | none => s
    | some t =>
      let on := s.fields.any (fun (e : Nat × Field) => decide (e.2.clk.md ≠ .off) || decide (e.2.clk.cd ≠ .off))
      if s.sd.vtime < t + 2000000 then s
      else if on then (s.modSd (fun d => { d with backup := none, flowHw := true })).warmReset .off
      else s.modSd (fun d => { d with backup := none }))

/-- FLOW_RESTORE_DECLARE: flow has been high for 100 ms (R398). -/
def execFlowRestoreDeclare (s : State) : Out := .next (if s.sd.state = .on then s.modSd (fun d => { d with flowOk := true }) else s)

/-- The hottest converting sensor, in tenths of a degree (R459). -/
def State.tjMax (s : State) : Option Int :=
  (s.therm.temp.map (fun (e : Nat × (Int × Nat)) => e.1)).foldl (fun (a : Option Int) i =>
    match a, s.sensorValue i with
    | some x, some v => some (max x v)
    | none, v => v
    | a, none => a) none

/-- COOLANT_RESTART: flow restored, TJ_MAX below 90.0 °C and no trip: the coolant stop ends and the fields start as after a short press (R468, R469). -/
def execCoolantRestart (s : State) : Out :=
  .next (
    let cool := match s.tjMax with | some t => decide (t < 900) | none => true
    if s.sd.flowStop && s.sd.flowOk && cool && !s.sd.tripLatched then
      let s1 := s.modSd (fun d => { d with flowStop := false, flowHw := false, backup := none })
      if s1.startBlocked ∨ s1.startFailed then s1 else s1.restartFields
    else s)

/-! ### REFCLK and PLL (R427, R428) -/

/-- REFCLK_LOST: every CD OFF, every MD and the RD in RESET; TSTAMP holds, SYNC_STATE is FREE, open marks are discarded (R427, R457). Which PCIe ports' links
survive is a free value (log entry 108); their mailbox works on. -/
def execRefclkLost (s : State) : Out :=
  .next (if s.sd.state ≠ .on ∨ !s.sd.refclkOk then s
  else
    let s1 := s.warmReset .reset
    let s2 := (upTo 16).foldl (fun s p => if (s.part p).enabled then s.modPart p (fun x => { x with marks := [] }) else s) s1
    let s3 := if s.rd.state = .on ∨ s.rd.state = .starting then s2.rdStop .reset else s2
    let s4 := (upTo 4).foldl (fun s p => s.modPort p (fun x => { x with linkUp := x.linkUp && Config.linkHolds s.free p })) s3
    ({ s4 with free := s.free + 1 }.modSd (fun d => { d with refclkOk := false })).engineFault 0x5270 0)

/-- REFCLK_RESTORE: within tolerance for 10 ms; the engine restarts from step 7 with the map it holds (R427). -/
def execRefclkRestore (s : State) : Out :=
  .next (if s.sd.refclkOk then s
  else
    let s1 := s.modSd (fun d => { d with refclkOk := true })
    match s.sd.step with
    | .complete => (s1.modSd (fun d => { d with coldCds := true })).rdStart
    | .at k => if 7 ≤ k then s1.rdStart else s1
    | .failed k _ => if 7 ≤ k then s1.rdStart else s1
    | .none => s1)

/-- PLL_UNLOCK: a field PLL loses lock: every MD and CD of the engine restarts as after a short press; a PLL that fails while its MD starts fails that start
(R428). -/
def execPllUnlock (f : Nat) (s : State) : Out :=
  onField f s (fun s =>
    match (s.field f).clk.md with
    | .on =>
      let s1 := (s.warmReset .reset).report 73 (plainFault 0x5271 2 f 0)
      if s1.startFailed then s1 else s1.restartFields
    | .starting => if (s.field f).clk.startAt ≤ s.tstamp then s.mdFailed f else s
    | _ => s)

end Sys2Proof.Machine
end

