-- ==== Sys2Proof/Machine/ObjValue.lean ====
section
/-! DEFINITION. The value every object of the dictionary reads as (R328, R353, R361 to R387). -/

namespace Sys2Proof.Machine

/-! ### Figures that objects show -/

/-- A sensor is at or above a temperature, in tenths of a degree. -/
def State.anySensor (s : State) (t : Int) : Bool :=
  s.therm.temp.any (fun (e : Nat × (Int × Nat)) => match s.sensorValue e.1 with | some v => decide (t ≤ v) | none => false)

/-- ERROR_REGISTER (R345). -/
def State.errorRegister (s : State) : Nat :=
  let b3 := s.anySensor 900
  let b4 := s.can.hbOut.any (fun k => decide (bits (s.setting 0x1016 (k + 1)) 15 0 ≠ 0)) || (upTo 12).any (fun p => bit (s.portCtrl p) 0 && decide ((s.sl p).state = .down))
  let b7 := decide (s.rd.sync = .holdover) || (upTo 16).any (fun p => s.locked p && (s.lock p).lost) || !s.wh.standbyOk
  b2n (b3 || b4 || b7) + 8 * b2n b3 + 16 * b2n b4 + 128 * b2n b7

/-- ALERT_N is asserted (R400). -/
def State.alert (s : State) : Bool :=
  decide (s.sd.state = .on) &&
    (decide (s.errorRegister ≠ 0) || decide (s.sd.button.state = 2) || s.sd.tripLatched || s.sd.flowStop || !s.sd.operational)

/-- Codes of FIELD_STATE (R45). -/
def RepairState.code (r : RepairState) : Nat :=
  match r with
  | .good => 0 | .repaired => 1 | .degraded => 2

/-- Fields in a repair state. -/
def State.fieldsIn (s : State) (r : RepairState) : Nat := ((upTo nFields).filter (fun f => decide ((s.field f).clk.repair = r))).length

/-- The hottest converting sensor among some, the first of equals. -/
def State.hottest (s : State) (l : List Nat) : Option (Nat × Int) :=
  l.foldl (fun (a : Option (Nat × Int)) i =>
    match s.sensorValue i, a with
    | some v, some (_, w) => if w < v then some (i, v) else a
    | some v, none => some (i, v)
    | none, _ => a) none

/-- The sensors of a field (R459). -/
def fieldSensors (f : Nat) : List Nat := (upTo 9).map (fun k => 9 * f + k)

/-- The field code of a sensor (R459). -/
def sensorField (i : Nat) : Nat := if i < 648 then i / 9 else if i < 650 then 0x48 else 0x49

/-- A temperature as an object shows it; 0x8000 where no sensor converts, as TH_SENSOR has it (log entry 44). -/
def tempValue (t : Option (Nat × Int)) : Nat := match t with | some (_, v) => wrap 16 v | none => 0x8000

/-- The mean of at most `n` figures over `n` places, rounded down. -/
def meanOf (n : Nat) (l : List Rat) : Nat :=
  let sum : Rat := (l.take n).foldl (· + ·) 0
  (sum / n).floor.toNat

/-- L(p, c), in mW; 0 until learned (R442). -/
def State.learned (s : State) (p c : Nat) : Rat := Tab.read s.fw.learned 0 (p * 16 + c)

/-- PCLASS_POWER: the mean of L(p, c) over enabled partitions weighted by the last epoch's task-µs (R442); unweighted where no task of the class ran (log
entry 45). -/
def State.pclassPower (s : State) (c : Nat) : Nat :=
  let ps := (upTo 16).filter (fun p => (s.part p).enabled && decide (s.learned p c ≠ 0))
  let w := ps.foldl (fun a p => a + Tab.read s.power.lastEpoch.taskUs 0 (p * 16 + c)) 0
  if ps.isEmpty then 0
  else if w = 0 then (ps.foldl (fun a p => a + s.learned p c) 0 / ps.length).floor.toNat
  else (ps.foldl (fun a p => a + s.learned p c * Tab.read s.power.lastEpoch.taskUs 0 (p * 16 + c)) 0 / w).floor.toNat

/-- ENGINE_ENERGY in mJ: every FIELD_ENERGY and the SD and RD estimates (R377, R432). -/
def State.engineEnergy (s : State) : Nat :=
  let units : Nat := s.rd.energy.foldl (fun a (e : Nat × Nat) => a + e.2) 0
  let uj : Rat := (units : Rat) / 16 + s.power.otherE
  (uj / 1000).floor.toNat

/-- POWER_ON_HOURS: the hours stored at the last cold start or power loss, and those with compute powered since (R378, R471; log entry 49). -/
def State.powerHours (s : State) : Nat := s.setting 0x24B1 1 + s.sd.compTime / 360000000000

/-- INPUT_POWER: the sum of the latest READ_POUT values (R434). -/
def State.inputPower (s : State) : Nat := s.power.rails.foldl (fun a (e : Nat × Rail) => a + e.2.pout) 0

/-! ### Fault records (R385, R492) -/

/-- A fault record's 32 bytes (R492). -/
def FaultRec.bytes (r : FaultRec) : List Byte :=
  let task := match r.task with | some t => t.toNat % 2 ^ 55 | none => 0
  toBytes 8 (r.cause <<< 48 + r.scope <<< 40 + r.id <<< 32 + r.info % 2 ^ 32) ++ toBytes 8 r.ts ++ toBytes 8 (r.queue <<< 55 + task) ++
    toBytes 8 ((r.pc / 4) <<< 51 + (r.core.getD 0x1FFFF) <<< 34 + b2n r.task.isSome <<< 33 + r.seq <<< 19 + r.addr % 2 ^ 19)

/-- FAULT_LOG: the header with WRITE_COUNT, then 127 slots; record n lies in slot n mod 127 (R385). -/
def State.faultLog (s : State) : List Byte :=
  let first := s.fw.writeCount - s.fw.log.length
  let slot (k : Nat) : List Byte :=
    match (s.fw.log.zipIdx).find? (fun (e : FaultRec × Nat) => decide ((first + e.2) % 127 = k)) with
    | some e => e.1.bytes
    | none => toBytes 32 0
  toBytes 8 s.fw.writeCount ++ toBytes 24 0 ++ (upTo 127).flatMap slot

/-- REPAIR_LIST: the entry count, then every entry (R373). -/
def State.repairList (s : State) : List Byte := toBytes 4 s.flash.list.length ++ repairBytes s.flash.list

/-! ### Values (R369 to R387) -/

/-- Objects 0x1000 to 0x20FF that are not settings. -/
def State.valueLow (s : State) (i sub : Nat) : Option Nat :=
  if i = 0x1001 then some s.errorRegister
  else if i = 0x1003 then some (if sub = 0 then s.can.history.length else wordAt s.can.history (sub - 1))
  else if i = 0x1018 ∧ sub = 4 then some (Config.serialNumber % 2 ^ 32)
  else if i = 0x2000 then
    some (if sub = 1 then s.sd.nodeId else if sub = 2 then s.can.nmt.code else if sub = 3 then s.can.busOff else s.can.dropped)
  else if i = 0x2002 then some (Tab.read s.fw.refusals 0 sub)
  else if i = 0x2010 then
    (if sub = 1 then some s.wh.active else if sub = 2 then some (b2n s.wh.standbyOk) else if sub = 3 then some s.wh.committed
     else if sub = 6 then some (b2n s.sd.operational) else none)
  else none

/-- Objects 0x2100 to 0x23FF that are not settings. -/
def State.valueField (s : State) (i sub : Nat) : Option Nat :=
  if i = 0x2100 then
    some (if sub = 1 then s.fieldsIn .good else if sub = 2 then s.fieldsIn .repaired else if sub = 3 then s.fieldsIn .degraded
          else 1280 * (72 - s.fieldsIn .degraded))
  else if i = 0x2110 ∧ sub = 1 then some ((upTo 2880).filter (fun k => decide (Config.fuseCol (k / 40) (k % 40) % 64 < 33))).length
  else if i = 0x2110 ∧ sub = 2 then some s.flash.list.length
  else if i = 0x2111 then some (s.field (sub - 1)).clk.repair.code
  else if i = 0x2210 then some (s.part (sub - 1)).rect.toNat
  else if i = 0x2211 then some (if (s.part (sub - 1)).enabled then (s.part (sub - 1)).graph.code else 3)
  else if i = 0x2212 then some (s.partCores (sub - 1))
  else if i = 0x2300 ∧ sub = 1 then some (b2n s.sd.refclkOk)
  else if i = 0x2300 ∧ sub = 2 then some s.tstamp
  else if i = 0x2301 then some (s.field (sub - 1)).clk.fstate
  else if i = 0x2304 then some (Tab.read s.totals 0 0x230401)
  else none

/-- Objects 0x2400 to 0x24FF that are not settings. -/
def State.valuePower (s : State) (i sub : Nat) : Option Nat :=
  if i = 0x2400 ∧ sub = 2 then some s.capEff
  else if i = 0x2410 then some (s.pclassPower (sub - 1))
  else if i = 0x2420 then some (if sub = 1 then meanOf 1000 s.power.accRecent else s.engineEnergy)
  else if i = 0x2421 then some (if (s.part (sub - 1)).enabled then meanOf 1000 (Tab.read s.power.partRecent [] (sub - 1)) else 0)
  else if i = 0x2422 then some ((s.part (sub - 1)).energy / 16000)
  else if i = 0x2440 then some (if sub = 1 then s.power.vrFound else s.inputPower)
  else if i = 0x2490 then
    (let h := s.hottest (upTo 654)
     some (if sub = 1 then tempValue h else match h with | some e => sensorField e.1 | none => 0))
  else if i = 0x2491 then some (tempValue (s.hottest (fieldSensors (sub - 1))))
  else if i = 0x2492 ∧ sub = 1 then some s.therm.state
  else if i = 0x24A0 ∧ sub = 1 then some (b2n s.sd.flowOk)
  else if i = 0x24A0 ∧ sub = 2 then some (b2n s.sd.flowStop)
  else if i = 0x24B1 then some s.powerHours
  else if i = 0x24C0 then some (b2n (decide (s.setting 0x2400 1 ≤ 16000)))
  else none

/-- Objects 0x2500 to 0x27FF that are not settings. A DEGRADED field's scheduler objects read 0 (R379). -/
def State.valueSched (s : State) (i sub : Nat) : Option Nat :=
  let x := s.field (sub - 1)
  let q := s.part (sub - 1)
  let sched (v : Nat) : Option Nat := some (if x.clk.repair = .degraded then 0 else v)
  if i = 0x2540 then sched x.cis.pool.length
  else if i = 0x2541 then sched x.cis.chain.length
  else if i = 0x2542 then sched (x.cis.slots.filter (fun e => e.2.running.isSome)).length
  else if i = 0x2543 then sched (x.cis.slots.filter (fun e => e.2.staged.isSome)).length
  else if i = 0x2544 then sched x.cis.hwm
  else if i = 0x2545 then sched x.cis.err
  else if i = 0x2550 then some q.completed
  else if i = 0x2582 then some q.dryCount
  else if i = 0x2583 then some q.dryTs
  else if i = 0x2590 then some x.syn.sxErr
  else if i = 0x2601 ∧ sub = 3 then some s.rd.sync.code
  else if i = 0x2602 then some q.job
  else if i = 0x2603 then some (s.sl (sub - 1)).state.code
  else if i = 0x2604 then some (Tab.read (s.sl (sub - 1)).counters 0 0x10)
  else if i = 0x2700 ∧ 2 ≤ sub then some (s.cmdTimeoutEff (sub - 2))
  else if i = 0x2701 then some (s.portInfo (sub - 1))
  else if i = 0x2702 then some (Tab.read s.totals 0 (0x270200 + sub))
  else none

/-- Objects 0x2800 to 0x2BFF that are not settings. -/
def State.valueHigh (s : State) (i sub : Nat) : Option Nat :=
  let q := s.part (sub - 1)
  if i = 0x2800 then some (if sub = 1 then b2n s.detMode else s.detRefusals)
  else if i = 0x2900 then some s.faultCount
  else if (i = 0x2902 ∨ i = 0x2903) ∧ !q.enabled then some 0
  else if i = 0x2920 then some (Tab.read s.totals 0 sub)
  else if i = 0x2930 then
    some ((if sub = 1 then s.cores.foldl (fun a (e : Nat × Core) => e.2.scrub.foldl (fun a (x : Nat × Scrub) => max a x.2.last) a) 0
           else s.fields.foldl (fun a (e : Nat × Field) => max a e.2.cis.scrub.last) 0) / 100000)
  else if i = 0x2A01 then some q.traceDropped
  else if i = 0x2B00 then some (if sub = 1 then s.sd.slotId else s.sd.strapsRaw)
  else if i = 0x2B01 then some (if sub = 1 then s.sd.lastReset else s.sd.warmCount)
  else if i = 0x2B02 then some s.sd.button.state
  else if i = 0x2B03 then some (if sub = 1 then b2n s.sd.tripLatched else b2n s.alert)
  else none

/-- The value of an object of fixed size: subindex 0 of an array its highest subindex, hardware state from its place, any other from the settings
(R328, R331, R365). -/
def State.objValue (s : State) (i sub : Nat) : Nat :=
  if sub = 0 ∧ 0 < topSub i ∧ i ≠ 0x1003 ∧ !((0x1600 ≤ i ∧ i < 0x1604) ∨ (0x1A00 ≤ i ∧ i < 0x1A08)) then topSub i
  else
    let v := if i < 0x2100 then s.valueLow i sub else if i < 0x2400 then s.valueField i sub else if i < 0x2500 then s.valuePower i sub
             else if i < 0x2800 then s.valueSched i sub else s.valueHigh i sub
    v.getD (s.setting i sub)

/-- The bytes of an object: a DOMAIN whole, any other little-endian in its type's size (R328, R330). -/
def State.objBytes (s : State) (i sub : Nat) : List Byte :=
  if i = 0x2120 then s.repairList
  else if i = 0x2940 then s.faultLog
  else match objRow i sub with
    | some r => toBytes r.size (s.objValue i sub)
    | none => []

/-- What a read returns: an object whose write has been applied and not yet answered still reads as before (R354). -/
def State.readBytes (s : State) (i sub : Nat) : List Byte :=
  match (s.fw.wq.flatMap (fun (r : WriteReq) => r.old)).find? (fun (e : Nat × Nat × List Byte) => decide (e.1 = i) && decide (e.2.1 = sub)) with
  | some e => e.2.2
  | none => s.objBytes i sub

end Sys2Proof.Machine
end

