-- ==== Sys2Proof/Machine/ObjWrite.lean ====
section
/-! DEFINITION. Dictionary writes: the rules of each object at order 8 of R351 and what an accepted write does (R46, R55, R270, R286, R291, R327, R341, R364, R367,
R372, R380 to R388, R407, R419, R438, R481). -/

namespace Sys2Proof.Machine

/-! ### Rules at order 8 (R351, R352) -/

/-- The abort code of a refusal at order 8 (R352). -/
def abortOf (cause : Nat) : Nat :=
  if cause = 0x3120 ∨ cause = 0x3121 ∨ cause = 0x5207 then 0x08000022
  else if cause = 0x3101 ∨ cause = 0x5202 ∨ cause = 0x5204 then 0x06090030
  else if cause = 0x5203 ∨ cause = 0x5205 ∨ cause = 0x5220 then 0x06040043
  else if cause = 0x5201 then 0x08000020
  else 0x08000000

/-- An enabled partition's graph is not IDLE. -/
def State.anyGraph (s : State) : Bool := (upTo 16).any (fun p => (s.part p).enabled && decide ((s.part p).graph ≠ .idle))

/-- A repair entry is valid (R40). -/
def entryValid (v : Nat) : Bool :=
  decide (bits v 31 23 = 0) && decide (bits v 15 14 = 0) && decide (bits v 7 6 = 0) && decide (bits v 22 16 < 72) && decide (bits v 13 8 < 40) &&
    decide (bits v 5 0 < 33)
/-- The position of an entry is in the fuse map or the runtime list. -/
def State.repairKnown (s : State) (v : Nat) : Bool :=
  decide (Config.fuseCol (bits v 22 16) (bits v 13 8) % 64 = bits v 5 0) || s.flash.list.contains (BitVec.ofNat 32 v)

/-- PARTITION_RECT (R55, R424, R466): the cause of the first check that fails, 0 if none. -/
def State.rectRule (s : State) (q v : Nat) : Nat :=
  let en := bit v 31
  let fields := rectFields (BitVec.ofNat 32 v)
  let shape := decide (8 < bits v 23 20) || decide (7 < bits v 19 16) || decide (8 < bits v 15 12) || decide (7 < bits v 11 8) ||
    decide (bits v 15 12 < bits v 23 20) || decide (bits v 11 8 < bits v 19 16) || decide (bits v 30 24 ≠ 0) || decide (bits v 7 0 ≠ 0)
  if shape then 0x5204
  else if en && (upTo 16).any (fun p => decide (p ≠ q) && (s.part p).enabled && fields.any (fun f => rectHas (s.part p).rect f)) then 0x5205
  else if en && fields.any (fun f => decide ((s.field f).clk.repair = .degraded)) then 0x5203
  else if (s.part q).enabled && decide ((s.part q).graph ≠ .idle) then 0x3121
  else if !en then 0
  else match s.sd.step with
    | .failed _ cause => cause
    | _ => if s.sd.tripLatched then 0x5292 else 0

/-- PART_JOB (R270). -/
def State.jobRule (s : State) (q v : Nat) : Nat :=
  if (s.part q).graph ≠ .idle then 0x3121
  else if v ≠ 0 ∧ (upTo 16).any (fun p => decide (p ≠ q) && (s.part p).enabled && decide ((s.part p).job = v)) then 0x5220
  else 0

/-- Objects whose writes take added time, which no RPDO may map (R367, R368). -/
def slowObject (r : ObjRow) (i sub : Nat) : Bool :=
  r.stored || decide (i < 0x2000) || decide (i = 0x2003) || decide (i = 0x2210) || (decide (i = 0x2800) && decide (sub = 1)) ||
    (decide (i = 0x2110) && [3, 4, 6, 7].contains sub)

/-- A mapping entry names an object its PDO may map, with the size of its type in bits (R341, R367; log entry 46). -/
def mappable (rpdo : Bool) (v : Nat) : Bool :=
  match objRow (bits v 31 16) (bits v 15 8) with
  | none => false
  | some r =>
    decide (1 ≤ r.size) && decide (r.size ≤ 8) && decide (bits v 7 0 = 8 * r.size) &&
      (if rpdo then decide (r.acc = .rw) && bit r.roles 0 && !slowObject r (bits v 31 16) (bits v 15 8) else decide (r.acc ≠ .wo))

/-- Writes of mapping objects: abort code, or 0 (R341). -/
def State.mapRule (s : State) (i sub v : Nat) : Nat :=
  if sub ≠ 0 then
    (if s.setting i 0 ≠ 0 then 0x08000022
     else if v ≠ 0 ∧ !mappable (decide (i < 0x1800)) v then 0x06040041
     else 0)
  else if !bit (s.setting (i - 0x200) 1) 31 then 0x08000022
  else if 512 < (upTo v).foldl (fun a k => a + bits (s.setting i (k + 1)) 7 0) 0 then 0x06040042
  else 0

/-- A mapping object (R341). -/
def isMapping (i : Nat) : Bool := (decide (0x1600 ≤ i) && decide (i < 0x1604)) || (decide (0x1A00 ≤ i) && decide (i < 0x1A08))

/-- Rules of the objects' own chapters, by cause; 0 where the write stands. -/
def State.ownRule (s : State) (i sub v : Nat) : Nat :=
  if i = 0x2003 then (if s.anyGraph then 0x3121 else 0)
  else if i = 0x2110 ∧ sub = 3 then
    (if !entryValid v then 0x5202 else if !s.repairKnown v ∧ 256 ≤ s.flash.list.length then 0x5201 else 0)
  else if i = 0x2110 ∧ sub = 4 then (if s.flash.list.contains (BitVec.ofNat 32 v) then 0 else 0x5202)
  else if i = 0x2110 ∧ sub = 7 then
    (if 71 < v ∨ (s.partOf v).isSome ∨ s.sd.button.state = 1 ∨ s.sd.button.state = 2 then 0x5207 else 0)
  else if i = 0x2210 then s.rectRule (sub - 1) v
  else if i = 0x2601 ∧ sub = 1 then
    (if (upTo 16).any (fun p => decide ((s.part p).job ≠ 0) && decide ((s.part p).graph ≠ .idle)) then 0x3121 else 0)
  else if i = 0x2602 then s.jobRule (sub - 1) v
  else if i = 0x2700 then (if (upTo 4).any (fun p => decide (v < 6 * cplUpper (s.port p).cplRange)) then 0x3101 else 0)
  else if i = 0x2800 then (if s.anyGraph then 0x3121 else 0)
  else if i = 0x2B02 then (if s.sd.button.state = 2 then 0 else 0x5260)
  else 0

/-- Order 8: abort code and cause of a refusal, or none (R351). -/
def State.rule8 (s : State) (i sub v : Nat) : Option (Nat × Nat) :=
  if isMapping i then
    let a := s.mapRule i sub v
    if a = 0 then none else some (a, 0x5239)
  else
    let c := s.ownRule i sub v
    if c = 0 then none else some (abortOf c, c)

/-! ### What an accepted write does -/

/-- A setting is written, into flash too where it is stored (R339, R364). -/
def State.putSetting (s : State) (i sub v : Nat) : State :=
  let stored := decide (i < 0x2000) || (match objRow i sub with | some r => r.stored | none => false)
  let s1 := s.setDict i sub v
  if stored then { s1 with flash := s1.flash.writeObjs (Tab.insert s1.flash.stored (objKey i sub) v) } else s1

/-- The key in service flash under which a RESTORE_COMM waits for the next reset communication (R339). -/
def restoreKey : Nat := objKey 0x1011 1

/-- HB_CONSUMER of an entry is written: its consumer begins anew, with no timeout standing (R344, R345). -/
def State.armConsumer (s : State) (k : Nat) : State :=
  { s with can := { s.can with hbSeen := Tab.erase s.can.hbSeen k, hbOut := s.can.hbOut.filter (fun x => !decide (x = k)) } }

/-- Every UP port trains again (R291, R372). -/
def State.retrainUp (s : State) : State := (upTo 12).foldl (fun s p => if (s.sl p).state = .up then s.portTrain p else s) s

/-- PORT_CTRL is written: EN 1 starts training of a port that is OFF or DOWN, EN 0 takes it OFF (R262). -/
def State.setPortCtrl (s : State) (p v : Nat) : State :=
  let s1 := s.putSetting 0x2600 (p + 1) v
  if s.rd.state ≠ .on then s1
  else if bit v 0 then (if (s1.sl p).state = .off ∨ (s1.sl p).state = .down then s1.portTrain p else s1)
  else s1.portOff p

/-- The RD takes up ENGINE_ID and TIME_MASTER: a change of its engine ID retrains every UP port, and the sync state follows (R286, R291). A write applied again after a
takeover finds its value there already (R358). -/
def State.takeIds (s : State) : State :=
  let v := s.setting 0x2601 1
  let s1 := s.modRd (fun r => { r with ownId := v, master := s.setting 0x2601 2 })
  if s.rd.state ≠ .on then s
  else if s.rd.ownId = v then s1.syncRefresh
  else s1.retrainUp.syncRefresh

/-- REPAIR_ADD: a known position stores nothing (R46). -/
def State.repairAdd (s : State) (v : Nat) : State :=
  if s.repairKnown v then s else { s with flash := s.flash.writeRepair (s.flash.list ++ [BitVec.ofNat 32 v]) }
/-- REPAIR_REMOVE (R45). -/
def State.repairRemove (s : State) (v : Nat) : State :=
  { s with flash := s.flash.writeRepair (s.flash.list.filter (fun e => !decide (e = BitVec.ofNat 32 v))) }

/-- FIELD_RESTART: the field's CD runs a full start while its MD is ON; with no start to wait for it has failed (R419, R420, R466). -/
def State.fieldRestart (s : State) (f : Nat) : State :=
  if s.startBlocked ∨ s.startFailed ∧ (s.field f).clk.md ≠ .on then s
  else if (s.field f).clk.md = .on then ((s.cdOff f).modClk f (fun k => { k with restart := true })).cdStart f
  else if (s.field f).clk.md = .starting then s.modClk f (fun k => { k with restart := true })
  else s

/-- DET_MODE: the bit and the DET of every core of an ON domain (R481). -/
def State.setDet (s : State) (b : Bool) : State :=
  let put (e : Nat × Core) : Nat × Core := if (s.field (fieldOf e.1)).clk.cd = .on then (e.1, { e.2 with csr := { e.2.csr with det := b } }) else e
  { s with detMode := b, cores := s.cores.map put }

/-- The objects that RESTORE_SEFIEZ restores: stored, of 0x2000 to 0x5FFF, and written by requests (R372). -/
def restoreKeys : List (Nat × Nat) :=
  (objTable.filter (fun r => r.stored && decide (r.acc = .rw) && decide (0x2000 ≤ r.ilo))).flatMap (fun r => (upTo (r.shi + 1 - r.slo)).map (fun k => (r.ilo, r.slo + k)))

/-- RESTORE_SEFIEZ: every stored object of 0x2000 to 0x5FFF that may be written returns to its Default (R372). -/
def State.restoreSefiez (s : State) : State :=
  let s1 := restoreKeys.foldl (fun (s : State) (e : Nat × Nat) =>
    let s1 := s.clearDict e.1 e.2
    { s1 with flash := s1.flash.writeObjs (Tab.erase s1.flash.stored (objKey e.1 e.2)) }) s
  let s2 := s1.takeIds
  if s.rd.state = .on then
    (upTo 12).foldl (fun s p => if bit (s.portCtrl p) 0 ∧ (s.sl p).state = .off then s.portTrain p else s) s2
  else s2

/-- FAULT_LOG_CLEAR (R384, R494). -/
def State.clearFaultLog (s : State) : State := { s with faultCount := 0, fw := { s.fw with log := [], writeCount := 0 }, wh := { s.wh with changed := true } }

/-- BUTTON_OVERRIDE: state 3, and the start of a long press (R388, R407). -/
def State.buttonOverride (s : State) (r : FlashRead) : State :=
  (s.modSd (fun d => { d with button := { state := 3, since := 0 } })).pressEnd true r

/-- DRYWELL_WINDOW: the running window starts again (R380). -/
def State.setDryWindow (s : State) (q v : Nat) : State :=
  (s.setDict 0x2580 (q + 1) v).modPart q (fun x => { x with det := { x.det with last := s.tstamp } })

/-- TRACE_CTRL is written; bit 1 newly set makes the running interval partial (R526). -/
def State.setTraceCtrl (s : State) (q v : Nat) : State :=
  let new := bit v 1 && !bit (s.setting 0x2A00 (q + 1)) 1
  let s1 := s.setDict 0x2A00 (q + 1) v
  if new then s1.setTraceDest q { s1.traceDest q with newBit := true } else s1

/-- The objects that the write of an object changes: itself, what RESTORE_SEFIEZ restores, and the runtime list's (R354, R372, R373). -/
def affected (i sub : Nat) : List (Nat × Nat) :=
  if i = 0x2003 then restoreKeys else if i = 0x2110 ∧ (sub = 3 ∨ sub = 4) then [(0x2110, 2), (0x2120, 0)] else [(i, sub)]

/-- An accepted write takes effect. `r` is what service flash returns where the write rebuilds the map (R42). -/
def State.applyWrite (s : State) (r : FlashRead) (i sub v : Nat) : State :=
  if i = 0x1003 then { s with can := { s.can with history := [] } }
  else if i = 0x1011 then { s with flash := s.flash.writeObjs (Tab.insert s.flash.stored restoreKey v) }
  else if i = 0x1016 then (s.putSetting i sub v).armConsumer (sub - 1)
  else if i = 0x2003 then s.restoreSefiez
  else if i = 0x2110 ∧ sub = 3 then s.repairAdd v
  else if i = 0x2110 ∧ sub = 4 then s.repairRemove v
  else if i = 0x2110 ∧ sub = 6 then s.rebuildMap r
  else if i = 0x2110 ∧ sub = 7 then s.fieldRestart v
  else if i = 0x2210 then s.setRect (sub - 1) v
  else if i = 0x2302 ∨ i = 0x2303 then (s.setDict i sub v).askPart (sub - 1)
  else if i = 0x2580 then s.setDryWindow (sub - 1) v
  else if i = 0x2600 then s.setPortCtrl (sub - 1) v
  else if i = 0x2601 ∧ sub = 1 then (s.putSetting i sub v).takeIds
  else if i = 0x2601 ∧ sub = 2 then (s.putSetting i sub v).takeIds
  else if i = 0x2602 then s.modPart (sub - 1) (fun x => { x with job := v })
  else if i = 0x2800 then s.setDet (decide (v ≠ 0))
  else if i = 0x2941 then s.clearFaultLog
  else if i = 0x2B02 then s.buttonOverride r
  else if i = 0x2A00 then s.setTraceCtrl (sub - 1) v
  else s.putSetting i sub v

end Sys2Proof.Machine
end

