-- ==== Sys2Proof/Machine/Dictionary.lean ====
section
/-! DEFINITION. Dictionary requests: their checks, the write queue, and the answers on CAN and through the mailbox (R332, R340, R347 to R360). -/

namespace Sys2Proof.Machine

/-! ### Requests -/

/-- A request as it is checked: who made it, with what rights, its upper header word and SEQ, the object, OFFSET and LEN, its data, and the cause that order 1 finds. -/
structure DictReq where
  who   : Requester
  role  : Role
  write : Bool
  head  : Nat
  seq   : Nat
  index : Nat
  sub   : Nat
  off   : Nat
  len   : Nat
  data  : List Byte
  bad   : Nat
deriving DecidableEq, Repr

/-- The upper half of a header naming an operation and an object (R348). -/
def headWord (op i sub : Nat) : Nat := op <<< 24 + sub <<< 16 + i

/-- The request in a mailbox channel; a PART without the tenant role is a reserved bit set (R348, R351; log entry 27). -/
def Port.mbReq (x : Port) (p c : Nat) : DictReq :=
  let m := (x.chan c).req
  let w0 := Memory.value m 0 8
  let w1 := Memory.value m 8 8
  let op := bits w0 63 56
  let role := bits w0 31 30
  { who := .mailbox p c, role := if role = 2 then .operator else if role = 1 then .tenant (bits w0 27 24) else .host, write := decide (op = 2),
    head := bits w0 63 32, seq := bits w0 15 0, index := bits w0 47 32, sub := bits w0 55 48, off := bits w1 63 32, len := bits w1 15 0,
    data := Memory.bytes m 16 (min (bits w1 15 0) 256),
    bad := if bits w0 29 28 ≠ 0 ∨ bits w0 23 16 ≠ 0 ∨ bits w1 31 16 ≠ 0 ∨ (role ≠ 1 ∧ bits w0 27 24 ≠ 0) then 0x3010
           else if (op ≠ 1 ∧ op ≠ 2) ∨ role = 3 ∨ 256 < bits w1 15 0 then 0x5233 else 0 }

/-- The request of a complete USDO transfer (R340). -/
def Usdo.req (u : Usdo) : DictReq :=
  { who := .can, role := .operator, write := u.download, head := headWord (if u.download then 2 else 1) u.index u.sub, seq := 0, index := u.index, sub := u.sub,
    off := 0, len := u.data.length, data := u.data, bad := 0 }

/-- A request that waits to be checked: a BUSY channel, or a complete USDO transfer, that has no write in the queue. -/
def State.request (s : State) (who : Requester) : Option DictReq :=
  if s.fw.wq.any (fun (r : WriteReq) => decide (r.who = who)) then none
  else match who with
    | .mailbox p c => if p < 4 ∧ c < 4 ∧ ((s.port p).chan c).state = 1 then some ((s.port p).mbReq p c) else none
    | .can => (match s.fw.usdo with
        | some u => if u.done then some u.req else none
        | none => none)
    | _ => none

/-- The active Wellhead serves requests (R14, R423). -/
def State.serving (s : State) : Bool := s.sd.operational && !s.frozen

/-! ### Checks (R332, R333, R350, R351, R359) -/

/-- A role as its bit of a role set. -/
def Role.mask (r : Role) : Nat :=
  match r with
  | .operator => 1 | .host => 2 | .tenant _ => 4

/-- An index is visible to a role: a tenant sees those with an object in its role set (R359). -/
def indexVisible (r : Role) (i : Nat) : Bool :=
  match r with
  | .tenant _ => objTable.any (fun x => decide (x.ilo ≤ i) && decide (i ≤ x.ihi) && decide (x.roles &&& 4 = 4))
  | _ => true
/-- An object is visible to a role: a tenant sees its own partition's and its own fields' subindices (R359). -/
def State.objVisible (s : State) (r : Role) (o : ObjRow) (i sub : Nat) : Bool :=
  match r with
  | .tenant p =>
    decide (o.roles &&& 4 = 4) && (sub == 0 || !perPart i || sub == p + 1) && (sub == 0 || !perField i || decide (s.partOf (sub - 1) = some p))
  | _ => true

/-- Order 7: the abort code of a value outside an object's ranges (R351, R363). -/
def rangeAbort (l : List (Nat × Nat)) (v : Nat) : Nat :=
  if l.isEmpty ∨ l.any (fun e => decide (e.1 ≤ v) && decide (v ≤ e.2)) then 0
  else if l.all (fun e => decide (e.2 < v)) then 0x06090031
  else if l.all (fun e => decide (v < e.1)) then 0x06090032
  else 0x06090030

/-- A write of values is carried out one after another; the first that its object's rule refuses ends it: abort and cause, index and subindex (R343, R354). -/
def State.tryItems (s : State) (flash : FlashRead) (items : List (Nat × Nat × List Byte)) : State ⊕ (Nat × Nat × Nat × Nat) :=
  match items with
  | [] => .inl s
  | (i, sub, b) :: r =>
    match s.rule8 i sub (ofBytes b) with
    | some (a, c) => .inr (a, c, i, sub)
    | none => State.tryItems (s.applyWrite flash i sub (ofBytes b)) flash r

/-- The state the writes queued would leave, which a further write is checked against (R354). -/
def State.afterQueue (s : State) : State :=
  s.fw.wq.foldl (fun (t : State) (r : WriteReq) =>
    if r.answer.isSome || r.void then t
    else match t.tryItems FlashRead.asWritten r.items with
      | .inl u => u
      | .inr _ => t) s

/-- Orders 3 to 6 (R351). -/
def State.checkObject (s : State) (q : DictReq) : Option (Nat × Nat) :=
  if !indexExists q.index ∨ !indexVisible q.role q.index then some (0x06020000, 0x5232)
  else match objRow q.index q.sub with
    | none => some (0x06090011, 0x5232)
    | some o =>
      let mailbox := match q.who with | .mailbox _ _ => true | _ => false
      let rights := decide (o.roles &&& q.role.mask ≠ 0) && !(q.index == 0x2001 && q.sub == 1 && mailbox)
      if !s.objVisible q.role o q.index q.sub then some (0x06090011, 0x5232)
      else if !q.write ∧ o.acc = .wo then some (0x06010001, 0x5231)
      else if q.write ∧ (o.acc = .ro ∨ o.acc = .const ∨ !rights) then some (0x06010002, 0x5231)
      else
        let fixed := decide (o.size ≠ 0)
        let size := if fixed then o.size else (s.objBytes q.index q.sub).length
        let fits := if q.write then decide (q.len = size) && decide (q.off = 0) else decide (q.len = 0) && (if fixed then decide (q.off = 0) else decide (q.off ≤ size))
        if fits then none else some (0x06070010, 0x5234)

/-- The checks of a request, in their order: abort code and cause of the first that fails (R351). -/
def State.dictCheck (s : State) (q : DictReq) : Option (Nat × Nat) :=
  let mailbox := match q.who with | .mailbox _ _ => true | _ => false
  let role2 := match q.role with
    | .operator => mailbox && decide (s.setting 0x2001 1 = 0)
    | .tenant p => !(s.part p).enabled
    | .host => false
  if q.bad ≠ 0 then some (0x05040001, q.bad)
  else if role2 then some (0x06010000, 0x5236)
  else match s.checkObject q with
    | some e => some e
    | none =>
      if !q.write then none
      else
        let v := ofBytes q.data
        let a := match objRow q.index q.sub with | some o => rangeAbort o.range v | none => 0
        if a ≠ 0 then some (a, 0x5230)
        else match s.afterQueue.rule8 q.index q.sub v with
          | some e => some e
          | none => if 32 ≤ s.fw.wq.length then some (0x08000000, 0x5237) else none

/-! ### Answers (R340, R348, R353, R355) -/

/-- LAST_REFUSAL's subindex of a requester (R353). -/
def Requester.refusalSub (w : Requester) : Option Nat :=
  match w with
  | .can => some 1
  | .rpdo => some 1
  | .mailbox p c => some (2 + 4 * p + c)
  | .gone => none

/-- Records a refusal (R353). -/
def State.noteRefusal (s : State) (who : Requester) (cause i sub : Nat) (tko : Bool) : State :=
  match who.refusalSub with
  | some n =>
    { s with fw := { s.fw with refusals := Tab.write s.fw.refusals 0 n (cause <<< 48 + i <<< 32 + sub <<< 24 + b2n tko <<< 23) }, wh := { s.wh with changed := true } }
  | none => s

/-- CAN services that run in Pre-operational and Operational (R337). -/
def State.canUsdo (s : State) : Bool := s.serving && s.sd.refclkOk && decide (s.sd.nodeId ≠ 0) && (decide (s.can.nmt = .preop) || decide (s.can.nmt = .oper))

/-- A USDO frame to the client: a code, the object and what the code carries; the layout of USDO frames is the model's (R336; log entry 47). -/
def State.usdoSend (s : State) (code i sub : Nat) (data : List Byte) : State :=
  if s.canUsdo then s.canSend (0x580 + s.sd.nodeId) (toBytes 1 code ++ toBytes 2 i ++ toBytes 1 sub ++ data) else s

/-- The open transfer closes. -/
def State.usdoClose (s : State) : State := { s with fw := { s.fw with usdo := none } }

/-- Changes the CAN services' state. -/
def State.modCan (s : State) (g : Can → Can) : State := { s with can := g s.can }

/-- An EMCY message joins the queue of 32 and the history of 16, newest first; one for which there is no room is dropped and counted (R346). -/
def State.emcy (s : State) (e : Emcy) : State :=
  s.modCan (fun c =>
    let h := ((e.cause <<< 16 + e.code) :: c.history).take 16
    if c.emcy.length < 32 then { c with emcy := c.emcy ++ [e], history := h } else { c with dropped := (c.dropped + 1) % 2 ^ 32, history := h })

/-- An EMCY of the engine's own scope at the present TSTAMP. -/
def State.emcyNow (s : State) (code cause : Nat) : State := s.emcy { code := code, cause := cause, scope := 0, id := 0, info := 0, ts := s.tstamp }

/-- An answer leaves: a mailbox response and DONE, or a USDO response; an upload of more than 4 bytes goes on in segments (R340, R348, R349). -/
def State.respond (s : State) (who : Requester) (head seq abort cause : Nat) (tko : Bool) (data : List Byte) : State :=
  match who with
  | .mailbox p c =>
    let rsp := toBytes 8 (head <<< 32 + cause <<< 16 + seq) ++ toBytes 8 (abort <<< 32 + b2n tko <<< 16 + data.length) ++ data
    s.modPort p (fun x =>
      let y := x.chan c
      if y.state = 1 then x.setChan c { y with rsp := Memory.setBytes y.rsp 0 rsp, state := 2 } else x)
  | .can =>
    let i := head % 65536
    let sub := head / 65536 % 256
    if abort ≠ 0 then (s.usdoSend 0x80 i sub (toBytes 4 abort)).usdoClose
    else if bits head 31 24 = 2 then (s.usdoSend 0x60 i sub []).usdoClose
    else if data.length ≤ 4 then (s.usdoSend 0x42 i sub data).usdoClose
    else
      let s1 := s.usdoSend 0x41 i sub (toBytes 4 data.length)
      { s1 with fw := { s1.fw with usdo := some { download := false, index := i, sub := sub, size := data.length, data := data, at' := s.tstamp, done := false } } }
  | _ => s

/-- A request is refused: recorded, and answered without waiting for an epoch (R351, R353). -/
def State.refuse (s : State) (q : DictReq) (abort cause : Nat) : State :=
  (s.noteRefusal q.who cause q.index q.sub false).respond q.who q.head q.seq abort cause false []

/-- A write is accepted: it enters the queue, to be recorded in the next epoch (R354, R355). -/
def State.enqueue (s : State) (who : Requester) (role : Role) (seq : Nat) (items : List (Nat × Nat × List Byte)) : State :=
  let n := s.fw.accepted + 1
  let r : WriteReq := { who := who, role := role, seq := seq, items := items, step := .queued, answer := none, tko := false, old := [], id := n, refused := none, void := false }
  { s with fw := { s.fw with wq := s.fw.wq ++ [r], accepted := n }, wh := { s.wh with changed := true } }

/-- The request of a requester is checked as a write to an object of the class, and refused or queued (R351, R354). -/
def State.submit (s : State) (who : Requester) (cls : Nat → Nat → Nat → Bool) : State :=
  if !s.serving then s
  else match s.request who with
    | none => s
    | some q =>
      if !q.write ∨ !cls q.index q.sub (ofBytes q.data) then s
      else match s.dictCheck q with
        | some (a, c) => s.refuse q a c
        | none => s.enqueue q.who q.role q.seq [(q.index, q.sub, q.data)]

/-- Replaces the oldest write of the queue. -/
def State.setHead (s : State) (r : WriteReq) : State := { s with fw := { s.fw with wq := r :: s.fw.wq.drop 1 }, wh := { s.wh with changed := true } }

/-- The oldest write, committed, is checked again and applied or refused; its outcome goes into the next epoch (R355, R366). -/
def State.applyHead (s : State) (flash : FlashRead) (sel : List (Nat × Nat × List Byte) → Bool) : State :=
  match s.fw.wq with
  | [] => s
  | r :: _ =>
    if !s.serving ∨ r.step ≠ .committed ∨ r.answer.isSome ∨ !sel r.items then s
    else
      let gone := r.void || (match r.role with | .tenant p => !(s.part p).enabled | _ => false)
      if gone then s.setHead { r with answer := some (0x06010000, 0x5236), step := .outcome (s.wh.epoch + 1) }
      else match s.tryItems flash r.items with
        | .inl t =>
          let old := (r.items.flatMap (fun (e : Nat × Nat × List Byte) => affected e.1 e.2.1)).map (fun (e : Nat × Nat) => (e.1, e.2, s.objBytes e.1 e.2))
          t.setHead { r with answer := some (0, 0), step := .outcome (s.wh.epoch + 1), old := if r.old.isEmpty then old else r.old }
        | .inr (a, c, i, sub) => s.setHead { r with answer := some (a, c), step := .outcome (s.wh.epoch + 1), refused := some (i, sub) }

/-! ### Objects with a row of their own -/

/-- Objects whose writes are rows of the table: index and subindex, and the value of PORT_CTRL. -/
inductive OwnRow where
  | repairAdd | repairRemove | repairReload | fieldRestart | rect | job | engineId | timeMaster | powerCap | detMode | cmdTimeout
  | dryWindow | restoreSefiez | restoreComm | override | logClear | historyClear | portEnable | portDisable
deriving DecidableEq, Repr

/-- The row that a write of an object belongs to. -/
def ownRow (i sub v : Nat) : Option OwnRow :=
  if i = 0x2110 then (if sub = 3 then some .repairAdd else if sub = 4 then some .repairRemove else if sub = 6 then some .repairReload
    else if sub = 7 then some .fieldRestart else none)
  else if i = 0x2210 then some .rect
  else if i = 0x2602 then some .job
  else if i = 0x2601 then (if sub = 1 then some .engineId else if sub = 2 then some .timeMaster else none)
  else if i = 0x2400 ∧ sub = 1 then some .powerCap
  else if i = 0x2800 ∧ sub = 1 then some .detMode
  else if i = 0x2700 ∧ sub = 1 then some .cmdTimeout
  else if i = 0x2580 then some .dryWindow
  else if i = 0x2003 then some .restoreSefiez
  else if i = 0x1011 then some .restoreComm
  else if i = 0x2B02 ∧ sub = 2 then some .override
  else if i = 0x2941 then some .logClear
  else if i = 0x1003 ∧ sub = 0 then some .historyClear
  else if i = 0x2600 then (if bit v 0 then some .portEnable else some .portDisable)
  else none

/-- A single write of a row's object. -/
def selOwn (o : OwnRow) (items : List (Nat × Nat × List Byte)) : Bool :=
  match items with
  | [(i, sub, b)] => decide (ownRow i sub (ofBytes b) = some o)
  | _ => false

/-- A row that writes an object of its own: the requester's write is checked and queued, or the oldest write, committed, is applied (R354, R355). -/
def State.ownWrite (s : State) (o : OwnRow) (apply : Bool) (who : Requester) (flash : FlashRead) : State :=
  if apply then s.applyHead flash (selOwn o) else s.submit who (fun i sub v => decide (ownRow i sub v = some o))

/-- A requester that exists: CAN, or a mailbox channel of a port. -/
def onWho (who : Requester) (s : State) (g : State → State) : Out :=
  match who with
  | .mailbox p c => if p < 4 ∧ c < 4 then .next (g s) else .fault .noSuchUnit
  | _ => .next (g s)

/-! ### The rows (R46, R55, R262, R270, R286, R291, R327, R339, R346, R372, R380 to R388, R407, R419, R438, R481) -/

/-- REPAIR_ADD (R46). -/
def execRepairAdd (apply : Bool) (who : Requester) (s : State) : Out := onWho who s (fun s => s.ownWrite .repairAdd apply who .asWritten)
/-- REPAIR_REMOVE (R46). -/
def execRepairRemove (apply : Bool) (who : Requester) (s : State) : Out := onWho who s (fun s => s.ownWrite .repairRemove apply who .asWritten)
/-- REPAIR_RELOAD: `flash` is what service flash returns of the runtime list (R42). -/
def execRepairReload (apply : Bool) (who : Requester) (flash : FlashRead) (s : State) : Out := onWho who s (fun s => s.ownWrite .repairReload apply who flash)
/-- FIELD_RESTART (R419). -/
def execFieldRestart (apply : Bool) (who : Requester) (s : State) : Out := onWho who s (fun s => s.ownWrite .fieldRestart apply who .asWritten)
/-- PARTITION_RECT (R55). -/
def execPartitionRect (apply : Bool) (who : Requester) (s : State) : Out := onWho who s (fun s => s.ownWrite .rect apply who .asWritten)
/-- PART_JOB (R270). -/
def execPartJob (apply : Bool) (who : Requester) (s : State) : Out := onWho who s (fun s => s.ownWrite .job apply who .asWritten)
/-- ENGINE_ID (R291). -/
def execEngineId (apply : Bool) (who : Requester) (s : State) : Out := onWho who s (fun s => s.ownWrite .engineId apply who .asWritten)
/-- TIME_MASTER (R286). -/
def execTimeMaster (apply : Bool) (who : Requester) (s : State) : Out := onWho who s (fun s => s.ownWrite .timeMaster apply who .asWritten)
/-- POWER_CAP (R438). -/
def execPowerCap (apply : Bool) (who : Requester) (s : State) : Out := onWho who s (fun s => s.ownWrite .powerCap apply who .asWritten)
/-- DET_MODE (R481). -/
def execDetMode (apply : Bool) (who : Requester) (s : State) : Out := onWho who s (fun s => s.ownWrite .detMode apply who .asWritten)
/-- CMD_TIMEOUT_WRITE (R327). -/
def execCmdTimeoutWrite (apply : Bool) (who : Requester) (s : State) : Out := onWho who s (fun s => s.ownWrite .cmdTimeout apply who .asWritten)
/-- DRYWELL_WINDOW (R380). -/
def execDrywellWindow (apply : Bool) (who : Requester) (s : State) : Out := onWho who s (fun s => s.ownWrite .dryWindow apply who .asWritten)
/-- RESTORE_SEFIEZ (R372). -/
def execRestoreSefiez (apply : Bool) (who : Requester) (s : State) : Out := onWho who s (fun s => s.ownWrite .restoreSefiez apply who .asWritten)
/-- RESTORE_COMM (R339). -/
def execRestoreComm (apply : Bool) (who : Requester) (s : State) : Out := onWho who s (fun s => s.ownWrite .restoreComm apply who .asWritten)
/-- BUTTON_OVERRIDE: `flash` as for REPAIR_RELOAD (R388, R407). -/
def execButtonOverride (apply : Bool) (who : Requester) (flash : FlashRead) (s : State) : Out := onWho who s (fun s => s.ownWrite .override apply who flash)
/-- FAULT_LOG_CLEAR (R384). -/
def execFaultLogClear (apply : Bool) (who : Requester) (s : State) : Out := onWho who s (fun s => s.ownWrite .logClear apply who .asWritten)
/-- ERROR_HISTORY_CLEAR (R346). -/
def execErrorHistoryClear (apply : Bool) (who : Requester) (s : State) : Out := onWho who s (fun s => s.ownWrite .historyClear apply who .asWritten)
/-- PORT_ENABLE: PORT_CTRL written with EN 1 (R262). -/
def execPortEnable (apply : Bool) (who : Requester) (s : State) : Out := onWho who s (fun s => s.ownWrite .portEnable apply who .asWritten)
/-- PORT_DISABLE: PORT_CTRL written with EN 0 (R262). -/
def execPortDisable (apply : Bool) (who : Requester) (s : State) : Out := onWho who s (fun s => s.ownWrite .portDisable apply who .asWritten)

/-! ### The mailbox doorbell, reads and the writes of every other object -/

/-- MB_DOORBELL: submits a request, or sets OVERRUN while BUSY (R349). -/
def execMbDoorbell (p c : Nat) (s : State) : Out :=
  onPort p s (fun s =>
    let y := (s.port p).chan c
    if !s.mailUp p ∨ 4 ≤ c then s
    else if y.state = 1 then s.modPort p (fun x => x.setChan c { y with overrun := true })
    else s.modPort p (fun x => x.setChan c { y with state := 1 }))

/-- DICT_READ: a request that is no write is checked and answered at once (R351, R354). -/
def execDictRead (who : Requester) (s : State) : Out :=
  onWho who s (fun s =>
    if !s.serving then s
    else match s.request who with
      | none => s
      | some q =>
        if q.write then s
        else match s.dictCheck q with
          | some (a, c) => s.refuse q a c
          | none =>
            let all := s.readBytes q.index q.sub
            let data := match who with | .mailbox _ _ => (all.drop q.off).take 256 | _ => all
            s.respond who q.head q.seq 0 0 false data)

/-- DICT_WRITE: a write to an object with no row of its own is checked and queued (R354). -/
def execDictWrite (who : Requester) (s : State) : Out := onWho who s (fun s => s.submit who (fun i sub v => (ownRow i sub v).isNone))

/-- DICT_WRITE_APPLY: the oldest write, committed, of an object with no row of its own, or of several objects, is checked again and applied (R355). -/
def execDictWriteApply (s : State) : Out :=
  .next (s.applyHead .asWritten (fun items => match items with | [(i, sub, b)] => (ownRow i sub (ofBytes b)).isNone | _ => true))

/-- The oldest write must wait for a field's CD start (R368). -/
def State.waitsRestart (s : State) (r : WriteReq) : Bool :=
  r.items.any (fun (e : Nat × Nat × List Byte) =>
    let f := ofBytes e.2.2
    decide (e.1 = 0x2110) && decide (e.2.1 = 7) && decide (r.answer = some (0, 0)) && ((s.field f).clk.restart || decide ((s.field f).clk.cd = .starting)))

/-- DICT_WRITE_ANSWER: the oldest write, its outcome committed, is answered and leaves the queue; the refusal of an RPDO sends an EMCY in place of an answer (R343, R355,
R368). -/
def execDictWriteAnswer (s : State) : Out :=
  .next (match s.fw.wq with
    | [] => s
    | r :: rest =>
      match r.answer with
      | none => s
      | some (a, c) =>
        if !s.serving ∨ r.step ≠ .settled ∨ s.waitsRestart r then s
        else
          let e := r.items.headD (0, 0, [])
          let f := r.refused.getD (e.1, e.2.1)
          let s1 := { s with fw := { s.fw with wq := rest }, wh := { s.wh with changed := true, answered := r.id } }
          let s2 := if a = 0 then s1 else s1.noteRefusal r.who c f.1 f.2 r.tko
          let s3 := if a ≠ 0 ∧ r.who = .rpdo then s2.emcyNow 0xFF00 c else s2
          s3.respond r.who (headWord 2 e.1 e.2.1) r.seq a c r.tko [])

end Sys2Proof.Machine
end

