-- ==== Sys2Proof/Machine/Can.lean ====
section
/-! DEFINITION. The CAN services: USDO transfers, NMT, heartbeats, EMCY and PDOs (R334 to R346). -/

namespace Sys2Proof.Machine

/-! ### USDO (R340) -/

/-- A USDO transfer is aborted: the abort goes to the client, the refusal is recorded, and an accepted write of it goes on unanswered (R340, R353). -/
def State.usdoAbort (s : State) (u : Usdo) (abort cause : Nat) : State :=
  ((s.usdoSend 0x80 u.index u.sub (toBytes 4 abort)).noteRefusal .can cause u.index u.sub false).usdoClose.leaveQueue (fun w => decide (w = .can))

/-- An initiate aborts the transfer that is open and opens its own (R340). -/
def State.usdoOpen (s : State) (u : Usdo) : State :=
  let s1 := match s.fw.usdo with
    | some v => s.usdoAbort v 0x08000000 0x5237
    | none => s
  { s1 with fw := { s1.fw with usdo := some u }, wh := { s1.wh with changed := true } }

/-- USDO_INITIATE_DOWNLOAD: up to 4 bytes come with it and complete the request; a longer transfer is gathered from segments (R340). -/
def execUsdoInitiateDownload (index sub size : Nat) (data : List Byte) (s : State) : Out :=
  .next (if !s.canUsdo then s
  else
    let short := decide (size ≤ 4)
    s.usdoOpen { download := true, index := index % 65536, sub := sub % 256, size := size, data := if short then data.take size else [], at' := s.tstamp, done := short })

/-- USDO_INITIATE_UPLOAD: the request is complete (R340). -/
def execUsdoInitiateUpload (index sub : Nat) (s : State) : Out :=
  .next (if !s.canUsdo then s
  else s.usdoOpen { download := false, index := index % 65536, sub := sub % 256, size := 0, data := [], at' := s.tstamp, done := true })

/-- USDO_SEGMENT: a download takes the segment's data, the last one completing the request; an upload sends its next bytes, up to 56 (log entry 47). With no such
transfer open it is an invalid command (R340, R351). -/
def execUsdoSegment (data : List Byte) (last : Bool) (s : State) : Out :=
  .next (if !s.canUsdo then s
  else match s.fw.usdo with
    | none => (s.usdoSend 0x80 0 0 (toBytes 4 0x05040001)).noteRefusal .can 0x5233 0 0 false
    | some u =>
      if u.done then s.usdoAbort u 0x05040001 0x5233
      else if u.download then
        { s with fw := { s.fw with usdo := some { u with data := u.data ++ data, at' := s.tstamp, done := last } }, wh := { s.wh with changed := true } }
      else
        let s1 := s.usdoSend (if u.data.length ≤ 56 then 0x52 else 0x51) u.index u.sub (u.data.take 56)
        if u.data.length ≤ 56 then s1.usdoClose
        else { s1 with fw := { s1.fw with usdo := some { u with data := u.data.drop 56, at' := s.tstamp } } })

/-- DICT_SEG_TIMEOUT: the next segment of an open transfer has not arrived in time (R340). -/
def execDictSegTimeout (s : State) : Out :=
  .next (match s.fw.usdo with
    | none => s
    | some u => if !u.done ∧ s.serving ∧ u.at' + 100000 * s.setting 0x2001 2 ≤ s.tstamp then s.usdoAbort u 0x05040000 0x5238 else s)

/-! ### NMT (R337 to R339) -/

/-- The NMT slave takes commands (R336, R337). -/
def State.nmtOn (s : State) : Bool := s.serving && s.sd.refclkOk && decide (s.sd.nodeId ≠ 0) && decide (s.can.nmt ≠ .init)

/-- An NMT command puts the engine into a state. -/
def State.nmtGo (s : State) (n : Nmt) : State := if s.nmtOn then s.modCan (fun c => { c with nmt := n }) else s

/-- NMT_START (R337). -/
def execNmtStart (s : State) : Out := .next (s.nmtGo .oper)
/-- NMT_STOP (R337). -/
def execNmtStop (s : State) : Out := .next (s.nmtGo .stopped)
/-- NMT_ENTER_PRE_OPERATIONAL (R337). -/
def execNmtEnterPreOperational (s : State) : Out := .next (s.nmtGo .preop)

/-- The communication objects are at their stored values; a RESTORE_COMM that waits puts their defaults there first (R338, R339). -/
def State.reloadComm (s : State) : State :=
  let low (e : Nat × Nat) : Bool := decide (e.1 < 0x2000 * 256)
  let objs := if Tab.read s.flash.stored 0 restoreKey ≠ 0 then s.flash.stored.filter (fun e => !low e) else s.flash.stored
  { s with flash := s.flash.writeObjs objs,
           fw := { s.fw with dict := objs.filter low ++ s.fw.dict.filter (fun e => !low e) }, wh := { s.wh with changed := true } }

/-- Reset communication: CAN state machines and their counters at their start, but not the objects 0x2000.03 and 0x2000.04, the open transfer gone, 0x1000 to 0x1FFF reloaded; through Initialisation to the boot-up
message (R337, R338). -/
def State.resetComm (s : State) : State :=
  let s1 : State := { s.usdoClose.leaveQueue (fun w => decide (w = .can)) with
    can := { Can.reset with emcy := s.can.emcy, history := s.can.history, errReg := s.can.errReg, busOff := s.can.busOff, dropped := s.can.dropped } }
  s1.reloadComm.nmtBootUp

/-- NMT_RESET_COMMUNICATION (R338). -/
def execNmtResetCommunication (s : State) : Out := .next (if s.nmtOn then s.resetComm else s)
/-- NMT_RESET_NODE: the same, the EMCY queue and ERROR_HISTORY cleared as well (R338). -/
def execNmtResetNode (s : State) : Out :=
  .next (if s.nmtOn then ({ s with can := { s.can with emcy := [], history := [] } } : State).resetComm else s)

/-! ### Heartbeats (R344) -/

/-- HEARTBEAT_SEND: every HB_PRODUCER ms (R337, R344). -/
def execHeartbeatSend (s : State) : Out :=
  .next (
    let t := s.setting 0x1017 0
    if s.nmtOn ∧ 0 < t ∧ s.can.hbLast + 100000 * t ≤ s.tstamp then
      (s.canSend (0x700 + s.sd.nodeId) (toBytes 1 s.can.nmt.code)).modCan (fun c => { c with hbLast := s.tstamp })
    else s)

/-- HEARTBEAT_RECEIVE: a node's heartbeat re-arms the consumer entries that name it; `hbSeen` keeps the TSTAMP plus one (R344; log entry 48). -/
def execHeartbeatReceive (node : Nat) (s : State) : Out :=
  .next (if !s.nmtOn then s
  else (upTo 4).foldl (fun s k =>
    let v := s.setting 0x1016 (k + 1)
    if bits v 23 16 = node ∧ bits v 15 0 ≠ 0 then
      s.modCan (fun c => { c with hbSeen := Tab.write c.hbSeen 0 k (s.tstamp + 1), hbOut := c.hbOut.filter (fun x => !decide (x = k)) })
    else s) s)

/-- CAN_HB_TIMEOUT: a consumer that has seen its node misses its time, once until the next heartbeat (R344; log entry 48). -/
def execCanHbTimeout (k : Nat) (s : State) : Out :=
  .next (
    let v := s.setting 0x1016 (k + 1)
    let seen := Tab.read s.can.hbSeen 0 k
    if s.nmtOn ∧ k < 4 ∧ bits v 15 0 ≠ 0 ∧ seen ≠ 0 ∧ seen + 100000 * bits v 15 0 ≤ s.tstamp + 1 ∧ !s.can.hbOut.contains k then
      (s.modCan (fun c => { c with hbOut := c.hbOut ++ [k] })).engineFault 0x5240 0
    else s)

/-! ### EMCY (R345, R346) -/

/-- EMCY_SEND: the oldest message leaves once the inhibit time has passed (R345, R346). -/
def execEmcySend (s : State) : Out :=
  .next (match s.can.emcy with
    | [] => s
    | e :: r =>
      let due := match s.can.emcyLast with | some t => decide (t + 10000 * s.setting 0x1015 0 ≤ s.tstamp) | none => true
      if s.canUsdo && due then
        let data := toBytes 2 e.code ++ toBytes 1 s.errorRegister ++ [0] ++ toBytes 2 e.cause ++ toBytes 1 e.scope ++ toBytes 1 e.id ++ toBytes 4 e.info ++ toBytes 8 e.ts
        (s.canSend (s.setting 0x1014 0) data).modCan (fun c => { c with emcy := r, emcyLast := some s.tstamp })
      else s)

/-- CAN_BUS_OFF: the controller recovers after 128 × 11 recessive bits (R334, R345). -/
def execCanBusOff (s : State) : Out :=
  .next (if s.serving then (s.modCan (fun c => { c with busOff := (c.busOff + 1) % 2 ^ 32 })).engineFault 0x5241 0 else s)
/-- CAN_OVERRUN (R345). -/
def execCanOverrun (s : State) : Out := .next (if s.serving then s.engineFault 0x5242 0 else s)

/-! ### PDOs (R341 to R343, R367) -/

/-- The mapped objects of a PDO: index, subindex and bytes; entries of length 0 carry nothing. -/
def State.mapping (s : State) (i : Nat) : List (Nat × Nat × Nat) :=
  ((upTo (s.setting i 0)).map (fun k => s.setting i (k + 1))).filterMap (fun v => if bits v 7 0 = 0 then none else some (bits v 31 16, bits v 15 8, bits v 7 0 / 8))

/-- Cuts received data into the mapped objects' values. -/
def cutItems (l : List (Nat × Nat × Nat)) (data : List Byte) : List (Nat × Nat × List Byte) :=
  match l with
  | [] => []
  | (i, sub, n) :: r => (i, sub, data.take n) :: cutItems r (data.drop n)

/-- The first of several writes that fails its checks, each against what those before it leave (R343, R351). -/
def State.checkItems (s : State) (items : List (Nat × Nat × List Byte)) : Option (Nat × Nat × Nat × Nat) :=
  match items with
  | [] => none
  | (i, sub, b) :: r =>
    let q : DictReq := { who := .rpdo, role := .operator, write := true, head := headWord 2 i sub, seq := 0, index := i, sub := sub, off := 0, len := b.length,
                         data := b, bad := 0 }
    let a := match objRow i sub with | some o => rangeAbort o.range (ofBytes b) | none => 0
    match s.checkObject q with
    | some (a, c) => some (a, c, i, sub)
    | none =>
      if a ≠ 0 then some (a, 0x5230, i, sub)
      else match s.rule8 i sub (ofBytes b) with
        | some (a, c) => some (a, c, i, sub)
        | none => State.checkItems (s.applyWrite .asWritten i sub (ofBytes b)) r

/-- RPDO_RECEIVE: a frame of a PDO in use is checked and queued as one operator write of its mapped objects; a frame of another length is discarded with an EMCY
(R337, R343, R367). -/
def execRpdoReceive (r : Nat) (data : List Byte) (s : State) : Out :=
  .next (
    let m := s.mapping (0x1600 + r)
    let n := m.foldl (fun a e => a + e.2.2) 0
    if !s.nmtOn ∨ s.can.nmt ≠ .oper ∨ 4 ≤ r ∨ bit (s.setting (0x1400 + r) 1) 31 ∨ s.setting (0x1600 + r) 0 = 0 then s
    else if data.length < n then (s.engineFault 0x5243 0).emcyNow 0x8210 0x5243
    else if n < data.length then (s.engineFault 0x5243 0).emcyNow 0x8220 0x5243
    else
      let items := cutItems m data
      match s.afterQueue.checkItems items with
      | some (_, c, i, sub) => (s.noteRefusal .rpdo c i sub false).emcyNow 0xFF00 c
      | none =>
        if 32 ≤ s.fw.wq.length then
          let e := items.headD (0, 0, [])
          (s.noteRefusal .rpdo 0x5237 e.1 e.2.1 false).emcyNow 0xFF00 0x5237
        else s.enqueue .rpdo .operator 0 items)

/-- TPDO_SEND: a PDO in use is sent on a change of its values once its inhibit time has passed, and whenever its event timer expires (R342). -/
def execTpdoSend (t : Nat) (s : State) : Out :=
  .next (
    let data := (s.mapping (0x1A00 + t)).flatMap (fun e => s.readBytes e.1 e.2.1)
    let last := Tab.read s.can.tpdoLast 0 t
    let timer := s.setting (0x1800 + t) 5
    let changed := decide (data ≠ Tab.read s.can.tpdoSent [] t) && decide (last + 10000 * s.setting (0x1800 + t) 3 ≤ s.tstamp)
    let expired := decide (0 < timer) && decide (last + 100000 * timer ≤ s.tstamp)
    if !s.nmtOn ∨ s.can.nmt ≠ .oper ∨ 8 ≤ t ∨ bit (s.setting (0x1800 + t) 1) 31 ∨ s.setting (0x1A00 + t) 0 = 0 then s
    else if changed || expired then
      (s.canSend (bits (s.setting (0x1800 + t) 1) 10 0) data).modCan (fun c =>
        { c with tpdoLast := Tab.write c.tpdoLast 0 t s.tstamp, tpdoSent := Tab.write c.tpdoSent [] t data })
    else s)

end Sys2Proof.Machine
end

