-- ==== Sys2Proof/Machine/Pair.lean ====
section
/-! DEFINITION. The service-processor pair: mirror epochs, heartbeats, the move of the active token, takeovers and restarts, and the draining of
the fault queues (R47, R355, R357, R422, R467, R488 to R494, R507 to R514). -/

namespace Sys2Proof.Machine

/-- Changes the pair's record. -/
def State.modWh (s : State) (g : WellPair → WellPair) : State := { s with wh := g s.wh }
/-- Changes the firmware state. -/
def State.modFw (s : State) (g : Firmware → Firmware) : State := { s with fw := g s.fw }
/-- The active Wellhead runs. -/
def State.activeUp (s : State) : Bool := (s.wellhead s.wh.active).up
/-- The Wellhead that does not hold the token. -/
def WellPair.other (w : WellPair) : Nat := if w.active = 0 then 1 else 0

/-! ### Epochs (R355, R507, R508) -/

/-- Epoch `n` has committed: writes recorded in it may be applied, outcomes recorded in it answered (R355). -/
def WriteReq.commit (r : WriteReq) (n : Nat) : WriteReq :=
  match r.step with
  | .mirrored k => if k ≤ n then { r with step := .committed } else r
  | .outcome k => if k ≤ n then { r with step := .settled } else r
  | _ => r

/-- Records of drains that have committed leave their queues (R494). -/
def State.dropDrained (s : State) (l : List (Nat × Nat)) : State :=
  if l.isEmpty then s
  else
    let cut (q : Nat) (x : FaultQueue) : FaultQueue := { x with recs := x.recs.filter (fun r => !l.contains (q, r.seq)) }
    { s with
        fields := s.fields.map (fun (e : Nat × Field) => (e.1, { e.2 with faults := cut e.1 e.2.faults })),
        rdFaults := cut 72 s.rdFaults, sdFaults := cut 73 s.sdFaults,
        fw := { s.fw with drained := s.fw.drained.filter (fun e => !l.contains e) } }

/-- Epoch `n` has committed. -/
def State.commitEpoch (s : State) (n : Nat) : State :=
  { s with wh := { s.wh with committed := n % 2 ^ 32 }, fw := { s.fw with wq := s.fw.wq.map (fun r => r.commit n) } }

/-- An epoch commits on being written to the active's own RAM, the standby absent (R355, R494). -/
def State.commitLocal (s : State) : State :=
  (({ s with wh := { s.wh with sent := none, acked := none } }).commitEpoch s.wh.epoch).dropDrained s.fw.drained

/-- A new epoch takes in the writes that wait for one (R355, R507). -/
def State.openEpoch (s : State) : State :=
  let n := s.wh.epoch + 1
  let put (r : WriteReq) : WriteReq := if r.step = .queued then { r with step := .mirrored n } else r
  { s with fw := { s.fw with wq := s.fw.wq.map put }, wh := { s.wh with epoch := n, changed := false, lastClose := s.tstamp } }

/-- EPOCH_CLOSE: at a TSTAMP multiple of 100,000 with changed state the active closes an epoch and sends it, or commits it itself (R355, R507). -/
def execEpochClose (s : State) : Out :=
  .next (
    let due := decide (s.wh.lastClose / 100000 < s.tstamp / 100000)
    if s.activeUp && s.wh.takeover.isNone && s.wh.changed && due && s.wh.sent.isNone && s.wh.acked.isNone then
      let s1 := s.openEpoch
      if s.wh.standbyOk then s1.modWh (fun w => { w with sent := some (w.epoch, s1.fw) }) else s1.commitLocal
    else s)

/-- An epoch's commit word carries the header's EPOCH and matches the CRC-32 over header and body, whose LENGTH is a multiple of 8 up to 256 KiB (R507, R508, R534). -/
def EpochWords.good (x : EpochWords) : Bool :=
  let n := bits x.header 31 0
  decide (x.body.length = n) && decide (n % 8 = 0) && decide (n ≤ 262144) && decide (bits x.commit 63 32 = bits x.header 63 32) &&
    decide (crc32 (toBytes 8 x.header ++ x.body) = bits x.commit 31 0)
/-- EPOCH of an epoch's header. -/
def EpochWords.number (x : EpochWords) : Nat := bits x.header 63 32

/-- EPOCH_RECEIVE: the epoch on its way arrives as the words `x`. The standby applies and acknowledges it; one that fails its check is discarded, and for one whose number
does not follow the standby asks for a resync (R508; log entry 79). -/
def execEpochReceive (x : EpochWords) (s : State) : Out :=
  .next (match s.wh.sent with
    | none => s
    | some (n, m) =>
      if !(s.wellhead s.wh.other).up then s
      else if !x.good then s.modWh (fun w => { w with sent := none })
      else if x.number ≠ n % 2 ^ 32 ∨ n ≠ s.wh.applied + 1 then s.modWh (fun w => { w with sent := none, resync := true, standbyOk := false })
      else (s.modWh (fun w => { w with sent := none, mirror := m, applied := n, acked := some n })).modWell s.wh.active (fun a => { a with lastBeat := s.sd.vtime }))

/-- EPOCH_ACK: the active counts the epoch committed (R355, R494, R508). -/
def execEpochAck (s : State) : Out :=
  .next (match s.wh.acked with
    | none => s
    | some n =>
      if !s.activeUp ∨ s.wh.takeover.isSome then s
      else
        let l := s.wh.mirror.drained
        let s1 := (s.commitEpoch n).dropDrained l
        s1.modWh (fun w => { w with acked := none, lastAck := s.sd.vtime, mirror := { w.mirror with drained := [] } }))

/-! ### Failures of a Wellhead (R509, R513) -/

/-- A Wellhead fails: the SD restarts it alone, unless this is its third failure within an hour, which holds it off until the next cold start. Log entry 67. -/
def State.wellFail (s : State) (w : Nat) : State :=
  s.modWell w (fun x =>
    let l := (x.failures.filter (fun t => decide (s.sd.compTime < t + 360000000000))) ++ [s.sd.compTime]
    let off := x.heldOff || decide (3 ≤ l.length)
    { x with up := false, failures := l, heldOff := off, booting := !off })

/-- A failure of the standby; the active records its being held off (R513). -/
def State.standbyFail (s : State) (w : Nat) : State :=
  let s1 := s.wellFail w
  if (s1.wellhead w).heldOff ∧ !(s.wellhead w).heldOff ∧ s.wh.takeover.isNone then s1.report 73 (plainFault 0x52A2 4 w 0) else s1

/-- Both Wellheads are down: compute goes on, SD_OPERATIONAL reads 0, and the SD restarts both every second (R13, R423, R514). -/
def State.bothDown (s : State) : State :=
  let down (x : Wellhead) : Wellhead := { x with up := false, booting := false }
  (s.modWh (fun w => { w with a := down w.a, b := down w.b, standbyOk := false, sent := none, acked := none, takeover := none, bothDownAt := some s.sd.vtime })).modSd
    (fun d => { d with operational := false })

/-- What service flash holds of the objects the engine maintains itself, trims and counts, is not lost with an epoch (R364, R472). -/
def Flash.kept (x : Flash) (dict : Tab Nat) : Tab Nat :=
  (x.stored.filter (fun e => [0x24B0, 0x2492, 0x24A0, 0x2010].contains (e.1 / 256))).foldl (fun t (e : Nat × Nat) => Tab.insert t e.1 e.2) dict

/-- The arbiter moves the token to the standby, which takes over at the last epoch it applied; the controller's settings in hardware stay, and a write applied and not answered still reads as before (R14, R354, R509,
R510, R512). -/
def State.moveToken (s : State) : State :=
  if !s.wh.standbyOk then s.bothDown
  else
    let s1 := s.wellFail s.wh.active
    let keep (r : WriteReq) : WriteReq := match s1.fw.wq.find? (fun x => decide (x.id = r.id)) with | some x => { r with old := x.old } | none => r
    let m := { s1.wh.mirror with wq := s1.wh.mirror.wq.map keep }
    let s2 := { s1 with fw := { m with kstep := s1.fw.kstep, wanted := s1.fw.wanted, gdyn := s1.fw.gdyn, dict := s1.flash.kept m.dict }, power := { s1.power with cal := { s1.power.cal with skip := true } } }
    (s2.modWh (fun w => { w with active := w.other, standbyOk := false, sent := none, acked := none, takeover := some s.sd.vtime, epoch := w.applied,
                                 committed := w.applied % 2 ^ 32, changed := true })).dropDrained m.drained

/-- HEARTBEAT_LOSS_TIMEOUT: the standby has seen no heartbeat and no epoch word for 2.5 ms (R509). -/
def execHeartbeatLossTimeout (s : State) : Out :=
  .next (if s.wh.standbyOk ∧ s.wh.takeover.isNone ∧ (s.wellhead s.wh.active).lastBeat + 250000 ≤ s.sd.vtime then s.moveToken else s)

/-- WELLHEAD_WATCHDOG_EXPIRY: the active has not serviced its SD hardware watchdog (R509). -/
def execWellheadWatchdogExpiry (s : State) : Out := .next (if s.activeUp then s.moveToken else s)

/-- WELLHEAD_MEMORY_ERROR: the active reports an uncorrectable error in its own memory (R509). -/
def execWellheadMemoryError (s : State) : Out := .next (if s.activeUp then s.moveToken else s)

/-- WELLHEAD_HEARTBEAT: a Wellhead that runs sends its heartbeat word (R509). -/
def execWellheadHeartbeat (w : Nat) (s : State) : Out :=
  if 2 ≤ w then .fault .noSuchUnit
  else .next (if (s.wellhead w).up then s.modWell w (fun x => { x with lastBeat := s.sd.vtime }) else s)

/-! ### Takeover (R357, R510, R511) -/

/-- A write of the committed log after a takeover: recorded ones are carried out anew, and every answer has TKO 1 (R357). -/
def WriteReq.takeOver (r : WriteReq) : WriteReq :=
  match r.step with
  | .queued => r
  | .mirrored _ => { r with step := .committed, answer := none, tko := true }
  | .committed => { r with answer := none, tko := true }
  | .outcome _ => { r with step := .settled, tko := true }
  | .settled => { r with tko := true }

/-- A BUSY channel whose request is in no committed epoch is answered with DICT_TAKEOVER (R357). -/
def State.answerTakeover (s : State) : State :=
  let whos := (upTo 16).map (fun k => Requester.mailbox (k / 4) (k % 4))
  whos.foldl (fun s who =>
    match s.request who with
    | some q => (s.noteRefusal who 0x5235 q.index q.sub true).respond who q.head q.seq 0x08000000 0x5235 true []
    | none => s) s

/-- A coolant loss declared while no Wellhead could record it is recorded, compute stopping if the backup timer has not stopped it (R467). -/
def State.settleLoss (s : State) : State :=
  if !s.sd.lossOwed then s
  else
    let on := s.sd.flowStop && s.fields.any (fun (e : Nat × Field) => decide (e.2.clk.md ≠ .off) || decide (e.2.clk.cd ≠ .off))
    let s1 := if on then s.warmReset .off else s
    (s1.engineFault 0x5293 (b2n s1.sd.flowHw)).modSd (fun d => { d with lossOwed := false })

/-- WELLHEAD_TAKEOVER: the takeover completes; requests are handled, but not those answered already, it is recorded and counted, and the controller resumes (R357, R467, R510, R511, R513). -/
def execWellheadTakeover (s : State) : Out :=
  .next (match s.wh.takeover with
    | none => s
    | some _ =>
      let failed := s.wh.other
      let s1 := s.modWh (fun w => { w with takeover := none, changed := true, lastAck := s.sd.vtime })
      let s2 := s1.modFw (fun f => { f with usdo := none, wq := (f.wq.filter (fun r => !decide (r.step = .queued) && decide (s.wh.answered < r.id))).map WriteReq.takeOver })
      let s3 := s2.report 73 (plainFault 0x52A0 4 failed 0)
      let s4 := if (s.wellhead failed).heldOff then s3.report 73 (plainFault 0x52A2 4 failed 0) else s3
      let s4 := { s4 with power := { s4.power with lastCal := none, cal := { s4.power.cal with skip := true } } }
      let s5 := (s4.countStored 0x2010 4).setDict 0x2010 5 s.tstamp
      s5.answerTakeover.settleLoss.settleDegraded)

/-! ### The standby's loss and return (R513) -/

/-- STANDBY_LOST: 2.5 ms have passed with no heartbeat and no acknowledgement of the standby (R355, R513). -/
def execStandbyLost (s : State) : Out :=
  .next (
    let o := s.wh.other
    if s.wh.standbyOk ∧ s.activeUp ∧ s.wh.takeover.isNone ∧ max (s.wellhead o).lastBeat s.wh.lastAck + 250000 ≤ s.sd.vtime then
      let s1 := (s.modWh (fun w => { w with standbyOk := false })).report 73 (plainFault 0x52A1 4 o 0)
      (s1.standbyFail o).commitLocal
    else s)

/-- WELLHEAD_RESTART_BOOT: a Wellhead restarted alone has booted and asks for a resync, or has failed again (R422, R513). -/
def execWellheadRestartBoot (w : Nat) (image : Image) (s : State) : Out :=
  if 2 ≤ w then .fault .noSuchUnit
  else .next (
    if s.sd.step = .at 1 ∨ s.sd.step = .at 2 ∨ w = s.wh.active ∨ !(s.wellhead w).booting ∨ !s.activeUp then s
    else if image.good then (s.modWell w (fun x => { x with up := true, booting := false, failed := false, lastBeat := s.sd.vtime })).modWh (fun p => { p with resync := true })
    else s.standbyFail w)

/-- STANDBY_RESYNC_COMPLETE: the whole state goes over as one epoch, arriving as the words `x`, and the Wellhead is standby, or its check fails (R508, R513). -/
def execStandbyResyncComplete (x : EpochWords) (s : State) : Out :=
  .next (
    let o := s.wh.other
    if !s.wh.resync ∨ !(s.wellhead o).up ∨ !s.activeUp ∨ s.wh.takeover.isSome then s
    else if x.good ∧ x.number = (s.wh.epoch + 1) % 2 ^ 32 then
      let s1 := s.openEpoch.commitLocal
      s1.modWh (fun w => { w with mirror := { s1.fw with drained := [] }, applied := w.epoch, standbyOk := true, resync := false, lastAck := s.sd.vtime })
    else (s.modWh (fun w => { w with resync := false })).standbyFail o)

/-! ### Both down (R422, R514) -/

/-- WELLHEAD_BOOT_RETRY: with neither Wellhead booted the SD restarts both a second later (R422, R514). -/
def execWellheadBootRetry (s : State) : Out :=
  .next (match s.wh.bothDownAt with
    | none => s
    | some t =>
      if s.sd.state ≠ .on ∨ s.sd.vtime < t + 100000000 then s
      else
        let s1 := s.bootBoth
        if s1.sd.step = .at 2 then s1.toStep 2 else s1)

/-- Objects that a pair without a mirror finds in hardware: F-state settings and the controller's switches of bubble and filler (R514). -/
def shownByHardware (k : Nat) : Bool := decide (k / 256 = 0x2302) || decide (k / 256 = 0x2303) || decide (k = 0x240101) || decide (k = 0x240102)

/-- WELLHEAD_PAIR_LOST: the first Wellhead to boot after both were down becomes active and rebuilds its state from flash and hardware; `flash` is what
service flash returns (R364, R422, R514). -/
def execWellheadPairLost (w : Nat) (image : Image) (flash : FlashRead) (s : State) : Out :=
  if 2 ≤ w then .fault .noSuchUnit
  else .next (
    if s.sd.step = .at 1 ∨ s.sd.step = .at 2 ∨ s.wh.a.up ∨ s.wh.b.up ∨ !(s.wellhead w).booting then s
    else if !image.good then
      let s2 := s.modWell w (fun x => { x with booting := false, failed := true })
      if s2.wh.a.booting ∨ s2.wh.b.booting then s2 else s2.modWh (fun p => { p with bothDownAt := some s.sd.vtime })
    else
      let s1 := s.modWell w (fun x => { x with up := true, booting := false, failed := false, lastBeat := s.sd.vtime })
      let s2 := s1.modWh (fun p => { p with active := w, standbyOk := false, resync := false, bothDownAt := none, sent := none, acked := none, takeover := none,
                                            changed := true, lastAck := s.sd.vtime, answered := 0 })
      let x := s2.flash.readObjs flash
      let s3 := if x.2 then { s2 with flash := x.1 }.engineFault 0x5277 0 else { s2 with flash := x.1 }
      let dict := (s3.fw.dict.filter (fun e => shownByHardware e.1)).foldl (fun t (e : Nat × Nat) => Tab.insert t e.1 e.2) s3.flash.stored
      let s4 := s3.modFw (fun f => { Firmware.reset with dict := dict, kstep := f.kstep, wanted := f.wanted, gdyn := f.gdyn, map := f.map })
      let s5 : State := if s4.sd.step6 then (s4.modSd (fun d => { d with operational := true })).nmtBootUp else s4
      let s6 := if s5.sd.step = .at 5 then s5.toStep 5 else s5
      (s6.engineFault 0x52A3 0).settleLoss.settleDegraded)

/-! ### Fault queues (R488, R494) -/

/-- Records in the order a drain writes them: TSTAMP, then queue, then SEQ (R494). -/
def FaultRec.before (a b : FaultRec) : Bool :=
  decide (a.ts < b.ts) || (decide (a.ts = b.ts) && (decide (a.queue < b.queue) || (decide (a.queue = b.queue) && decide (a.seq ≤ b.seq))))
/-- Puts a record in its place. -/
def placeRec (r : FaultRec) (l : List FaultRec) : List FaultRec :=
  match l with
  | [] => [r]
  | x :: t => if r.before x then r :: x :: t else x :: placeRec r t
/-- Records still to be drained, in that order. -/
def State.undrained (s : State) : List FaultRec :=
  let all := s.fields.flatMap (fun (e : Nat × Field) => e.2.faults.recs) ++ s.rdFaults.recs ++ s.sdFaults.recs
  (all.filter (fun r => !s.fw.drained.contains (r.queue, r.seq))).foldr placeRec []

/-- Causes whose records are of class TK wherever they are counted (R495). -/
def taskCauses : List Nat :=
  [0x3010, 0x3143, 0x3144, 0x3149, 0x3151, 0x3160, 0x3161, 0x3163, 0x3164, 0x3168, 0x3170, 0x3171, 0x3180, 0x3181, 0x3182, 0x3185, 0x3186, 0x3188,
   0x3190, 0x3191, 0x3192, 0x3193, 0x3194, 0x3195]

/-- A record's class sends an EMCY (R488, R495): not where it records one firing's failure. A wrong RPDO length has sent its own (R345). -/
def FaultRec.sendsEmcy (r : FaultRec) : Bool :=
  !taskCauses.contains r.cause && !(decide (r.scope = 1) && (decide (r.cause = 0x3132) || decide (r.cause = 0x3183))) &&
    !([0x3141, 0x3145, 0x3146, 0x3147, 0x3184].contains r.cause && r.task.isSome) && !decide (r.cause = 0x5243)

/-- The EMCY error code of a cause (R345). -/
def emcyCode (cause : Nat) : Nat :=
  if 0x5290 ≤ cause ∧ cause ≤ 0x5296 then 0x4200
  else if cause = 0x5242 then 0x8110
  else if cause = 0x5240 then 0x8130
  else if cause = 0x5241 then 0x8140
  else 0xFF00

/-- The partition a fault is counted for (R494). -/
def State.faultPart (s : State) (r : FaultRec) : Option Nat :=
  if r.scope = 1 then some r.id else if r.scope = 2 then s.partOf r.id else none

/-- Firmware takes one record out of the queues (R494). -/
def State.drainRec (s : State) (r : FaultRec) : State :=
  let s1 := s.modFw (fun f =>
    { f with log := (f.log ++ [r]).drop (f.log.length + 1 - 127), writeCount := f.writeCount + 1, drained := f.drained ++ [(r.queue, r.seq)] })
  let s2 := ((((s1.setDict 0x2901 1 r.cause).setDict 0x2901 2 r.scope).setDict 0x2901 3 r.id).setDict 0x2901 4 r.info).setDict 0x2901 5 r.ts
  let s3 := match s2.faultPart r with
    | some q => (s2.setDict 0x2902 (q + 1) ((s2.setting 0x2902 (q + 1) + 1) % 2 ^ 32)).setDict 0x2903 (q + 1) r.cause
    | none => s2
  if r.sendsEmcy then s3.emcy { code := emcyCode r.cause, cause := r.cause, scope := r.scope, id := r.id, info := r.info, ts := r.ts } else s3

/-- FAULT_QUEUE_DRAIN: every queue is drained into FAULT_LOG; an error register that has returned to 0 is announced (R345, R494). -/
def execFaultQueueDrain (s : State) : Out :=
  .next (if !s.serving then s
  else
    let s1 := s.undrained.foldl State.drainRec s
    let e := s1.errorRegister
    let s2 := if e = 0 ∧ s1.can.errReg ≠ 0 then s1.emcyNow 0 0 else s1
    if s2.can.errReg = e then s2 else s2.modCan (fun c => { c with errReg := e }))

/-- REPAIR_AUTO_ADD_ENTRY: firmware adds the position of a lost core to the runtime list, once (R40, R47). -/
def execRepairAutoAddEntry (c : Nat) (s : State) : Out :=
  onCore c s (fun s =>
    let k := s.core c
    match k.autoAdd with
    | none => s
    | some v =>
      if !s.serving then s
      else
        let s1 := s.modCore c (fun k => { k with autoAdd := none })
        if s.setting 0x2110 5 = 0 ∨ s.repairKnown v then s1
        else if 256 ≤ s.flash.list.length then s1.engineFault 0x5201 0
        else { s1 with flash := s1.flash.writeRepair (s1.flash.list ++ [BitVec.ofNat 32 v]) })

end Sys2Proof.Machine
end

