-- ==== Sys2Proof/Machine/Estimator.lean ====
section
/-! DEFINITION. The energy estimator, calibration, regulators, the ceiling guard and droops (R429 to R440, R449, R450, R452, R453, R455, R518). -/

namespace Sys2Proof.Machine

/-! ### Voltage and static power (R430, R431, R437) -/

/-- Dynamic scale of an F-state, in ten-thousandths (R437). -/
def sdTable : List Nat :=
  [10000, 9227, 8492, 7793, 7130, 6502, 5907, 5346, 4817, 4319, 3851, 3413, 3003, 2621, 2266, 1937]
/-- Sd(Fn) (R437). -/
def sdOf (n : Nat) : Rat := (sdTable.getD n 1937 : Rat) / 10000

/-- A field's supply at an F-state, in mV, with its ageing trim (R437, R471). Log entry 107. -/
def State.supply (s : State) (f n : Nat) : Nat := 800 - 15 * min n 15 + s.setting 0x24B0 (f + 1) - (if s.therm.trimWait.contains f then 5 else 0)
/-- A field's set supply now, in mV. It ramps to a faster state's until 12 µs into the change, and to a slower one's from 8 µs on; between the two it is a free value
(R413, R430; log entry 51). -/
def State.supplyNow (s : State) (f : Nat) : Nat :=
  let k := (s.field f).clk
  let ramp (hi lo : Nat) : Nat := s.supply f lo + Config.slewVolt f s.tstamp % (s.supply f hi - s.supply f lo + 1)
  match k.change with
  | none => s.supply f k.fstate
  | some (b, t) =>
    if k.top < b then (if s.tstamp < t + 800 then s.supply f k.top else ramp k.top b)
    else if s.tstamp < t + 1200 then ramp b k.top
    else s.supply f b

/-- The temperature the estimator takes for a field, in 0.1 °C: its hottest sensor, 0 where none converts (R430; log entry 51). -/
def State.fieldTemp (s : State) (f : Nat) : Int := match s.hottest (fieldSensors f) with | some e => e.2 | none => 0
/-- The entry of the static table a field stands at (R431). -/
def staticKey (f : Nat) (on : Bool) (v : Nat) (t : Int) : Nat := ((f * 2 + b2n on) * 1024 + v) * 4096 + (t + 1000).toNat
/-- Static power of a field at a supply in mW: the fused value, or as quiet windows have trimmed it (R431, R435). -/
def State.staticV (s : State) (f : Nat) (on : Bool) (v : Nat) : Rat :=
  let t := s.fieldTemp f
  Tab.read s.power.static (Config.staticPower f on v t : Rat) (staticKey f on v t)
/-- Static power of a field at an F-state (R444). Log entry 14. -/
def State.staticAt (s : State) (f : Nat) (on : Bool) (n : Nat) : Rat := s.staticV f on (s.supply f n)
/-- The compute domain of a field is ON. -/
def State.cdOn (s : State) (f : Nat) : Bool := decide ((s.field f).clk.cd = .on)
/-- Static power of a field now: nothing with its MD off. -/
def State.staticNow (s : State) (f : Nat) : Rat :=
  let k := (s.field f).clk
  if k.md = .on then s.staticV f (s.cdOn f) (s.supplyNow f) else 0
/-- Estimate of SD and RD, in mW (R431). -/
def State.otherPower (s : State) : Rat := (Config.sdPower s.tstamp : Rat) + (Config.rdPower s.tstamp : Rat)

/-- Energy of the events counted by time, in pJ at 0.800 V (R429). -/
def Activity.pJ (a : Activity) : Nat := 8 * a.clk + 112 * a.fill + 11 * a.bank + 18 * a.flit
/-- Energy of the events of commands, in pJ at 0.800 V (R429). -/
def Events.pJ (a : Events) : Nat := 6 * a.issue + 28 * a.vec + 112 * a.mix16 + 104 * a.mix8 + 40 * a.cev
/-- Dynamic energy of events of `n` pJ at a supply in mV (R430). -/
def dynamicAt (g : Rat) (v n : Nat) : Rat :=
  let u : Rat := (v : Rat) / 800
  g * (n : Rat) * u * u

/-- Adds to an entry of a table of rationals. -/
def addRat (t : Tab Rat) (k : Nat) (x : Rat) : Tab Rat := Tab.write t 0 k (Tab.read t 0 k + x)
/-- Adds to an entry of a table of counts. -/
def addNat (t : Tab Nat) (k n : Nat) : Tab Nat := Tab.write t 0 k (Tab.read t 0 k + n)

/-! ### A microsecond of the estimator (R430, R432, R435, R442, R455) -/

/-- a(f, t) in hundredths of a unit, of a moment in microsecond j - 2: FIELD_ENERGY stands at the end of j - 1, whose energy was `e` (R455). -/
def markValue (fe e t : Nat) : Nat := (100 * (fe + 2 ^ 64 - e) + e * (t % 100)) % (100 * 2 ^ 64)
/-- Shares of a field whose moments can now be interpolated are filled (R455). -/
def Share.fill (h : Share) (f j fe e : Nat) : Share :=
  if h.field ≠ f then h
  else
    let h1 := if h.base.isNone ∧ h.since / 100 + 2 ≤ j then { h with base := some (markValue fe e h.since) } else h
    match h1.till with
    | some t => if h1.last.isNone ∧ t / 100 + 2 ≤ j then { h1 with last := some (markValue fe e t) } else h1
    | none => h1

/-- The RD adds the energy of the microsecond before to FIELD_ENERGY and takes this one's, in units of 1/16 µJ (R432). -/
def State.addEnergy (s : State) (f j units : Nat) : State :=
  if s.rd.state ≠ .on then s
  else
    let e := Tab.read s.rd.pend 0 f
    let fe := (Tab.read s.rd.energy 0 f + e) % 2 ^ 64
    let s1 := s.modRd (fun r => { r with energy := Tab.write r.energy 0 f fe, pend := Tab.write r.pend 0 f units })
    let s2 := match s.partOf f with | some p => s1.modPart p (fun x => { x with energy := x.energy + e }) | none => s1
    (upTo 16).foldl (fun s p =>
      if (s.part p).marks.isEmpty then s
      else s.modPart p (fun x => { x with marks := x.marks.map (fun (m : Mark) => { m with shares := m.shares.map (fun h => h.fill f j fe e) }) })) s2

/-- A static sample of a quiet window trims the entry the field stands at (R435). -/
def State.trimStatic (s : State) (f : Nat) (sample : Rat) : State :=
  let on := s.cdOn f
  let v := s.supplyNow f
  let x := s.staticV f on v
  { s with power := { s.power with static := Tab.insert s.power.static (staticKey f on v (s.fieldTemp f)) (x + (sample - x) / 4) } }

/-- The events of the commands of a field's cores and Cistern since they were last counted (R429, R430). -/
def State.fieldEvents (s : State) (f : Nat) : List Events :=
  (s.cores.filter (fun (e : Nat × Core) => decide (fieldOf e.1 = f))).flatMap (fun (e : Nat × Core) => e.2.held ++ [e.2.events]) ++
    [{ tag := 17, issue := 0, vec := 0, mix16 := 0, mix8 := 0, cev := Tab.read (s.field f).obs.counters 0 0x100 }]

/-- They have been counted. -/
def State.eventsTaken (s : State) : State :=
  { s with
      cores := s.cores.map (fun (e : Nat × Core) => (e.1, { e.2 with held := [], tagged := e.2.counters })),
      fields := s.fields.map (fun (e : Nat × Field) => (e.1, { e.2 with obs := { e.2.obs with counters := Tab.erase e.2.obs.counters 0x100 } })) }

/-- What a field did in a microsecond: by tag the energy of its events at 0.800 V, whether it was quiet, the mixer steps of tasks, CCLK in state RUN, and whether filler
ran. -/
structure FieldWork where
  tagged : List (Nat × Nat)
  quiet  : Bool
  steps  : Nat
  ran    : Nat
  filled : Bool
deriving DecidableEq, Repr

/-- The work of a field: a field whose CD is OFF contributes the static power of its MD only (R431). -/
def State.fieldWork (s : State) (acts : List Activity) (f : Nat) : FieldWork :=
  let k := (s.field f).clk
  if k.md ≠ .on ∨ k.cd = .off then { tagged := [], quiet := decide (k.md = .on), steps := 0, ran := 0, filled := false }
  else
    let ev := s.fieldEvents f
    let mine := acts.filter (fun a => decide (a.field = f))
    { tagged := ev.map (fun e => (e.tag, e.pJ)) ++ mine.map (fun a => (a.tag, a.pJ)),
      quiet := ev.all (fun e => e.mix16 == 0 && e.mix8 == 0 && e.vec == 0) && mine.all (fun a => a.fill == 0),
      steps := ev.foldl (fun n e => n + e.mix16 + e.mix8) 0,
      ran := mine.foldl (fun n a => n + a.run) 0,
      filled := mine.any (fun a => decide (0 < a.fill)) }

/-- A field's microsecond: its energy, its power, the shares of tags, and a static sample where it was quiet. Log entry 28. -/
def State.fieldTick (s : State) (j : Nat) (acts : List Activity) (sensed : List (Nat × Nat)) (f : Nat) : State :=
  let k := (s.field f).clk
  let x := s.fieldWork acts f
  let v := s.supplyNow f
  let dynOf (n : Nat) : Rat := dynamicAt s.fw.gdyn v n
  let dyn : Rat := dynOf (x.tagged.foldl (fun n e => n + e.2) 0)
  let e : Rat := dyn + s.staticNow f * 1000
  let sum : Rat := Tab.read s.power.frac 0 f + e / 62500
  let units := sum.floor.toNat
  let s1 := s.addEnergy f j units
  let s2 := if x.quiet then s1.modClk f (fun k => { k with lastQuiet := s.tstamp }) else s1
  let s3 := match x.quiet, sensed.find? (fun (y : Nat × Nat) => decide (y.1 = f)) with
    | true, some y => s2.trimStatic f ((y.2 : Rat) - dyn / 1000)
    | _, _ => s2
  let share (t : Tab Rat) (p : Nat) : Tab Rat :=
    x.tagged.foldl (fun (t : Tab Rat) e => if e.1 < 16 then addRat t (p * 16 + e.1) (dynOf e.2 / sdOf k.fstate) else t) t
  let w := s3.power
  { s3 with power :=
      { w with
          frac := Tab.write w.frac 0 f (sum - (units : Rat)), fieldPwr := Tab.write w.fieldPwr 0 f (e / 1000000),
          period := { w.period with dyn := addRat w.period.dyn f dyn, all := addRat w.period.all f e, mixN := addNat w.period.mixN f x.steps,
                                    mixD := addNat w.period.mixD f x.ran, filled := if x.filled && !w.period.filled.contains f then w.period.filled ++ [f] else w.period.filled },
          epoch := (match s.partOf f with | some p => { w.epoch with energy := share w.epoch.energy p } | none => w.epoch) } }

/-- Running tasks of a phase class in a partition. -/
def State.classTasks (s : State) (p c : Nat) : Nat :=
  (s.partFields p).foldl (fun a f =>
    a + ((s.field f).cis.slots.filter (fun (e : Nat × CoreSlot) => match e.2.running with | some n => decide ((s.field f).cis.pclass n = c) | none => false)).length) 0

/-- The engine's own sums of a microsecond: engine and partition power, the SD's and RD's energy, task-microseconds, and the calibration window (R432, R436, R442).
`added` is what the accumulators took in, in 1/16 µJ. -/
def State.engineTick (s : State) (added : Tab Nat) : State :=
  let w := s.power
  let other := s.otherPower
  let fieldsW : Rat := w.fieldPwr.foldl (fun (a : Rat) (e : Nat × Rat) => a + e.2) 0
  let engine : Rat := fieldsW + other / 1000
  let static : Rat := (upTo nFields).foldl (fun (a : Rat) f => a + s.staticNow f) other
  let on := (upTo 16).filter (fun p => (s.part p).enabled)
  let partW (p : Nat) : Rat := (s.partFields p).foldl (fun (a : Rat) f => a + ((Tab.read added 0 f : Nat) : Rat) / 16) 0
  let took : Rat := added.foldl (fun (a : Rat) (e : Nat × Nat) => a + (e.2 : Rat) / 16) 0
  let us := on.foldl (fun (t : Tab Nat) p => (upTo 16).foldl (fun (t : Tab Nat) c => addNat t (p * 16 + c) (s.classTasks p c)) t) w.epoch.taskUs
  let stale := w.rails.any (fun (e : Nat × Rail) => decide (e.2.at' + 1500000 < s.tstamp))
  { s with power :=
      { w with
          recent := (engine :: w.recent).take 1000, accRecent := ((took + other / 1000) :: w.accRecent).take 1000, otherE := w.otherE + other / 1000,
          partRecent := on.foldl (fun (t : Tab (List Rat)) p => Tab.insert t p ((partW p :: Tab.read w.partRecent [] p).take 1000)) [],
          epoch := { w.epoch with taskUs := us },
          cal := { meas := w.cal.meas + (s.inputPower : Rat) * 1000000, est := w.cal.est + engine * 1000000, static := w.cal.static + static * 1000,
                   skip := w.cal.skip || stale } } }

/-- What has been gathered is handed over at the end of a period, an epoch and a calibration window (R436, R441). -/
def Power.handOver (w : Power) (j : Nat) : Power :=
  let w1 := if (j + 1) % 10 = 0 then { w with lastPeriod := w.period, period := PeriodSum.reset } else w
  let w2 := if (j + 1) % 100 = 0 then { w1 with lastEpoch := w1.epoch, epoch := EpochSum.reset } else w1
  if (j + 1) % 100000 = 0 then { w2 with lastCal := some w2.cal, cal := CalSum.reset } else w2

/-- ESTIMATOR_TICK: the next TSTAMP microsecond that has ended is accounted: the events of the commands run since the last one, and `acts`, those that count time, by field
and tag; `sensed` is the input power in mW that fields' regulators sensed (R429 to R432; log entry 52). -/
def execEstimatorTick (acts : List Activity) (sensed : List (Nat × Nat)) (s : State) : Out :=
  .next (
    let j := s.power.ticks
    if s.sd.state ≠ .on ∨ !s.sd.refclkOk ∨ s.tstamp < 100 * (j + 1) then s
    else
      let added := if s.rd.state = .on then s.rd.pend else []
      let s1 := (((upTo nFields).foldl (fun s f => s.fieldTick j acts sensed f) s).engineTick added).eventsTaken
      { s1 with power := { s1.power with ticks := j + 1 }.handOver j })

/-! ### Calibration (R435, R436, R518) -/

/-- CALIBRATION: the window last ended is compared with the measured energy (R436; log entry 50). -/
def execCalibration (s : State) : Out :=
  .next (match s.power.lastCal with
    | none => s
    | some w =>
      if !s.serving ∨ !s.sd.refclkOk then s
      else
        let s0 := { s with power := { s.power with lastCal := none } }
        if w.skip then s0
        else
          let free := decide (w.meas = 0) || decide (w.est = w.static)
          let ratio : Rat := (w.est - w.meas) / w.meas * 1000 + 1 / 2
          let err : Int := if w.meas = 0 then signed 16 (Config.freeValue s.free) else max (-32768) (min 32767 ratio.floor)
          let s1 := (if free then { s0 with free := s.free + 1 } else s0).setDict 0x2430 3 (wrap 16 err)
          if 100 < err.natAbs then
            if s.power.rejecting then s1 else ({ s1 with power := { s1.power with rejecting := true } }).engineFault 0x5283 0
          else
            let g : Rat := if w.est = w.static then (Config.freeValue s.free : Rat) else s.fw.gdyn * (w.meas - w.static) / (w.est - w.static)
            let s2 := { s1 with fw := { s1.fw with gdyn := g }, power := { s1.power with rejecting := false } }
            (s2.setDict 0x2430 1 ((s.setting 0x2430 1 + 1) % 2 ^ 32)).setDict 0x2430 2 s.tstamp)

/-- QUIET_WINDOW_FORCE: a field ON without a quiet window for 100 ms is given one, one field in a period, and none while its F-state changes or the guard acts (R435,
R518). That its units pause for the microsecond is time, which the model leaves out. -/
def execQuietWindowForce (f : Nat) (s : State) : Out :=
  onField f s (fun s =>
    let k := (s.field f).clk
    if s.serving && s.cdOn f && decide (k.lastQuiet + 10000000 ≤ s.tstamp) && k.change.isNone && s.power.guard.isNone &&
        decide (s.power.lastForce ≠ s.tstamp / 1000 + 1) then
      let s1 := { s with power := { s.power with lastForce := s.tstamp / 1000 + 1 } }
      (s1.setDict 0x2430 4 ((s.setting 0x2430 4 + 1) % 2 ^ 32)).modClk f (fun k => { k with lastQuiet := s.tstamp })
    else s)

/-! ### Regulators (R433, R434) -/

/-- What is known of a rail. -/
def State.rail (s : State) (r : Nat) : Rail := Tab.read s.power.rails { pout := 0, at' := 0, fault := false } r
/-- Puts it. -/
def State.setRail (s : State) (r : Nat) (x : Rail) : State := { s with power := { s.power with rails := Tab.insert s.power.rails r x } }

/-- A READ_POUT: a transaction that failed twice leaves the rail's last reading (R434). -/
def State.readPout (s : State) (r : Nat) (x : BusRead Nat) : State :=
  match x with
  | .unread => s
  | .failed => (s.pmbSend (railCmds r [0x96, 0x96])).engineFault 0x5284 0
  | .got w => (s.pmbSend (railCmds r [0x96])).setRail r { s.rail r with pout := w, at' := s.tstamp }

/-- A read of a rail's status registers `codes`: a warning lowers the cap, a fault is recorded once per event and cleared in the device, and an output off stops every CD
and MD (R433, R434). -/
def State.readStatus (s : State) (codes : List Nat) (r : Nat) (x : BusRead RailStatus) : State :=
  match x with
  | .unread => s
  | .failed => (s.pmbSend (railCmds r (codes ++ codes))).engineFault 0x5284 0
  | .got w =>
    let bad := w.fault || w.off
    let more := if w.warn || bad then [0x7A, 0x7B, 0x7C, 0x7D].filter (fun c => !codes.contains c) else []
    let s1 := (s.pmbSend (railCmds r (codes ++ more ++ if bad then [0x03] else []))).setRail r { s.rail r with fault := bad }
    let s2 := if w.warn then { s1 with power := { s1.power with derate := some s.sd.vtime } } else s1
    let s3 := if bad && !(s.rail r).fault then s2.engineFault 0x5280 0 else s2
    if w.off && !s.sd.vrStop then (s3.warmReset .off).modSd (fun d => { d with vrStop := true }) else s3

/-- Rails there are: 32 devices of two pages (R433). -/
def railsExist (l : List Nat) : Bool := l.all (fun r => decide (r < 64))

/-- A Wellhead runs as the active and reads the regulators; PMBus works from the first moment of a cold start (R396, R434). -/
def State.busMaster (s : State) : Bool := decide (s.sd.state = .on) && !s.frozen

/-- PMBUS_POLL: the active reads READ_POUT and STATUS_WORD of rails and acts on them (R434). -/
def execPmbusPoll (l : List RailRead) (s : State) : Out :=
  if railsExist (l.map (·.rail)) then
    .next (if s.busMaster then l.foldl (fun s x => (s.readPout x.rail x.pout).readStatus [0x79] x.rail x.status) s else s)
  else .fault .noSuchUnit

/-- PMB_ALERT: PMB_ALERT_N is low: the active reads the Alert Response Address, then the status of the rails that `l` lists, and acts on it (R396, R433, R434). -/
def execPmbAlert (l : List (Nat × BusRead RailStatus)) (s : State) : Out :=
  if railsExist (l.map (·.1)) then
    .next (if s.busMaster then
      l.foldl (fun s x => s.readStatus [0x79, 0x7A, 0x7B, 0x7C, 0x7D] x.1 x.2) (s.pmbSend [{ dev := 0x0C, page := 0, code := 0, data := 0 }])
    else s)
  else .fault .noSuchUnit

/-- VR_DERATE_CLEAR: 50 ms have passed with no warning on any rail (R434). -/
def execVrDerateClear (s : State) : Out :=
  .next (match s.power.derate with
    | some t => if s.serving ∧ t + 5000000 ≤ s.sd.vtime then { s with power := { s.power with derate := none } } else s
    | none => s)

/-! ### The controller's settings and the ceiling guard (R440, R447, R449) -/

/-- The controller's bubble level and filler duty of a field: those held back while the guard acts. -/
def State.ctl (s : State) (f : Nat) : Nat × Nat :=
  if s.power.guard.isSome then (Tab.read s.power.saved 0 f / 128, Tab.read s.power.saved 0 f % 128) else ((s.field f).clk.bub, (s.field f).clk.duty)
/-- Sets them, in the field or among those held back. -/
def State.setCtl (s : State) (f bub duty : Nat) : State :=
  if s.power.guard.isSome then { s with power := { s.power with saved := Tab.write s.power.saved 0 f (bub * 128 + duty) } }
  else s.modClk f (fun k => { k with bub := bub, duty := duty })

/-- CEILING_GUARD_ENGAGE: the 10 µs average exceeds 20,000 W: bubbles 48 and filler 0 in every field (R440). -/
def execCeilingGuardEngage (s : State) : Out :=
  .next (if s.power.guard.isSome ∨ s.sd.state ≠ .on ∨ s.power10 ≤ 20000 then s
  else
    let saved := (upTo nFields).foldl (fun (t : Tab Nat) f => Tab.write t 0 f ((s.field f).clk.bub * 128 + (s.field f).clk.duty)) []
    let s1 := (upTo nFields).foldl (fun s f => s.modClk f (fun k => { k with bub := 48, duty := 0 })) s
    ({ s1 with power := { s1.power with guard := some s.tstamp, saved := saved } }).engineFault 0x5282 0)

/-- CEILING_GUARD_RELEASE: after 20 µs, and below 19,000 W, the controller's values return; a forced window deferred by the guard runs its 100 ms again (R440, R518). -/
def execCeilingGuardRelease (s : State) : Out :=
  .next (match s.power.guard with
    | none => s
    | some t =>
      if s.tstamp < t + 2000 ∨ 19000 ≤ s.power10 then s
      else
        let s1 := { s with power := { s.power with guard := none, saved := [] } }
        (upTo nFields).foldl (fun s1 f =>
          s1.modClk f (fun k => { k with bub := (s.ctl f).1, duty := (s.ctl f).2, lastQuiet := k.deferQuiet s.tstamp })) s1)

/-! ### Droops (R452, R453) -/

/-- DROOP_STRETCH_BEGIN: the field's clocks are stretched, and the stretch is counted (R452, R453). -/
def execDroopStretchBegin (f : Nat) (s : State) : Out :=
  onField f s (fun s =>
    let k := (s.field f).clk
    if k.md ≠ .on ∨ k.stretch.isSome then s
    else
      let s1 := s.modClk f (fun k => { k with stretch := some s.tstamp, severe := false })
      { s1 with power := { s1.power with droops := Tab.write s1.power.droops 0 f ((Tab.read s1.power.droops 0 f + 1) % 2 ^ 32) } })

/-- DROOP_STRETCH_END: the supply has stayed within 3 % for 100 ns (R452). -/
def execDroopStretchEnd (f : Nat) (s : State) : Out := onField f s (fun s => s.modClk f (fun k => { k with stretch := none, severe := false }))

/-- DROOP_SEVERE: a stretch has lasted 10 µs without a break; it is recorded once and slows the partition for 1 ms (R445, R453). -/
def execDroopSevere (f : Nat) (s : State) : Out :=
  onField f s (fun s =>
    let k := (s.field f).clk
    match k.stretch with
    | none => s
    | some t =>
      if k.severe ∨ s.tstamp < t + 1000 then s
      else
        let s1 := (s.modClk f (fun k => { k with severe := true })).fieldFault f 0x5281 0
        { s1 with power := { s1.power with droopTill := Tab.write s1.power.droopTill 0 f (s.tstamp + 100000) } })

/-! ### Filler (R146, R450) -/

/-- FILLER_ENTER: a core asleep in AWAIT in an armed field (R450). -/
def execFillerEnter (c : Nat) (s : State) : Out :=
  onCore c s (fun s =>
    let k := s.core c
    let await := match k.blocked with | some b => decide (b.op = .await) || decide (b.op = .arriveAwait) | none => false
    if k.run = .sleepSync && await && s.armed (fieldOf c) then s.modCore c (fun k => { k with run := .filler, fillerFrom := s.tstamp, fillerCut := 0 }) else s)

/-- FILLER_DUTY_DECAY: after 200 µs in FILLER a core lowers its duty by one every 2 µs, until it runs no filler step (R450). -/
def execFillerDutyDecay (c : Nat) (s : State) : Out :=
  onCore c s (fun s =>
    let k := s.core c
    if k.run = .filler ∧ k.fillerCut < (s.field (fieldOf c)).clk.duty ∧ k.fillerFrom + 20000 + 200 * k.fillerCut ≤ s.tstamp then
      s.modCore c (fun k => { k with fillerCut := k.fillerCut + 1 })
    else s)

/-! ### Phase hints (R446) -/

/-- HINT_EXPIRY: a hint closes EXPECT_US after its begin (R446). -/
def execHintExpiry (p pclass : Nat) (s : State) : Out :=
  onPart p s (fun s => s.modPart p (fun x =>
    { x with hints := x.hints.filter (fun (h : Hint) => !(decide (h.pclass = pclass) && decide (h.expiry ≠ 0) && decide (h.expiry ≤ s.tstamp))) }))

end Sys2Proof.Machine
end

