-- ==== Sys2Proof/Machine/Controller.lean ====
section
/-! DEFINITION. The phase budget controller: the division of the budget, bubbles and filler duty, learning, and the wanted F-states (R441 to R451). -/

namespace Sys2Proof.Machine

/-! ### Demand and budget (R443, R444) -/

/-- L(p, c) as the controller uses it: 190 mW until learned (R442). -/
def State.taskPower (s : State) (p c : Nat) : Rat := if s.learned p c = 0 then 190 else s.learned p c
/-- h(p, c) of an open hint, 0 for none (R443). -/
def Part.hinted (x : Part) (c : Nat) : Nat := match x.hints.find? (fun (h : Hint) => decide (h.pclass = c)) with | some h => h.level | none => 0
/-- d(p), in mW (R443). -/
def State.demand (s : State) (p : Nat) : Rat :=
  (upTo 16).foldl (fun (a : Rat) c => a + (max (s.classTasks p c) ((s.part p).hinted c) : Nat) * s.taskPower p c) 0
/-- static(p, n), in mW (R444). -/
def State.staticPart (s : State) (p n : Nat) : Rat := (s.partFields p).foldl (fun (a : Rat) f => a + s.staticAt f (s.cdOn f) n) 0
/-- The present F-state of a partition: that of its first field, which its others share. -/
def State.present (s : State) (p : Nat) : Nat := match s.partFields p with | f :: _ => (s.field f).clk.fstate | [] => 15
/-- The slowest of PART_FSTATE_MAX and the age limits of a partition: what it runs with the controller's choice taken as F0 (R376, R472). -/
def State.fastest (s : State) (p : Nat) : Nat := (s.partFields p).foldl (fun a f => max a (s.ageFmax f)) (s.setting 0x2302 (p + 1))
/-- PART_FSTATE_FIXED is set. -/
def State.fixed (s : State) (p : Nat) : Bool := decide (s.setting 0x2303 (p + 1) ≠ 0xFF)
/-- slow[p] and fast[p] (R444). -/
def State.slowFast (s : State) (p : Nat) : Nat × Nat :=
  let fixed := s.setting 0x2303 (p + 1)
  (if s.fixed p then fixed else 15,
   if (s.part p).graph = .idle then 15 else if s.fixed p then max fixed (s.fastest p) else s.fastest p)
/-- floor[p] (R444). -/
def State.floorOf (s : State) (p : Nat) : Rat := s.staticPart p (s.slowFast p).1 + s.demand p * sdOf (s.slowFast p).1 / 4
/-- need[p] (R444). -/
def State.needOf (s : State) (p : Nat) : Rat := s.staticPart p (s.slowFast p).2 + s.demand p * sdOf (s.slowFast p).2

/-- Enabled partitions. -/
def State.enabledParts (s : State) : List Nat := (upTo 16).filter (fun p => (s.part p).enabled)
/-- Static power of the MDs of fields in no enabled partition (R444). -/
def State.freeStatic (s : State) : Rat :=
  (upTo nFields).foldl (fun (a : Rat) f => if (s.partOf f).isSome ∨ (s.field f).clk.md ≠ .on then a else a + s.staticV f false (s.supplyNow f)) 0

/-- The power available is divided: budgets in mW, and OVERCAP (R444). -/
def State.divide (s : State) : Tab Rat × Bool :=
  let ps := s.enabledParts
  let floors : Rat := ps.foldl (fun (a : Rat) p => a + s.floorOf p) 0
  let spans : Rat := ps.foldl (fun (a : Rat) p => a + (s.needOf p - s.floorOf p)) 0
  let rest : Rat := (s.capEff : Rat) * 1000 - s.otherPower - s.freeStatic - floors
  let share (p : Nat) : Rat :=
    if rest < 0 then s.floorOf p
    else if spans ≤ rest then s.needOf p
    else s.floorOf p + rest * (s.needOf p - s.floorOf p) / spans
  (ps.foldl (fun (t : Tab Rat) p => Tab.write t 0 p (share p)) [], decide (rest < 0))

/-! ### Bubbles and filler (R448, R449, R451) -/

/-- The target of the proportional law (R448): the dynamic power of the last period and the budget's room, both in mW. -/
def bubbleTarget (dyn room : Rat) (bub : Nat) : Nat :=
  let u : Rat := dyn * 64 / ((64 : Rat) - (bub : Rat))
  if room ≤ 0 then 48
  else if u ≤ room then 0
  else
    let x : Rat := 64 * (u - room) / u
    min 48 x.ceil.toNat
/-- A step of at most 8 toward the target (R448). -/
def bubbleStep (bub target : Nat) : Nat := if bub ≤ target then min target (bub + 8) else max target (bub - 8)

/-- FILL_DUTY of a field from its last period, rounded to nearest; with no core in RUN there is no mean and it stays (R449; log entry 53). -/
def dutyOf (steps ran old : Nat) : Nat := if ran = 0 then old else min 64 ((64 * steps * 2 + ran) / (2 * ran))

/-- A partition's share of a period: bubbles by the proportional law, filler duty by R449 and R451. -/
def State.periodPart (s : State) (p : Nat) : State :=
  let fs := s.partFields p
  let last := s.power.lastPeriod
  let dyn : Rat := fs.foldl (fun (a : Rat) f => a + Tab.read last.dyn 0 f) 0
  let all : Rat := fs.foldl (fun (a : Rat) f => a + Tab.read last.all 0 f) 0
  let b := Tab.read s.power.budget 0 p
  let filled := fs.any (fun f => last.filled.contains f)
  let overB := filled && decide (b < all / 10000)
  let bub := fs.foldl (fun a f => max a (s.ctl f).1) 0
  let changing := fs.any (fun f => (s.field f).clk.change.isSome)
  let law := bubbleStep bub (bubbleTarget (dyn / 10000) (b - s.staticPart p (s.present p)) bub)
  let next :=
    if s.setting 0x2401 1 = 0 then 0
    else if changing || overB then bub
    else if filled then min bub law
    else law
  fs.foldl (fun s f =>
    let d := dutyOf (Tab.read last.mixN 0 f) (Tab.read last.mixD 0 f) (s.ctl f).2
    s.setCtl f next (if overB then d - 8 else d)) s

/-- CONTROLLER_PERIOD: at a TSTAMP multiple of 1,000 the controller divides the budget and sets bubbles and filler duty (R441, R444, R448, R449, R451). -/
def execControllerPeriod (s : State) : Out :=
  .next (if !s.serving ∨ !s.sd.refclkOk ∨ s.tstamp / 1000 ≤ s.power.periodAt then s
  else
    let d := s.divide
    let s1 := { s with power := { s.power with budget := d.1, overcap := d.2, periodAt := s.tstamp / 1000 } }
    s1.enabledParts.foldl State.periodPart s1)

/-! ### Learning and F-states (R442, R445) -/

/-- L(p, c) after an epoch (R442). -/
def State.learn (s : State) (p c : Nat) : State :=
  let us := Tab.read s.power.lastEpoch.taskUs 0 (p * 16 + c)
  if us = 0 then s
  else
    let x : Rat := Tab.read s.power.lastEpoch.energy 0 (p * 16 + c) / (us : Rat) / 1000
    let l := s.learned p c
    let l1 : Rat := if l = 0 then x else l + (x - l) / 8
    { s with fw := { s.fw with learned := Tab.write s.fw.learned 0 (p * 16 + c) l1 }, wh := { s.wh with changed := true } }

/-- A severe droop of the last millisecond in one of a partition's fields (R445). -/
def State.drooped (s : State) (p : Nat) : Bool := (s.partFields p).any (fun f => decide (s.tstamp < Tab.read s.power.droopTill 0 f))

/-- The wanted F-state of a partition that chooses its own (R445). -/
def State.choose (s : State) (p : Nat) : Nat :=
  let now := s.present p
  let d := s.demand p
  let b := Tab.read s.power.budget 0 p
  let fits (n : Nat) : Bool :=
    let x : Rat := s.staticPart p n + d * sdOf n
    decide (x ≤ if n < now then b * 95 / 100 else b)
  let n :=
    if (s.part p).graph = .idle then 15
    else if d = 0 then now
    else ((upTo 16).find? (fun n => decide (s.setting 0x2302 (p + 1) ≤ n) && fits n)).getD 15
  if s.drooped p then max (min 15 (n + 1)) now else n

/-- CONTROLLER_EPOCH: at a TSTAMP multiple of 10,000 the controller learns class power and chooses wanted F-states; a partition that is not locked changes at epoch +
50 µs, and raised trims reach the supplies of fields that do not change (R442, R445, R471). -/
def execControllerEpoch (s : State) : Out :=
  .next (if !s.serving ∨ !s.sd.refclkOk ∨ s.tstamp / 10000 ≤ s.power.epochAt then s
  else
    let e := s.tstamp / 10000
    let s1 := { s with power := { s.power with epochAt := e } }
    let s2 := s1.enabledParts.foldl (fun s p => (upTo 16).foldl (fun s c => s.learn p c) s) s1
    let s3 := { s2 with therm := { s2.therm with trimWait := s2.therm.trimWait.filter (fun f => (s2.field f).clk.change.isSome) } }
    s3.enabledParts.foldl (fun s p =>
      if s.fixed p then (if s.present p = s.partFstate p then s else s.issuePart p (s.partFstate p) (e * 10000 + 5000))
      else
        let s4 := { s with fw := { s.fw with wanted := Tab.insert s.fw.wanted p (s.choose p) }, wh := { s.wh with changed := true } }
        s4.issuePart p (s4.partFstate p) (e * 10000 + 5000)) s3)

end Sys2Proof.Machine
end

