-- ==== Sys2Proof/Machine/Thermal.lean ====
section
/-! DEFINITION. Junction sensors, the thermal states, derating, the hardware trip, and ageing (R459 to R472). -/

namespace Sys2Proof.Machine

/-- Changes the thermal state. -/
def State.modTherm (s : State) (g : Thermal → Thermal) : State := { s with therm := g s.therm }

/-- A thermal record: scope field and the field's queue, or the engine's for an SD or RD sensor (R460, R461, R465). `sd` keeps it in the SD's queue. -/
def State.sensorFault (s : State) (i cause info : Nat) (sd : Bool) : State :=
  if i < 648 then s.report (if sd then 73 else i / 9) (plainFault cause 2 (i / 9) info) else s.engineFault cause info

/-- INFO of a threshold record (R461). -/
def sensorInfo (i : Nat) (t : Int) : Nat := i <<< 16 + wrap 16 t

/-- SD hardware issues F15 to every field at once (R414, R463). -/
def State.forceAll (s : State) : State :=
  { s with fields := s.fields.map (fun (e : Nat × Field) => (e.1, if e.2.clk.md = .on then { e.2 with clk := e.2.clk.force s.tstamp } else e.2)) }

/-- The forced state is entered and recorded (R461, R463). -/
def State.enterForced (s : State) (i : Nat) (t : Int) : State :=
  ((s.modTherm (fun x => { x with state := 2, below95 := none })).forceAll).sensorFault i 0x5291 (sensorInfo i t) false

/-- The hardware trip (R465). -/
def State.trip (s : State) (i : Nat) (t : Int) : State :=
  let s1 := ((s.warmReset .off).modSd (fun d => { d with tripLatched := true })).countStored 0x2492 2
  s1.sensorFault i 0x5292 (sensorInfo i t) true

/-- Since when every converting sensor has been below 87.0 and 95.0 °C (R461). -/
def State.trackBelow (s : State) : State :=
  let keep (old : Option Nat) (t : Int) : Option Nat := if s.anySensor t then none else (match old with | some x => some x | none => some s.sd.vtime)
  s.modTherm (fun x => { x with below87 := keep x.below87 870, below95 := keep x.below95 950 })

/-- A field with three failed sensors counts as standing at TJ_FORCE (R460). -/
def State.fieldForced (s : State) (f : Nat) : Bool := decide (3 ≤ ((fieldSensors f).filter (fun i => s.therm.failed.contains i)).length)

/-- A sensor has failed: recorded once, excluded until the next cold start, and its field at TJ_FORCE with three (R460). Log entry 67. -/
def State.failSensor (s : State) (i : Nat) : State :=
  let s1 := (s.modTherm (fun x => { x with failed := x.failed ++ [i] })).sensorFault i 0x5295 0 false
  let s2 := s1.trackBelow
  if i < 648 ∧ s2.fieldForced (i / 9) ∧ s2.therm.state ≠ 2 then s2.enterForced i 1000 else s2

/-- SENSOR_CONVERSION: sensor `i` converts to `t` tenths of a degree; a value out of range fails it, else it is held against the thresholds (R459 to R465). -/
def execSensorConversion (i : Nat) (t : Int) (s : State) : Out :=
  if 654 ≤ i then .fault .noSuchUnit
  else .next (
    if s.therm.failed.contains i ∨ !s.sensorOn i ∨ s.sd.state ≠ .on then s
    else if t < -400 ∨ 1500 < t then s.failSensor i
    else
      let s1 := (s.modTherm (fun x => { x with temp := Tab.insert x.temp i (t, s.sd.vtime) })).trackBelow
      let s2 := if 1000 ≤ t ∧ s1.therm.state ≠ 2 then s1.enterForced i t
        else if 900 ≤ t ∧ s1.therm.state = 0 ∧ s1.serving then (s1.modTherm (fun x => { x with state := 1 })).sensorFault i 0x5290 (sensorInfo i t) false
        else s1
      if 1100 ≤ t ∧ !s2.sd.tripLatched then s2.trip i t else s2)

/-- SENSOR_FAULT: a sensor of an ON domain has converted nothing for 10 µs (R460). -/
def execSensorFault (i : Nat) (s : State) : Out :=
  if 654 ≤ i then .fault .noSuchUnit
  else .next (
    let last := match s.therm.temp.find? (fun e => decide (e.1 = i)) with | some e => e.2.2 | none => Tab.read s.therm.onAt 0 (sensorDomain i)
    if decide (last + 1000 ≤ s.sd.vtime) && s.sensorOn i && decide (s.sd.state = .on) && !s.therm.failed.contains i then s.failSensor i else s)

/-- A moment lies 10 ms back. -/
def past10 (m : Option Nat) (now : Nat) : Bool := match m with | some t => decide (t + 1000000 ≤ now) | none => false

/-- THERM_WARN_CLEAR: every sensor below 87.0 °C for 10 ms: state 0, and k is 0 (R461, R462). -/
def execThermWarnClear (s : State) : Out :=
  .next (if s.therm.state = 1 ∧ s.serving ∧ past10 s.therm.below87 s.sd.vtime ∧ !s.anySensor 870 then
    { (s.modTherm (fun x => { x with state := 0 })) with fw := { s.fw with kstep := 0 }, wh := { s.wh with changed := true } }
  else s)

/-- THERM_FORCED_CLEAR: every sensor below 95.0 °C for 10 ms, and no field held at TJ_FORCE: state 1, and partitions return to their states at the next epoch + 50 µs, or
once a frozen controller resumes (R14, R460, R461, R463). -/
def execThermForcedClear (s : State) : Out :=
  .next (if s.therm.state = 2 ∧ past10 s.therm.below95 s.sd.vtime ∧ !s.anySensor 950 ∧ (upTo nFields).all (fun f => !s.fieldForced f) then
    let s1 := s.modTherm (fun x => { x with state := 1 })
    if s.frozen then s1 else s1.enabledParts.foldl (fun s p => s.issuePart p (s.partFstate p) ((s.tstamp / 10000 + 1) * 10000 + 5000)) s1
  else s)

/-- derate_step(t, k), with T in tenths of a degree (R462). -/
def derateStep (t : Int) (k : Nat) : Nat :=
  let up := (min 10 (max 0 ((t - 890) / 10))).toNat
  let dn := (min 10 (max 0 ((t - 885) / 10))).toNat
  if k < up then up else if dn < k then dn else k

/-- DERATE_STEP: k is set from TJ_MAX, at most once in a millisecond (R462). -/
def execDerateStep (s : State) : Out :=
  .next (match s.tjMax with
    | none => s
    | some t =>
      let k := derateStep t s.fw.kstep
      if s.therm.state = 0 ∨ !s.serving ∨ k = s.fw.kstep ∨ (s.therm.lastK ≠ 0 ∧ s.sd.vtime + 1 < s.therm.lastK + 100000) then s
      else { (s.modTherm (fun x => { x with lastK := s.sd.vtime + 1 })) with fw := { s.fw with kstep := k }, wh := { s.wh with changed := true } })

/-! ### Ageing (R470, R471) -/

/-- Two successive checks of a field were below 8.0 %: its trim rises by 5 mV, which the supply takes at an epoch, or at 40 mV its fastest F-state falls by one (R471, R472). Log entry 106. -/
def State.ageStep (s : State) (f : Nat) : State :=
  let v := s.setting 0x24B0 (f + 1)
  if v < 40 then
    let s1 := s.setDict 0x24B0 (f + 1) (v + 5)
    let s2 := { s1 with flash := s1.flash.writeObjs (Tab.insert s1.flash.stored (objKey 0x24B0 (f + 1)) (v + 5)), therm := { s1.therm with trimWait := s1.therm.trimWait ++ [f] } }
    if v + 5 = 40 then s2.fieldFault f 0x5296 0 else s2
  else if 15 ≤ s.ageFmax f then s
  else
    let s1 := (s.modTherm (fun x => { x with fmax := Tab.write x.fmax 0 f (s.ageFmax f + 1) })).fieldFault f 0x5296 0
    match s1.partOf f with
    | some p => s1.issuePart p (s1.partFstate p) ((s1.tstamp / 10000 + 1) * 10000 + 5000)
    | none => s1

/-- SLACK_CHECK: in each hour of POWER_ON_HOURS a field whose CD is ON is checked once; `slack` is the least of its monitors in 0.1 % (R470, R471). -/
def execSlackCheck (f slack : Nat) (s : State) : Out :=
  onField f s (fun s =>
    let hour := s.powerHours + 1
    if !s.serving ∨ !s.cdOn f ∨ Tab.read s.therm.checked 0 f = hour then s
    else
      let low := decide (slack % 1024 < 80)
      let twice := low && s.therm.lowOnce.contains f
      let s1 := s.modTherm (fun x =>
        { x with slack := Tab.write x.slack 0 f (slack % 1024), checked := Tab.write x.checked 0 f hour,
                 lowOnce := if low then (if x.lowOnce.contains f then x.lowOnce else x.lowOnce ++ [f]) else x.lowOnce.filter (fun g => !decide (g = f)) })
      if twice then s1.ageStep f else s1)

end Sys2Proof.Machine
end

