-- ==== Sys2Proof/Machine/Observe.lean ====
section
/-! DEFINITION. Scrubbing, statistics and the carrying of trace records to the host (R515 to R517, R521 to R531). -/

namespace Sys2Proof.Machine

/-! ### Scrub (R515 to R517) -/

/-- A row has been read: the next falls due an interval later, and a pass ends at the last row. -/
def Scrub.next (x : Scrub) (now rows gap : Nat) : Scrub :=
  let y := { x with row := x.row + 1, due := (if x.due = 0 then now else x.due) + gap, since := if x.row = 0 then now else x.since }
  if rows ≤ y.row then { y with row := 0, last := now - y.since } else y

/-- Words that the read of a row finds newly in error join those known: a place in the row, and whether it is uncorrectable (log entry 54). -/
def joinBad (l : List Nat) (base : Nat) (found : List (Nat × Bool)) (ue : Bool) : List Nat :=
  found.foldl (fun l e => if e.2 = ue ∧ e.1 < 8 ∧ !l.contains (base + e.1) then l ++ [base + e.1] else l) l

/-- The next row of a bank of data SRAM (0 to 9) or of the instruction store (10) is read and corrected if needed (R131, R515, R517). -/
def State.scrubRow (s : State) (c bank : Nat) (found : List (Nat × Bool)) : State :=
  let f := fieldOf c
  let k := s.core c
  let x := Tab.read k.scrub Scrub.reset bank
  let store := decide (bank = 10)
  let base := (if store then 0 else bank * 4096) + 8 * x.row
  let words := (upTo 8).map (fun j => base + j)
  let k1 := { k with scrub := Tab.write k.scrub Scrub.reset bank (x.next s.tstamp (if store then 384 else 512) 195300) }
  if store then
    let iue := joinBad k.iue base found true
    let ice := joinBad k.ice base found false
    let met := words.filter (fun w => ice.contains w && !iue.contains w)
    let bad := words.filter (fun w => iue.contains w)
    let s1 := s.setCore c { k1 with iue := iue, ice := ice.filter (fun w => !met.contains w) }
    let s1 := bad.foldl (fun s w => s.countUe f .istore c w none) s1
    if met.isEmpty then s1 else (s1.addTotal 1 met.length).addFieldCtr f 0x48 met.length
  else
    let ue := joinBad k.ue base found true
    let ce := (joinBad k.ce base found false).filter (fun w => !ue.contains w)
    let k2 := ({ k1 with ue := ue, ce := ce }).readCe words
    let n := k2.wback.length - k.wback.length
    let s1 := (words.filter (fun w => ue.contains w)).foldl (fun s w => s.countUe f .sram c w none) (s.setCore c k2)
    if n = 0 then s1 else s1.addFieldCtr f 0x48 n

/-- A scrub row of a core may be read: its CD is ON and the core in place. -/
def State.scrubs (s : State) (c bank : Nat) : Bool := decide (bank < 11) && s.cdOn (fieldOf c) && decide ((s.core c).run ≠ .off)

/-- SRAM_SCRUB_ROW: a due row is read in a free cycle of its bank (R515). -/
def execSramScrubRow (c bank : Nat) (found : List (Nat × Bool)) (s : State) : Out :=
  onCore c s (fun s =>
    if s.scrubs c bank ∧ (Tab.read (s.core c).scrub Scrub.reset bank).due ≤ s.tstamp then s.scrubRow c bank found else s)

/-- FORCED_SCRUB_CYCLE: a row that has waited 256 CCLK is read in a class-3 cycle (R515). -/
def execForcedScrubCycle (c bank : Nat) (found : List (Nat × Bool)) (s : State) : Out :=
  onCore c s (fun s =>
    let x := Tab.read (s.core c).scrub Scrub.reset bank
    let wait := 512 / (24 - (s.field (fieldOf c)).clk.fstate)
    if s.scrubs c bank ∧ x.due ≠ 0 ∧ x.due + wait ≤ s.tstamp then s.scrubRow c bank found else s)

/-- An uncorrectable word in a node's slot: a node in flight fails at its completion point, any other at once (R83, R516). -/
def State.scrubNode (s : State) (f n : Nat) : State :=
  let r := (s.field f).cis.node n
  if r.state = .staged ∨ r.state = .running then s.modCis f (fun c => c.setNode n { c.node n with scrubBad := true })
  else if r.state = .failed then s
  else (s.modCis f (fun c => { c with pool := c.pool.filter (fun m => !decide (m = n)), chain := c.chain.filter (fun m => !decide (m = n)) })).failNode f n 0x3141

/-- TABLE_SCRUB_SLOT: the Cistern's scrubber reads its next slot; a correctable word is corrected, an uncorrectable one is counted and fails its node (R93, R516, R517). -/
def execTableScrubSlot (f : Nat) (found : List (Nat × Bool)) (s : State) : Out :=
  onField f s (fun s =>
    let c := (s.field f).cis
    let x := c.scrub
    if (s.field f).clk.md ≠ .on ∨ s.tstamp < x.due then s
    else
      let base := 8 * x.row
      let words := (upTo 8).map (fun j => base + j)
      let ue := joinBad c.ue base found true
      let ce := joinBad c.ce base found false
      let met := words.filter (fun w => ce.contains w && !ue.contains w)
      let bad := words.filter (fun w => ue.contains w)
      let s1 := s.modCis f (fun c => { c with ue := ue, ce := ce.filter (fun w => !words.contains w), scrub := x.next s.tstamp 65536 1500 })
      let s2 := if met.isEmpty then s1 else (s1.addTotal 3 met.length).addFieldCtr f 0x48 met.length
      if bad.isEmpty then s2
      else
        let s3 := bad.foldl (fun s w => s.countUe f .cistern 0 w none) s2
        let s4 := s3.modCis f (fun c => c.error 2 0x3141 x.row)
        if c.isNode x.row then s4.scrubNode f x.row else s4)

/-! ### Statistics (R526, R527) -/

/-- A record of a field with SUB 0. -/
def statRec (kind p f layer w1 ts w3 : Nat) : TraceRec := { w0 := traceWord0 kind p 0 f layer 0, w1 := w1, w2 := ts, w3 := w3 }

/-- What a core's counters stand at: the six times in CCLK, tasks begun and reports sent. -/
def State.statNow (s : State) (c : Nat) : List Nat := (upTo 6).map (counterCsr s c) ++ [(s.core c).counter 16, (s.core c).counter 14]

/-- The two records of a core for an interval (R526). -/
def State.coreStats (s : State) (p f li ts : Nat) (part : Bool) : List TraceRec :=
  let c := coreId f li
  let now := s.statNow c
  let d (i w : Nat) : Nat := (wordAt now i + 2 ^ 64 - Tab.read (s.field f).obs.statBase 0 (li * 8 + i)) % 2 ^ w
  let h (q : Nat) : Nat := ((s.core c).queue q).hwm
  let layer := li + b2n part <<< 15
  [statRec 0x10 p f layer (d 0 32 <<< 32 + d 1 32) ts (d 2 32 <<< 32 + d 3 32),
   statRec 0x11 p f layer (d 4 32 <<< 32 + d 5 32) ts (h 3 <<< 56 + h 2 <<< 48 + h 1 <<< 40 + h 0 <<< 32 + d 6 16 <<< 16 + d 7 16)]

/-- The record of a field for an interval (R526); its counters' base is kept behind the cores'. -/
def State.fieldStats (s : State) (p f ts : Nat) : TraceRec :=
  let x := s.field f
  let d (o k : Nat) : Nat := (Tab.read x.obs.counters 0 o + 2 ^ 64 - Tab.read x.obs.statBase 0 (10240 + k)) % 2 ^ 32
  statRec 0x12 p f 0 (x.cis.poolHwmIv <<< 41 + x.cis.pool.length <<< 30 + x.cis.chainHwm <<< 13) ts (d 0x50 0 <<< 32 + d 0x58 1)

/-- Cores of a field that statistics cover: in place and not lost (R35, R526). -/
def State.statCores (s : State) (f : Nat) : List Nat :=
  (upTo 1280).filter (fun li => decide ((s.core (coreId f li)).run ≠ .off) && !(s.core (coreId f li)).lost)

/-- A field's interval ends: its snapshot is taken unless the last one is still being emitted, and the next interval's counts begin (R526). -/
def State.endInterval (s : State) (p f ts : Nat) (make part : Bool) : State :=
  let lis := s.statCores f
  let x := s.field f
  let recs := lis.flatMap (fun li => s.coreStats p f li ts (part || x.obs.partialIv)) ++ [s.fieldStats p f ts]
  let base := lis.foldl (fun (t : Tab Nat) li =>
    ((s.statNow (coreId f li)).zipIdx).foldl (fun (t : Tab Nat) (e : Nat × Nat) => Tab.write t 0 (li * 8 + e.2) e.1) t) []
  let base1 := Tab.write (Tab.write base 0 10240 (Tab.read x.obs.counters 0 0x50)) 0 10241 (Tab.read x.obs.counters 0 0x58)
  let s1 := lis.foldl (fun s li => s.modCore (coreId f li) (fun k =>
    { k with inq := k.inq.map (fun (e : Nat × InQueue) => (e.1, { e.2 with hwm := e.2.occupied })) })) s
  let go := make && x.obs.stats.isNone
  let s2 := if go then s1.addFieldCtr f 0x68 recs.length else s1
  s2.modField f (fun x =>
    { x with cis := { x.cis with poolHwmIv := x.cis.pool.length, chainHwm := x.cis.chain.length },
             obs := { x.obs with statBase := base1, partialIv := false, stats := if go then some { endTs := ts, recs := recs } else x.obs.stats } })

/-- STATS_INTERVAL_END: a partition's interval ends at a multiple of 1 ms × 2^STATS_IV (R521, R526). -/
def execStatsIntervalEnd (p : Nat) (s : State) : Out :=
  onPart p s (fun s =>
    let t := s.traceDest p
    let len := 100000 * 2 ^ bits t.cfg 14 12
    let ts := s.tstamp / len * len
    if !(s.part p).enabled ∨ ts ≤ t.statsAt ∨ s.rd.state ≠ .on then s
    else
      let make := t.en && bit (s.setting 0x2A00 (p + 1)) 1
      let s1 := (s.partFields p).foldl (fun s f => if (s.field f).clk.md = .on then s.endInterval p f ts make t.newBit else s) s
      s1.setTraceDest p { s1.traceDest p with statsAt := ts, newBit := false })

/-- STATS_EMISSION_WINDOW_END: 1 ms after its interval end what waits of a snapshot is dropped (R527, R529). -/
def execStatsEmissionWindowEnd (f : Nat) (s : State) : Out :=
  onField f s (fun s =>
    match (s.field f).obs.stats, s.partOf f with
    | some x, some p =>
      if s.tstamp < x.endTs + 100000 then s
      else (s.modField f (fun y => { y with obs := { y.obs with stats := none } })).fieldDropped f p x.recs.length
    | _, _ => s)

/-! ### The stream to the host (R527 to R531) -/

/-- The RD stages records of a partition; those beyond 1,024 are dropped and counted (R527, R529). -/
def State.stage (s : State) (p : Nat) (l : List TraceRec) : State :=
  let t := s.traceDest p
  let room := 1024 - t.staging.length
  let lost := l.length - room
  let s1 := s.setTraceDest p { t with staging := t.staging ++ l.take room, dropped := t.dropped + lost }
  if lost = 0 then s1 else (s1.addRdCtr 0x18 lost).modPart p (fun x => { x with traceDropped := (x.traceDropped + lost) % 2 ^ 32 })

/-- A field's records go down the trace chain, and those of its snapshot take the buffer space that becomes free (R527; log entry 55). -/
def State.chain (s : State) (p f : Nat) : State :=
  let o := (s.field f).obs
  let s1 := s.stage p o.trace
  let wait := match o.stats with | some x => x.recs | none => []
  s1.modField f (fun x =>
    { x with obs := { x.obs with trace := wait.take 512, stats := match o.stats with
                                   | some y => if y.recs.length ≤ 512 then none else some { y with recs := y.recs.drop 512 }
                                   | none => none } })

/-- A record's 32 bytes (R521). -/
def TraceRec.bytes (r : TraceRec) : List Byte := toBytes 8 r.w0 ++ toBytes 8 r.w1 ++ toBytes 8 r.w2 ++ toBytes 8 r.w3
/-- Size of a record ring (R528). -/
def TraceDest.size (t : TraceDest) : Nat := 2 ^ (bits t.cfg 7 4 + 7)
/-- Records in the ring as far as CONS is known. -/
def TraceDest.held (t : TraceDest) : Nat := (t.index + 2 ^ 32 - t.cons % 2 ^ 32) % 2 ^ 32

/-- Writes `n` staged records into the ring. -/
def State.writeRecs (s : State) (p n : Nat) : State :=
  match n with
  | 0 => s
  | n + 1 =>
    let t := s.traceDest p
    match t.staging with
    | [] => s
    | r :: l =>
      let s1 := s.hostWrite (t.cfg % 4) (t.base + 32 * (t.index % t.size)) r.bytes
      State.writeRecs ((s1.setTraceDest p { t with staging := l, index := (t.index + 1) % 2 ^ 32 }).addRdCtr 0x10 1) p n

/-- TRACE_RECORD_WRITE: records come down the chain, and the port writes what is staged while the ring has room and its link is up (R529, R531). -/
def execTraceRecordWrite (p : Nat) (s : State) : Out :=
  onPart p s (fun s =>
    if !(s.traceDest p).en ∨ s.rd.state ≠ .on then s
    else
      let s1 := (s.partFields p).foldl (fun s f => if (s.field f).clk.md = .on then s.chain p f else s) s
      let t := s1.traceDest p
      if s1.portUp (t.cfg % 4) then s1.writeRecs p (t.size - t.held) else s1)

/-- TRACE_PROD_WRITE: PROD goes into the header behind the records written (R529). -/
def execTraceProdWrite (p : Nat) (s : State) : Out :=
  onPart p s (fun s =>
    let t := s.traceDest p
    if t.en ∧ t.prod ≠ t.index ∧ s.portUp (t.cfg % 4) then
      (s.setTraceDest p { t with prod := t.index }).hostWrite (t.cfg % 4) t.hdr (toBytes 4 t.index)
    else s)

/-- TRACE_CONS_READ: CONS is read, when the ring looks full at most once per 1 µs and in any case per 100 µs; `value` is what the host answers; a read that
fails is recorded by AER and clears EN (R294, R529, R530). -/
def execTraceConsRead (p : Nat) (value : ReadFail ⊕ Nat) (s : State) : Out :=
  onPart p s (fun s =>
    let t := s.traceDest p
    let due := decide (t.consAt + 10000 ≤ s.tstamp) || (decide (t.size ≤ t.held) && decide (t.consAt + 100 ≤ s.tstamp))
    if t.en && due && s.portUp (t.cfg % 4) then
      match value with
      | .inr v => (s.modPort (t.cfg % 4) (fun x => x.count 0x20 4)).setTraceDest p { t with cons := v % 2 ^ 32, consAt := s.tstamp }
      | .inl e =>
        let s1 := (s.modPort (t.cfg % 4) (fun x => x.aerRecord e)).traceDisable p
        s1.setTraceDest p { s1.traceDest p with readErr := true }
    else s)

/-- TRACE_DROP: a stage that has dropped records makes one DROP record once it has space: a field by its ID, the RD as 0x7F (R521, R522, R529). -/
def execTraceDrop (p stage : Nat) (s : State) : Out :=
  onPart p s (fun s =>
    let t := s.traceDest p
    let make := t.en && decide (s.setting 0x2A00 (p + 1) % 4 ≠ 0)
    if stage = 0x7F then
      if make && decide (0 < t.dropped) && decide (t.staging.length < 1024) then
        let r : TraceRec := { w0 := traceWord0 0x1E p 0 0x7F 0 0, w1 := 0, w2 := s.tstamp, w3 := t.dropped % 2 ^ 32 }
        s.setTraceDest p { t with staging := t.staging ++ [r], dropped := 0 }
      else s
    else
      let o := (s.field stage).obs
      if make && decide (s.partOf stage = some p) && decide (0 < o.dropped) && decide (o.trace.length < 512) then
        let s1 := s.traceMake stage 0x1E 0 0 0 s.tstamp (o.dropped % 2 ^ 32)
        s1.modField stage (fun x => { x with obs := { x.obs with dropped := 0 } })
      else s)

end Sys2Proof.Machine
end

