-- ==== Sys2Proof/Machine/Dispatch.lean ====
section
/-! DEFINITION. The meaning of every command: one arm for each constructor, in the order of the opcode table. -/

namespace Sys2Proof.Machine

/-- A command's effect on everything but the queue of commands. -/
def exec (i : Instr) (s : State) : Host.Outcome State Fault Refusal :=
  match i with
  | .sqTail p r v => Sys2Proof.Machine.execSqTail p r v s
  | .cqHead p r v => Sys2Proof.Machine.execCqHead p r v s
  | .commandFetch p r data => Sys2Proof.Machine.execCommandFetch p r data s
  | .nop p r => Sys2Proof.Machine.execNop p r s
  | .writeData p r => Sys2Proof.Machine.execWriteData p r s
  | .readData p r => Sys2Proof.Machine.execReadData p r s
  | .loadImage p r => Sys2Proof.Machine.execLoadImage p r s
  | .writeTable p r => Sys2Proof.Machine.execWriteTable p r s
  | .startGraph p r => Sys2Proof.Machine.execStartGraph p r s
  | .startGraphDeferredCheck p ci => Sys2Proof.Machine.execStartGraphDeferredCheck p ci s
  | .stopGraph p r => Sys2Proof.Machine.execStopGraph p r s
  | .postEvent p r => Sys2Proof.Machine.execPostEvent p r s
  | .hintPhaseBegin p r => Sys2Proof.Machine.execHintPhaseBegin p r s
  | .hintPhaseEnd p r => Sys2Proof.Machine.execHintPhaseEnd p r s
  | .energyMarkOpen p r => Sys2Proof.Machine.execEnergyMarkOpen p r s
  | .energyMarkClose p r => Sys2Proof.Machine.execEnergyMarkClose p r s
  | .invalidatePort p r => Sys2Proof.Machine.execInvalidatePort p r s
  | .invalidateContext p r => Sys2Proof.Machine.execInvalidateContext p r s
  | .invalidateRange p r => Sys2Proof.Machine.execInvalidateRange p r s
  | .remoteWrite p r => Sys2Proof.Machine.execRemoteWrite p r s
  | .walkReadResponse p ci wi entry => Sys2Proof.Machine.execWalkReadResponse p ci wi entry s
  | .hostDataReadResponse p ci ri data => Sys2Proof.Machine.execHostDataReadResponse p ci ri data s
  | .fabricAccess k => Sys2Proof.Machine.execFabricAccess k s
  | .fabricAccessRelease k => Sys2Proof.Machine.execFabricAccessRelease k s
  | .fabricRsp k => Sys2Proof.Machine.execFabricRsp k s
  | .commandCompletion p ci => Sys2Proof.Machine.execCommandCompletion p ci s
  | .completionRecordWrite p r => Sys2Proof.Machine.execCompletionRecordWrite p r s
  | .msixSignal p v => Sys2Proof.Machine.execMsixSignal p v s
  | .hostNotification k => Sys2Proof.Machine.execHostNotification k s
  | .cmdTimeout p j => Sys2Proof.Machine.execCmdTimeout p j s
  | .ringEnable p r v => Sys2Proof.Machine.execRingEnable p r v s
  | .ringDisable p r => Sys2Proof.Machine.execRingDisable p r s
  | .ringResume p r => Sys2Proof.Machine.execRingResume p r s
  | .ringResumeRedo p r => Sys2Proof.Machine.execRingResumeRedo p r s
  | .ctxRootWrite p c v => Sys2Proof.Machine.execCtxRootWrite p c v s
  | .devwinWrite p w limit v => Sys2Proof.Machine.execDevwinWrite p w limit v s
  | .functionLevelReset p => Sys2Proof.Machine.execFunctionLevelReset p s
  | .perstN p => Sys2Proof.Machine.execPerstN p s
  | .registerWrite p o v => Sys2Proof.Machine.execRegisterWrite p o v s
  | .cisternEventAccept f k => Sys2Proof.Machine.execCisternEventAccept f k s
  | .overflowChainAdvance f => Sys2Proof.Machine.execOverflowChainAdvance f s
  | .taskAssign f n at' => Sys2Proof.Machine.execTaskAssign f n at' s
  | .taskStart c => Sys2Proof.Machine.execTaskStart c s
  | .startReport k => Sys2Proof.Machine.execStartReport k s
  | .completionReport k => Sys2Proof.Machine.execCompletionReport k s
  | .outputRecordReadEnd f n => Sys2Proof.Machine.execOutputRecordReadEnd f n s
  | .outputRecordEmit f mesh => Sys2Proof.Machine.execOutputRecordEmit f mesh s
  | .failureReport k => Sys2Proof.Machine.execFailureReport k s
  | .withdrawRequest j => Sys2Proof.Machine.execWithdrawRequest j s
  | .withdrawAnswer k => Sys2Proof.Machine.execWithdrawAnswer k s
  | .abortRequest j => Sys2Proof.Machine.execAbortRequest j s
  | .abortReport k => Sys2Proof.Machine.execAbortReport k s
  | .taskWatchdog f n => Sys2Proof.Machine.execTaskWatchdog f n s
  | .abortNoAnswer f li => Sys2Proof.Machine.execAbortNoAnswer f li s
  | .coreLost c reason => Sys2Proof.Machine.execCoreLost c reason s
  | .repairAutoAddEntry c => Sys2Proof.Machine.execRepairAutoAddEntry c s
  | .commitNotice k => Sys2Proof.Machine.execCommitNotice k s
  | .postReceive k mesh => Sys2Proof.Machine.execPostReceive k mesh s
  | .eventLost k => Sys2Proof.Machine.execEventLost k s
  | .csErrClear f v => Sys2Proof.Machine.execCsErrClear f v s
  | .producerAdvance x => Sys2Proof.Machine.execProducerAdvance x s
  | .consumerAdvance x => Sys2Proof.Machine.execConsumerAdvance x s
  | .pairWait x => Sys2Proof.Machine.execPairWait x s
  | .pairRead x => Sys2Proof.Machine.execPairRead x s
  | .pairClear x => Sys2Proof.Machine.execPairClear x s
  | .syncAnswer j => Sys2Proof.Machine.execSyncAnswer j s
  | .sxErrClear f v => Sys2Proof.Machine.execSxErrClear f v s
  | .wellArrival k => Sys2Proof.Machine.execWellArrival k s
  | .releaseTreeArrival k => Sys2Proof.Machine.execReleaseTreeArrival k s
  | .wellTimeout f g => Sys2Proof.Machine.execWellTimeout f g s
  | .brokenReleaseArrival k => Sys2Proof.Machine.execBrokenReleaseArrival k s
  | .dryWellDeclare p => Sys2Proof.Machine.execDryWellDeclare p s
  | .dryWellSnapshotCommit p => Sys2Proof.Machine.execDryWellSnapshotCommit p s
  | .add c => Sys2Proof.Machine.execAdd c s
  | .sub c => Sys2Proof.Machine.execSub c s
  | .and c => Sys2Proof.Machine.execAnd c s
  | .or c => Sys2Proof.Machine.execOr c s
  | .xor c => Sys2Proof.Machine.execXor c s
  | .sll c => Sys2Proof.Machine.execSll c s
  | .srl c => Sys2Proof.Machine.execSrl c s
  | .sra c => Sys2Proof.Machine.execSra c s
  | .slt c => Sys2Proof.Machine.execSlt c s
  | .sltu c => Sys2Proof.Machine.execSltu c s
  | .minMax c => Sys2Proof.Machine.execMinMax c s
  | .mul c => Sys2Proof.Machine.execMul c s
  | .mulh c => Sys2Proof.Machine.execMulh c s
  | .mulhu c => Sys2Proof.Machine.execMulhu c s
  | .divRem c => Sys2Proof.Machine.execDivRem c s
  | .clz c => Sys2Proof.Machine.execClz c s
  | .popc c => Sys2Proof.Machine.execPopc c s
  | .addi c => Sys2Proof.Machine.execAddi c s
  | .andi c => Sys2Proof.Machine.execAndi c s
  | .ori c => Sys2Proof.Machine.execOri c s
  | .xori c => Sys2Proof.Machine.execXori c s
  | .shi c => Sys2Proof.Machine.execShi c s
  | .slti c => Sys2Proof.Machine.execSlti c s
  | .sltiu c => Sys2Proof.Machine.execSltiu c s
  | .lui c => Sys2Proof.Machine.execLui c s
  | .jal c => Sys2Proof.Machine.execJal c s
  | .jalr c => Sys2Proof.Machine.execJalr c s
  | .beq c => Sys2Proof.Machine.execBeq c s
  | .bne c => Sys2Proof.Machine.execBne c s
  | .blt c => Sys2Proof.Machine.execBlt c s
  | .bge c => Sys2Proof.Machine.execBge c s
  | .bltu c => Sys2Proof.Machine.execBltu c s
  | .bgeu c => Sys2Proof.Machine.execBgeu c s
  | .lb c => Sys2Proof.Machine.execLb c s
  | .lbu c => Sys2Proof.Machine.execLbu c s
  | .lh c => Sys2Proof.Machine.execLh c s
  | .lhu c => Sys2Proof.Machine.execLhu c s
  | .lw c => Sys2Proof.Machine.execLw c s
  | .ld c => Sys2Proof.Machine.execLd c s
  | .lq c => Sys2Proof.Machine.execLq c s
  | .sb c => Sys2Proof.Machine.execSb c s
  | .sh c => Sys2Proof.Machine.execSh c s
  | .sw c => Sys2Proof.Machine.execSw c s
  | .sd c => Sys2Proof.Machine.execSd c s
  | .sq c => Sys2Proof.Machine.execSq c s
  | .csrr c => Sys2Proof.Machine.execCsrr c s
  | .csrw c => Sys2Proof.Machine.execCsrw c s
  | .vaddf c => Sys2Proof.Machine.execVaddf c s
  | .vsubf c => Sys2Proof.Machine.execVsubf c s
  | .vmulf c => Sys2Proof.Machine.execVmulf c s
  | .vfmaf c => Sys2Proof.Machine.execVfmaf c s
  | .vminf c => Sys2Proof.Machine.execVminf c s
  | .vmaxf c => Sys2Proof.Machine.execVmaxf c s
  | .vcmpeqf c => Sys2Proof.Machine.execVcmpeqf c s
  | .vcmpltf c => Sys2Proof.Machine.execVcmpltf c s
  | .vcmplef c => Sys2Proof.Machine.execVcmplef c s
  | .vrcpf c => Sys2Proof.Machine.execVrcpf c s
  | .vrsqf c => Sys2Proof.Machine.execVrsqf c s
  | .vexp2f c => Sys2Proof.Machine.execVexp2f c s
  | .vlog2f c => Sys2Proof.Machine.execVlog2f c s
  | .vdivf c => Sys2Proof.Machine.execVdivf c s
  | .vsqrtf c => Sys2Proof.Machine.execVsqrtf c s
  | .vaddi c => Sys2Proof.Machine.execVaddi c s
  | .vsubi c => Sys2Proof.Machine.execVsubi c s
  | .vmuli c => Sys2Proof.Machine.execVmuli c s
  | .vand c => Sys2Proof.Machine.execVand c s
  | .vor c => Sys2Proof.Machine.execVor c s
  | .vxor c => Sys2Proof.Machine.execVxor c s
  | .vsll c => Sys2Proof.Machine.execVsll c s
  | .vsrl c => Sys2Proof.Machine.execVsrl c s
  | .vsra c => Sys2Proof.Machine.execVsra c s
  | .vmini c => Sys2Proof.Machine.execVmini c s
  | .vmaxi c => Sys2Proof.Machine.execVmaxi c s
  | .vcmpeqi c => Sys2Proof.Machine.execVcmpeqi c s
  | .vcmplti c => Sys2Proof.Machine.execVcmplti c s
  | .vsel c => Sys2Proof.Machine.execVsel c s
  | .vbcast c => Sys2Proof.Machine.execVbcast c s
  | .vext c => Sys2Proof.Machine.execVext c s
  | .vins c => Sys2Proof.Machine.execVins c s
  | .vperm c => Sys2Proof.Machine.execVperm c s
  | .vmov c => Sys2Proof.Machine.execVmov c s
  | .vrsumf c => Sys2Proof.Machine.execVrsumf c s
  | .vrmaxf c => Sys2Proof.Machine.execVrmaxf c s
  | .vrminf c => Sys2Proof.Machine.execVrminf c s
  | .vrsumi c => Sys2Proof.Machine.execVrsumi c s
  | .vcvt c => Sys2Proof.Machine.execVcvt c s
  | .vld c => Sys2Proof.Machine.execVld c s
  | .vst c => Sys2Proof.Machine.execVst c s
  | .tdesc c => Sys2Proof.Machine.execTdesc c s
  | .mma c => Sys2Proof.Machine.execMma c s
  | .ast c => Sys2Proof.Machine.execAst c s
  | .ald c => Sys2Proof.Machine.execAld c s
  | .azero c => Sys2Proof.Machine.execAzero c s
  | .axv c => Sys2Proof.Machine.execAxv c s
  | .avx c => Sys2Proof.Machine.execAvx c s
  | .rlaunch c => Sys2Proof.Machine.execRlaunch c s
  | .recipeArrivalSlice c => Sys2Proof.Machine.execRecipeArrivalSlice c s
  | .finishSend c => Sys2Proof.Machine.execFinishSend c s
  | .recipeFinish c => Sys2Proof.Machine.execRecipeFinish c s
  | .recipeRunFault c => Sys2Proof.Machine.execRecipeRunFault c s
  | .send c => Sys2Proof.Machine.execSend c s
  | .recv c => Sys2Proof.Machine.execRecv c s
  | .rpeek c => Sys2Proof.Machine.execRpeek c s
  | .sadv c => Sys2Proof.Machine.execSadv c s
  | .swait c => Sys2Proof.Machine.execSwait c s
  | .sread c => Sys2Proof.Machine.execSread c s
  | .sclr c => Sys2Proof.Machine.execSclr c s
  | .warr c => Sys2Proof.Machine.execWarr c s
  | .wawt c => Sys2Proof.Machine.execWawt c s
  | .waa c => Sys2Proof.Machine.execWaa c s
  | .post c => Sys2Proof.Machine.execPost c s
  | .endTask c => Sys2Proof.Machine.execEnd c s
  | .fail c => Sys2Proof.Machine.execFail c s
  | .endCompletionSend c => Sys2Proof.Machine.execEndCompletionSend c s
  | .outboundEntryLeave c => Sys2Proof.Machine.execOutboundEntryLeave c s
  | .refusalDelivery c => Sys2Proof.Machine.execRefusalDelivery c s
  | .coreWake c => Sys2Proof.Machine.execCoreWake c s
  | .fillerEnter c => Sys2Proof.Machine.execFillerEnter c s
  | .fillerDutyDecay c => Sys2Proof.Machine.execFillerDutyDecay c s
  | .storeBufferDrain c => Sys2Proof.Machine.execStoreBufferDrain c s
  | .eccWriteBack c bank => Sys2Proof.Machine.execEccWriteBack c bank s
  | .messageAccept k => Sys2Proof.Machine.execMessageAccept k s
  | .ack k => Sys2Proof.Machine.execAck k s
  | .msgUnreachable k => Sys2Proof.Machine.execMsgUnreachable k s
  | .packetReservedDiscard f h => Sys2Proof.Machine.execPacketReservedDiscard f h s
  | .creditReq k => Sys2Proof.Machine.execCreditReq k s
  | .creditGrant k => Sys2Proof.Machine.execCreditGrant k s
  | .creditReturn k => Sys2Proof.Machine.execCreditReturn k s
  | .creditEntryIdleTimeout c j => Sys2Proof.Machine.execCreditEntryIdleTimeout c j s
  | .creditBusyRetry c j => Sys2Proof.Machine.execCreditBusyRetry c j s
  | .lost k => Sys2Proof.Machine.execLost k s
  | .msgAckTimeout c j => Sys2Proof.Machine.execMsgAckTimeout c j s
  | .lostCoreCreditReturn c => Sys2Proof.Machine.execLostCoreCreditReturn c s
  | .linkFlitError px py dir => Sys2Proof.Machine.execLinkFlitError px py dir s
  | .linkResendRequest px py dir => Sys2Proof.Machine.execLinkResendRequest px py dir s
  | .meshLinkDown px py dir held => Sys2Proof.Machine.execMeshLinkDown px py dir held s
  | .portEnable apply who => Sys2Proof.Machine.execPortEnable apply who s
  | .portDisable apply who => Sys2Proof.Machine.execPortDisable apply who s
  | .trainComplete p width engine port => Sys2Proof.Machine.execTrainComplete p width engine port s
  | .trainTimeout p => Sys2Proof.Machine.execTrainTimeout p s
  | .autoRetrain p => Sys2Proof.Machine.execAutoRetrain p s
  | .frameReceive p f => Sys2Proof.Machine.execFrameReceive p f s
  | .nak p named => Sys2Proof.Machine.execNak p named s
  | .replayTimeout p => Sys2Proof.Machine.execReplayTimeout p s
  | .sluicePortDown p fec => Sys2Proof.Machine.execSluicePortDown p fec s
  | .linkDelayMeasure p trip => Sys2Proof.Machine.execLinkDelayMeasure p trip s
  | .crossEngineTransit fromMesh k => Sys2Proof.Machine.execCrossEngineTransit fromMesh k s
  | .xevent k => Sys2Proof.Machine.execXevent k s
  | .xarrive k => Sys2Proof.Machine.execXarrive k s
  | .xrelease k => Sys2Proof.Machine.execXrelease k s
  | .xbreak k => Sys2Proof.Machine.execXbreak k s
  | .xlost k => Sys2Proof.Machine.execXlost k s
  | .xcopy k => Sys2Proof.Machine.execXcopy k s
  | .xack k => Sys2Proof.Machine.execXack k s
  | .tsSyncSend => Sys2Proof.Machine.execTsSyncSend s
  | .tsSync k => Sys2Proof.Machine.execTsSync k s
  | .tstampSlew => Sys2Proof.Machine.execTstampSlew s
  | .holdoverTimeout => Sys2Proof.Machine.execHoldoverTimeout s
  | .csyncInEdge => Sys2Proof.Machine.execCsyncInEdge s
  | .csyncOutPulse => Sys2Proof.Machine.execCsyncOutPulse s
  | .flPropose p => Sys2Proof.Machine.execFlPropose p s
  | .flProposeReceive k => Sys2Proof.Machine.execFlProposeReceive k s
  | .flDecide p => Sys2Proof.Machine.execFlDecide p s
  | .flCommand k => Sys2Proof.Machine.execFlCommand k s
  | .flockLost p => Sys2Proof.Machine.execFlockLost p s
  | .routeWrite e v => Sys2Proof.Machine.execRouteWrite e v s
  | .cwDescWrite g v => Sys2Proof.Machine.execCwDescWrite g v s
  | .flDescWrite p v => Sys2Proof.Machine.execFlDescWrite p v s
  | .usdoInitiateDownload index sub size data => Sys2Proof.Machine.execUsdoInitiateDownload index sub size data s
  | .usdoInitiateUpload index sub => Sys2Proof.Machine.execUsdoInitiateUpload index sub s
  | .usdoSegment data last => Sys2Proof.Machine.execUsdoSegment data last s
  | .dictSegTimeout => Sys2Proof.Machine.execDictSegTimeout s
  | .mbDoorbell p c => Sys2Proof.Machine.execMbDoorbell p c s
  | .dictRead who => Sys2Proof.Machine.execDictRead who s
  | .dictWrite who => Sys2Proof.Machine.execDictWrite who s
  | .dictWriteApply => Sys2Proof.Machine.execDictWriteApply s
  | .dictWriteAnswer => Sys2Proof.Machine.execDictWriteAnswer s
  | .repairAdd apply who => Sys2Proof.Machine.execRepairAdd apply who s
  | .repairRemove apply who => Sys2Proof.Machine.execRepairRemove apply who s
  | .repairReload apply who flash => Sys2Proof.Machine.execRepairReload apply who flash s
  | .fieldRestart apply who => Sys2Proof.Machine.execFieldRestart apply who s
  | .partitionRect apply who => Sys2Proof.Machine.execPartitionRect apply who s
  | .partJob apply who => Sys2Proof.Machine.execPartJob apply who s
  | .engineId apply who => Sys2Proof.Machine.execEngineId apply who s
  | .timeMaster apply who => Sys2Proof.Machine.execTimeMaster apply who s
  | .powerCap apply who => Sys2Proof.Machine.execPowerCap apply who s
  | .detMode apply who => Sys2Proof.Machine.execDetMode apply who s
  | .cmdTimeoutWrite apply who => Sys2Proof.Machine.execCmdTimeoutWrite apply who s
  | .drywellWindow apply who => Sys2Proof.Machine.execDrywellWindow apply who s
  | .restoreSefiez apply who => Sys2Proof.Machine.execRestoreSefiez apply who s
  | .restoreComm apply who => Sys2Proof.Machine.execRestoreComm apply who s
  | .buttonOverride apply who flash => Sys2Proof.Machine.execButtonOverride apply who flash s
  | .faultLogClear apply who => Sys2Proof.Machine.execFaultLogClear apply who s
  | .errorHistoryClear apply who => Sys2Proof.Machine.execErrorHistoryClear apply who s
  | .nmtStart => Sys2Proof.Machine.execNmtStart s
  | .nmtStop => Sys2Proof.Machine.execNmtStop s
  | .nmtEnterPreOperational => Sys2Proof.Machine.execNmtEnterPreOperational s
  | .nmtResetNode => Sys2Proof.Machine.execNmtResetNode s
  | .nmtResetCommunication => Sys2Proof.Machine.execNmtResetCommunication s
  | .heartbeatSend => Sys2Proof.Machine.execHeartbeatSend s
  | .heartbeatReceive node => Sys2Proof.Machine.execHeartbeatReceive node s
  | .canHbTimeout k => Sys2Proof.Machine.execCanHbTimeout k s
  | .emcySend => Sys2Proof.Machine.execEmcySend s
  | .rpdoReceive r data => Sys2Proof.Machine.execRpdoReceive r data s
  | .tpdoSend t => Sys2Proof.Machine.execTpdoSend t s
  | .canBusOff => Sys2Proof.Machine.execCanBusOff s
  | .canOverrun => Sys2Proof.Machine.execCanOverrun s
  | .epochClose => Sys2Proof.Machine.execEpochClose s
  | .epochReceive x => Sys2Proof.Machine.execEpochReceive x s
  | .epochAck => Sys2Proof.Machine.execEpochAck s
  | .heartbeatLossTimeout => Sys2Proof.Machine.execHeartbeatLossTimeout s
  | .wellheadWatchdogExpiry => Sys2Proof.Machine.execWellheadWatchdogExpiry s
  | .wellheadMemoryError => Sys2Proof.Machine.execWellheadMemoryError s
  | .wellheadTakeover => Sys2Proof.Machine.execWellheadTakeover s
  | .standbyLost => Sys2Proof.Machine.execStandbyLost s
  | .standbyResyncComplete x => Sys2Proof.Machine.execStandbyResyncComplete x s
  | .wellheadPairLost w image flash => Sys2Proof.Machine.execWellheadPairLost w image flash s
  | .wellheadBootRetry => Sys2Proof.Machine.execWellheadBootRetry s
  | .faultQueueDrain => Sys2Proof.Machine.execFaultQueueDrain s
  | .porNRise => Sys2Proof.Machine.execPorNRise s
  | .porNFall => Sys2Proof.Machine.execPorNFall s
  | .strapSample raw => Sys2Proof.Machine.execStrapSample raw s
  | .wellheadBootComplete w code crc flash => Sys2Proof.Machine.execWellheadBootComplete w code crc flash s
  | .pmbusScanComplete devs missing => Sys2Proof.Machine.execPmbusScanComplete devs missing s
  | .rdStartComplete ok => Sys2Proof.Machine.execRdStartComplete ok s
  | .mdStartComplete f ok => Sys2Proof.Machine.execMdStartComplete f ok s
  | .cdStartComplete f => Sys2Proof.Machine.execCdStartComplete f s
  | .cdStartTimeout f => Sys2Proof.Machine.execCdStartTimeout f s
  | .startStepTimeout x => Sys2Proof.Machine.execStartStepTimeout x s
  | .rstBtnPressBegin => Sys2Proof.Machine.execRstBtnPressBegin s
  | .rstBtnPressEnd flash => Sys2Proof.Machine.execRstBtnPressEnd flash s
  | .buttonStuck => Sys2Proof.Machine.execButtonStuck s
  | .flowLossDeclare => Sys2Proof.Machine.execFlowLossDeclare s
  | .coolantBackupTimeout => Sys2Proof.Machine.execCoolantBackupTimeout s
  | .flowRestoreDeclare => Sys2Proof.Machine.execFlowRestoreDeclare s
  | .coolantRestart => Sys2Proof.Machine.execCoolantRestart s
  | .refclkLost => Sys2Proof.Machine.execRefclkLost s
  | .refclkRestore => Sys2Proof.Machine.execRefclkRestore s
  | .pllUnlock f => Sys2Proof.Machine.execPllUnlock f s
  | .fstateChangeBegin => Sys2Proof.Machine.execFstateChangeBegin s
  | .fstateChangeComplete => Sys2Proof.Machine.execFstateChangeComplete s
  | .sensorConversion j t => Sys2Proof.Machine.execSensorConversion j t s
  | .thermWarnClear => Sys2Proof.Machine.execThermWarnClear s
  | .thermForcedClear => Sys2Proof.Machine.execThermForcedClear s
  | .derateStep => Sys2Proof.Machine.execDerateStep s
  | .sensorFault j => Sys2Proof.Machine.execSensorFault j s
  | .slackCheck f slack => Sys2Proof.Machine.execSlackCheck f slack s
  | .pmbAlert l => Sys2Proof.Machine.execPmbAlert l s
  | .pmbusPoll l => Sys2Proof.Machine.execPmbusPoll l s
  | .vrDerateClear => Sys2Proof.Machine.execVrDerateClear s
  | .estimatorTick acts sensed => Sys2Proof.Machine.execEstimatorTick acts sensed s
  | .controllerPeriod => Sys2Proof.Machine.execControllerPeriod s
  | .controllerEpoch => Sys2Proof.Machine.execControllerEpoch s
  | .calibration => Sys2Proof.Machine.execCalibration s
  | .quietWindowForce f => Sys2Proof.Machine.execQuietWindowForce f s
  | .ceilingGuardEngage => Sys2Proof.Machine.execCeilingGuardEngage s
  | .ceilingGuardRelease => Sys2Proof.Machine.execCeilingGuardRelease s
  | .droopStretchBegin f => Sys2Proof.Machine.execDroopStretchBegin f s
  | .droopStretchEnd f => Sys2Proof.Machine.execDroopStretchEnd f s
  | .droopSevere f => Sys2Proof.Machine.execDroopSevere f s
  | .hintExpiry p pclass => Sys2Proof.Machine.execHintExpiry p pclass s
  | .sramScrubRow c bank found => Sys2Proof.Machine.execSramScrubRow c bank found s
  | .forcedScrubCycle c bank found => Sys2Proof.Machine.execForcedScrubCycle c bank found s
  | .tableScrubSlot f found => Sys2Proof.Machine.execTableScrubSlot f found s
  | .statsIntervalEnd p => Sys2Proof.Machine.execStatsIntervalEnd p s
  | .traceRecordWrite p => Sys2Proof.Machine.execTraceRecordWrite p s
  | .traceProdWrite p => Sys2Proof.Machine.execTraceProdWrite p s
  | .traceConsRead p value => Sys2Proof.Machine.execTraceConsRead p value s
  | .traceDrop p stage => Sys2Proof.Machine.execTraceDrop p stage s
  | .trEnable p base => Sys2Proof.Machine.execTrEnable p base s
  | .trDisable p => Sys2Proof.Machine.execTrDisable p s
  | .deviceControl2Write p v => Sys2Proof.Machine.execDeviceControl2Write p v s
  | .perstNRise p width rate => Sys2Proof.Machine.execPerstNRise p width rate s
  | .inputPowerLoss => Sys2Proof.Machine.execInputPowerLoss s
  | .downLinkPacketLost px py dir k => Sys2Proof.Machine.execDownLinkPacketLost px py dir k s
  | .statsEmissionWindowEnd f => Sys2Proof.Machine.execStatsEmissionWindowEnd f s
  | .wellheadHeartbeat w => Sys2Proof.Machine.execWellheadHeartbeat w s
  | .wellheadRestartBoot w image => Sys2Proof.Machine.execWellheadRestartBoot w image s

end Sys2Proof.Machine
end

