-- ==== Sys2Proof/Machine/Step.lean ====
section
/-! DEFINITION. One step of the block: the command at the front of the queue, or with none waiting one period of REFCLK. -/

namespace Sys2Proof.Machine

/-- Takes the oldest waiting command and carries it out with the rest of the queue left; with an empty queue one REFCLK period passes (R4, R415; log entries 1 and 2). -/
def step (s : State) : Host.Outcome State Fault Refusal :=
  match s.pending with
  | c :: rest => exec c { s with pending := rest }
  | [] => .next (s.tick 1)

/-- The state with the command that a table word spells put in front of its queue. No row of the table gives bits, so no word spells one (log entry 3). -/
def State.withFetchWord (s : State) (nbits w : Nat) : State :=
  match decodeTableWord nbits w with
  | some c => { s with pending := c :: s.pending }
  | none => s

end Sys2Proof.Machine
end

