-- ==== Sys2Proof/Safety.lean ====
section
/-! DEFINITION. What counts as a safe step, and the words the statements use for a core that issues, what it keeps, and the memory its program sees. -/

namespace Sys2Proof.Machine

/-- A state is safe when its next step neither faults nor is refused. -/
def Safe (s : State) : Prop := ∃ t, step s = .next t

/-! ### A core that issues -/

/-- Core `c` may issue, and the word at its program counter is `w`, an instruction of `op`, whose instruction-store word has no correctable error to be written
back first (R131, R132, R146, R152). -/
structure Issues (s : State) (c w : Nat) (op : CoreOp) : Prop where
  core : c < nCores
  may : s.canIssue c = true
  fetched : (s.core c).fetch = .inl w
  decoded : decodeOp w = some op
  clean : ((s.core c).pc - istoreBase) / 8 ∉ (s.core c).ice

/-- A scalar register as a word. -/
def Core.reg (k : Core) (n : Nat) : Word := BitVec.ofNat 32 (k.sreg n)

/-- Lane `i` of a vector register. -/
def Core.lane (k : Core) (v i : Nat) : Word := (Tab.read k.regs.v 0 v).extractLsb' (32 * i) 32

/-- No vector instruction waits that is to write one of these scalar registers (R123). -/
def Core.free (k : Core) (rs : List Nat) : Prop := ∀ r ∈ rs, k.sregFree r = true

/-- A core one issued instruction later (R151, R519): at `pc`, its instruction counted. -/
def Core.issued (k : Core) (pc : Nat) : Core :=
  { k with prevPc := k.pc, pc := pc, counters := Tab.write k.counters 0 6 (k.counter 6 + 1) }

/-- Nothing changed but core `c`. -/
def OnlyCore (s t : State) (c : Nat) : Prop :=
  t = { s with cores := t.cores } ∧ ∀ c', c' ≠ c → t.core c' = s.core c'

/-- Nothing changed but core `c` and the running totals of the dictionary. -/
def OnlyCoreTotals (s t : State) (c : Nat) : Prop :=
  t = { s with cores := t.cores, totals := t.totals } ∧ ∀ c', c' ≠ c → t.core c' = s.core c'

/-- Data SRAM as the core's own loads see it: the store buffer laid over it, oldest entry first (R128, R129). -/
def Core.seen (k : Core) : Memory := k.sbuf.foldl (fun m e => Memory.setValue m e.addr e.size e.val) k.sram

/-- None of the words of an access, and none that a store-buffer entry writes, is uncorrectable (R132). -/
def Core.sound (k : Core) (a n : Nat) : Prop :=
  (∀ x ∈ wordsOf a n, x ∉ k.ue) ∧ ∀ e ∈ k.sbuf, ∀ x ∈ wordsOf e.addr e.size, x ∉ k.ue

end Sys2Proof.Machine
end

