-- ==== Sys2Proof/WellFormed.lean ====
section
/-! DEFINITION. Well-formed commands: those that name only units the engine has. -/

namespace Sys2Proof

/-- Core IDs run from 0 to 92,159 (R32). -/
def coreExists (c : Nat) : Bool := decide (c < 92160)
/-- Field IDs run from 0 to 71 (R30). -/
def fieldExists (f : Nat) : Bool := decide (f < 72)
/-- Partitions run from 0 to 15 (R54). -/
def partExists (p : Nat) : Bool := decide (p < 16)
/-- PCIe ports run from 0 to 3 (R293). -/
def portExists (p : Nat) : Bool := decide (p < 4)
/-- Each PCIe port has 16 rings (R299). -/
def ringExists (p r : Nat) : Bool := decide (p < 4) && decide (r < 16)
/-- Sluice ports run from 0 to 11 (R256). -/
def sluiceExists (p : Nat) : Bool := decide (p < 12)
/-- Links leave the routers of a 297 × 320 mesh: 0 north, 1 east, 2 south, 3 west, none over the wafer's edge (R230, R493). -/
def linkExists (px py dir : Nat) : Bool :=
  decide (px < 297) && decide (py < 320) &&
    (match dir with
     | 0 => decide (0 < py)
     | 1 => decide (px < 296)
     | 2 => decide (py < 319)
     | 3 => decide (0 < px)
     | _ => false)
/-- A mailbox has four channels on each of four ports (R347). -/
def requesterExists (who : Machine.Requester) : Bool :=
  match who with
  | .mailbox p c => decide (p < 4) && decide (c < 4)
  | _ => true
/-- Wellhead A is 0 and Wellhead B is 1 (R371). -/
def wellheadExists (w : Nat) : Bool := decide (w < 2)
/-- Sensors run from 0 to 653 (R459). -/
def sensorExists (i : Nat) : Bool := decide (i < 654)

/-- A command names only units that exist. -/
def Instr.wellFormed (i : Instr) : Bool :=
  match i with
  | .taskStart c => coreExists c
  | .coreLost c _ => coreExists c
  | .repairAutoAddEntry c => coreExists c
  | .add c => coreExists c
  | .sub c => coreExists c
  | .and c => coreExists c
  | .or c => coreExists c
  | .xor c => coreExists c
  | .sll c => coreExists c
  | .srl c => coreExists c
  | .sra c => coreExists c
  | .slt c => coreExists c
  | .sltu c => coreExists c
  | .minMax c => coreExists c
  | .mul c => coreExists c
  | .mulh c => coreExists c
  | .mulhu c => coreExists c
  | .divRem c => coreExists c
  | .clz c => coreExists c
  | .popc c => coreExists c
  | .addi c => coreExists c
  | .andi c => coreExists c
  | .ori c => coreExists c
  | .xori c => coreExists c
  | .shi c => coreExists c
  | .slti c => coreExists c
  | .sltiu c => coreExists c
  | .lui c => coreExists c
  | .jal c => coreExists c
  | .jalr c => coreExists c
  | .beq c => coreExists c
  | .bne c => coreExists c
  | .blt c => coreExists c
  | .bge c => coreExists c
  | .bltu c => coreExists c
  | .bgeu c => coreExists c
  | .lb c => coreExists c
  | .lbu c => coreExists c
  | .lh c => coreExists c
  | .lhu c => coreExists c
  | .lw c => coreExists c
  | .ld c => coreExists c
  | .lq c => coreExists c
  | .sb c => coreExists c
  | .sh c => coreExists c
  | .sw c => coreExists c
  | .sd c => coreExists c
  | .sq c => coreExists c
  | .csrr c => coreExists c
  | .csrw c => coreExists c
  | .vaddf c => coreExists c
  | .vsubf c => coreExists c
  | .vmulf c => coreExists c
  | .vfmaf c => coreExists c
  | .vminf c => coreExists c
  | .vmaxf c => coreExists c
  | .vcmpeqf c => coreExists c
  | .vcmpltf c => coreExists c
  | .vcmplef c => coreExists c
  | .vrcpf c => coreExists c
  | .vrsqf c => coreExists c
  | .vexp2f c => coreExists c
  | .vlog2f c => coreExists c
  | .vdivf c => coreExists c
  | .vsqrtf c => coreExists c
  | .vaddi c => coreExists c
  | .vsubi c => coreExists c
  | .vmuli c => coreExists c
  | .vand c => coreExists c
  | .vor c => coreExists c
  | .vxor c => coreExists c
  | .vsll c => coreExists c
  | .vsrl c => coreExists c
  | .vsra c => coreExists c
  | .vmini c => coreExists c
  | .vmaxi c => coreExists c
  | .vcmpeqi c => coreExists c
  | .vcmplti c => coreExists c
  | .vsel c => coreExists c
  | .vbcast c => coreExists c
  | .vext c => coreExists c
  | .vins c => coreExists c
  | .vperm c => coreExists c
  | .vmov c => coreExists c
  | .vrsumf c => coreExists c
  | .vrmaxf c => coreExists c
  | .vrminf c => coreExists c
  | .vrsumi c => coreExists c
  | .vcvt c => coreExists c
  | .vld c => coreExists c
  | .vst c => coreExists c
  | .tdesc c => coreExists c
  | .mma c => coreExists c
  | .ast c => coreExists c
  | .ald c => coreExists c
  | .azero c => coreExists c
  | .axv c => coreExists c
  | .avx c => coreExists c
  | .rlaunch c => coreExists c
  | .recipeArrivalSlice c => coreExists c
  | .finishSend c => coreExists c
  | .recipeFinish c => coreExists c
  | .recipeRunFault c => coreExists c
  | .send c => coreExists c
  | .recv c => coreExists c
  | .rpeek c => coreExists c
  | .sadv c => coreExists c
  | .swait c => coreExists c
  | .sread c => coreExists c
  | .sclr c => coreExists c
  | .warr c => coreExists c
  | .wawt c => coreExists c
  | .waa c => coreExists c
  | .post c => coreExists c
  | .endTask c => coreExists c
  | .fail c => coreExists c
  | .endCompletionSend c => coreExists c
  | .outboundEntryLeave c => coreExists c
  | .refusalDelivery c => coreExists c
  | .coreWake c => coreExists c
  | .fillerEnter c => coreExists c
  | .fillerDutyDecay c => coreExists c
  | .storeBufferDrain c => coreExists c
  | .eccWriteBack c _ => coreExists c
  | .creditEntryIdleTimeout c _ => coreExists c
  | .creditBusyRetry c _ => coreExists c
  | .msgAckTimeout c _ => coreExists c
  | .lostCoreCreditReturn c => coreExists c
  | .sramScrubRow c _ _ => coreExists c
  | .forcedScrubCycle c _ _ => coreExists c
  | .cisternEventAccept f _ => fieldExists f
  | .overflowChainAdvance f => fieldExists f
  | .taskAssign f _ _ => fieldExists f
  | .outputRecordReadEnd f _ => fieldExists f
  | .outputRecordEmit f _ => fieldExists f
  | .taskWatchdog f _ => fieldExists f
  | .abortNoAnswer f _ => fieldExists f
  | .csErrClear f _ => fieldExists f
  | .sxErrClear f _ => fieldExists f
  | .wellTimeout f _ => fieldExists f
  | .packetReservedDiscard f _ => fieldExists f
  | .mdStartComplete f _ => fieldExists f
  | .cdStartComplete f => fieldExists f
  | .cdStartTimeout f => fieldExists f
  | .pllUnlock f => fieldExists f
  | .slackCheck f _ => fieldExists f
  | .quietWindowForce f => fieldExists f
  | .droopStretchBegin f => fieldExists f
  | .droopStretchEnd f => fieldExists f
  | .droopSevere f => fieldExists f
  | .tableScrubSlot f _ => fieldExists f
  | .statsEmissionWindowEnd f => fieldExists f
  | .dryWellDeclare p => partExists p
  | .dryWellSnapshotCommit p => partExists p
  | .flPropose p => partExists p
  | .flDecide p => partExists p
  | .flockLost p => partExists p
  | .flDescWrite p _ => partExists p
  | .hintExpiry p _ => partExists p
  | .statsIntervalEnd p => partExists p
  | .traceRecordWrite p => partExists p
  | .traceProdWrite p => partExists p
  | .traceConsRead p _ => partExists p
  | .traceDrop p _ => partExists p
  | .trEnable p _ => partExists p
  | .trDisable p => partExists p
  | .startGraphDeferredCheck p _ => portExists p
  | .walkReadResponse p _ _ _ => portExists p
  | .hostDataReadResponse p _ _ _ => portExists p
  | .commandCompletion p _ => portExists p
  | .msixSignal p _ => portExists p
  | .cmdTimeout p _ => portExists p
  | .ctxRootWrite p _ _ => portExists p
  | .devwinWrite p _ _ _ => portExists p
  | .functionLevelReset p => portExists p
  | .perstN p => portExists p
  | .registerWrite p _ _ => portExists p
  | .mbDoorbell p _ => portExists p
  | .deviceControl2Write p _ => portExists p
  | .perstNRise p _ _ => portExists p
  | .sqTail p r _ => ringExists p r
  | .cqHead p r _ => ringExists p r
  | .commandFetch p r _ => ringExists p r
  | .nop p r => ringExists p r
  | .writeData p r => ringExists p r
  | .readData p r => ringExists p r
  | .loadImage p r => ringExists p r
  | .writeTable p r => ringExists p r
  | .startGraph p r => ringExists p r
  | .stopGraph p r => ringExists p r
  | .postEvent p r => ringExists p r
  | .hintPhaseBegin p r => ringExists p r
  | .hintPhaseEnd p r => ringExists p r
  | .energyMarkOpen p r => ringExists p r
  | .energyMarkClose p r => ringExists p r
  | .invalidatePort p r => ringExists p r
  | .invalidateContext p r => ringExists p r
  | .invalidateRange p r => ringExists p r
  | .remoteWrite p r => ringExists p r
  | .completionRecordWrite p r => ringExists p r
  | .ringEnable p r _ => ringExists p r
  | .ringDisable p r => ringExists p r
  | .ringResume p r => ringExists p r
  | .ringResumeRedo p r => ringExists p r
  | .trainComplete p _ _ _ => sluiceExists p
  | .trainTimeout p => sluiceExists p
  | .autoRetrain p => sluiceExists p
  | .frameReceive p _ => sluiceExists p
  | .nak p _ => sluiceExists p
  | .replayTimeout p => sluiceExists p
  | .sluicePortDown p _ => sluiceExists p
  | .linkDelayMeasure p _ => sluiceExists p
  | .linkFlitError px py dir => linkExists px py dir
  | .linkResendRequest px py dir => linkExists px py dir
  | .meshLinkDown px py dir _ => linkExists px py dir
  | .downLinkPacketLost px py dir _ => linkExists px py dir
  | .portEnable _ who => requesterExists who
  | .portDisable _ who => requesterExists who
  | .dictRead who => requesterExists who
  | .dictWrite who => requesterExists who
  | .repairAdd _ who => requesterExists who
  | .repairRemove _ who => requesterExists who
  | .repairReload _ who _ => requesterExists who
  | .fieldRestart _ who => requesterExists who
  | .partitionRect _ who => requesterExists who
  | .partJob _ who => requesterExists who
  | .engineId _ who => requesterExists who
  | .timeMaster _ who => requesterExists who
  | .powerCap _ who => requesterExists who
  | .detMode _ who => requesterExists who
  | .cmdTimeoutWrite _ who => requesterExists who
  | .drywellWindow _ who => requesterExists who
  | .restoreSefiez _ who => requesterExists who
  | .restoreComm _ who => requesterExists who
  | .buttonOverride _ who _ => requesterExists who
  | .faultLogClear _ who => requesterExists who
  | .errorHistoryClear _ who => requesterExists who
  | .wellheadPairLost w _ _ => wellheadExists w
  | .wellheadBootComplete w _ _ _ => wellheadExists w
  | .wellheadHeartbeat w => wellheadExists w
  | .wellheadRestartBoot w _ => wellheadExists w
  | .sensorConversion i _ => sensorExists i
  | .sensorFault i => sensorExists i
  | .pmbusPoll l => l.all (fun x => decide (x.rail < 64))
  | .pmbAlert l => l.all (fun x => decide (x.1 < 64))
  | .fabricAccess _ => true
  | .fabricAccessRelease _ => true
  | .fabricRsp _ => true
  | .hostNotification _ => true
  | .startReport _ => true
  | .completionReport _ => true
  | .failureReport _ => true
  | .withdrawRequest _ => true
  | .withdrawAnswer _ => true
  | .abortRequest _ => true
  | .abortReport _ => true
  | .commitNotice _ => true
  | .postReceive _ _ => true
  | .eventLost _ => true
  | .producerAdvance _ => true
  | .consumerAdvance _ => true
  | .pairWait _ => true
  | .pairRead _ => true
  | .pairClear _ => true
  | .syncAnswer _ => true
  | .wellArrival _ => true
  | .releaseTreeArrival _ => true
  | .brokenReleaseArrival _ => true
  | .messageAccept _ => true
  | .ack _ => true
  | .msgUnreachable _ => true
  | .creditReq _ => true
  | .creditGrant _ => true
  | .creditReturn _ => true
  | .lost _ => true
  | .crossEngineTransit _ _ => true
  | .xevent _ => true
  | .xarrive _ => true
  | .xrelease _ => true
  | .xbreak _ => true
  | .xlost _ => true
  | .xcopy _ => true
  | .xack _ => true
  | .tsSyncSend => true
  | .tsSync _ => true
  | .tstampSlew => true
  | .holdoverTimeout => true
  | .csyncInEdge => true
  | .csyncOutPulse => true
  | .flProposeReceive _ => true
  | .flCommand _ => true
  | .routeWrite _ _ => true
  | .cwDescWrite _ _ => true
  | .usdoInitiateDownload _ _ _ _ => true
  | .usdoInitiateUpload _ _ => true
  | .usdoSegment _ _ => true
  | .dictSegTimeout => true
  | .dictWriteApply => true
  | .dictWriteAnswer => true
  | .nmtStart => true
  | .nmtStop => true
  | .nmtEnterPreOperational => true
  | .nmtResetNode => true
  | .nmtResetCommunication => true
  | .heartbeatSend => true
  | .heartbeatReceive _ => true
  | .canHbTimeout _ => true
  | .emcySend => true
  | .rpdoReceive _ _ => true
  | .tpdoSend _ => true
  | .canBusOff => true
  | .canOverrun => true
  | .epochClose => true
  | .epochReceive _ => true
  | .epochAck => true
  | .heartbeatLossTimeout => true
  | .wellheadWatchdogExpiry => true
  | .wellheadMemoryError => true
  | .wellheadTakeover => true
  | .standbyLost => true
  | .standbyResyncComplete _ => true
  | .wellheadBootRetry => true
  | .faultQueueDrain => true
  | .porNRise => true
  | .porNFall => true
  | .strapSample _ => true
  | .pmbusScanComplete l _ => l.all (fun d => decide (d.dev < 32))
  | .rdStartComplete _ => true
  | .startStepTimeout _ => true
  | .rstBtnPressBegin => true
  | .rstBtnPressEnd _ => true
  | .buttonStuck => true
  | .flowLossDeclare => true
  | .coolantBackupTimeout => true
  | .flowRestoreDeclare => true
  | .coolantRestart => true
  | .refclkLost => true
  | .refclkRestore => true
  | .fstateChangeBegin => true
  | .fstateChangeComplete => true
  | .thermWarnClear => true
  | .thermForcedClear => true
  | .derateStep => true
  | .vrDerateClear => true
  | .estimatorTick _ _ => true
  | .controllerPeriod => true
  | .controllerEpoch => true
  | .calibration => true
  | .ceilingGuardEngage => true
  | .ceilingGuardRelease => true
  | .inputPowerLoss => true

end Sys2Proof
end

