-- ==== Sys2Proof/Certificates/Slice0/Obligations.lean ====
section
/-! DEFINITION. The statements for the provers. -/

open Sys2Proof Sys2Proof.Machine

/-! ### Core instructions: scalar -/

/-- The RR instructions (R156) on words: constructor, operation, and result from FN and the two operands. -/
def Claims.rr : List ((Nat → Instr) × CoreOp × (Nat → Word → Word → Word)) :=
  [(.add, .add, fun _ a b => a + b), (.sub, .sub, fun _ a b => a - b), (.and, .and', fun _ a b => a &&& b),
   (.or, .or', fun _ a b => a ||| b), (.xor, .xor', fun _ a b => a ^^^ b),
   (.sll, .sll, fun _ a b => a <<< (b.toNat % 32)), (.srl, .srl, fun _ a b => a >>> (b.toNat % 32)),
   (.sra, .sra, fun _ a b => a.sshiftRight (b.toNat % 32)),
   (.slt, .slt, fun _ a b => if a.toInt < b.toInt then 1 else 0),
   (.sltu, .sltu, fun _ a b => if a.toNat < b.toNat then 1 else 0),
   (.minMax, .minMax, fun fn a b =>
      if fn = 0x0B then (if a.toInt < b.toInt then a else b) else if fn = 0x0C then (if a.toInt < b.toInt then b else a)
      else if fn = 0x0D then (if a.toNat < b.toNat then a else b) else (if a.toNat < b.toNat then b else a)),
   (.mul, .mul, fun _ a b => a * b),
   (.mulh, .mulh, fun _ a b => (a.signExtend 64 * b.signExtend 64).extractLsb' 32 32),
   (.mulhu, .mulhu, fun _ a b => (a.zeroExtend 64 * b.zeroExtend 64).extractLsb' 32 32),
   (.divRem, .divRem, fun fn a b =>
      if fn = 0x14 then (if b = 0 then BitVec.allOnes 32 else a.sdiv b)
      else if fn = 0x15 then (if b = 0 then BitVec.allOnes 32 else a / b)
      else if fn = 0x16 then (if b = 0 then a else a.srem b) else (if b = 0 then a else a % b)),
   (.clz, .clz, fun _ a _ => BitVec.ofNat 32 ((List.range 32).findIdx (fun i => a.getLsbD (31 - i)))),
   (.popc, .popc, fun _ a _ => BitVec.ofNat 32 ((List.range 32).countP (fun i => a.getLsbD i)))]

/-- R156 and R157: an RR instruction whose registers no queued instruction is to write gives s(D) its result, and changes nothing else. -/
def Claims.ScalarRegisterResults : Prop :=
  ∀ e ∈ Claims.rr, ∀ (s : State) (c w : Nat), Issues s c w e.2.1 →
    (s.core c).free [aField w, bField w, dField w] →
    ∃ t, exec (e.1 c) s = .next t ∧ OnlyCore s t c ∧
      t.core c = { (s.core c).issued ((s.core c).pc + 4) with regs := { (s.core c).regs with s := (t.core c).regs.s } } ∧
      ∀ n, (t.core c).reg n =
        if n = dField w ∧ n ≠ 0 then e.2.2 (bits w 10 0) ((s.core c).reg (aField w)) ((s.core c).reg (bField w))
        else (s.core c).reg n

/-- The sign-extended immediate as a word (R158). -/
def Claims.simm (w : Nat) : Word := (BitVec.ofNat 16 w).signExtend 32
/-- The zero-extended immediate as a word (R158). -/
def Claims.uimm (w : Nat) : Word := BitVec.ofNat 32 (w % 65536)

/-- The RI instructions (R158) on words: constructor, operation, and result from the instruction word and s(A). -/
def Claims.ri : List ((Nat → Instr) × CoreOp × (Nat → Word → Word)) :=
  [(.addi, .addi, fun w a => a + Claims.simm w), (.andi, .andi, fun w a => a &&& Claims.uimm w),
   (.ori, .ori, fun w a => a ||| Claims.uimm w), (.xori, .xori, fun w a => a ^^^ Claims.uimm w),
   (.shi, .shi, fun w a =>
      if bits w 15 14 = 0 then a <<< bits w 4 0 else if bits w 15 14 = 1 then a >>> bits w 4 0 else a.sshiftRight (bits w 4 0)),
   (.slti, .slti, fun w a => if a.toInt < (Claims.simm w).toInt then 1 else 0),
   (.sltiu, .sltiu, fun w a => if a.toNat < (Claims.simm w).toNat then 1 else 0),
   (.lui, .lui, fun w _ => Claims.uimm w <<< 16)]

/-- R158: an RI instruction whose registers no queued instruction is to write gives s(D) its result, and changes nothing else. -/
def Claims.ScalarImmediateResults : Prop :=
  ∀ e ∈ Claims.ri, ∀ (s : State) (c w : Nat), Issues s c w e.2.1 → (s.core c).free [aField w, dField w] →
    ∃ t, exec (e.1 c) s = .next t ∧ OnlyCore s t c ∧
      t.core c = { (s.core c).issued ((s.core c).pc + 4) with regs := { (s.core c).regs with s := (t.core c).regs.s } } ∧
      ∀ n, (t.core c).reg n =
        if n = dField w ∧ n ≠ 0 then e.2.2 w ((s.core c).reg (aField w)) else (s.core c).reg n

/-- The branches (R159): constructor, operation, and when it is taken. -/
def Claims.branches : List ((Nat → Instr) × CoreOp × (Word → Word → Bool)) :=
  [(.beq, .beq, fun a b => a == b), (.bne, .bne, fun a b => a != b),
   (.blt, .blt, fun a b => decide (a.toInt < b.toInt)), (.bge, .bge, fun a b => decide (b.toInt ≤ a.toInt)),
   (.bltu, .bltu, fun a b => decide (a.toNat < b.toNat)), (.bgeu, .bgeu, fun a b => decide (b.toNat ≤ a.toNat))]

/-- R159: a branch goes to pc + 4 × OFF16 when taken and to pc + 4 when not, writes no register, and changes nothing else. -/
def Claims.BranchTargets : Prop :=
  ∀ e ∈ Claims.branches, ∀ (s : State) (c w : Nat), Issues s c w e.2.1 → (s.core c).free [dField w, aField w] →
    ∃ t, exec (e.1 c) s = .next t ∧ OnlyCore s t c ∧
      t.core c = (s.core c).issued
        (if e.2.2 ((s.core c).reg (dField w)) ((s.core c).reg (aField w)) then
          (BitVec.ofNat 32 (s.core c).pc + (BitVec.ofNat 16 w).signExtend 32 * 4).toNat
        else (s.core c).pc + 4)

/-- R160: JAL goes to pc + 4 × OFF21 and JALR to s(A) + IMM16 with bits 1:0 cleared, s(A) read before s(D) takes pc + 4; nothing else changes. -/
def Claims.JumpTargets : Prop :=
  ∀ (s : State) (c w : Nat),
    (Issues s c w .jal → (s.core c).free [dField w] →
      ∃ t, exec (.jal c) s = .next t ∧ OnlyCore s t c ∧
        t.core c = { (s.core c).issued (BitVec.ofNat 32 (s.core c).pc + (BitVec.ofNat 21 w).signExtend 32 * 4).toNat with
          regs := { (s.core c).regs with s := (t.core c).regs.s } } ∧
        ∀ n, (t.core c).reg n = if n = dField w ∧ n ≠ 0 then BitVec.ofNat 32 ((s.core c).pc + 4) else (s.core c).reg n) ∧
    (Issues s c w .jalr → (s.core c).free [aField w, dField w] →
      ∃ t, exec (.jalr c) s = .next t ∧ OnlyCore s t c ∧
        t.core c = { (s.core c).issued ((s.core c).reg (aField w) + Claims.simm w &&& 0xFFFFFFFC).toNat with
          regs := { (s.core c).regs with s := (t.core c).regs.s } } ∧
        ∀ n, (t.core c).reg n = if n = dField w ∧ n ≠ 0 then BitVec.ofNat 32 ((s.core c).pc + 4) else (s.core c).reg n)

/-- R123: while a queued instruction is to write a register that a scalar RR, RI, branch or jump names, it does not issue and nothing changes. -/
def Claims.ScalarWaitsForQueuedWriter : Prop :=
  ∀ (s : State) (c w : Nat),
    (∀ e ∈ Claims.rr, Issues s c w e.2.1 → ¬ (s.core c).free [aField w, bField w, dField w] → exec (e.1 c) s = .next s) ∧
    (∀ e ∈ Claims.ri, Issues s c w e.2.1 → ¬ (s.core c).free [aField w, dField w] → exec (e.1 c) s = .next s) ∧
    (∀ e ∈ Claims.branches, Issues s c w e.2.1 → ¬ (s.core c).free [dField w, aField w] → exec (e.1 c) s = .next s)

/-! ### Core instructions: memory -/

/-- The loads (R161): constructor, operation, bytes, and the registers written, as register offset and word, from the value loaded. -/
def Claims.loads : List ((Nat → Instr) × CoreOp × Nat × (Nat → List Word)) :=
  [(.lb, .lb, 1, fun v => [(BitVec.ofNat 8 v).signExtend 32]), (.lbu, .lbu, 1, fun v => [BitVec.ofNat 32 v]),
   (.lh, .lh, 2, fun v => [(BitVec.ofNat 16 v).signExtend 32]), (.lhu, .lhu, 2, fun v => [BitVec.ofNat 32 v]),
   (.lw, .lw, 4, fun v => [BitVec.ofNat 32 v]),
   (.ld, .ld, 8, fun v => [BitVec.ofNat 32 v, BitVec.ofNat 32 (v / 2 ^ 32)]),
   (.lq, .lq, 16, fun v => [BitVec.ofNat 32 v, BitVec.ofNat 32 (v / 2 ^ 32), BitVec.ofNat 32 (v / 2 ^ 64), BitVec.ofNat 32 (v / 2 ^ 96)])]

/-- The registers a load or store of `n` bytes names (R150, R161). -/
def Claims.named (w n : Nat) : List Nat := aField w :: (List.range ((n + 3) / 4)).map (fun i => dField w + i)

/-- R129, R150, R161: an aligned load inside data SRAM that no queued access holds back gives its registers the little-endian value of the memory the core
sees, leaves that memory byte for byte, and changes nothing else but what meeting correctable words and draining count. Where the spec leaves a choice, the model's: log entries 5 and 62. -/
def Claims.LoadsReadSeenMemory : Prop :=
  ∀ e ∈ Claims.loads, ∀ (s : State) (c w : Nat), Issues s c w e.2.1 →
    (s.core c).free (Claims.named w e.2.2.1) →
    ∀ a, a = ((s.core c).reg (aField w) + Claims.simm w).toNat → a + e.2.2.1 ≤ 0x50000 → a % e.2.2.1 = 0 →
    (s.core c).readBlocked a e.2.2.1 = false → (s.core c).sound a e.2.2.1 →
    ∃ t, exec (e.1 c) s = .next t ∧ OnlyCoreTotals s t c ∧
      t.core c = { (s.core c) with
        pc := (s.core c).pc + 4, prevPc := (s.core c).pc, regs := { (s.core c).regs with s := (t.core c).regs.s },
        sbuf := (t.core c).sbuf, sram := (t.core c).sram, ce := (t.core c).ce, wback := (t.core c).wback, counters := (t.core c).counters } ∧
      (t.core c).counter 6 = (s.core c).counter 6 + 1 ∧
      (∀ b, Memory.byte (t.core c).seen b = Memory.byte (s.core c).seen b) ∧
      ∀ n, (t.core c).reg n =
        if n ≠ 0 ∧ dField w ≤ n ∧ n < dField w + (e.2.2.2 0).length then
          (e.2.2.2 (Memory.value (s.core c).seen a e.2.2.1)).getD (n - dField w) 0
        else (s.core c).reg n

/-- The stores (R161): constructor, operation, bytes. -/
def Claims.stores : List ((Nat → Instr) × CoreOp × Nat) :=
  [(.sb, .sb, 1), (.sh, .sh, 2), (.sw, .sw, 4), (.sd, .sd, 8), (.sq, .sq, 16)]

/-- R128, R150, R161: an aligned store inside data SRAM that no queued access holds back makes the memory the core sees hold the low bytes of its
registers, lowest register first, at its address, leaves every other byte as it was, and writes no register. -/
def Claims.StoresWriteSeenMemory : Prop :=
  ∀ e ∈ Claims.stores, ∀ (s : State) (c w : Nat), Issues s c w e.2.1 →
    (s.core c).free (Claims.named w e.2.2) →
    ∀ a, a = ((s.core c).reg (aField w) + Claims.simm w).toNat → a + e.2.2 ≤ 0x50000 → a % e.2.2 = 0 →
    (s.core c).writeBlocked a e.2.2 = false → (s.core c).sound a e.2.2 →
    ∃ t, exec (e.1 c) s = .next t ∧ OnlyCore s t c ∧
      t.core c = { (s.core c).issued ((s.core c).pc + 4) with
        sbuf := (t.core c).sbuf, sram := (t.core c).sram, ce := (t.core c).ce, wback := (t.core c).wback } ∧
      ∀ b, Memory.byte (t.core c).seen b =
        if a ≤ b ∧ b < a + e.2.2 then ((s.core c).reg (dField w + (b - a) / 4)).extractLsb' (8 * ((b - a) % 4)) 8
        else Memory.byte (s.core c).seen b

/-- R125, R144, R161: a load or store outside data SRAM ends the task with an address exception, one inside that is not aligned to its size with an
alignment exception, at its own program counter and address, whether or not a unit holds those bytes. -/
def Claims.BadAccessEndsTask : Prop :=
  ∀ e ∈ Claims.loads.map (fun x => (x.1, x.2.1, x.2.2.1)) ++ Claims.stores, ∀ (s : State) (c w : Nat), Issues s c w e.2.1 →
    (s.core c).free (Claims.named w e.2.2) →
    ∀ a, a = ((s.core c).reg (aField w) + Claims.simm w).toNat → 0x50000 < a + e.2.2 ∨ a % e.2.2 ≠ 0 →
    exec (e.1 c) s = .next (s.trapCore c (if 0x50000 < a + e.2.2 then 0x3180 else 0x3181) (s.core c).pc a (s.core c))

/-! ### Core instructions: control registers -/

/-- R135 to R137, R162, R181: CSRR delivers the word at its offset, with W64 that word and the next to a pair; in deterministic mode an offset whose value
depends on time ends the task with 0x3188 instead. -/
def Claims.CsrReads : Prop :=
  ∀ (s : State) (c w : Nat), Issues s c w .csrr →
    ((s.core c).csr.det = true ∧ (∃ o ∈ csrOffsets w, csrTimed o = true) →
      exec (.csrr c) s = .next (s.trapCore c 0x3188 (s.core c).pc 0 (s.core c))) ∧
    (¬ ((s.core c).csr.det = true ∧ ∃ o ∈ csrOffsets w, csrTimed o = true) →
      (s.core c).free (if bit w 12 then [dField w, dField w + 1] else [dField w]) →
      (flagsWait (s.core c) (csrOffsets w) = true → exec (.csrr c) s = .next s) ∧
      (flagsWait (s.core c) (csrOffsets w) = false →
        ∃ t, exec (.csrr c) s = .next t ∧ OnlyCore s t c ∧
          t.core c = { (s.core c).issued ((s.core c).pc + 4) with regs := { (s.core c).regs with s := (t.core c).regs.s } } ∧
          ∀ n, (t.core c).reg n =
            if n = dField w ∧ n ≠ 0 then BitVec.ofNat 32 (csrWord s c (bits w 11 0))
            else if bit w 12 ∧ n = dField w + 1 then BitVec.ofNat 32 (csrWord s c (bits w 11 0 + 4))
            else (s.core c).reg n))

/-- What CSRW leaves of the control registers (R10, R136, R187): `c.flags` bits written 1 are cleared, `c.rmode` takes SATUR and a rounding mode up to 4,
`c.seed` takes the word, any other offset takes nothing. -/
def Claims.written (x : Csrs) (o : Nat) (v : Word) : Csrs :=
  if o = 0x020 then { x with flags := x.flags &&& (0x3F ^^^ (v.toNat % 64)) }
  else if o = 0x028 then { x with satur := v.getLsbD 3, rm := if v.toNat % 8 ≤ 4 then v.toNat % 8 else x.rm }
  else if o = 0x030 then { x with seed := v }
  else x

/-- R136, R162, R181: CSRW writes the word of s(D) at its offset, with W64 the pair at two offsets, and writes no register of the core besides; a write of
`c.flags` waits for the unit queues, and one of `c.seed` in deterministic mode ends the task with 0x3188. -/
def Claims.CsrWrites : Prop :=
  ∀ (s : State) (c w : Nat), Issues s c w .csrw →
    ((s.core c).csr.det = true ∧ 0x030 ∈ csrOffsets w → exec (.csrw c) s = .next (s.trapCore c 0x3188 (s.core c).pc 0 (s.core c))) ∧
    (¬ ((s.core c).csr.det = true ∧ 0x030 ∈ csrOffsets w) →
      (0x020 ∈ csrOffsets w ∧ (s.core c).uq ≠ [] → exec (.csrw c) s = .next s) ∧
      (¬ (0x020 ∈ csrOffsets w ∧ (s.core c).uq ≠ []) → (s.core c).free (if bit w 12 then [dField w, dField w + 1] else [dField w]) →
        ∃ t, exec (.csrw c) s = .next t ∧ OnlyCore s t c ∧
          t.core c = { (s.core c).issued ((s.core c).pc + 4) with
            csr := if bit w 12 then
                Claims.written (Claims.written (s.core c).csr (bits w 11 0) ((s.core c).reg (dField w))) (bits w 11 0 + 4) ((s.core c).reg (dField w + 1))
              else Claims.written (s.core c).csr (bits w 11 0) ((s.core c).reg (dField w)) }))

/-- R136, R137, R519: what a CSR offset holds: identity, status, time, flags, rounding, seed, start descriptor, instruction counter; an unlisted offset holds 0. -/
def Claims.CsrContents : Prop :=
  ∀ (s : State) (c : Nat),
    csrWord s c 0x004 = 0x00420000 ∧ csrWord s c 0x010 = s.tstamp % 2 ^ 32 ∧ csrWord s c 0x014 = s.tstamp / 2 ^ 32 % 2 ^ 32 ∧
    csrWord s c 0x020 = (s.core c).csr.flags ∧ csrWord s c 0x024 = (s.core c).csr.tflags ∧
    csrWord s c 0x028 = b2n (s.core c).csr.satur * 8 + (s.core c).csr.rm ∧ csrWord s c 0x030 = (s.core c).csr.seed.toNat ∧
    csrWord s c 0x044 = (s.core c).sbuf.length ∧ csrWord s c 0x100 = (s.core c).desc.taskId.toNat % 2 ^ 32 ∧
    csrWord s c 0x104 = (s.core c).desc.taskId.toNat / 2 ^ 32 ∧ csrWord s c 0x108 = (s.core c).desc.info.toNat ∧
    csrWord s c 0x10C = (s.core c).desc.layerOper.toNat ∧
    csrWord s c 0x830 = (s.core c).counter 6 % 2 ^ 32 ∧
    csrWord s c 0x048 = 0 ∧ csrWord s c 0x200 = 0

/-! ### Core instructions: vector unit and mixer -/

/-- The integer and logic instructions of the vector unit (R163): constructor, FN, operation, and the result of a lane. -/
def Claims.laneInts : List ((Nat → Instr) × CoreOp × (Word → Word → Word)) :=
  [(.vaddi, .vaddi, fun a b => a + b), (.vsubi, .vsubi, fun a b => a - b), (.vmuli, .vmuli, fun a b => a * b),
   (.vand, .vand, fun a b => a &&& b), (.vor, .vor, fun a b => a ||| b), (.vxor, .vxor, fun a b => a ^^^ b),
   (.vsll, .vsll, fun a b => a <<< (b.toNat % 32)), (.vsrl, .vsrl, fun a b => a >>> (b.toNat % 32)),
   (.vsra, .vsra, fun a b => a.sshiftRight (b.toNat % 32)),
   (.vmini, .vmini, fun a b => if a.toInt < b.toInt then a else b), (.vmaxi, .vmaxi, fun a b => if a.toInt < b.toInt then b else a),
   (.vcmpeqi, .vcmpeqi, fun a b => if a = b then BitVec.allOnes 32 else 0),
   (.vcmplti, .vcmplti, fun a b => if a.toInt < b.toInt then BitVec.allOnes 32 else 0)]

/-- A core whose vector unit has run one instruction: the program counter moved on, the instruction counted as issued and as a vector instruction. -/
def Claims.vectored (s : State) (t : State) (c : Nat) : Prop :=
  (t.core c).pc = (s.core c).pc + 4 ∧ (t.core c).uq = [] ∧ (t.core c).counter 6 = (s.core c).counter 6 + 1 ∧
  (t.core c).counter 7 = (s.core c).counter 7 + 1

/-- R163, R199: with idle units an integer or logic instruction gives every lane of v(VD) its result, raises no flag, and changes nothing else. -/
def Claims.VectorIntegerLanes : Prop :=
  ∀ e ∈ Claims.laneInts, ∀ (s : State) (c w : Nat), Issues s c w e.2.1 → (s.core c).uq = [] →
    ∃ t, exec (e.1 c) s = .next t ∧ OnlyCore s t c ∧ Claims.vectored s t c ∧
      t.core c = { s.core c with pc := (s.core c).pc + 4, prevPc := (s.core c).pc, counters := (t.core c).counters,
                                 regs := { (s.core c).regs with v := (t.core c).regs.v } } ∧
      ∀ v i, i < 32 → (t.core c).lane v i =
        if v = dField w then e.2.2 ((s.core c).lane (aField w) i) ((s.core c).lane (bField w) i) else (s.core c).lane v i

/-- The lane-wise floating-point instructions (R163): constructor, operation, whether SR draws for it, and the result and flags of a lane from rounding mode, draw
and the lanes of VA, VB and VC. -/
def Claims.laneFloats : List ((Nat → Instr) × CoreOp × Bool × (Nat → Nat → Nat → Nat → Nat → FRes)) :=
  [(.vaddf, .vaddf, true, fun rm dr a b _ => fpAdd .fp32 rm false (fp a) (fp b) dr),
   (.vsubf, .vsubf, true, fun rm dr a b _ => fpAdd .fp32 rm false (fp a) (fp b).negate dr),
   (.vmulf, .vmulf, true, fun rm dr a b _ => fpMul .fp32 rm (fp a) (fp b) dr),
   (.vfmaf, .vfmaf, true, fun rm dr a b c => fpFma .fp32 rm (fp a) (fp b) (fp c) dr),
   (.vdivf, .vdivf, true, fun rm dr a b _ => fpDiv .fp32 rm (fp a) (fp b) dr),
   (.vsqrtf, .vsqrtf, true, fun rm dr a _ _ => fpSqrt .fp32 rm (fp a) dr),
   (.vminf, .vminf, false, fun _ _ a b _ => fp32Min a b), (.vmaxf, .vmaxf, false, fun _ _ a b _ => fp32Max a b),
   (.vcmpeqf, .vcmpeqf, false, fun _ _ a b _ => fp32Cmp 0 a b), (.vcmpltf, .vcmpltf, false, fun _ _ a b _ => fp32Cmp 1 a b),
   (.vcmplef, .vcmplef, false, fun _ _ a b _ => fp32Cmp 2 a b),
   (.vrcpf, .vrcpf, false, fun rm _ a _ _ => fp32Rcp (noDraw rm) a), (.vrsqf, .vrsqf, false, fun rm _ a _ _ => fp32Rsq (noDraw rm) a),
   (.vexp2f, .vexp2f, false, fun rm _ a _ _ => fp32Exp2 (noDraw rm) a), (.vlog2f, .vlog2f, false, fun rm _ a _ _ => fp32Log2 (noDraw rm) a)]

/-- R163, R192, R198: with idle units a floating-point instruction gives lane i of v(VD) its result with draw i of the seed, ORs every lane's flags into
`c.flags` and `c.tflags`, and advances the seed by one when it draws under SR; nothing else changes. Where the spec leaves a choice, the model's: log entry 8. -/
def Claims.VectorFloatLanes : Prop :=
  ∀ e ∈ Claims.laneFloats, ∀ (s : State) (c w : Nat), Issues s c w e.2.1 → (s.core c).uq = [] →
    ∀ (draws : Bool) (r : Nat → FRes), draws = (e.2.2.1 && decide ((s.core c).csr.rm = 4)) →
    r = (fun i => e.2.2.2 (s.core c).csr.rm (drawOf (if draws then (s.core c).csr.seed.toNat else 0) i)
          ((s.core c).lane (aField w) i).toNat ((s.core c).lane (bField w) i).toNat ((s.core c).lane (cField w) i).toNat) →
    ∃ t, exec (e.1 c) s = .next t ∧ OnlyCore s t c ∧ Claims.vectored s t c ∧
      t.core c = { s.core c with
        pc := (s.core c).pc + 4, prevPc := (s.core c).pc, counters := (t.core c).counters, regs := { (s.core c).regs with v := (t.core c).regs.v },
        csr := { (s.core c).csr with
          flags := (s.core c).csr.flags ||| (List.range 32).foldl (fun x i => x ||| (r i).2) 0,
          tflags := (s.core c).csr.tflags ||| (List.range 32).foldl (fun x i => x ||| (r i).2) 0,
          seed := if draws then (s.core c).csr.seed + 1 else (s.core c).csr.seed } } ∧
      ∀ v i, i < 32 → (t.core c).lane v i = if v = dField w then BitVec.ofNat 32 (r i).1 else (s.core c).lane v i

/-- R163, R164, R188: with idle units VSEL, VBCAST, VINS, VPERM, VMOV and VEXT move lanes, and the four reductions leave their result in lane 0 of v(VD)
and 0 in the others; VEXT writes s(VD). Nothing else changes but the flags the reductions raise. -/
def Claims.VectorMovesAndReductions : Prop :=
  ∀ (s : State) (c w : Nat) (la lb lc : Nat → Word), (s.core c).uq = [] →
    la = (s.core c).lane (aField w) → lb = (s.core c).lane (bField w) → lc = (s.core c).lane (cField w) →
    (∀ e ∈ [(Instr.vsel, CoreOp.vsel, fun i => if lc i ≠ 0 then la i else lb i),
            (Instr.vbcast, CoreOp.vbcast, fun _ => (s.core c).reg (aField w)),
            (Instr.vins, CoreOp.vins, fun i => if i = bField w then (s.core c).reg (aField w) else (s.core c).lane (dField w) i),
            (Instr.vperm, CoreOp.vperm, fun i => la ((lb i).toNat % 32)),
            (Instr.vmov, CoreOp.vmov, la),
            (Instr.vrsumi, CoreOp.vrsumi, fun i => if i = 0 then ((List.range 32).map la).foldl (· + ·) 0 else 0)],
      Issues s c w e.2.1 →
      ∃ t, exec (e.1 c) s = .next t ∧ OnlyCore s t c ∧ Claims.vectored s t c ∧
        t.core c = { s.core c with pc := (s.core c).pc + 4, prevPc := (s.core c).pc, counters := (t.core c).counters,
                                   regs := { (s.core c).regs with v := (t.core c).regs.v } } ∧
        ∀ v i, i < 32 → (t.core c).lane v i = if v = dField w then e.2.2 i else (s.core c).lane v i) ∧
    (Issues s c w .vext →
      ∃ t, exec (.vext c) s = .next t ∧ OnlyCore s t c ∧ Claims.vectored s t c ∧
        t.core c = { s.core c with pc := (s.core c).pc + 4, prevPc := (s.core c).pc, counters := (t.core c).counters,
                                   regs := { (s.core c).regs with s := (t.core c).regs.s } } ∧
        ∀ n, (t.core c).reg n = if n = dField w ∧ n ≠ 0 then la (bField w) else (s.core c).reg n) ∧
    (∀ e ∈ [(Instr.vrsumf, CoreOp.vrsumf, fun a b => fpAdd .fp32 (noDraw (s.core c).csr.rm) false (fp a) (fp b) 0),
            (Instr.vrmaxf, CoreOp.vrmaxf, fp32Max), (Instr.vrminf, CoreOp.vrminf, fp32Min)],
      Issues s c w e.2.1 →
      ∃ t, exec (e.1 c) s = .next t ∧ OnlyCore s t c ∧ Claims.vectored s t c ∧
        t.core c = { s.core c with
          pc := (s.core c).pc + 4, prevPc := (s.core c).pc, counters := (t.core c).counters, regs := { (s.core c).regs with v := (t.core c).regs.v },
          csr := { (s.core c).csr with
            flags := (s.core c).csr.flags ||| (reduceTree e.2.2 ((List.range 32).map (fun i => (la i).toNat))).2,
            tflags := (s.core c).csr.tflags ||| (reduceTree e.2.2 ((List.range 32).map (fun i => (la i).toNat))).2 } } ∧
        ∀ v i, i < 32 → (t.core c).lane v i =
          if v = dField w then
            (if i = 0 then BitVec.ofNat 32 (reduceTree e.2.2 ((List.range 32).map (fun i => (la i).toNat))).1 else 0)
          else (s.core c).lane v i)

/-- Element `j` of `n` bytes of a vector register. -/
def Claims.elem (k : Core) (v n j : Nat) : Nat := bits (k.vreg v) (8 * n * j + 8 * n - 1) (8 * n * j)

/-- The narrowing and whole conversions of VCVT (R165): code, element bytes, and the conversion from rounding mode, saturation, draw and code. -/
def Claims.narrowing : List (Nat × Nat × (Nat → Bool → Nat → Nat → FRes)) :=
  [(0x00, 2, fun rm st dr x => fpConvert .fp32 .bf16 rm st x dr), (0x01, 2, fun rm st dr x => fpConvert .fp32 .fp16 rm st x dr),
   (0x02, 1, fun rm st dr x => fpConvert .fp32 .e4m3 rm st x dr), (0x03, 1, fun rm st dr x => fpConvert .fp32 .e5m2 rm st x dr),
   (0x04, 1, fun rm _ dr x => fpToInt 8 rm x dr), (0x05, 4, fun rm _ dr x => fpToInt 32 rm x dr), (0x0D, 4, fun rm _ dr x => intToFp 32 rm x dr)]

/-- The widening conversions of VCVT (R165): code, element bytes, and the conversion, which is exact. -/
def Claims.widening : List (Nat × Nat × (Nat → FRes)) :=
  [(0x08, 2, fun x => fpConvert .bf16 .fp32 0 false x 0), (0x09, 2, fun x => fpConvert .fp16 .fp32 0 false x 0),
   (0x0A, 1, fun x => fpConvert .e4m3 .fp32 0 false x 0), (0x0B, 1, fun x => fpConvert .e5m2 .fp32 0 false x 0),
   (0x0C, 1, fun x => intToFp 8 0 x 0)]

/-- R165, R192: with idle units VCVT narrows the 32 lanes into part B of v(VD), keeping the other parts, or widens part B of v(VA) into the 32 lanes, ORing the
flags of the 32 conversions; a conversion that can be inexact draws under SR. -/
def Claims.VectorConversions : Prop :=
  ∀ (s : State) (c w : Nat), Issues s c w .vcvt → (s.core c).uq = [] →
    (∀ e ∈ Claims.narrowing, cField w = e.1 → ∀ (draws : Bool) (r : Nat → FRes), draws = decide ((s.core c).csr.rm = 4) →
      r = (fun i => e.2.2 (s.core c).csr.rm (s.core c).csr.satur (drawOf (if draws then (s.core c).csr.seed.toNat else 0) i)
            ((s.core c).lane (aField w) i).toNat) →
      ∃ t, exec (.vcvt c) s = .next t ∧ OnlyCore s t c ∧ Claims.vectored s t c ∧
        t.core c = { s.core c with
          pc := (s.core c).pc + 4, prevPc := (s.core c).pc, counters := (t.core c).counters, regs := { (s.core c).regs with v := (t.core c).regs.v },
          csr := { (s.core c).csr with
            flags := (s.core c).csr.flags ||| (List.range 32).foldl (fun x i => x ||| (r i).2) 0,
            tflags := (s.core c).csr.tflags ||| (List.range 32).foldl (fun x i => x ||| (r i).2) 0,
            seed := if draws then (s.core c).csr.seed + 1 else (s.core c).csr.seed } } ∧
        (∀ v, v ≠ dField w → (t.core c).vreg v = (s.core c).vreg v) ∧
        ∀ j, j < 128 / e.2.1 → Claims.elem (t.core c) (dField w) e.2.1 j =
          if 32 * bField w ≤ j ∧ j < 32 * bField w + 32 then (r (j - 32 * bField w)).1 % 2 ^ (8 * e.2.1)
          else Claims.elem (s.core c) (dField w) e.2.1 j) ∧
    (∀ e ∈ Claims.widening, cField w = e.1 → ∀ (r : Nat → FRes),
      r = (fun i => e.2.2 (Claims.elem (s.core c) (aField w) e.2.1 (32 * bField w + i))) →
      ∃ t, exec (.vcvt c) s = .next t ∧ OnlyCore s t c ∧ Claims.vectored s t c ∧
        t.core c = { s.core c with
          pc := (s.core c).pc + 4, prevPc := (s.core c).pc, counters := (t.core c).counters, regs := { (s.core c).regs with v := (t.core c).regs.v },
          csr := { (s.core c).csr with
            flags := (s.core c).csr.flags ||| (List.range 32).foldl (fun x i => x ||| (r i).2) 0,
            tflags := (s.core c).csr.tflags ||| (List.range 32).foldl (fun x i => x ||| (r i).2) 0 } } ∧
        ∀ v i, i < 32 → (t.core c).lane v i = if v = dField w then BitVec.ofNat 32 (r i).1 else (s.core c).lane v i)

/-- R124, R130, R166: with idle units an aligned VLD gives v(VD) the 128 bytes the core sees and leaves memory as seen; an aligned VST makes the core see the 128 bytes
of v(VD) at the address and every other byte as before, and writes no register. -/
def Claims.VectorMemory : Prop :=
  ∀ (s : State) (c w a : Nat), a = ((s.core c).reg (aField w) + Claims.simm w).toNat → a + 128 ≤ 0x50000 → a % 128 = 0 →
    (s.core c).uq = [] → (s.core c).sound a 128 →
    (Issues s c w .vld →
      ∃ t, exec (.vld c) s = .next t ∧ OnlyCoreTotals s t c ∧ Claims.vectored s t c ∧
        t.core c = { s.core c with
          pc := (s.core c).pc + 4, prevPc := (s.core c).pc, counters := (t.core c).counters, regs := { (s.core c).regs with v := (t.core c).regs.v },
          sbuf := (t.core c).sbuf, sram := (t.core c).sram, ce := (t.core c).ce, wback := (t.core c).wback } ∧
        (∀ b, Memory.byte (t.core c).seen b = Memory.byte (s.core c).seen b) ∧
        ∀ v i, i < 32 → (t.core c).lane v i =
          if v = dField w then BitVec.ofNat 32 (Memory.value (s.core c).seen (a + 4 * i) 4) else (s.core c).lane v i) ∧
    (Issues s c w .vst →
      ∃ t, exec (.vst c) s = .next t ∧ OnlyCore s t c ∧ Claims.vectored s t c ∧
        t.core c = { s.core c with
          pc := (s.core c).pc + 4, prevPc := (s.core c).pc, counters := (t.core c).counters,
          sbuf := (t.core c).sbuf, sram := (t.core c).sram, ce := (t.core c).ce, wback := (t.core c).wback } ∧
        ∀ b, Memory.byte (t.core c).seen b =
          if a ≤ b ∧ b < a + 128 then ((s.core c).lane (dField w) ((b - a) / 4)).extractLsb' (8 * ((b - a) % 4)) 8
          else Memory.byte (s.core c).seen b)

/-- R122, R167, R168: with idle units TDESC loads t(n) with s(A) and s(A+1) when the value passes the checks; a value that fails one ends the task with that check's cause and
address; with the mixer queue full it does not issue; behind other entries of the mixer queue it waits in it. -/
def Claims.TileDescriptorLoad : Prop :=
  ∀ (s : State) (c w : Nat), Issues s c w .tdesc →
    (4 ≤ (s.core c).unitLen true → exec (.tdesc c) s = .next s) ∧
    ((s.core c).unitLen true < 4 → (s.core c).free [aField w, aField w + 1] →
      ∀ v, v = ((s.core c).reg (aField w)).toNat + ((s.core c).reg (aField w + 1)).toNat * 2 ^ 32 →
      (∀ cause addr, tdescFault v = some (cause, addr) → exec (.tdesc c) s = .next (s.trapCore c cause (s.core c).pc addr (s.core c))) ∧
      (tdescFault v = none → (s.core c).uq = [] →
        ∃ t, exec (.tdesc c) s = .next t ∧ OnlyCore s t c ∧
          t.core c = { (s.core c).issued ((s.core c).pc + 4) with regs := { (s.core c).regs with t := (t.core c).regs.t } } ∧
          ∀ n, (t.core c).treg n = if n = bits w 25 23 then v else (s.core c).treg n))

/-- Every word of a tile and of the store buffer is free of uncorrectable errors. -/
def Claims.tileSound (k : Core) (tds : List Nat) : Prop :=
  (∀ td ∈ tds, ∀ x ∈ tdWords td, x ∉ k.ue) ∧ ∀ e ∈ k.sbuf, ∀ x ∈ wordsOf e.addr e.size, x ∉ k.ue

/-- R170: with idle units MMA accumulates the product of an 8 × K and a K × 16 tile of memory as the core sees it onto the 128 elements of its accumulator,
from zero when Z is set, ORs the flags, counts the steps, and leaves memory as seen. -/
def Claims.MatrixProduct : Prop :=
  ∀ (s : State) (c w ta tb kind : Nat), Issues s c w .mma → (s.core c).uq = [] →
    ta = (s.core c).treg (bits w 21 19) → tb = (s.core c).treg (bits w 18 16) →
    tdSrc ta = 0 → tdSrc tb = 0 → tdRows ta = 8 → tdCols tb = 16 → tdCols ta = tdRows tb → pairKind (tdFmt ta) (tdFmt tb) = some kind →
    Claims.tileSound (s.core c) [ta, tb] →
    ∀ r : Nat → FRes, r = (fun i => mmaElem kind (tdFmt ta) (tdFmt tb) (fun k => tdElem (s.core c).seen ta (i / 16) k)
        (fun k => tdElem (s.core c).seen tb k (i % 16)) (tdCols ta)
        (if bit w 23 then 0 else (s.core c).acc (accField w) (i / 16) (i % 16))) →
    ∃ t, exec (.mma c) s = .next t ∧ OnlyCoreTotals s t c ∧
      t.core c = { s.core c with
        pc := (s.core c).pc + 4, prevPc := (s.core c).pc, counters := (t.core c).counters, regs := { (s.core c).regs with a := (t.core c).regs.a },
        sbuf := (t.core c).sbuf, sram := (t.core c).sram, ce := (t.core c).ce, wback := (t.core c).wback,
        csr := { (s.core c).csr with
          flags := (s.core c).csr.flags ||| (List.range 128).foldl (fun x i => x ||| (r i).2) 0,
          tflags := (s.core c).csr.tflags ||| (List.range 128).foldl (fun x i => x ||| (r i).2) 0 } } ∧
      (t.core c).counter 6 = (s.core c).counter 6 + 1 ∧
      (t.core c).counter 8 = (s.core c).counter 8 + mmaSteps kind (tdCols ta) ∧
      (∀ b, Memory.byte (t.core c).seen b = Memory.byte (s.core c).seen b) ∧
      ∀ q i j, i < 8 → j < 16 → (t.core c).acc q i j =
        if q = accField w then (r (i * 16 + j)).1 % 2 ^ 32 else (s.core c).acc q i j

/-- R171: with idle units AST stores the 128 elements of its accumulator, converted to the tile's format, where the tile places them, and no other byte; ALD loads an
8 × 16 tile of 32-bit elements as the core sees it into its accumulator. Where the spec leaves a choice, the model's: log entry 62. -/
def Claims.AccumulatorMemory : Prop :=
  ∀ (s : State) (c w td : Nat), (s.core c).uq = [] → td = (s.core c).treg (bits w 21 19) →
    tdSrc td = 0 → tdRows td = 8 → tdCols td = 16 → Claims.tileSound (s.core c) [td] →
    (Issues s c w .ast → ∀ (draws : Bool) (r : Nat → FRes),
      draws = (decide (tdFmt td ≠ 5 ∧ tdFmt td ≠ 6) && decide ((s.core c).csr.rm = 4)) →
      r = (fun i => convertOut (tdFmt td) (s.core c).csr.rm (s.core c).csr.satur ((s.core c).acc (accField w) (i / 16) (i % 16))
            (drawOf (if draws then (s.core c).csr.seed.toNat else 0) i)) →
      ∃ t, exec (.ast c) s = .next t ∧ OnlyCore s t c ∧
        t.core c = { (s.core c).issued ((s.core c).pc + 4) with
          sbuf := (t.core c).sbuf, sram := (t.core c).sram, ce := (t.core c).ce, wback := (t.core c).wback,
          csr := { (s.core c).csr with
            flags := (s.core c).csr.flags ||| (List.range 128).foldl (fun x i => x ||| (r i).2) 0,
            tflags := (s.core c).csr.tflags ||| (List.range 128).foldl (fun x i => x ||| (r i).2) 0,
            seed := if draws then (s.core c).csr.seed + 1 else (s.core c).csr.seed } } ∧
        (∀ b, (∀ i j, i < 8 → j < 16 → ¬ (tdAddr td i j ≤ b ∧ b < tdAddr td i j + fmtSize (tdFmt td))) →
          Memory.byte (t.core c).seen b = Memory.byte (s.core c).seen b) ∧
        (tdescFault td = none → ∀ i j, i < 8 → j < 16 →
          tdElem (t.core c).seen td i j = (r (i * 16 + j)).1 % 2 ^ (8 * fmtSize (tdFmt td)))) ∧
    (Issues s c w .ald → tdFmt td = 5 ∨ tdFmt td = 6 →
      ∃ t, exec (.ald c) s = .next t ∧ OnlyCoreTotals s t c ∧
        t.core c = { s.core c with
          pc := (s.core c).pc + 4, prevPc := (s.core c).pc, counters := (t.core c).counters, regs := { (s.core c).regs with a := (t.core c).regs.a },
          sbuf := (t.core c).sbuf, sram := (t.core c).sram, ce := (t.core c).ce, wback := (t.core c).wback } ∧
        (t.core c).counter 6 = (s.core c).counter 6 + 1 ∧
        (∀ b, Memory.byte (t.core c).seen b = Memory.byte (s.core c).seen b) ∧
        ∀ q i j, i < 8 → j < 16 → (t.core c).acc q i j =
          if q = accField w then tdElem (s.core c).seen td i j else (s.core c).acc q i j)

/-- R171: with idle units AZERO clears an accumulator, AXV copies two of its rows to v(VA) and AVX two rows from v(VA); nothing else changes. -/
def Claims.AccumulatorMoves : Prop :=
  ∀ (s : State) (c w row : Nat), (s.core c).uq = [] → row = 2 * bits w 22 21 →
    (Issues s c w .azero →
      ∃ t, exec (.azero c) s = .next t ∧ OnlyCore s t c ∧
        t.core c = { (s.core c).issued ((s.core c).pc + 4) with regs := { (s.core c).regs with a := (t.core c).regs.a } } ∧
        ∀ q i j, i < 8 → j < 16 → (t.core c).acc q i j = if q = accField w then 0 else (s.core c).acc q i j) ∧
    (Issues s c w .axv →
      ∃ t, exec (.axv c) s = .next t ∧ OnlyCore s t c ∧
        t.core c = { (s.core c).issued ((s.core c).pc + 4) with regs := { (s.core c).regs with v := (t.core c).regs.v } } ∧
        ∀ v i, i < 32 → (t.core c).lane v i =
          if v = aField w then BitVec.ofNat 32 ((s.core c).acc (accField w) (row + i / 16) (i % 16)) else (s.core c).lane v i) ∧
    (Issues s c w .avx →
      ∃ t, exec (.avx c) s = .next t ∧ OnlyCore s t c ∧
        t.core c = { (s.core c).issued ((s.core c).pc + 4) with regs := { (s.core c).regs with a := (t.core c).regs.a } } ∧
        ∀ q i j, i < 8 → j < 16 → (t.core c).acc q i j =
          if q = accField w ∧ (i = row ∨ i = row + 1) then ((s.core c).lane (aField w) ((i - row) * 16 + j)).toNat
          else (s.core c).acc q i j)

/-! ### Core instructions: recipes -/

/-- R172, R205, R223: with idle units an RLAUNCH whose block passes every launch check enters the mixer queue and begins, taking the rounding mode, the draw base
and memory as the core sees it; under SR the seed advances by the recipe's blocks. A block that fails a check ends the task with that check's cause. -/
def Claims.RecipeLaunch : Prop :=
  ∀ (s : State) (c w a : Nat) (b : List Nat), Issues s c w .rlaunch → (s.core c).uq = [] → a = ((s.core c).reg (aField w)).toNat →
    b = readBlock (s.core c).seen a → (s.core c).ue = [] →
    (launchFault s c (s.core c) a b = none →
      ∃ t, exec (.rlaunch c) s = .next t ∧ OnlyCoreTotals s t c ∧
        t.core c = { s.core c with
          pc := (s.core c).pc + 4, prevPc := (s.core c).pc, counters := (t.core c).counters,
          sbuf := (t.core c).sbuf, sram := (t.core c).sram, ce := (t.core c).ce, wback := (t.core c).wback,
          csr := { (s.core c).csr with
            seed := if (s.core c).csr.rm = 4 then (s.core c).csr.seed + BitVec.ofNat 32 (rBlocks b) else (s.core c).csr.seed },
          uq := [.recipe { block := b, pc := (s.core c).pc, nth := (s.core c).counter 6, rm := (s.core c).csr.rm, satur := (s.core c).csr.satur,
                           base := (s.core c).csr.seed.toNat, mem := some (t.core c).sram, bad := none, slices := [], sent := 0 }] } ∧
        ∀ x, Memory.byte (t.core c).seen x = Memory.byte (s.core c).seen x) ∧
    (∀ cause addr, launchFault s c (s.core c) a b = some (cause, addr) →
      ∃ t, exec (.rlaunch c) s = .next t ∧ ∃ k, t = s.trapCore c cause (s.core c).pc addr k)

/-- Core `c` runs recipe `r`, which has begun and has nothing before it in the unit queues; it has met no fault. -/
def Claims.running (s : State) (c : Nat) (r : Recipe) (rest : List UnitItem) : Prop :=
  c < nCores ∧ (s.core c).uq = .recipe r :: rest ∧ r.mem.isSome = true ∧ recipeFault (s.core c) r = none

/-- R216, R217: the oldest message of the arrival queue becomes the recipe's next slice, its slots go back to the queue, and with ARR_BEN one consumer ADVANCE is posted. -/
def Claims.RecipeTakesSlice : Prop :=
  ∀ (s : State) (c : Nat) (r : Recipe) (rest : List UnitItem) (m : Msg) (k : Core) (out : List Packet),
    Claims.running s c r rest → r.slices.length < rSlices r.block → (rArrBen r.block = true → (s.core c).outq.length < 4 ∧ (s.core c).lostSeq = none) →
    (s.core c).popMsg s c (tdVc (rArrTd r.block)) = some (m, k, out) →
    ∃ t, exec (.recipeArrivalSlice c) s = .next t ∧ t = { s with cores := t.cores, net := t.net } ∧
      (∀ c', c' ≠ c → t.core c' = s.core c') ∧
      t.core c = { s.core c with
        inq := k.inq, counters := (t.core c).counters,
        uq := .recipe { r with slices := r.slices ++ [m.data] } :: rest,
        outq := (s.core c).outq ++ (if rArrBen r.block then
          [{ op := .sadv (rArrBind r.block) 1 true, after := (s.core c).nif.sendSeq, rpc := some (r.pc, r.nth) }] else []) } ∧
      (t.core c).counter 12 = (s.core c).counter 12 + 1 ∧
      t.net = s.net ++ out.map (fun p => { p with at' := s.tstamp })

/-- R219, R242, R244: with credit held that no SEND of the steward waits for, a finished block leaves for FS_DEST as one message, its bytes those of the block, and takes its slots of
the credit; the recipe counts it as sent. With 16 messages unacknowledged it does not leave, and a steward that runs is held in SLEEP_SEND for that time. Where the spec leaves a choice, the model's: log entry 9. -/
def Claims.FinishSendLeaves : Prop :=
  ∀ (s : State) (c : Nat) (r : Recipe) (rest : List UnitItem) (e : CreditEntry),
    Claims.running s c r rest → rSlices r.block ≤ r.slices.length → r.sent < rMsgs r.block →
    (16 ≤ (s.core c).nif.unacked.length → (s.core c).run = .run → (s.core c).ending = .none → (s.core c).asyncErr = none →
      ∃ t, exec (.finishSend c) s = .next t ∧ OnlyCore s t c ∧ t.core c = s.stored c { s.core c with run := .sleepSend, finHold := true }) ∧
    ((s.core c).nif.unacked.length < 16 →
    rFs r.block = 1 → (s.core c).nif.entry (rFsDest r.block) (rFsVc r.block) = some e → slotsFor (sendBytes r.block) ≤ e.held →
    e.waiter ≠ some false → (s.core c).commit = true → (s.core c).finHold = false →
    ∃ t, exec (.finishSend c) s = .next t ∧ t = { s with cores := t.cores, net := t.net } ∧
      (∀ c', c' ≠ c → t.core c' = s.core c') ∧
      t.core c = { s.core c with uq := .recipe { r with sent := r.sent + 1 } :: rest, nif := (t.core c).nif } ∧
      (t.core c).nif.entry (rFsDest r.block) (rFsVc r.block) =
        some { e with held := e.held - slotsFor (sendBytes r.block), lastUse := s.half c, waiter := none } ∧
      (t.core c).nif.unacked = (s.core c).nif.unacked ++
        [{ tag := (s.core c).nif.nextTag % 65536, seq := (s.core c).nif.sendSeq, dst := rFsDest r.block, vc := rFsVc r.block, at' := s.tstamp,
           len := (messageBytes r r.sent).length, task := (s.core c).desc.taskId,
           bind := if rFsBen r.block then some (rFsBind r.block, r.pc, r.nth) else none }] ∧
      t.net = s.net ++ [{ corePacket s c (rFsDest r.block) (rFsVc r.block) false (s.core c).desc.taskId ((s.core c).nif.nextTag % 65536)
        (.msg (messageBytes r r.sent)) with at' := s.tstamp }])

/-- R213, R215, R519: a recipe whose slices and messages are complete ends: its stages' flags are ORed in, a0 to a3 become zero, its multiplier steps are counted; a
recipe that stores nothing then leaves memory as it was. Where the spec leaves a choice, the model's: log entry 9. -/
def Claims.RecipeFinishes : Prop :=
  ∀ (s : State) (c : Nat) (r : Recipe), Claims.running s c r [] → rSlices r.block ≤ r.slices.length → rMsgs r.block ≤ r.sent →
    (s.core c).ending = .none →
    ∃ t, exec (.recipeFinish c) s = .next t ∧
      (t.core c).uq = [] ∧ (∀ q i j, (t.core c).acc q i j = 0) ∧
      (t.core c).csr.flags = (s.core c).csr.flags ||| recipeFlags r ∧ (t.core c).csr.tflags = (s.core c).csr.tflags ||| recipeFlags r ∧
      (t.core c).counter 8 = (s.core c).counter 8 + ((recipeSteps r).map (fun x => x.2)).sum ∧
      (t.core c).regs = { (s.core c).regs with a := [] } ∧ (t.core c).pc = (s.core c).pc ∧
      (rFs r.block = 1 → OnlyCore s t c ∧ (t.core c).sram = (s.core c).sram ∧ (t.core c).sbuf = (s.core c).sbuf)

/-- R145, R219, R224: a fault of a running recipe stops it: the recipe and what waits behind it are gone, nothing is written, what it sent posts no ADVANCE when acknowledged, and the
fault stands to be delivered with the RLAUNCH's program counter, unless the error of an earlier instruction stands. -/
def Claims.RecipeFaultStops : Prop :=
  ∀ (s : State) (c : Nat) (r : Recipe) (rest : List UnitItem) (cause addr : Nat), c < nCores → (s.core c).uq = .recipe r :: rest →
    r.mem.isSome = true → recipeFault (s.core c) r = some (cause, addr) → cause ≠ 0x3183 → (s.core c).ending = .none →
    ∃ t, exec (.recipeRunFault c) s = .next t ∧ OnlyCore s t c ∧
      t.core c = { s.core c with
        uq := [],
        nif := { (s.core c).nif.stopWaiting true with unacked := (s.core c).nif.unacked.map (fun u =>
          if u.bind.any (fun b => decide (b.2.2 = r.nth)) then { u with bind := none } else u) },
        asyncErr := if (s.core c).asyncErr = none ∨ r.nth < (s.core c).errAt then some (cause, some r.pc, addr) else (s.core c).asyncErr,
        errAt := if (s.core c).asyncErr = none ∨ r.nth < (s.core c).errAt then r.nth else (s.core c).errAt }

/-! ### Core instructions: messages -/

/-- R173, R174, R242, R244: a SEND with legal operands and credit for its slots that no finish-send waits for takes the credit and puts one message on the mesh, its payload the bytes the core sees,
after the task's commit notice if none has left; no register is written. -/
def Claims.SendLeavesMessage : Prop :=
  ∀ (s : State) (c w dst a len : Nat) (e : CreditEntry), Issues s c w .send → (s.core c).free [aField w, bField w, cField w] →
    dst = ((s.core c).reg (aField w)).toNat → a = ((s.core c).reg (bField w)).toNat → len = ((s.core c).reg (cField w)).toNat →
    a + len ≤ 0x50000 → a < 0x50000 → a % 8 = 0 → len % 8 = 0 → 8 ≤ len → len ≤ 4032 → s.inPartOf c dst = true →
    (s.core c).readBlocked a len = false → (s.core c).nif.unacked.length < 16 →
    (s.core c).nif.entry dst (msVc w) = some e → slotsFor len ≤ e.held → e.waiter ≠ some true → (s.core c).sound a len →
    ∃ t, exec (.send c) s = .next t ∧ t = { s with cores := t.cores, totals := t.totals, net := t.net } ∧
      (∀ c', c' ≠ c → t.core c' = s.core c') ∧
      t.core c = { s.core c with
        pc := (s.core c).pc + 4, prevPc := (s.core c).pc, commit := true, nif := (t.core c).nif, counters := (t.core c).counters,
        sbuf := (t.core c).sbuf, sram := (t.core c).sram, ce := (t.core c).ce, wback := (t.core c).wback } ∧
      (∀ b, Memory.byte (t.core c).seen b = Memory.byte (s.core c).seen b) ∧
      (t.core c).nif.entry dst (msVc w) = some { e with held := e.held - slotsFor len, lastUse := s.half c, waiter := none } ∧
      (t.core c).nif.unacked = (s.core c).nif.unacked ++
        [{ tag := (s.core c).nif.nextTag % 65536, seq := (s.core c).nif.sendSeq, dst := dst, vc := msVc w, at' := s.tstamp, len := len,
           task := (s.core c).desc.taskId, bind := none }] ∧
      t.net = s.net ++ (if (s.core c).commit then [] else
          [{ busPacket (.core c) (.field (fieldOf c)) (s.core c).desc.taskId 0 .commitNotice with at' := s.tstamp }]) ++
        [{ corePacket s c dst (msVc w) false (s.core c).desc.taskId ((s.core c).nif.nextTag % 65536)
            (.msg (Memory.bytes (s.core c).seen a len)) with at' := s.tstamp }]

/-- R174, R242, R247: a SEND with legal operands sleeps in SLEEP_SEND at its own program counter when 16 of its messages are unacknowledged, and also when too little credit is
held and a request is already out, for which it then waits; it sends nothing. Without a credit entry for the destination it sends a request for at least 16 slots.
Operands outside their limits end the task. -/
def Claims.SendSleepsOrFaults : Prop :=
  ∀ (s : State) (c w dst a len : Nat), Issues s c w .send → (s.core c).free [aField w, bField w, cField w] →
    dst = ((s.core c).reg (aField w)).toNat → a = ((s.core c).reg (bField w)).toNat → len = ((s.core c).reg (cField w)).toNat →
    (0x50000 < a + len ∨ 0x50000 ≤ a → exec (.send c) s = .next (s.trapCore c 0x3180 (s.core c).pc a (s.core c))) ∧
    (a + len ≤ 0x50000 → a < 0x50000 → a % 8 ≠ 0 → exec (.send c) s = .next (s.trapCore c 0x3181 (s.core c).pc a (s.core c))) ∧
    (a + len ≤ 0x50000 → a < 0x50000 → a % 8 = 0 → (len % 8 ≠ 0 ∨ len < 8 ∨ 4032 < len ∨ s.inPartOf c dst = false) →
      exec (.send c) s = .next (s.trapCore c 0x3186 (s.core c).pc 0 (s.core c))) ∧
    (a + len ≤ 0x50000 → a < 0x50000 → a % 8 = 0 → len % 8 = 0 → 8 ≤ len → len ≤ 4032 → s.inPartOf c dst = true →
      (s.core c).readBlocked a len = false →
      (16 ≤ (s.core c).nif.unacked.length →
        ∃ t, exec (.send c) s = .next t ∧ OnlyCore s t c ∧ t.core c = s.stored c { s.core c with run := .sleepSend } ∧
          (t.core c).run = .sleepSend ∧ (t.core c).pc = (s.core c).pc) ∧
      (∀ e, (s.core c).nif.unacked.length < 16 → (s.core c).nif.entry dst (msVc w) = some e → e.held < slotsFor len → e.waiter ≠ some true →
        e.asked = true ∨ e.retryAt.isSome = true →
        ∃ t, exec (.send c) s = .next t ∧ OnlyCore s t c ∧ t.core c = s.stored c { s.core c with run := .sleepSend, nif := (t.core c).nif } ∧
          (t.core c).run = .sleepSend ∧ (t.core c).pc = (s.core c).pc ∧
          (t.core c).nif = { (s.core c).nif with credits := (t.core c).nif.credits } ∧
          (t.core c).nif.entry dst (msVc w) = some { e with waiter := some false }) ∧
      ((s.core c).nif.unacked.length < 16 → (s.core c).nif.entry dst (msVc w) = none → ((s.core c).nif.others dst (msVc w)).length < 8 →
        ∃ t, exec (.send c) s = .next t ∧ t = { s with cores := t.cores, net := t.net } ∧ (∀ c', c' ≠ c → t.core c' = s.core c') ∧
          (t.core c).run = .sleepSend ∧ (t.core c).pc = (s.core c).pc ∧
          (t.core c).nif.entry dst (msVc w) =
            some { dst := dst, vc := msVc w, held := 0, want := min 64 (max (slotsFor len) 16), lastUse := s.half c, asked := true, retryAt := none,
                   waiter := some false } ∧
          t.net = s.net ++ [{ corePacket s c dst (msVc w) true (s.core c).desc.taskId (s.core c).nif.nextTag
            (.creditReq (min 64 (max (slotsFor len) 16))) with at' := s.tstamp }]))

/-- R133, R173, R175, R241: a RECV whose queue holds a message that fits writes its payload at s(A), its length to s(D) and its sender to s(D+1), and
gives its slots back; on an empty queue the core sleeps in SLEEP_RECV. -/
def Claims.ReceiveDelivers : Prop :=
  ∀ (s : State) (c w a cap : Nat), Issues s c w .recv → (s.core c).free [aField w, bField w, dField w, dField w + 1] →
    a = ((s.core c).reg (aField w)).toNat → cap = ((s.core c).reg (bField w)).toNat → a + cap ≤ 0x50000 → a < 0x50000 → a % 8 = 0 →
    (s.core c).arrivalPending (msVc w) = false →
    (((s.core c).queue (msVc w)).msgs = [] →
      ∃ t, exec (.recv c) s = .next t ∧ OnlyCore s t c ∧ t.core c = s.stored c { s.core c with run := .sleepRecv } ∧
        (t.core c).run = .sleepRecv ∧ (t.core c).pc = (s.core c).pc) ∧
    (∀ m k out, (s.core c).popMsg s c (msVc w) = some (m, k, out) → m.data.length ≤ cap →
      (s.core c).writeBlocked a m.data.length = false → (s.core c).sound a m.data.length →
      ∃ t, exec (.recv c) s = .next t ∧ t = { s with cores := t.cores, net := t.net } ∧ (∀ c', c' ≠ c → t.core c' = s.core c') ∧
        t.core c = { s.core c with
          pc := (s.core c).pc + 4, prevPc := (s.core c).pc, inq := k.inq, counters := (t.core c).counters,
          regs := { (s.core c).regs with s := (t.core c).regs.s },
          sbuf := (t.core c).sbuf, sram := (t.core c).sram, ce := (t.core c).ce, wback := (t.core c).wback } ∧
        (t.core c).counter 12 = (s.core c).counter 12 + 1 ∧
        t.net = s.net ++ out.map (fun p => { p with at' := s.tstamp }) ∧
        (∀ b, Memory.byte (t.core c).seen b =
          if a ≤ b ∧ b < a + m.data.length then m.data.getD (b - a) 0 else Memory.byte (s.core c).seen b) ∧
        ∀ n, (t.core c).reg n =
          if n = dField w + 1 then BitVec.ofNat 32 m.sender
          else if n = dField w ∧ n ≠ 0 then BitVec.ofNat 32 m.data.length else (s.core c).reg n)

/-- R173, R181: RPEEK gives s(D) the length of the oldest message of its queue, 0 when there is none, and takes nothing; in deterministic mode it ends the task with 0x3188. -/
def Claims.PeekReadsLength : Prop :=
  ∀ (s : State) (c w : Nat), Issues s c w .rpeek →
    ((s.core c).csr.det = true → exec (.rpeek c) s = .next (s.trapCore c 0x3188 (s.core c).pc 0 (s.core c))) ∧
    ((s.core c).csr.det = false → (s.core c).arrivalPending (msVc w) = false → (s.core c).free [dField w] →
      ∃ t, exec (.rpeek c) s = .next t ∧ OnlyCore s t c ∧
        t.core c = { (s.core c).issued ((s.core c).pc + 4) with regs := { (s.core c).regs with s := (t.core c).regs.s } } ∧
        ∀ n, (t.core c).reg n =
          if n = dField w ∧ n ≠ 0 then BitVec.ofNat 32 ((((s.core c).queue (msVc w)).msgs.head?).elim 0 (fun m => m.data.length))
          else (s.core c).reg n)

/-! ### Core instructions: pairs, barriers, events and the end of a task -/

/-- R97, R176, R177, R178: SADV, WARR and POST with a fitting binding or record enter the outbound queue of four, behind the messages already sent; a full queue
holds them back; a wrong binding or record ends the task. -/
def Claims.PostedOperationsQueue : Prop :=
  ∀ (s : State) (c w : Nat),
    (∀ (op : PostedOp) (i : Instr) (o : CoreOp), Issues s c w o → (s.core c).lostSeq = none →
      ((i, o, op) = (.sadv c, .sadv, .sadv (syBind w) (syN w) ((s.core c).bindIs (syBind w) 1)) ∧
          ((s.core c).bindIs (syBind w) 0 = true ∨ (s.core c).bindIs (syBind w) 1 = true)) ∨
      ((i, o, op) = (.warr c, .warr, .warr (syBind w)) ∧ (s.core c).bindIs (syBind w) 2 = true) ∨
      ((i, o) = (.post c, .post) ∧ (s.core c).free [aField w, aField w + 1] ∧
          ∃ r, r = (s.core c).pair (aField w) ∧ op = .post (BitVec.ofNat 64 r) ∧
            (bits r 63 62 = 0 ∧ bits r 61 48 = 0 ∧ bits r 7 0 = 0 ∨ bits r 63 62 = 1 ∧ bits r 49 48 = 0 ∧ bits r 7 0 = 0)) →
      (4 ≤ (s.core c).outq.length → exec i s = .next s) ∧
      ((s.core c).outq.length < 4 →
        ∃ t, exec i s = .next t ∧ OnlyCore s t c ∧
          t.core c = { (s.core c).issued ((s.core c).pc + 4) with
            outq := (s.core c).outq ++ [{ op := op, after := (s.core c).nif.sendSeq, rpc := none }] })) ∧
    (Issues s c w .sadv → (s.core c).bindIs (syBind w) 0 = false → (s.core c).bindIs (syBind w) 1 = false →
      exec (.sadv c) s = .next (s.trapCore c 0x3168 (s.core c).pc 0 (s.core c))) ∧
    (Issues s c w .warr → (s.core c).bindIs (syBind w) 2 = false →
      exec (.warr c) s = .next (s.trapCore c 0x3168 (s.core c).pc 0 (s.core c))) ∧
    (Issues s c w .post → (s.core c).free [aField w, aField w + 1] → 2 ≤ bits ((s.core c).pair (aField w)) 63 62 →
      bits ((s.core c).pair (aField w)) 61 48 = 0 → bits ((s.core c).pair (aField w)) 7 0 = 0 →
      exec (.post c) s = .next (s.trapCore c 0x3132 (s.core c).pc 0 (s.core c)))

/-- The blocking operations (R176): constructor, operation, registers named, what the core then sleeps on, and the binding kinds it may name. -/
def Claims.blocking (w : Nat) : List ((Nat → Instr) × CoreOp × List Nat × BlockOp × List Nat) :=
  [(.swait, .swait, [], .wait (syN w), [0, 1]), (.sread, .sread, [dField w, dField w + 1], .read, [0, 1]), (.sclr, .sclr, [dField w], .clear, [1]),
   (.wawt, .wawt, [], .await, [2]), (.waa, .waa, [], .arriveAwait, [2])]

/-- R97, R176, R178, R181: a blocking operation with a fitting binding puts its core to SLEEP_SYNC at its own program counter and is counted; while older posted
operations wait it does not leave, so nothing else changes. A binding that does not fit ends the task, and SREAD and SCLR end it in deterministic mode. -/
def Claims.BlockingOperationsSleep : Prop :=
  ∀ (s : State) (c w : Nat), ∀ e ∈ Claims.blocking w, Issues s c w e.2.1 →
    ((∀ q ∈ e.2.2.2.2, (s.core c).bindIs (syBind w) q = false) →
      ∃ t, exec (e.1 c) s = .next t ∧ t = s.trapCore c 0x3168 (s.core c).pc 0 (s.core c)) ∧
    ((∃ q ∈ e.2.2.2.2, (s.core c).bindIs (syBind w) q = true) → (s.core c).csr.det = true → e.2.1 = .sread ∨ e.2.1 = .sclr →
      exec (e.1 c) s = .next (s.trapCore c 0x3188 (s.core c).pc 0 (s.core c))) ∧
    ((∃ q ∈ e.2.2.2.2, (s.core c).bindIs (syBind w) q = true) → (s.core c).csr.det = false ∨ (e.2.1 ≠ .sread ∧ e.2.1 ≠ .sclr) →
      (s.core c).free e.2.2.1 → (s.core c).outq ≠ [] →
      ∃ t, exec (e.1 c) s = .next t ∧ OnlyCore s t c ∧ (t.core c).run = .sleepSync ∧ (t.core c).pc = (s.core c).pc ∧
        (t.core c).counter 6 = (s.core c).counter 6 + 1 ∧
        t.core c = { s.core c with
          run := .sleepSync, counters := (t.core c).counters, mark := (t.core c).mark,
          blocked := some { op := e.2.2.2.1, bind := syBind w, left := false, answer := none } })

/-- R176, R178: with an empty outbound queue a blocking operation on a pair leaves at once: one request goes to the field of the pair, SCLR's after the task's commit notice. -/
def Claims.BlockingOperationsLeave : Prop :=
  ∀ (s : State) (c w rec_ : Nat), (s.core c).outq = [] → rec_ = (s.core c).bind (syBind w) → (s.core c).csr.det = false →
    ∀ e ∈ [(Instr.swait, CoreOp.swait, ([] : List Nat), SyncKind.wait, syN w), (.sread, .sread, [dField w, dField w + 1], .read, 0),
           (.sclr, .sclr, [dField w], .clear, 0)],
      Issues s c w e.2.1 → (s.core c).free e.2.2.1 → (s.core c).bindIs (syBind w) 1 = true →
      ∃ t, exec (e.1 c) s = .next t ∧ t = { s with cores := t.cores, net := t.net } ∧ (∀ c', c' ≠ c → t.core c' = s.core c') ∧
        (t.core c).run = .sleepSync ∧ (t.core c).pc = (s.core c).pc ∧
        (∃ b, (t.core c).blocked = some b ∧ b.bind = syBind w ∧ b.left = true ∧ b.answer = none) ∧
        t.net = s.net ++
          (if e.2.1 = .sclr ∧ (s.core c).commit = false then
            [{ busPacket (.core c) (.field (fieldOf c)) (s.core c).desc.taskId 0 .commitNotice with at' := s.tstamp }] else []) ++
          [{ syncPacket s c (pairField rec_) blockTag (s.core c).desc.taskId (.syncOp e.2.2.2.1 true e.2.2.2.2 (groupOf rec_)) with at' := s.tstamp }]

/-- R108, R112: with an empty outbound queue WAA of a core that has not arrived, on a group that is not broken, makes it ARRIVED and sends one arrival to the well field, the
core asleep; WAWT of a core whose group was released sets it back to NONE and is answered at once. -/
def Claims.BarrierOperations : Prop :=
  ∀ (s : State) (c w g : Nat), (s.core c).outq = [] → g = groupOf ((s.core c).bind (syBind w)) → (s.core c).bindIs (syBind w) 2 = true →
    s.brokenCause (fieldOf c) g = 0 → (s.core c).commit = true →
    (Issues s c w .waa → s.arrival c (syBind w) = .none →
      ∃ t, exec (.waa c) s = .next t ∧ (t.core c).run = .sleepSync ∧ (t.core c).pc = (s.core c).pc ∧ t.arrival c (syBind w) = .arrived ∧
        t = { s with cores := t.cores, fields := t.fields, net := t.net } ∧
        t.net = s.net ++ [{ syncPacket s c (wellFieldOf (s.wellDesc (fieldOf c) g)) blockTag (s.core c).desc.taskId
          (.syncOp .arrive false 1 g) with at' := s.tstamp }]) ∧
    (Issues s c w .wawt → s.arrival c (syBind w) = .released →
      ∃ t, exec (.wawt c) s = .next t ∧ (t.core c).run = .sleepSync ∧ (t.core c).pc = (s.core c).pc ∧ t.arrival c (syBind w) = .none ∧
        t = { s with cores := t.cores, fields := t.fields, net := t.net } ∧
        t.net = s.net ++ [{ busPacket (.field (fieldOf c)) (.core c) (s.core c).desc.taskId blockTag (.syncAns 0 0 0 0) with at' := s.tstamp }])

/-- R140, R141, R180: END issues nothing more and waits; END_COMPLETION_SEND then reports `c.tflags`, returns all credit and leaves the core idle; FAIL
ends the task at once with 0x3185 and its code. With nothing outstanding a failure reports cause, program counter and address to the core's own field and leaves the core idle. -/
def Claims.TaskEnds : Prop :=
  ∀ (s : State) (c w : Nat),
    (Issues s c w .endOp →
      ∃ t, exec (.endTask c) s = .next t ∧ OnlyCore s t c ∧
        t.core c = { s.core c with ending := .endWait, counters := Tab.write (s.core c).counters 0 6 ((s.core c).counter 6 + 1) }) ∧
    (Issues s c w .failOp → (s.core c).uq = [] → (s.core c).outq = [] → (s.core c).sbuf = [] →
      ∃ t, exec (.fail c) s = .next t ∧ t = { s with cores := t.cores, net := t.net } ∧ (∀ c', c' ≠ c → t.core c' = s.core c') ∧
        (t.core c).run = .idle ∧ (t.core c).regs = (s.core c).regs ∧ (t.core c).sram = (s.core c).sram ∧
        (t.core c).counter 14 = (s.core c).counter 14 + 1 ∧
        t.net = s.net ++ [{ busPacket (.core c) (.field (fieldOf c)) (s.core c).desc.taskId 0 (.failure 0x3185 (s.core c).pc (w % 256)) with
          at' := s.tstamp }]) ∧
    (c < nCores → (s.core c).endReady = true → (s.field (fieldOf c)).clk.cd = .on →
      ∃ t, exec (.endCompletionSend c) s = .next t ∧ t = { s with cores := t.cores, net := t.net } ∧ (∀ c', c' ≠ c → t.core c' = s.core c') ∧
        (t.core c).run = .idle ∧ (t.core c).ending = .none ∧ (t.core c).nif.credits = [] ∧ (t.core c).regs = (s.core c).regs ∧
        (t.core c).counter 14 = (s.core c).counter 14 + 1 ∧
        t.net = s.net ++ ((s.core c).nif.credits.filter (fun e => decide (e.held ≠ 0))).map (fun e =>
            { corePacket s c e.dst e.vc true (s.core c).desc.taskId (s.core c).nif.nextTag (.creditReturn e.held) with at' := s.tstamp }) ++
          [{ busPacket (.core c) (.field (fieldOf c)) (s.core c).desc.taskId ((s.core c).pc - 0x100000) (.completion (s.core c).csr.tflags) with at' := s.tstamp }])

/-- R108, R138, R191: a core that is idle with a descriptor staged begins the task in one step: registers zero, flags clear, rounding to nearest even with saturation, the seed of
its TASK_ID, the program counter at ENTRY, its arrival states NONE, and its start report on the way; its memories stay. -/
def Claims.TaskBegins : Prop :=
  ∀ (s : State) (c : Nat) (d : StartDesc), c < nCores → (s.core c).run = .idle → (s.core c).staged = some d → (s.field (fieldOf c)).clk.cd = .on →
    ∃ t, exec (.taskStart c) s = .next t ∧ t = { s with cores := t.cores, fields := t.fields, net := t.net } ∧
      (∀ c', c' ≠ c → t.core c' = s.core c') ∧ (∀ i, i < 8 → t.arrival c i = .none) ∧
      (∀ c' i, localOf c' ≠ localOf c ∨ fieldOf c' ≠ fieldOf c → i < 8 → t.arrival c' i = s.arrival c' i) ∧
      t.core c = { s.core c with
        run := .run, staged := none, desc := d, regs := Regs.zero,
        csr := { flags := 0, tflags := 0, rm := 0, satur := true, seed := BitVec.ofNat 32 (seedOf d.taskId.toNat), det := (s.core c).csr.det },
        pc := 0x100000 + bits d.info.toNat 15 0, prevPc := 0x100000 + bits d.info.toNat 15 0, blocked := none, asyncErr := none, commit := false,
        ending := .none, outq := [], uq := [], errAt := 0, lostSeq := none, rposts := [], finHold := false,
        held := (s.core c).held ++ [(s.core c).events], tagged := (s.core c).counters,
        counters := (t.core c).counters, mark := (t.core c).mark } ∧
      t.net = s.net ++ [{ busPacket (.core c) (.field (fieldOf c)) d.taskId 0 (.startReport (s.field (fieldOf c)).clk.halfCclk) with at' := s.tstamp }]

/-- R142, R143, R179, R100: control packets at a core. A withdrawal discards a staged descriptor of that task and answers whether it was not held; an abort of the running task drains its stores,
drops queues and sleep and reports; a sync answer is kept for the blocking operation that waits. -/
def Claims.ControlPacketsAtCore : Prop :=
  ∀ (s : State) (i c : Nat) (p : Packet), s.arriving i = some p → p.dst = .core c →
    (p.body = .withdrawReq →
      ∃ t, exec (.withdrawRequest i) s = .next t ∧
        (∀ d, (s.core c).staged = some d → d.taskId = p.task →
          (t.core c).staged = none ∧
          t.net = dropAt s.net i ++ [{ busPacket (.core c) (.field (fieldOf c)) p.task 0 (.withdrawAns false) with at' := s.tstamp }]) ∧
        ((∀ d, (s.core c).staged = some d → d.taskId ≠ p.task) →
          t = { s with net := dropAt s.net i ++
            [{ busPacket (.core c) (.field (fieldOf c)) p.task 0 (.withdrawAns true) with at' := s.tstamp }] })) ∧
    (p.body = .abortReq → (s.core c).run = .run → (s.core c).desc.taskId = p.task →
      ∃ t, exec (.abortRequest i) s = .next t ∧ (t.core c).run = .idle ∧ (t.core c).uq = [] ∧ (t.core c).outq = [] ∧ (t.core c).sbuf = [] ∧
        (t.core c).blocked = none ∧ (t.core c).ending = .none ∧ (t.core c).nif.credits = [] ∧
        (∀ b, Memory.byte (t.core c).sram b = Memory.byte (s.core c).seen b) ∧
        t.net = dropAt s.net i ++ ((s.core c).nif.credits.filter (fun e => decide (e.held ≠ 0))).map (fun e =>
            { corePacket s c e.dst e.vc true p.task (s.core c).nif.nextTag (.creditReturn e.held) with at' := s.tstamp }) ++
          [{ busPacket (.core c) (.field (fieldOf c)) p.task 0 .abortReport with at' := s.tstamp }]) ∧
    (∀ cause cleared x y b, p.body = .syncAns cause cleared x y → p.tag = blockTag → (s.core c).runsTask p.task = true →
      (s.core c).blocked = some b → b.left = true → b.answer = none →
      ∃ t, exec (.syncAnswer i) s = .next t ∧ t = { s with cores := t.cores, net := dropAt s.net i } ∧ (∀ c', c' ≠ c → t.core c' = s.core c') ∧
        t.core c = { s.core c with blocked := some { b with answer := some { cause := cause, cleared := cleared, p := x, c := y } } })

/-- R147, R176: a core asleep on a blocking operation wakes with its answer: SREAD delivers P and C, SCLR the amount cleared, and the program counter moves on. -/
def Claims.WakeDeliversAnswer : Prop :=
  ∀ (s : State) (c d : Nat) (b : Blocked) (a : SyncAnswer), c < nCores → (s.core c).run = .sleepSync → (s.core c).asyncErr = none →
    (s.core c).ending = .none → (s.field (fieldOf c)).clk.cd = .on → (s.core c).blocked = some b → b.answer = some a → a.cause = 0 →
    d = dField (s.core c).wordAtPc →
    ∃ t, exec (.coreWake c) s = .next t ∧ OnlyCore s t c ∧
      t.core c = { s.core c with
        run := .run, blocked := none, pc := ((s.core c).pc + 4) % 2 ^ 32, prevPc := (s.core c).pc,
        regs := { (s.core c).regs with s := (t.core c).regs.s }, counters := (t.core c).counters, mark := (t.core c).mark } ∧
      ∀ n, (t.core c).reg n =
        if b.op = .read ∧ n = d + 1 then BitVec.ofNat 32 a.c
        else if b.op = .read ∧ n = d ∧ n ≠ 0 then BitVec.ofNat 32 a.p
        else if b.op = .clear ∧ n = d ∧ n ≠ 0 then BitVec.ofNat 32 a.cleared
        else (s.core c).reg n

/-- R124, R128, R131, R132, R178, R179: the core's own events. The oldest store drains, which the core does not see; a corrected word is written back once; a posted operation
leaves when every earlier message is acknowledged; a refusal that stands ends the task. -/
def Claims.CoreEvents : Prop :=
  ∀ (s : State) (c : Nat), c < nCores → (s.field (fieldOf c)).clk.cd = .on →
    (∀ e r, (s.core c).sbuf = e :: r → (s.core c).writeBlocked e.addr e.size = false → (∀ x ∈ wordsOf e.addr e.size, x ∉ (s.core c).ue) →
      ∃ t, exec (.storeBufferDrain c) s = .next t ∧ OnlyCore s t c ∧
        t.core c = { s.core c with sbuf := r, sram := Memory.setValue (s.core c).sram e.addr e.size e.val,
                                   ce := (t.core c).ce, wback := (t.core c).wback } ∧ (t.core c).seen = (s.core c).seen) ∧
    (∀ bank x, (s.core c).wback.find? (fun w => decide (w / 4096 = bank)) = some x →
      ∃ t, exec (.eccWriteBack c bank) s = .next t ∧ OnlyCore s t c ∧
        t.core c = { s.core c with wback := (s.core c).wback.filter (fun y => decide (y ≠ x)), ce := (s.core c).ce.filter (fun y => decide (y ≠ x)) }) ∧
    (∀ n i consumer after rest, (s.core c).outq = { op := .sadv i n consumer, after := after, rpc := none } :: rest →
      (s.core c).olderAcked after = true → (s.core c).commit = true → (s.core c).blocked = none → (s.core c).ending = .none →
      ∃ t, exec (.outboundEntryLeave c) s = .next t ∧ t = { s with cores := t.cores, net := t.net } ∧
        (∀ c', c' ≠ c → t.core c' = s.core c') ∧ t.core c = { s.core c with outq := rest } ∧
        t.net = s.net ++ [{ syncPacket s c (pairField ((s.core c).bind i)) 0 (s.core c).desc.taskId
          (.syncOp .advance consumer n (groupOf ((s.core c).bind i))) with at' := s.tstamp }]) ∧
    (∀ cause pc addr, (s.core c).asyncErr = some (cause, some pc, addr) → (s.core c).run = .run → (s.core c).ending = .none →
      (s.core c).uq = [] → (s.core c).outq = [] → (s.core c).sbuf = [] → cause ≠ 0x3188 →
      ∃ t, exec (.refusalDelivery c) s = .next t ∧ t = { s with cores := t.cores, net := t.net } ∧ (t.core c).run = .idle ∧
        t.net = s.net ++ [{ busPacket (.core c) (.field (fieldOf c)) (s.core c).desc.taskId 0 (.failure cause pc addr) with at' := s.tstamp }])

/-- R131, R384: an instruction whose instruction-store word has a correctable error does what it does with that word written back, and the error is counted (the write-back at
once is the model's choice, log entry 86). -/
def Claims.FetchMeetsCorrectable : Prop :=
  ∀ e ∈ Claims.rr.map (fun x => (x.1, x.2.1)) ++ Claims.ri.map (fun x => (x.1, x.2.1)), ∀ (s : State) (c w x : Nat), c < nCores →
    s.canIssue c = true → (s.core c).fetch = .inl w → decodeOp w = some e.2 → x = ((s.core c).pc - 0x100000) / 8 → x ∈ (s.core c).ice →
    ∃ t, exec (e.1 c) s = .next t ∧
      exec (e.1 c) ((s.addTotal 1 1).setCore c { s.core c with ice := (s.core c).ice.filter (fun y => decide (y ≠ x)) }) = .next t ∧
      x ∉ (t.core c).ice

/-! ### The mesh -/

/-- R133, R245: a message whose last flit arrives at a core that can receive joins its queue behind the others, counts as progress of the field, and its ACK leaves to the sender. -/
def Claims.MessageAccepted : Prop :=
  ∀ (s : State) (k c src : Nat) (p : Packet) (data : List Byte), s.arriving k = some p → p.dst = .core c → p.src = .core src →
    p.body = .msg data → s.reachable c = true →
    ∃ t, exec (.messageAccept k) s = .next t ∧ t = { s with cores := t.cores, fields := t.fields, parts := t.parts, net := t.net } ∧
      (∀ c', c' ≠ c → t.core c' = s.core c') ∧ t.core c = { s.core c with inq := (t.core c).inq } ∧
      (∀ vc, (t.core c).queue vc = if vc = p.vc then
          { (s.core c).queue vc with
            msgs := ((s.core c).queue vc).msgs ++ [{ sender := src, data := data }],
            hwm := max ((s.core c).queue vc).hwm (((s.core c).queue vc).occupied + slotsFor data.length) }
        else (s.core c).queue vc) ∧
      (t.field (fieldOf c)).syn.progress = ((s.field (fieldOf c)).syn.progress + 1) % 2 ^ 32 ∧
      t.net = dropAt s.net k ++ [{ corePacket s c src p.vc true p.task p.tag .ack with part := p.part, at' := s.tstamp }]

/-- R244, R245, R519: an ACK retires its message at a core that is not lost: it leaves the table, is counted as sent with its bytes, and a finish-send of the running task with
FS_BEN posts its producer ADVANCE. -/
def Claims.AckRetiresMessage : Prop :=
  ∀ (s : State) (k c : Nat) (p : Packet) (u : Unacked), s.arriving k = some p → p.dst = .core c → p.body = .ack → (s.core c).lost = false →
    (s.core c).nif.unacked.find? (fun x => decide (x.tag = p.tag)) = some u → (s.core c).lostSeq = none →
    ∃ t, exec (.ack k) s = .next t ∧ t = { s with cores := t.cores, net := dropAt s.net k } ∧ (∀ c', c' ≠ c → t.core c' = s.core c') ∧
      (t.core c).nif = { (s.core c).nif with unacked := (s.core c).nif.unacked.filter (fun x => !decide (x.tag = u.tag)) } ∧
      (t.core c).counter 11 = (s.core c).counter 11 + 1 ∧ (t.core c).counter 13 = (s.core c).counter 13 + u.len ∧
      (t.core c).outq = (s.core c).outq ++ (match u.bind with
        | some (i, r) => if (s.core c).holdsTask u.task then [{ op := .sadv i 1 false, after := u.seq + 1, rpc := some r }] else []
        | none => []) ∧
      t.core c = { s.core c with nif := (t.core c).nif, counters := (t.core c).counters, outq := (t.core c).outq }

/-- R241, R242: credit moves one way at a time. Outside deterministic mode a request that fits is granted and its slots leave the queue's free slots; a grant fills
the entry that asked; a busy answer makes it ask again 96 half CCLK later; returned slots come back, never above 64, when nobody waits. -/
def Claims.CreditMoves : Prop :=
  ∀ (s : State) (k c src n : Nat) (p : Packet) (q : InQueue) (e : CreditEntry), s.arriving k = some p → p.dst = .core c → p.src = .core src →
    q = (s.core c).queue p.vc →
    (p.body = .creditReq n → s.reachable c = true → s.detMode = false → q.waiting = [] → n ≤ q.free →
      ∃ t, exec (.creditReq k) s = .next t ∧ t = { s with cores := t.cores, net := t.net } ∧ (∀ c', c' ≠ c → t.core c' = s.core c') ∧
        t.core c = { s.core c with inq := (t.core c).inq } ∧
        (∀ vc, (t.core c).queue vc = if vc = p.vc then { q with free := q.free - n } else (s.core c).queue vc) ∧
        t.net = dropAt s.net k ++
          [{ corePacket s c src p.vc true p.task p.tag (.creditGrant n) with at' := s.tstamp }]) ∧
    (p.body = .creditGrant n → (s.core c).lost = false → (s.core c).nif.entry src p.vc = some e → e.asked = true →
      ∃ t, exec (.creditGrant k) s = .next t ∧ t = { s with cores := t.cores, net := dropAt s.net k } ∧ (∀ c', c' ≠ c → t.core c' = s.core c') ∧
        t.core c = { s.core c with nif := (t.core c).nif } ∧
        (t.core c).nif.entry src p.vc = some (if n = 0 then { e with asked := false, retryAt := some (s.half c + 96) }
          else { e with asked := false, held := e.held + n, lastUse := s.half c })) ∧
    (p.body = .creditReturn n → s.reachable c = true → q.waiting = [] →
      ∃ t, exec (.creditReturn k) s = .next t ∧ t = { s with cores := t.cores, net := dropAt s.net k } ∧ (∀ c', c' ≠ c → t.core c' = s.core c') ∧
        t.core c = { s.core c with inq := (t.core c).inq } ∧
        ∀ vc, (t.core c).queue vc = if vc = p.vc then { q with free := min 64 (q.free + n) } else (s.core c).queue vc)

/-- R241 to R243: an entry unused for 6,144 half CCLK goes and returns its credit; a busy entry asks again when its time has come; a lost core's interface returns the credit of
every entry. -/
def Claims.CreditTimers : Prop :=
  ∀ (s : State) (c i : Nat) (e : CreditEntry), c < nCores → (s.core c).nif.credits[i]? = some e →
    (e.asked = false → e.retryAt = none → e.lastUse + 6144 ≤ s.half c → 0 < e.held →
      ∃ t, exec (.creditEntryIdleTimeout c i) s = .next t ∧ t = { s with cores := t.cores, net := t.net } ∧
        (∀ c', c' ≠ c → t.core c' = s.core c') ∧
        t.core c = { s.core c with nif := { (s.core c).nif with credits := dropAt (s.core c).nif.credits i } } ∧
        t.net = s.net ++ [{ corePacket s c e.dst e.vc true (s.core c).desc.taskId 0 (.creditReturn e.held) with at' := s.tstamp }]) ∧
    (∀ m, e.retryAt = some m → m ≤ s.half c → (s.core c).lost = false →
      ∃ t, exec (.creditBusyRetry c i) s = .next t ∧ t = { s with cores := t.cores, net := t.net } ∧ (∀ c', c' ≠ c → t.core c' = s.core c') ∧
        t.core c = { s.core c with nif := { (s.core c).nif with credits := setAt (s.core c).nif.credits i { e with retryAt := none, asked := true } } } ∧
        t.net = s.net ++ [{ corePacket s c e.dst e.vc true (s.core c).desc.taskId (s.core c).nif.nextTag (.creditReq e.want) with at' := s.tstamp }]) ∧
    ((s.core c).lost = true →
      ∃ t, exec (.lostCoreCreditReturn c) s = .next t ∧ t = { s with cores := t.cores, net := t.net } ∧ (∀ c', c' ≠ c → t.core c' = s.core c') ∧
        t.core c = { s.core c with nif := { (s.core c).nif with credits := [] } } ∧
        t.net = s.net ++ ((s.core c).nif.credits.filter (fun x => decide (x.held ≠ 0))).map (fun x =>
          { corePacket s c x.dst x.vc true (s.core c).desc.taskId (s.core c).nif.nextTag (.creditReturn x.held) with at' := s.tstamp }))

/-- R141, R145, R179, R235, R252, R253: a message on the mesh that meets a core it cannot reach comes back from the router that refuses it as LOST with 0x3144; a LOST report, or 10,000 TSTAMP without acknowledgement, takes the
message out of the table, makes the cause (0x3143 for the timeout) the refusal of the task that sent it, unless an error of an earlier instruction stands, and drops the posted operations queued after it. Where the spec leaves a choice, the model's: log entry 10. -/
def Claims.MessageLoss : Prop :=
  ∀ (s : State) (k c d : Nat) (p : Packet) (data : List Byte),
    (s.arriving k = some p → p.dst = .core d → p.body = .msg data → s.reachable d = false → p.bus = false →
      ∃ t, exec (.msgUnreachable k) s = .next t ∧
        t = { s with net := dropAt s.net k ++ [{ src := s.refuser p d, dst := p.src, vc := p.vc, ctl := true, bus := p.bus, part := p.part, tag := p.tag,
                                                 task := p.task, at' := s.tstamp, body := .lost 0x3144 (.core d) (.msg data) }] }) ∧
    (∀ cause tag task r i u, c < nCores →
      (r = .lost k ∧ s.arriving k = some p ∧ p.dst = .core c ∧ p.body = .lost cause (.core d) (.msg data) ∧ tag = p.tag ∧ task = p.task ∨
       r = .msgAckTimeout c i ∧ (s.core c).nif.unacked[i]? = some u ∧ u.at' + 10000 ≤ s.tstamp ∧ cause = 0x3143 ∧ tag = u.tag ∧ task = u.task) →
      (s.core c).runsTask task = true → (s.core c).lost = false → (s.core c).ending = .none →
      ∃ t, exec r s = .next t ∧ (∀ c', c' ≠ c → t.core c' = s.core c') ∧
        t.core c = { s.core c with
          nif := { (s.core c).nif with unacked := (s.core c).nif.unacked.filter (fun x => !decide (x.tag = tag)) },
          outq := (t.core c).outq, lostSeq := (t.core c).lostSeq,
          asyncErr := if (s.core c).asyncErr = none ∨ (s.core c).counter 6 < (s.core c).errAt then some (cause, none, 0) else (s.core c).asyncErr,
          errAt := if (s.core c).asyncErr = none ∨ (s.core c).counter 6 < (s.core c).errAt then (s.core c).counter 6 else (s.core c).errAt } ∧
        (∀ x, (s.core c).nif.unacked.find? (fun y => decide (y.tag = tag)) = some x →
          (t.core c).outq = (s.core c).outq.filter (fun y => decide (y.after ≤ x.seq)) ∧
          (t.core c).lostSeq = some ((s.core c).lostSeq.elim x.seq (fun m => min m x.seq))) ∧
        t = { s with cores := t.cores, fields := t.fields, net := t.net })

/-- R9, R238, R239, R250, R251, R493: a header with a reserved type, a wrong length or a reserved bit set is counted by its field (the count for reserved bits: log entry 91). A flit error arms the resend of a link that is up; the resend is
counted; a second error takes the link down, reports 0x3148 once, and what it held is lost; a packet routed to a link that is down is lost. -/
def Claims.LinkErrors : Prop :=
  ∀ (s : State) (px py dir f : Nat), px < 297 → py < 320 → dir < 4 → (linkEnd px py dir).isSome = true → f = linkOwner px py dir →
    (∀ g h0 h1, g < 72 → (s.field g).clk.md = .on →
      11 ≤ bits h0 63 60 ∨ bits h0 57 52 + 1 ≠ (16 + 8 * bits h0 15 7 + 63) / 64 ∨ bits h0 6 0 ≠ 0 ∨ bits h1 58 48 ≠ 0 →
      exec (.packetReservedDiscard g { h0 := h0, h1 := h1 }) s = .next (s.addFieldCtr g 0x18 1)) ∧
    (s.linkDown px py dir = false →
      ∃ t, exec (.linkFlitError px py dir) s = .next t ∧ (px, py, dir) ∈ (t.field f).retries ∧ (px, py, dir + 4) ∉ (t.field f).retries ∧
        t = s.setField f { s.field f with retries := (t.field f).retries, linkAt := (t.field f).linkAt } ∧
        (∀ k p, t.net[k]? = some p → s.tstamp < p.at' → s.crosses p px py dir = true → t.arriving k = none)) ∧
    ((px, py, dir) ∈ (s.field f).retries →
      ∃ t, exec (.linkResendRequest px py dir) s = .next t ∧ (px, py, dir + 4) ∈ (t.field f).retries ∧ (px, py, dir) ∉ (t.field f).retries ∧
        Tab.read (t.field (fieldAt px py)).obs.counters 0 0x10 = (Tab.read (s.field (fieldAt px py)).obs.counters 0 0x10 + 1) % 2 ^ 64 ∧
        t = { s with fields := t.fields }) ∧
    ((px, py, dir + 4) ∈ (s.field f).retries → s.linkPartition px py dir = none →
      ∃ t, exec (.meshLinkDown px py dir []) s = .next t ∧ t.linkDown px py dir = true ∧ (px, py, dir + 4) ∉ (t.field f).retries ∧
        t.net = s.net ∧ t.faultCount = (s.faultCount + 1) % 2 ^ 32 ∧
        ((s.field f).faults.recs.length < 64 →
          ∃ r, (t.field f).faults.recs = (s.field f).faults.recs ++ [r] ∧ r.cause = 0x3148 ∧ r.scope = 2 ∧ r.id = f ∧
            r.info = px * 2 ^ 18 + py * 2 ^ 9 + dir ∧ r.ts = s.tstamp)) ∧
    (∀ k p, s.net[k]? = some p → s.linkDown px py dir = true → s.crosses p px py dir = true →
      (p.body.silent = true → exec (.downLinkPacketLost px py dir k) s = .next { s with net := dropAt s.net k }) ∧
      (p.body.silent = false →
        exec (.downLinkPacketLost px py dir k) s = .next { s with net := dropAt s.net k ++
          [{ src := .router px py, dst := p.src, vc := p.vc, ctl := true, bus := p.bus, part := p.part, tag := p.tag, task := p.task, at' := s.tstamp,
             body := .lost 0x3143 p.dst p.body }] }))

/-! ### The task-graph scheduler -/

/-- The Cistern of a field. -/
def Claims.cis (s : State) (f : Nat) : Cistern := (s.field f).cis

/-- R61, R62, R63, R79, R81: an event message accepted at a field is counted and taken off the mesh. For no task node it is an error and a fault; for an exhausted or DONE
node it is discarded; else its flags are set, and, in a RUNNING graph with the mask met, a WAITING node fires: the mask's flags go, the firing is
counted down, and with room in the pool and an empty chain the node is READY at the pool's end. -/
def Claims.EventsSetFlags : Prop :=
  ∀ (s : State) (f k g n b : Nat) (p : Packet) (r : DWord), f < 72 → s.arriving k = some p → p.src = .field g → p.dst = .field f → p.body = .event r →
    (s.field f).clk.repair ≠ .degraded → (s.field f).clk.md = .on → s.detMode = false → n = bits r.toNat 39 24 →
    b = bits r.toNat 23 8 <<< (if bit r.toNat 47 then 16 else 0) →
    ∃ t, exec (.cisternEventAccept f k) s = .next t ∧ t.net = dropAt s.net k ∧ (∀ g', g' ≠ f → t.field g' = s.field g') ∧ t.cores = s.cores ∧
      (Claims.cis t f).accepted = ((Claims.cis s f).accepted + 1) % 2 ^ 32 ∧ (Claims.cis t f).mem = (Claims.cis s f).mem ∧
      (∀ m, m ≠ n → (Claims.cis t f).node m = (Claims.cis s f).node m) ∧
      ((Claims.cis s f).isNode n = false →
        (Claims.cis t f).node n = (Claims.cis s f).node n ∧ (Claims.cis t f).err = (Claims.cis s f).err ||| 1 ∧
        (Claims.cis t f).discarded = ((Claims.cis s f).discarded + 1) % 2 ^ 32 ∧ t.faultCount = (s.faultCount + 1) % 2 ^ 32) ∧
      ((Claims.cis s f).isNode n = true → (Claims.cis s f).exhausted n = true ∨ ((Claims.cis s f).node n).state = .done →
        (Claims.cis t f).node n = (Claims.cis s f).node n ∧ (Claims.cis t f).discarded = ((Claims.cis s f).discarded + 1) % 2 ^ 32 ∧
        t.faultCount = s.faultCount) ∧
      ((Claims.cis s f).isNode n = true → (Claims.cis s f).exhausted n = false → ((Claims.cis s f).node n).state = .waiting → s.graphOf f = .running →
        (((Claims.cis s f).node n).flags ||| b) &&& (Claims.cis s f).mask n = (Claims.cis s f).mask n →
        (Claims.cis s f).pool.length < 1024 → (Claims.cis s f).chain = [] →
        (Claims.cis t f).pool = (Claims.cis s f).pool ++ [n] ∧ ((Claims.cis t f).node n).state = .ready ∧
        ((Claims.cis t f).node n).flags = (((Claims.cis s f).node n).flags ||| b) - (Claims.cis s f).mask n ∧
        ((Claims.cis t f).node n).firing = (((Claims.cis s f).node n).firing + 1) % 2 ^ 32 ∧
        ((Claims.cis t f).node n).fireLeft =
          (if (Claims.cis s f).fireDecl n = 0 then ((Claims.cis s f).node n).fireLeft else ((Claims.cis s f).node n).fireLeft - 1)) ∧
      ((Claims.cis s f).isNode n = true → (Claims.cis s f).exhausted n = false →
        ((Claims.cis s f).node n).state = .running ∨ ((Claims.cis s f).node n).state = .staged →
        (Claims.cis t f).node n = { (Claims.cis s f).node n with flags := ((Claims.cis s f).node n).flags ||| b } ∧
        (Claims.cis t f).merged = if ((Claims.cis s f).node n).flags ||| b = ((Claims.cis s f).node n).flags
          then ((Claims.cis s f).merged + 1) % 2 ^ 32 else (Claims.cis s f).merged)

/-- R65, R66, R67, R69, R70, R83, R137, R496: the head of the overflow chain of a RUNNING graph moves to the pool's end as READY when there is room. A
pool entry assigned to an idle core of its placement set leaves the pool, is STAGED there, and the core holds its start descriptor; where the record
or the descriptor meets an uncorrectable word its node fails with 0x3141 and no core takes it. The start report makes it RUNNING in the core's running
slot, its watchdog set from WDOG. -/
def Claims.DispatchSteps : Prop :=
  ∀ (s : State) (f n li k : Nat), f < 72 → li < 1280 →
    (∀ rest, (Claims.cis s f).chain = n :: rest → (Claims.cis s f).pool.length < 1024 → (s.field f).clk.md = .on → s.graphOf f = .running →
      ∃ t, exec (.overflowChainAdvance f) s = .next t ∧ t = s.setField f { s.field f with cis := Claims.cis t f } ∧
        (Claims.cis t f).chain = rest ∧ (Claims.cis t f).pool = (Claims.cis s f).pool ++ [n] ∧
        ∀ m, (Claims.cis t f).node m =
          if m = n then { (Claims.cis s f).node n with state := .ready } else (Claims.cis s f).node m) ∧
    (s.graphOf f = .running → (s.field f).clk.cd = .on → n ∈ (Claims.cis s f).pool →
      (Claims.cis s f).psetHas ((Claims.cis s f).psetOf n) li = true → (Claims.cis s f).idleCore li = true → (Claims.cis s f).badStart n = none →
      ∀ rf, ∃ t, exec (.taskAssign f n { li := li, readFirst := rf }) s = .next t ∧ t.net = s.net ∧ (∀ g, g ≠ f → t.field g = s.field g) ∧
        (∀ c, c ≠ coreId f li → t.core c = s.core c) ∧
        t.core (coreId f li) = { s.core (coreId f li) with staged := some (s.startDesc f n) } ∧
        n ∉ (Claims.cis t f).pool ∧ (Claims.cis t f).mem = (Claims.cis s f).mem ∧
        (∀ l, (Claims.cis t f).slot l = if l = li then { (Claims.cis s f).slot li with staged := some n } else (Claims.cis s f).slot l) ∧
        (∀ m, (Claims.cis t f).node m =
          if m = n then { (Claims.cis s f).node n with
            state := .staged, core := li, outRead := if (Claims.cis s f).outCount n = 0 then .good else .reading }
          else (Claims.cis s f).node m) ∧
        (Claims.cis t f).dispatched = ((Claims.cis s f).dispatched + 1) % 2 ^ 32) ∧
    (∀ x, s.graphOf f = .running → (s.field f).clk.cd = .on → n ∈ (Claims.cis s f).pool →
      (Claims.cis s f).psetHas ((Claims.cis s f).psetOf n) li = true → (Claims.cis s f).idleCore li = true → (Claims.cis s f).badStart n = some x →
      ∀ rf, ∃ t, exec (.taskAssign f n { li := li, readFirst := rf }) s = .next t ∧ t.net = s.net ∧ t.cores = s.cores ∧ (∀ g, g ≠ f → t.field g = s.field g) ∧
        n ∉ (Claims.cis t f).pool ∧ (∀ l, (Claims.cis t f).slot l = (Claims.cis s f).slot l) ∧
        ((Claims.cis t f).node n).state = .failed ∧ ((Claims.cis t f).node n).cause = 0x3141 ∧
        (∀ m, m ≠ n → (Claims.cis t f).node m = (Claims.cis s f).node m)) ∧
    (∀ p begun, s.arriving k = some p → p.src = .core (coreId f li) → p.dst = .field f → p.bus = true → p.body = .startReport begun →
      taskNode p.task = n → s.taskOf f n = p.task → ((Claims.cis s f).slot li).staged = some n → ((Claims.cis s f).node n).state = .staged →
      ∃ t, exec (.startReport k) s = .next t ∧ t.net = dropAt s.net k ∧ t.cores = s.cores ∧ (∀ g, g ≠ f → t.field g = s.field g) ∧
        (∀ l, (Claims.cis t f).slot l =
          if l = li then { (Claims.cis s f).slot li with running := some n, staged := none } else (Claims.cis s f).slot l) ∧
        ((Claims.cis t f).node n).state = .running ∧
        ((Claims.cis s f).wdog n ≠ 0 → ((Claims.cis t f).node n).wdogEnd = some (p.at' + (Claims.cis s f).wdog n * 1000)) ∧
        ((Claims.cis s f).wdog n = 0 → s.graphOf f ≠ .stopping → ((Claims.cis t f).node n).wdogEnd = none))

/-- The report `p` of the core at local index `li` for the RUNNING firing of node `n` has reached its field. -/
def Claims.reports (s : State) (f k n li : Nat) (b : Payload) : Prop :=
  f < 72 ∧ li < 1280 ∧ (∃ p, s.arriving k = some p ∧ p.src = .core (coreId f li) ∧ p.dst = .field f ∧ p.bus = true ∧ p.body = b ∧
    taskNode p.task = n ∧ s.taskOf f n = p.task) ∧ ((Claims.cis s f).slot li).running = some n ∧ ((Claims.cis s f).node n).state = .running

/-- R72, R75, R76, R490, R496 to R498: a completion report frees the core and, with its output read good, makes an exhausted node DONE and any other WAITING again, its
output records queued for emission; a failure report makes the node FAILED with the cause of the core and counts the fault; an abort report frees the core. -/
def Claims.ReportsEndFirings : Prop :=
  ∀ (s : State) (f k n li : Nat), s.graphOf f = .running →
    (∀ aflags, Claims.reports s f k n li (.completion aflags) → ((Claims.cis s f).node n).scrubBad = false → ((Claims.cis s f).node n).outRead = .good →
      ((Claims.cis s f).node n).flags &&& (Claims.cis s f).mask n ≠ (Claims.cis s f).mask n ∨ (Claims.cis s f).exhausted n = true →
      ∃ t, exec (.completionReport k) s = .next t ∧ t.net = dropAt s.net k ∧ t.cores = s.cores ∧ (∀ g, g ≠ f → t.field g = s.field g) ∧
        ((Claims.cis t f).slot li).running = none ∧ (∀ l, l ≠ li → (Claims.cis t f).slot l = (Claims.cis s f).slot l) ∧
        ((Claims.cis t f).node n).state = (if (Claims.cis s f).exhausted n then .done else .waiting) ∧
        ((Claims.cis t f).node n).aflags = aflags ∧ (∀ m, m ≠ n → (Claims.cis t f).node m = (Claims.cis s f).node m) ∧
        (Claims.cis t f).completed = ((Claims.cis s f).completed + 1) % 2 ^ 32 ∧
        ((Claims.cis s f).outCount n = 0 → (Claims.cis t f).emit = (Claims.cis s f).emit) ∧
        ((Claims.cis s f).outCount n ≠ 0 → ∃ e, (Claims.cis t f).emit = (Claims.cis s f).emit ++ [e] ∧ e.node = n ∧ e.ready = true ∧
          e.aflags = aflags ∧ e.recs = ((Claims.cis s f).node n).outRecs)) ∧
    (∀ cause pc addr, Claims.reports s f k n li (.failure cause pc addr) → countedHere cause = true →
      ∃ t, exec (.failureReport k) s = .next t ∧ t.net = dropAt s.net k ∧ t.cores = s.cores ∧ (∀ g, g ≠ f → t.field g = s.field g) ∧
        ((Claims.cis t f).slot li).running = none ∧ ((Claims.cis t f).node n).state = .failed ∧ ((Claims.cis t f).node n).cause = cause ∧
        (∀ m, m ≠ n → (Claims.cis t f).node m = (Claims.cis s f).node m) ∧ t.faultCount = (s.faultCount + 1) % 2 ^ 32) ∧
    (Claims.reports s f k n li .abortReport →
      ∃ t, exec (.abortReport k) s = .next t ∧ t.net = dropAt s.net k ∧ t.cores = s.cores ∧
        ((Claims.cis t f).slot li).running = none ∧ ∀ m, (Claims.cis t f).node m = (Claims.cis s f).node m) ∧
    (Claims.reports s f k n li .commitNotice →
      ∃ t, exec (.commitNotice k) s = .next t ∧ t.net = dropAt s.net k ∧ t.cores = s.cores ∧
        ((Claims.cis t f).node n).commit = true ∧ ∀ m, m ≠ n → (Claims.cis t f).node m = (Claims.cis s f).node m)

/-- R73, R74, R78, R83, R271: the read of a firing's output records ends good when none of their words is uncorrectable and bad, with CS_ERR bit 2 set, when one is; where its firing has
completed, its records become ready to leave. The oldest
completion's next record leaves: over the mesh to another field, through a Sluice gateway to another engine, or to a host; the last one takes the completion off. -/
def Claims.OutputRecordsLeave : Prop :=
  ∀ (s : State) (f n : Nat), f < 72 →
    ((s.field f).clk.md = .on → (Claims.cis s f).emit = [] → ((Claims.cis s f).node n).outRead = .reading →
      ((Claims.cis s f).node n).state = .running ∨ ((Claims.cis s f).node n).state = .staged →
      ((Claims.cis s f).badOut n = none →
        ∃ t, exec (.outputRecordReadEnd f n) s = .next t ∧ t = s.setField f { s.field f with cis := Claims.cis t f } ∧
          (Claims.cis t f).node n = { (Claims.cis s f).node n with outRead := .good, outRecs := (Claims.cis s f).outRecs n }) ∧
      (∀ x, (Claims.cis s f).badOut n = some x →
        ∃ t, exec (.outputRecordReadEnd f n) s = .next t ∧ t.cores = s.cores ∧ t.net = s.net ∧
          (Claims.cis t f).node n = { (Claims.cis s f).node n with outRead := .bad } ∧ bit (Claims.cis t f).err 2 = true)) ∧
    (∀ e rest, (s.field f).clk.md = .on → (Claims.cis s f).emit = e :: rest → e.node = n → e.ready = false →
      ∃ t, exec (.outputRecordReadEnd f n) s = .next t ∧ t = s.setField f { s.field f with cis := { Claims.cis s f with emit := { e with ready := true } :: rest } }) ∧
    (∀ (e : Emission) (rest : List Emission) (r : DWord) (more : List DWord), (Claims.cis s f).emit = e :: rest → e.ready = true → (s.field f).clk.md = .on →
      e.recs = r :: more →
      (bits r.toNat 63 62 = 0 ∧ bits r.toNat 46 40 ≠ f ∨ bits r.toNat 63 62 = 1 ∧ (s.routeOf (bits r.toNat 61 50)).isSome = true ∨ 2 ≤ bits r.toNat 63 62) →
      ∃ t, exec (.outputRecordEmit f none) s = .next t ∧ t.cores = s.cores ∧ (∀ g, g ≠ f → t.field g = s.field g) ∧
        (Claims.cis t f).emit = (if more = [] then rest else { e with recs := more } :: rest) ∧
        (∀ m, (Claims.cis t f).node m = (Claims.cis s f).node m) ∧
        ∃ p, t.net = s.net ++ [p] ∧ p.src = .field f ∧ p.task = e.task ∧ p.at' = s.tstamp ∧ p.part = s.partOf f ∧
          (bits r.toNat 63 62 = 0 → p.dst = .field (bits r.toNat 46 40) ∧ p.body = .event r) ∧
          (∀ q, bits r.toNat 63 62 = 1 → s.routeOf (bits r.toNat 61 50) = some q →
            p.dst = .sluice q ∧ p.body = .xevent r (match s.partOf f with | some o => (s.part o).job | none => 0)) ∧
          (2 ≤ bits r.toNat 63 62 → p.dst = .ingress (bits r.toNat 47 46) ∧ p.body = .hostNote r e.aflags e.layerOper.toNat e.ts e.stopping))

/-- R91, R142, R143, R496, R498, R500, R501: a withdrawn node goes back to WAITING; a RUNNING firing whose watchdog ran out fails with 0x3151 and its core is sent an abort; a core that
does not answer an abort within 2,048 half CCLK, or that meets a bus error, is lost: OFF, its slots empty, no placement takes it, 0x3153 counted. -/
def Claims.WithdrawalAndLoss : Prop :=
  ∀ (s : State) (f n li k c : Nat), f < 72 → li < 1280 → c = coreId f li →
    (∀ p, s.arriving k = some p → p.src = .core c → p.dst = .field f → p.bus = true → p.body = .withdrawAns false →
      taskNode p.task = n → s.taskOf f n = p.task → ((Claims.cis s f).slot li).staged = some n → s.graphOf f = .running →
      ∃ t, exec (.withdrawAnswer k) s = .next t ∧ t.net = dropAt s.net k ∧ t.cores = s.cores ∧
        ((Claims.cis t f).slot li).staged = none ∧ ((Claims.cis t f).node n).state = .waiting ∧
        ((Claims.cis t f).node n).firing = ((Claims.cis s f).node n).firing ∧ ((Claims.cis t f).node n).fireLeft = ((Claims.cis s f).node n).fireLeft) ∧
    (∀ m, (s.field f).clk.md = .on → ((Claims.cis s f).node n).wdogEnd = some m → ((Claims.cis s f).node n).state = .running → ((Claims.cis s f).node n).core = li → m ≤ s.tstamp →
      ∃ t, exec (.taskWatchdog f n) s = .next t ∧ t.cores = s.cores ∧ ((Claims.cis t f).node n).state = .failed ∧
        ((Claims.cis t f).node n).cause = 0x3151 ∧ ((Claims.cis t f).node n).wdogEnd = none ∧ t.faultCount = (s.faultCount + 1) % 2 ^ 32 ∧
        t.net = s.net ++ [{ busPacket (.field f) (.core c) (s.taskOf f n) 0 .abortReq with at' := s.tstamp }] ∧
        ((Claims.cis t f).slot li).aborting = some (s.field f).clk.halfCclk) ∧
    (∀ i : Instr, (i = .abortNoAnswer f li ∧ (∃ m, ((Claims.cis s f).slot li).aborting = some m ∧ m + 2048 ≤ (s.field f).clk.halfCclk) ∨
        i = .coreLost c 1 ∧ c < nCores) →
      (s.field f).clk.cd = .on → ((Claims.cis s f).slot li).lost = false →
      ∃ t, exec i s = .next t ∧ (t.core c).run = .off ∧ (t.core c).lost = true ∧ (t.core c).autoAdd = some (f * 2 ^ 16 + li / 32 * 2 ^ 8 + s.physCol f (li / 32) (li % 32)) ∧ (t.core c).staged = none ∧
        (t.core c).sram = (s.core c).sram ∧ (t.core c).nif = (s.core c).nif ∧ (∀ c', c' ≠ c → t.core c' = s.core c') ∧
        (Claims.cis t f).slot li = { CoreSlot.idle with lost := true } ∧ (Claims.cis t f).idleCore li = false ∧
        t.faultCount = (s.faultCount + 1) % 2 ^ 32)

/-- R80, R82, R93: a POST for its own partition's other field goes there as an event message, one whose field lies outside is refused with 0x3132; the loss of an event message sets CS_ERR bit 1
and stops the partition's graph; a write of ones in an IDLE graph clears CS_ERR, and CS_ERR_NODE with its last bit; in another it does nothing. -/
def Claims.PostsAndErrors : Prop :=
  ∀ (s : State) (f k li g v : Nat) (p : Packet) (r : DWord), f < 72 → li < 1280 → s.arriving k = some p →
    (p.src = .core (coreId f li) → p.dst = .field f → p.bus = true → p.body = .post r → bits r.toNat 63 62 = 0 → g = bits r.toNat 46 40 →
      (g < 72 → g ≠ f → s.partOf f ≠ none → s.partOf g = s.partOf f →
        ∃ t, exec (.postReceive k none) s = .next t ∧ t.cores = s.cores ∧ t.fields = s.fields ∧
          t.net = dropAt s.net k ++
            [{ ctlPacket (.field f) (.field g) 3 (s.partOf f) p.task 0 (.event r) with at' := s.tstamp }]) ∧
      (72 ≤ g →
        ∃ t, exec (.postReceive k none) s = .next t ∧ t.cores = s.cores ∧ t.fields = s.fields ∧
          t.net = dropAt s.net k ++
            [{ busPacket (.field f) (.core (coreId f li)) p.task 0 (.syncAns 0x3132 0 0 0) with at' := s.tstamp }])) ∧
    (∀ target q, p.dst = .field f → p.body = .lost 0x3143 target (.event r) → s.partOf f = some q → (s.part q).graph = .running →
      ∃ t, exec (.eventLost k) s = .next t ∧ (Claims.cis t f).err = (Claims.cis s f).err ||| 2 ∧ t.faultCount = (s.faultCount + 1) % 2 ^ 32 ∧
        ((t.part q).graph = .stopping ∨ (t.part q).graph = .idle)) ∧
    (s.graphOf f ≠ .idle → exec (.csErrClear f v) s = .next s) ∧
    ((s.field f).clk.md = .on → s.graphOf f = .idle →
      ∃ t, exec (.csErrClear f v) s = .next t ∧ t = s.setField f { s.field f with cis := Claims.cis t f } ∧
        (Claims.cis t f).err = (Claims.cis s f).err - ((Claims.cis s f).err &&& v) ∧
        (Claims.cis t f).errNode = (if (Claims.cis t f).err = 0 then 0 else (Claims.cis s f).errNode) ∧ (Claims.cis t f).mem = (Claims.cis s f).mem)

/-! ### Counter pairs, barrier groups and the deadlock detector -/

/-- A pair operation `op` of core `c` for pair `i` of field `f`, on the given side, is the packet `p` at place `k`, arrived at a running pair unit. -/
def Claims.pairReaches (s : State) (k f c i n : Nat) (consumer : Bool) (op : SyncKind) (p : Packet) : Prop :=
  s.arriving k = some p ∧ p.src = .core c ∧ p.dst = .field f ∧ p.body = .syncOp op consumer n i ∧ (s.field f).clk.md = .on ∧ i < 4096

/-- R96, R99, R101 to R103: at a pair without error an ADVANCE that fits counts up its side, 2^32 - 1 at most, and is progress; with no WAIT registered nothing is answered.
One that passes DEPTH or P sets ERR with its cause, counts the fault and is refused; at a pair with ERR every ADVANCE is refused with that cause. -/
def Claims.AdvanceCounts : Prop :=
  ∀ (s : State) (k f c i n : Nat) (consumer : Bool) (p : Packet) (x : Pair) (cmd : Instr), Claims.pairReaches s k f c i n consumer .advance p →
    cmd = (if consumer then .consumerAdvance { k := k, other := none } else .producerAdvance { k := k, other := none }) → x = s.pair f i →
    (x.err = false → x.sat = false → n ≠ 0 → x.waitP = none → x.waitC = none → (if consumer then x.c else x.p) + n ≤ 0xFFFFFFFF →
      (if consumer then x.c + n ≤ x.p else x.p + n ≤ x.c + s.depth f i) →
      ∃ t, exec cmd s = .next t ∧ t.net = dropAt s.net k ∧ t.cores = s.cores ∧ t.faultCount = s.faultCount ∧ (∀ g, g ≠ f → t.field g = s.field g) ∧
        (∀ j, t.pair f j = if j = i then (if consumer then { x with c := x.c + n } else { x with p := x.p + n }) else s.pair f j) ∧
        (t.field f).syn.progress = ((s.field f).syn.progress + 1) % 2 ^ 32) ∧
    (x.err = false → x.sat = false → n ≠ 0 → x.waitP = none → x.waitC = none → (if consumer then x.c else x.p) + n ≤ 0xFFFFFFFF →
      ¬ (if consumer then x.c + n ≤ x.p else x.p + n ≤ x.c + s.depth f i) →
      ∃ t, exec cmd s = .next t ∧ t.cores = s.cores ∧ t.faultCount = (s.faultCount + 1) % 2 ^ 32 ∧
        t.pair f i = { x with err := true, cause := if consumer then 0x3161 else 0x3160 } ∧ (∀ j, j ≠ i → t.pair f j = s.pair f j) ∧
        ∃ a, t.net = dropAt s.net k ++ [a] ∧ a.dst = .core c ∧ a.tag = p.tag ∧ a.task = p.task ∧
          a.body = .syncAns (if consumer then 0x3161 else 0x3160) 0 0 0) ∧
    (x.err = true → x.waitP = none → x.waitC = none →
      ∃ t a, exec cmd s = .next t ∧ t.net = dropAt s.net k ++ [a] ∧ t.cores = s.cores ∧ t.parts = s.parts ∧ t.faultCount = s.faultCount ∧
        (∀ g, t.field g = s.field g) ∧ a.dst = .core c ∧ a.body = .syncAns x.cause 0 0 0)

/-- R98, R99: where a pair unit accepts the consumer's and the producer's ADVANCE in one SCLK, through its field-local port and the mesh, both counts are updated, the consumer's first, before the
registered WAITs are looked at. -/
def Claims.BothAdvancesCount : Prop :=
  ∀ (s : State) (k j f c d i n m : Nat) (p q : Packet) (x : Pair) (w : Waiter), Claims.pairReaches s k f c i n true .advance p →
    Claims.pairReaches s j f d i m false .advance q → fieldOf c = f → fieldOf d ≠ f → x = s.pair f i → x.err = false → x.sat = false →
    n ≠ 0 → m ≠ 0 → x.c + n ≤ x.p → x.p + m ≤ x.c + n + s.depth f i → x.p + m ≤ 0xFFFFFFFF → x.waitC = none → x.waitP = some w →
    w.n + (x.p + m - (x.c + n)) ≤ s.depth f i →
    ∃ t a, exec (.consumerAdvance { k := k, other := some j }) s = .next t ∧
      t.net = (if k < j then dropAt (dropAt s.net j) k else dropAt (dropAt s.net k) j) ++ [a] ∧ t.cores = s.cores ∧
      t.pair f i = { x with p := x.p + m, c := x.c + n, waitP := none } ∧ a.dst = .core w.core ∧ a.body = .syncAns 0 0 (x.p + m) (x.c + n)

/-- R96, R99, R102, R103: a WAIT on a side without a registered one is answered at once with P and C when its condition holds, and else registered and answered nothing; on a side that has one
registered it is refused with 0x3163 and counted; READ is answered with P and C; CLEAR of an
empty quiet pair makes both counts 0 and answers so, of another it answers P and C; SX_ERR is cleared by a write of ones. -/
def Claims.WaitReadClear : Prop :=
  ∀ (s : State) (k f c i n : Nat) (consumer : Bool) (p : Packet) (x : Pair), x = s.pair f i →
    (Claims.pairReaches s k f c i n consumer .wait p → x.err = false → n ≤ s.depth f i → waitMet (s.depth f i) x consumer n = true →
      (if consumer then x.waitC else x.waitP) = none →
      ∃ t a, exec (.pairWait { k := k, other := none }) s = .next t ∧ t.cores = s.cores ∧ (∀ j, t.pair f j = s.pair f j) ∧ t.net = dropAt s.net k ++ [a] ∧
        a.dst = .core c ∧ a.tag = p.tag ∧ a.task = p.task ∧ a.body = .syncAns 0 0 x.p x.c) ∧
    (Claims.pairReaches s k f c i n consumer .wait p → x.err = false → n ≤ s.depth f i → waitMet (s.depth f i) x consumer n = false →
      (if consumer then x.waitC else x.waitP) = none →
      ∃ t, exec (.pairWait { k := k, other := none }) s = .next t ∧ t.cores = s.cores ∧ t.net = dropAt s.net k ∧
        ∀ j, t.pair f j = if j = i then
            (if consumer then { x with waitC := some { core := c, n := n, tag := p.tag, task := p.task } }
             else { x with waitP := some { core := c, n := n, tag := p.tag, task := p.task } })
          else s.pair f j) ∧
    (Claims.pairReaches s k f c i n consumer .wait p → x.err = false → n ≤ s.depth f i → (if consumer then x.waitC else x.waitP).isSome = true →
      ∃ t a, exec (.pairWait { k := k, other := none }) s = .next t ∧ t.cores = s.cores ∧ (∀ j, t.pair f j = s.pair f j) ∧ t.net = dropAt s.net k ++ [a] ∧
        t.faultCount = (s.faultCount + 1) % 2 ^ 32 ∧ a.dst = .core c ∧ a.tag = p.tag ∧ a.body = .syncAns 0x3163 0 0 0) ∧
    (Claims.pairReaches s k f c i n consumer .read p →
      ∃ t a, exec (.pairRead { k := k, other := none }) s = .next t ∧ t = { s with net := dropAt s.net k ++ [a] } ∧ a.dst = .core c ∧ a.tag = p.tag ∧
        a.body = .syncAns 0 0 x.p x.c) ∧
    (Claims.pairReaches s k f c i n consumer .clear p → x.err = false → x.p = x.c → x.sat = false → x.waitP = none → x.waitC = none →
      ∃ t a, exec (.pairClear { k := k, other := none }) s = .next t ∧ t.cores = s.cores ∧ t.net = dropAt s.net k ++ [a] ∧ a.dst = .core c ∧ a.body = .syncAns 0 1 0 0 ∧
        ∀ j, t.pair f j = if j = i then { x with p := 0, c := 0 } else s.pair f j) ∧
    (Claims.pairReaches s k f c i n consumer .clear p → x.err = false → x.p ≠ x.c →
      ∃ t a, exec (.pairClear { k := k, other := none }) s = .next t ∧ t = { s with net := dropAt s.net k ++ [a] } ∧ a.dst = .core c ∧ a.body = .syncAns 0 0 x.p x.c) ∧
    (f < 72 → (s.field f).clk.md = .on → s.graphOf f = .idle → ∀ v,
      ∃ t, exec (.sxErrClear f v) s = .next t ∧ t = s.setField f { s.field f with syn := (t.field f).syn } ∧
        (t.field f).syn.sxErr = (s.field f).syn.sxErr - ((s.field f).syn.sxErr &&& v) ∧ (∀ j, t.pair f j = s.pair f j))

/-- R109, R111, R112: an arrival at its well field is counted and starts the generation's timer. The one that reaches EXPECT of a group in one engine advances the generation, empties the count,
and sends the release to every field of the partition; at a broken group it counts for nothing. -/
def Claims.BarrierArrivals : Prop :=
  ∀ (s : State) (k f c g : Nat) (p : Packet) (w : Well), Claims.pairReaches s k f c g 1 false .arrive p → w = s.well f g →
    (w.broken = true → exec (.wellArrival k) s = .next { s with net := dropAt s.net k }) ∧
    (w.broken = false → bit (s.wellDesc f g) 63 = true → w.out = false → w.count + 1 ≠ wellExpect (s.wellDesc f g) →
      ∃ t, exec (.wellArrival k) s = .next t ∧ t.net = dropAt s.net k ∧ t.cores = s.cores ∧
        (∀ j, t.well f j = if j = g then { w with count := w.count + 1, timer := some (w.timer.getD s.tstamp) } else s.well f j) ∧
        (t.field f).syn.progress = ((s.field f).syn.progress + 1) % 2 ^ 32) ∧
    (w.broken = false → bit (s.wellDesc f g) 63 = true → w.out = false → w.held = false → wellCluster (s.wellDesc f g) = false →
      w.count + 1 = wellExpect (s.wellDesc f g) → ∀ q, s.partOf f = some q →
      ∃ t, exec (.wellArrival k) s = .next t ∧ t.cores = s.cores ∧
        (∀ j, t.well f j = if j = g then { w with gen := (w.gen + 1) % 2 ^ 32, count := 0, timer := w.next, next := none } else s.well f j) ∧
        t.net = dropAt s.net k ++
          (s.partFields q).map (fun h => { busPacket (.field f) (.field h) 0 0 (.release g) with at' := s.tstamp }))

/-- R108, R112: a release that reaches a field makes an ARRIVED core RELEASED, or, asleep in AWAIT on that group, NONE with the answer there; a broken release marks the group broken in the field
and refuses the sleepers with its cause; a group not released within TMO of its first arrival is broken with 0x3171, counted, and told to its fields. -/
def Claims.ReleasesAndBreaks : Prop :=
  ∀ (s : State) (k f g : Nat) (p : Packet), s.arriving k = some p → p.dst = .field f →
    (p.body = .release g → s.coresOf f = [] → exec (.releaseTreeArrival k) s = .next { s with net := dropAt s.net k }) ∧
    (∀ c i, p.body = .release g → s.coresOf f = [c] → (s.core c).bindCount = i + 1 → (∀ j, j < i → s.arrival c j = .none) → s.arrival c i = .arrived →
      bits ((s.core c).bind i) 63 62 = 2 → groupOf ((s.core c).bind i) = g → fieldOf c = f →
      ∃ t, exec (.releaseTreeArrival k) s = .next t ∧ t.net = dropAt s.net k ∧
        ((s.core c).blocked = none → t.arrival c i = .released ∧ t.cores = s.cores) ∧
        (∀ b, (s.core c).blocked = some b → b.left = true → b.answer = none → b.op = .await → b.bind = i →
          t.arrival c i = .none ∧
          (t.core c).blocked = some { b with answer := some { cause := 0, cleared := 0, p := 0, c := 0 } })) ∧
    (∀ cause, p.body = .brokenRelease g cause → s.coresOf f = [] →
      ∃ t, exec (.brokenReleaseArrival k) s = .next t ∧ t.net = dropAt s.net k ∧ t.cores = s.cores ∧ t.brokenCause f g = cause ∧
        ∀ h, h ≠ g → t.brokenCause f h = s.brokenCause f h) ∧
    (∀ q m, f < 72 → (s.field f).clk.md = .on → (s.well f g).timer = some m → s.partOf f = some q → wellTmo (s.wellDesc f g) ≠ 0 → (s.well f g).broken = false →
      m + wellTmo (s.wellDesc f g) * 1000 ≤ s.tstamp → s.wellFieldOfPart q g = some f → wellCluster (s.wellDesc f g) = false →
      ∃ t, exec (.wellTimeout f g) s = .next t ∧ t.cores = s.cores ∧ (t.well f g).broken = true ∧ (t.well f g).cause = 0x3171 ∧
        t.faultCount = (s.faultCount + 1) % 2 ^ 32 ∧
        t.net = s.net ++ (s.partFields q).map (fun h => { busPacket (.field f) (.field h) 0 0 (.brokenRelease g 0x3171) with at' := s.tstamp }))

/-- R118 to R121: a partition blocked without progress for its window opens a declaration that remembers each field's progress count; if none has moved since, the declaration is counted and reported
as 0x3150 when its action is to report only, and the detector waits for the next progress; if one has, the declaration is withdrawn. Where the spec leaves a choice, the model's: log entry 10. -/
def Claims.DryWell : Prop :=
  ∀ (s : State) (p : Nat), p < 16 →
    (∀ w, s.dryWindow p = some w → (s.part p).det.last + w ≤ s.tstamp → (s.part p).det.armed = true → (s.part p).det.openAt = none →
      s.partBlocked p = true →
      ∃ t, exec (.dryWellDeclare p) s = .next t ∧ t.cores = s.cores ∧ t.net = s.net ∧ (t.part p).det.openAt = some s.tstamp ∧
        (t.part p).det.progAt = (s.partFields p).map (fun f => (s.field f).syn.progress) ∧ (∀ q, q ≠ p → t.part q = s.part q) ∧
        ∀ f, (t.field f).cis = (s.field f).cis ∧ (f ∈ s.partFields p → (t.field f).syn.snapTs = s.tstamp)) ∧
    (∀ m, (s.part p).det.openAt = some m → (s.part p).graph = .running →
      ((s.part p).det.progAt ≠ (s.partFields p).map (fun f => (s.field f).syn.progress) →
        ∃ t, exec (.dryWellSnapshotCommit p) s = .next t ∧
          t = s.setPart p { s.part p with det := { (s.part p).det with openAt := none } }) ∧
      ((s.part p).det.progAt = (s.partFields p).map (fun f => (s.field f).syn.progress) → s.setting 0x2581 (p + 1) ≠ 1 →
        ∃ t, exec (.dryWellSnapshotCommit p) s = .next t ∧ t.cores = s.cores ∧ t.net = s.net ∧
          t.part p = { s.part p with
            dryCount := ((s.part p).dryCount + 1) % 2 ^ 32, dryTs := m, det := { (s.part p).det with openAt := none, armed := false } } ∧
          t.faultCount = (s.faultCount + 1) % 2 ^ 32))

/-! ### Command rings and host commands -/

/-- `t` is `s` with port `p` become `x`. -/
def Claims.onlyPort (s t : State) (p : Nat) (x : Port) : Prop :=
  t = { s with ports := t.ports } ∧ t.port p = x ∧ ∀ q, q ≠ p → t.port q = s.port q

/-- Ring `r` of port `p` may start its next fetched command, words `w` at index `idx`, and it is its turn (R302 to R304). -/
def Claims.mayBegin (s : State) (p r idx : Nat) (w : List Nat) (rest : List (Nat × List Nat)) : Prop :=
  p < 4 ∧ r < 16 ∧ s.portUp p = true ∧ ((s.port p).ring r).en = true ∧ ((s.port p).ring r).halted = false ∧
    ((s.port p).ring r).fetched = (idx, w) :: rest ∧ (s.port p).mayStart r w = true ∧ turnOf (s.port p).startTurn (s.port p).wantsStart = some r

/-- `t` is `s` with the next fetched command of ring `r` gone from the fetched ones and in execution as `c`, and the turn taken; `x` is the port besides. -/
def Claims.begun (s t : State) (p r : Nat) (rest : List (Nat × List Nat)) (x : Port) (c : Cmd) : Prop :=
  Claims.onlyPort s t p { x.setRing r { x.ring r with fetched := rest } with startTurn := r, cmds := x.cmds ++ [c] }

/-- The commands of R308 by row: what takes them up, and the words it takes. -/
def Claims.hostRows : List ((Nat → Nat → Instr) × (List Nat → Bool)) :=
  [(.nop, selOpc 1), (.writeData, selOpc 2), (.readData, selOpc 3), (.loadImage, selOpc 4), (.writeTable, selOpc 5), (.startGraph, selOpc 6),
   (.stopGraph, selOpc 7), (.postEvent, selOpc 8), (.hintPhaseBegin, selHint false), (.hintPhaseEnd, selHint true),
   (.energyMarkOpen, selMark false), (.energyMarkClose, selMark true), (.invalidatePort, selInval 0), (.invalidateContext, selInval 1),
   (.invalidateRange, selInval 2), (.remoteWrite, selOpc 12)]

/-- R303, R304, R309: a command that fails a check of R309 has no effect but to stand in execution, ended, with that cause and INFO0; a ring that may not start its next
command, and a row that does not take its words, change nothing. Where the spec leaves a choice, the model's: log entry 34. -/
def Claims.RefusedCommandsHaveNoEffect : Prop :=
  ∀ e ∈ Claims.hostRows, ∀ (s : State) (p r idx : Nat) (w : List Nat) (rest : List (Nat × List Nat)), Claims.mayBegin s p r idx w rest →
    (e.2 w = false → exec (e.1 p r) s = .next s) ∧
    (∀ cause info, e.2 w = true → s.cmdCheck ((s.port p).ring r) w = some (cause, info) →
      ∃ t, exec (e.1 p r) s = .next t ∧ Claims.begun s t p r rest (s.port p)
        { newCmd ((s.port p).ring r) r idx w s.tstamp with ended := true, cause := cause, info0 := info })

/-- R302, R303, R306, R324: a doorbell records the tail or the head written, whether or not the ring is enabled, and one out of range sets DB_INVALID; in the ring's turn a fetch that
returns takes up to eight commands from HEAD to the tail, in order, and one that fails halts the ring with 0x3108 at the command it did not read. Where the spec leaves a choice, the
model's: log entries 11, 19 and 96. -/
def Claims.RingsFetch : Prop :=
  ∀ (s : State) (p r : Nat) (y : Ring), p < 4 → r < 16 → s.portUp p = true → y = (s.port p).ring r →
    (∀ v, v < 65536 → exec (.sqTail p r v) s = .next (s.setPort p ((s.port p).setRing r
      (if y.sqSize ≤ v then { y with dbInvalid := true } else { y with tail := y.head + (v + y.sqSize - y.head % y.sqSize) % y.sqSize })))) ∧
    (∀ v, v < 65536 → y.cqSize ≤ v ∨ y.cqTail - y.cqHead < (v + y.cqSize - y.cqHead % y.cqSize) % y.cqSize →
      exec (.cqHead p r v) s = .next (s.setPort p ((s.port p).setRing r { y with dbInvalid := true }))) ∧
    (∀ n, y.cqSize ≤ 65536 → n ≤ y.cqTail - y.cqHead → n < y.cqSize → 0 < n →
      exec (.cqHead p r ((y.cqHead + n) % y.cqSize)) s = .next (s.setPort p ((s.port p).setRing r { y with cqHead := y.cqHead + n }))) ∧
    (y.cqSize ≤ 65536 → y.cqTail = y.cqHead + y.cqSize →
      exec (.cqHead p r (y.cqTail % y.cqSize)) s = .next (s.setPort p ((s.port p).setRing r { y with cqHead := y.cqTail }))) ∧
    (turnOf (s.port p).fetchTurn (s.port p).wantsFetch = some r →
      (∀ l : List (List Nat),
        ∃ t, exec (.commandFetch p r (.inr l)) s = .next t ∧ (∀ q, q ≠ p → t.port q = s.port q) ∧ t = { s with ports := t.ports } ∧
          (t.port p).cmds = (s.port p).cmds ∧ (t.port p).fetchTurn = r ∧
          (t.port p).ring r = { y with
            head := y.head + min 8 (y.tail - y.head),
            fetched := y.fetched ++ (List.range (min 8 (y.tail - y.head))).map (fun i =>
              (y.head + i, (List.range 8).map (fun j => (l.getD i []).getD j 0 % 2 ^ 64))) }) ∧
      (∀ e, y.failed = none →
        ∃ t, exec (.commandFetch p r (.inl e)) s = .next t ∧ ((t.port p).ring r).halted = true ∧ ((t.port p).ring r).haltCause = 0x3108 ∧
          ((t.port p).ring r).failed = some y.head ∧ ((t.port p).ring r).fetched = [] ∧ t.faultCount = (s.faultCount + 1) % 2 ^ 32))

/-- R20, R90, R308, R312, R320, R446, R455: what the commands without data do as they start, their checks passed. -/
def Claims.HostCommandEffects : Prop :=
  ∀ (s : State) (p r idx q : Nat) (w : List Nat) (rest : List (Nat × List Nat)) (c : Cmd), Claims.mayBegin s p r idx w rest →
    s.cmdCheck ((s.port p).ring r) w = none → c = newCmd ((s.port p).ring r) r idx w s.tstamp →
    (selOpc 1 w = true →
      ∃ t, exec (.nop p r) s = .next t ∧ Claims.begun s t p r rest (s.port p) { c with ended := true }) ∧
    (((s.port p).ring r).bound = some q →
      (selOpc 6 w = true → s.cdStarting q = true →
        ∃ t, exec (.startGraph p r) s = .next t ∧ Claims.begun s t p r rest (s.port p) { c with wait := .cds }) ∧
      (selOpc 7 w = true → (s.part q).graph = .idle →
        ∃ t, exec (.stopGraph p r) s = .next t ∧ Claims.begun s t p r rest (s.port p) { c with ended := true }) ∧
      (selOpc 7 w = true → (s.part q).graph = .running →
        ∃ t, exec (.stopGraph p r) s = .next t ∧ ((t.part q).graph = .stopping ∨ (t.part q).graph = .idle) ∧ t.cores = s.cores ∧
          ∃ l, (t.port p).cmds = l ++ [{ c with wait := .idle }] ∧ l.length = (s.port p).cmds.length) ∧
      (selOpc 8 w = true →
        ∃ t tag, exec (.postEvent p r) s = .next t ∧ t.fields = s.fields ∧ t.cores = s.cores ∧ tag = 65536 + (s.port p).nextTag ∧
          (t.port p).nextTag = (s.port p).nextTag + 1 ∧
          (t.port p).cmds = (s.port p).cmds ++ [{ c with issued := true, accs := [{ tag := tag, addr := 0, len := 0 }] }] ∧
          t.net = s.net ++ [{ ctlPacket (.ingress p) (.field (bits (wordAt w 1) 54 48)) 3 (some q) 0 tag
            (.event (BitVec.ofNat 64 (bits (wordAt w 1) 47 32 * 2 ^ 32 + bits (wordAt w 1) 31 0))) with at' := s.tstamp }]) ∧
      (selHint false w = true → s.setting 0x2401 3 = 1 →
        ∃ t, exec (.hintPhaseBegin p r) s = .next t ∧ (t.port p).cmds = (s.port p).cmds ++ [{ c with ended := true }] ∧ t.fields = s.fields ∧
          t.part q = { s.part q with hints := (s.part q).hints.filter (fun h => !decide (h.pclass = bits (wordAt w 1) 3 0)) ++
            [{ pclass := bits (wordAt w 1) 3 0, level := bits (wordAt w 1) 23 16 * s.partCores q / 255,
               expiry := if bits (wordAt w 2) 31 0 = 0 then 0 else s.tstamp + 100 * bits (wordAt w 2) 31 0 }] }) ∧
      (selHint true w = true → s.setting 0x2401 3 = 1 →
        ∃ t, exec (.hintPhaseEnd p r) s = .next t ∧ (t.port p).cmds = (s.port p).cmds ++ [{ c with ended := true }] ∧ t.fields = s.fields ∧
          t.part q = { s.part q with hints := (s.part q).hints.filter (fun h => !decide (h.pclass = bits (wordAt w 1) 3 0)) }) ∧
      (selMark false w = true →
        ∃ t, exec (.energyMarkOpen p r) s = .next t ∧ (t.port p).cmds = (s.port p).cmds ++ [{ c with ended := true, info1 := s.tstamp }] ∧
          t.part q = { s.part q with marks := (s.part q).marks ++
            [{ tag := bits (wordAt w 1) 31 16, ts := s.tstamp, closed := false,
               shares := (s.partFields q).map (fun f => { field := f, since := s.tstamp, base := none, till := none, last := none }) }] }) ∧
      (selMark true w = true →
        ∃ t, exec (.energyMarkClose p r) s = .next t ∧ (t.port p).cmds = (s.port p).cmds ++ [{ c with wait := .close }] ∧
          t.part q = { s.part q with marks := (s.part q).marks.map (fun m =>
            if m.tag = bits (wordAt w 1) 31 16 then m.closeAt s.tstamp else m) })) ∧
    (∀ e ∈ [(Instr.invalidatePort, 0), (.invalidateContext, 1), (.invalidateRange, 2)], selInval e.2 w = true →
      ∃ t, exec (e.1 p r) s = .next t ∧ t = { s with ports := t.ports } ∧
        (t.port p).cache = (s.port p).cache.filter (fun x => !inScope w x.ctx x.page) ∧
        ∃ l, (t.port p).cmds = l ++ [{ c with wait := .close }] ∧ l.length = (s.port p).cmds.length)

/-- R15, R18, R89, R90, R107: a START_GRAPH whose checks all pass sets its partition RUNNING with its groups claimed, every pair and group of its fields as after reset, and every node of
a field WAITING or fired once; the deferred check does the same when the CDs it waited for are ON. Where the spec leaves a choice, the model's: log entry 18. -/
def Claims.GraphStarts : Prop :=
  ∀ (s : State) (p r idx q : Nat) (w : List Nat) (rest : List (Nat × List Nat)), s.graphCheck q = none → s.cdStarting q = false → (s.part q).enabled = true →
    (∀ f, f ∈ s.partFields q → s.partOf f = some q) →
    ((s.port p).ring r).bound = some q →
    (∀ cmd i c, (cmd = .startGraph p r ∧ Claims.mayBegin s p r idx w rest ∧ s.cmdCheck ((s.port p).ring r) w = none ∧ selOpc 6 w = true ∨
        cmd = .startGraphDeferredCheck p i ∧ p < 4 ∧ (s.port p).cmds[i]? = some c ∧ c.wait = .cds ∧ c.ended = false ∧ c.bound = some q) →
      ∃ t, exec cmd s = .next t ∧ (t.part q).graph = .running ∧ (t.part q).claims = s.groupsOf q ∧ (t.part q).det.armed = true ∧
        (∀ q', q' ≠ q → t.part q' = s.part q') ∧
        (∀ f, f ∉ s.partFields q → t.field f = s.field f) ∧
        ∀ f, f ∈ s.partFields q →
          (∀ i, t.pair f i = Pair.reset) ∧ (∀ g, t.well f g = Well.reset) ∧ (t.field f).syn.decls = (s.field f).syn.decls ∧
          (t.field f).cis.mem = (s.field f).cis.mem ∧ (t.field f).cis.emit = (s.field f).cis.emit ∧
          ∀ n, ((t.field f).cis.node n).state = .waiting ∨ ((t.field f).cis.node n).firing = 1)

/-- R305, R310, R311, R316, R319, R320: a transfer whose every page is cached with the right it needs begins with its pages translated: the reads of its host buffer (of an image, header and the largest code) leave, or for READ_DATA of one
piece its fabric read leaves; one whose first page is not cached begins a walk at its context's root. Where the spec leaves a choice, the model's: log entries 11 and 17. -/
def Claims.TransfersBegin : Prop :=
  ∀ (s : State) (p r idx : Nat) (w : List Nat) (rest : List (Nat × List Nat)) (c : Cmd), Claims.mayBegin s p r idx w rest →
    s.cmdCheck ((s.port p).ring r) w = none → c = newCmd ((s.port p).ring r) r idx w s.tstamp →
    ((s.port p).cache.length ≤ 1024 →
      (∀ g ∈ cmdPages w, ∃ e, (s.port p).cache.find? (fun e => decide (e.ctx = ((s.port p).ring r).ctx ∧ e.page = g)) = some e ∧
        (if opcOf w = 3 then e.wr else e.rd) = true) →
      (∀ e ∈ [(Instr.writeData, 2), (.loadImage, 4), (.writeTable, 5), (.remoteWrite, 12)], opcOf w = e.2 →
        ∃ t c', exec (e.1 p r) s = .next t ∧ t = { s with ports := t.ports } ∧ (t.port p).cmds = (s.port p).cmds ++ [c'] ∧
          c'.issued = true ∧ c'.ended = false ∧ c'.words = w ∧ c'.walks.map (fun k => k.page) = cmdPages w ∧
          (∀ k ∈ c'.walks, k.level = 0) ∧ c'.reads = hostPieces w 0 (cmdLen w)) ∧
      (opcOf w = 3 → fabSpace (cmdFab w) < 4 → cutAt 2048 (cmdLen w / 2048 + 2) (fabOff (cmdFab w)) 0 (cmdLen w) = [(0, cmdLen w)] →
        ∃ t c' pk, exec (.readData p r) s = .next t ∧ t = { s with ports := t.ports, net := s.net ++ [pk] } ∧
          (t.port p).cmds = (s.port p).cmds ++ [c'] ∧ c'.accs.map (fun a => (a.addr, a.len)) = [(cmdFab w, cmdLen w)] ∧
          pk.src = .ingress p ∧ pk.body = .fabric .readData (cmdFab w) (cmdLen w) [] false)) ∧
    (∀ g root, (s.port p).cache = [] → cmdPages w = [g] → root = Tab.read (s.port p).ctxRoot 0 ((s.port p).ring r).ctx →
      s.meetsDevice p (bits root 51 12 * 4096) 4096 = false →
      ∀ e ∈ [(Instr.writeData, 2), (.readData, 3), (.writeTable, 5), (.remoteWrite, 12)], opcOf w = e.2 →
        ∃ t, exec (e.1 p r) s = .next t ∧ t = { s with ports := t.ports } ∧
          (t.port p).cmds = (s.port p).cmds ++ [if bit root 0 then
              { c with walks := [{ page := g, level := 4, addr := bits root 51 12 * 4096, rd := true, wr := true, fill := true, at' := s.tstamp }] }
            else { c with ended := true, cause := 0x3105, info0 := max (cmdHost w) (g * 4096), info1 := 4 * 2 ^ 60 + bits root 51 12 * 4096, halts := true }])

/-- R294, R310, R316, R317, R319, R322: an entry read for a walk leads to the next table with the rights ANDed, or ends the command with 0x3010, 0x3105 or 0x3103; a data read that fails
ends the command with 0x3107 once its accesses are answered; bytes for data SRAM go on as FABRIC packets. Where the spec leaves a choice, the model's: log entries 11 and 21. -/
def Claims.WalksAndData : Prop :=
  ∀ (s : State) (p i : Nat) (c : Cmd), p < 4 → s.portUp p = true → (s.port p).cmds[i]? = some c → c.ended = false →
    (∀ wi k v, c.walks[wi]? = some k → 2 ≤ k.level → v < 2 ^ 64 →
      (bits v 63 52 = 0 → bits v 11 3 = 0 → bit v 0 = true → s.meetsDevice p (bits v 51 12 * 4096) 4096 = false →
        ∃ t, exec (.walkReadResponse p i wi (.inr v)) s = .next t ∧ t = { s with ports := t.ports } ∧
          (t.port p).cache = (s.port p).cache ∧
          (t.port p).cmds = setAt (s.port p).cmds i { c with
            walks := setAt c.walks wi { k with level := k.level - 1, addr := bits v 51 12 * 4096, rd := k.rd && bit v 2, wr := k.wr && bit v 1, at' := s.tstamp } }) ∧
      (bits v 63 52 ≠ 0 ∨ bits v 11 3 ≠ 0 ∨ bit v 0 = false →
        ∃ t, exec (.walkReadResponse p i wi (.inr v)) s = .next t ∧ t = { s with ports := t.ports } ∧
          (t.port p).cmds = setAt (s.port p).cmds i { c with
            ended := true, cause := if bits v 63 52 ≠ 0 ∨ bits v 11 3 ≠ 0 then 0x3010 else 0x3105, info0 := max (cmdHost c.words) (k.page * 4096),
            info1 := k.level * 2 ^ 60 + k.addr, halts := true, reads := [], wait := .none })) ∧
    (∀ wi k e, c.walks[wi]? = some k → 1 ≤ k.level → e ≠ .timeout →
      ∃ t, exec (.walkReadResponse p i wi (.inl e)) s = .next t ∧ Claims.onlyPort s t p { (s.port p).aerRecord e with
        cmds := setAt (s.port p).cmds i { c with
          ended := true, cause := 0x3103, info0 := max (cmdHost c.words) (k.page * 4096), info1 := k.level * 2 ^ 60 + k.addr, halts := true, reads := [], wait := .none } }) ∧
    (∀ ri off len, c.reads[ri]? = some (off, len) →
      (∀ e, e ≠ .timeout ∨ c.readAt + 100 * cplUpper (s.port p).cplRange ≤ s.tstamp →
        ∃ t, exec (.hostDataReadResponse p i ri (.inl e)) s = .next t ∧ Claims.onlyPort s t p { (s.port p).aerRecord e with
          cmds := setAt (s.port p).cmds i { c with cause := 0x3107, info0 := cmdHost c.words + off, halts := true, reads := [] }.settle }) ∧
      (∀ d : List Byte, c.opc = 2 → fabSpace (cmdFab c.words + off) = 0 → d.length = len →
        cutAt 2048 (len / 2048 + 2) (fabOff (cmdFab c.words + off)) 0 len = [(0, len)] →
        ∃ t pk tag, exec (.hostDataReadResponse p i ri (.inr d)) s = .next t ∧ t = { s with ports := t.ports, net := s.net ++ [pk] } ∧
          tag = 65536 + (s.port p).nextTag ∧ pk.src = .ingress p ∧ pk.dst = .core (fabUnit (cmdFab c.words + off)) ∧ pk.tag = tag ∧
          pk.body = .fabric .writeData (cmdFab c.words + off) len d false ∧
          (t.port p).cmds = setAt (s.port p).cmds i ({ c with
            reads := dropAt c.reads ri, accs := c.accs ++ [{ tag := tag, addr := cmdFab c.words + off, len := len }] } : Cmd).settle))

/-- R50 to R52, R321, R322: a FABRIC packet that reaches its running core or field is taken off the mesh: a write of data SRAM or of an instruction store changes those bytes alone and is answered with cause 0, a read is
answered with the bytes, cause 0x3112 with the bad words named, a DEGRADED target refuses with 0x5213; while its domain starts it is held, and made when released. -/
def Claims.FabricAccesses : Prop :=
  ∀ (s : State) (k a len : Nat) (pk : Packet) (kind : FabricKind) (data : List Byte) (held : Bool) (cmd : Instr), s.arriving k = some pk →
    pk.body = .fabric kind a len data held → cmd = (if held then .fabricAccessRelease k else .fabricAccess k) →
    (s.fabDomain a = .starting → held = false →
      exec cmd s = .next { s with net := setAt s.net k { pk with body := .fabric kind a len data true } }) ∧
    (s.fabDomain a = .on → (fabSpace a < 2 → s.reachable (fabUnit a) = true) → s.fabDegraded a = true →
      ∃ r, exec cmd s = .next { s with net := dropAt s.net k ++ [r] } ∧ r.src = pk.dst ∧ r.dst = pk.src ∧ r.tag = pk.tag ∧ r.body = .fabricRsp 0x5213 [] []) ∧
    (s.fabDomain a = .on → (fabSpace a < 2 → s.reachable (fabUnit a) = true) → s.fabDegraded a = false →
      (kind = .writeData → fabSpace a = 0 → (∀ x ∈ wordsOf (fabOff a) data.length, x ∉ (s.core (fabUnit a)).ue) →
        ∃ t r, exec cmd s = .next t ∧ t = { s with cores := t.cores, net := dropAt s.net k ++ [r] } ∧ r.dst = pk.src ∧ r.tag = pk.tag ∧
          r.body = .fabricRsp 0 [] [] ∧ (∀ c, c ≠ fabUnit a → t.core c = s.core c) ∧
          (t.core (fabUnit a)).regs = (s.core (fabUnit a)).regs ∧ (t.core (fabUnit a)).pc = (s.core (fabUnit a)).pc ∧
          (t.core (fabUnit a)).istore = (s.core (fabUnit a)).istore ∧
          ∀ b, Memory.byte (t.core (fabUnit a)).sram b =
            if fabOff a ≤ b ∧ b < fabOff a + data.length then data.getD (b - fabOff a) 0 else Memory.byte (s.core (fabUnit a)).sram b) ∧
      (kind = .loadImage → fabSpace a = 1 → (∀ x ∈ wordsOf (fabOff a) data.length, x ∉ (s.core (fabUnit a)).iue) →
        ∃ t r, exec cmd s = .next t ∧ t = { s with cores := t.cores, net := dropAt s.net k ++ [r] } ∧ r.dst = pk.src ∧ r.tag = pk.tag ∧
          r.body = .fabricRsp 0 [] [] ∧ (∀ c, c ≠ fabUnit a → t.core c = s.core c) ∧ (t.core (fabUnit a)).sram = (s.core (fabUnit a)).sram ∧
          ∀ b, Memory.byte (t.core (fabUnit a)).istore b =
            if fabOff a ≤ b ∧ b < fabOff a + data.length then data.getD (b - fabOff a) 0 else Memory.byte (s.core (fabUnit a)).istore b) ∧
      (kind = .readData → fabSpace a = 0 →
        ∃ t r, exec cmd s = .next t ∧ t.net = dropAt s.net k ++ [r] ∧ r.dst = pk.src ∧ r.tag = pk.tag ∧
          r.body = .fabricRsp (if s.badWords a len = [] then 0 else 0x3112) (s.badWords a len) (Memory.bytes (s.core (fabUnit a)).sram (fabOff a) len) ∧
          (∀ c, c ≠ fabUnit a → t.core c = s.core c) ∧ (t.core (fabUnit a)).sram = (s.core (fabUnit a)).sram))

/-- R310, R312 to R314, R326: an answer that a command of the port waits for takes that access off; the last one ends the command, with the failing access of lowest
address as its cause; an answer no command waits for is dropped. -/
def Claims.AnswersReachCommands : Prop :=
  ∀ (s : State) (k p i cause : Nat) (pk : Packet) (c : Cmd) (a : FabAcc) (bad : List Nat), s.arriving k = some pk → pk.dst = .ingress p →
    pk.body = .fabricRsp cause bad [] →
    ((s.port p).cmdOf pk.tag = none → exec (.fabricRsp k) s = .next { s with net := dropAt s.net k }) ∧
    ((s.port p).cmdOf pk.tag = some (i, c, a) → c.opc = 2 → c.ended = false → c.issued = true → c.reads = [] → c.wait = .none → c.cause = 0 →
      c.accs.filter (fun b => !decide (b.tag = pk.tag)) = [] → c.bad = none → bad = [] →
      ∃ t, exec (.fabricRsp k) s = .next t ∧ t = { s with net := dropAt s.net k, ports := t.ports } ∧ (∀ q, q ≠ p → t.port q = s.port q) ∧
        ∃ c', (t.port p).cmds = setAt (s.port p).cmds i c' ∧ c'.ended = true ∧ c'.accs = [] ∧ c'.cause = cause ∧
          c'.info0 = (if cause = 0 then c.info0 else a.addr))

/-- R303, R304, R312, R313, R326: an ended command at the front of its ring completes: it leaves execution, is counted, and its record is prepared with its index, cause and INFO words; one that has not
completed within its timeout completes with 0x3102 and halts its ring. -/
def Claims.CommandsComplete : Prop :=
  ∀ (s : State) (p : Nat) (c : Cmd), p < 4 → (s.port p).cmds = [c] → c.completed = false → c.silent = false →
    (c.ended = true → c.halts = false → c.cause ≠ 0x3108 → (c.opc = 10 → c.wait ≠ .close) →
      ∃ t rec, exec (.commandCompletion p 0) s = .next t ∧ t = { s with ports := t.ports } ∧ (∀ q, q ≠ p → t.port q = s.port q) ∧
        (t.port p).cmds = [] ∧ Tab.read (t.port p).counters 0 0 = (Tab.read (s.port p).counters 0 0 + 1) % 2 ^ 64 ∧
        (t.port p).ring c.ring = { (s.port p).ring c.ring with recs := ((s.port p).ring c.ring).recs ++ [rec] } ∧
        rec.w1 = c.info0 ∧ rec.w2 = c.info1 ∧ rec.w3 = s.tstamp) ∧
    (c.ended = false → c.cause = 0 → c.opc ≠ 7 → c.wait ≠ .cds → c.start + 100 * s.cmdTimeoutEff p ≤ s.tstamp →
      ((s.port p).ring c.ring).halted = false → ((s.port p).ring c.ring).failed = none →
      ∃ t, exec (.cmdTimeout p 0) s = .next t ∧ (t.port p).cmds = [] ∧ ((t.port p).ring c.ring).halted = true ∧
        ((t.port p).ring c.ring).haltCause = 0x3102 ∧ ((t.port p).ring c.ring).failed = some c.idx ∧ t.faultCount = (s.faultCount + 1) % 2 ^ 32)

/-- R74, R306, R307, R313, R315: a prepared record is written, 32 bytes with the PHASE of its pass, to the next slot of its completion queue, whose vector becomes pending; a pending unmasked vector is sent;
a notification for its ring is written at once, or waits while the queue is full. Where the spec leaves a choice, the model's: log entry 37. -/
def Claims.RecordsAndInterrupts : Prop :=
  ∀ (s : State) (p r : Nat) (y : Ring), p < 4 → r < 16 → s.portUp p = true → y = (s.port p).ring r →
    (∀ e rest, y.full = false → y.recs = e :: rest →
      ∃ t, exec (.completionRecordWrite p r) s = .next t ∧ t = { s with ports := t.ports, hostOut := t.hostOut } ∧
        t.hostOut = s.hostOut ++ [.write p (bits y.cqBase 51 12 * 4096 + 32 * (y.cqTail % y.cqSize))
          (toBytes 8 ((if y.cqTail / y.cqSize % 2 = 0 then 2 ^ 63 else 0) + e.w0) ++ toBytes 8 e.w1 ++ toBytes 8 e.w2 ++ toBytes 8 e.w3)] ∧
        (t.port p).ring r = { y with recs := rest, cqTail := y.cqTail + 1 } ∧ r ∈ (t.port p).msixPend) ∧
    (∀ v, v ∈ (s.port p).msixPend → (s.port p).unmasked v = true → Tab.read (s.port p).msixLast 0 v = 0 →
      ∃ t, exec (.msixSignal p v) s = .next t ∧ t = { s with ports := t.ports, hostOut := s.hostOut ++ [.msix p v] } ∧
        v ∉ (t.port p).msixPend ∧ Tab.read (t.port p).msixLast 0 v = s.tstamp + 1) ∧
    (∀ k pk f rec_ aflags lo ts q, s.arriving k = some pk → pk.src = .field f → pk.dst = .ingress p → pk.body = .hostNote rec_ aflags lo ts false →
      bits rec_.toNat 43 40 = r → y.en = true → pk.part = some q → y.bound = some q →
      (y.full = false → (s.port p).notes = [] →
        ∃ t a d, exec (.hostNotification k) s = .next t ∧ t = { s with ports := t.ports, hostOut := s.hostOut ++ [.write p a d], net := dropAt s.net k } ∧
          ((t.port p).ring r).cqTail = y.cqTail + 1 ∧ (t.port p).notes = []) ∧
      (y.full = true → (s.port p).notes.length < 256 →
        ∃ t e, exec (.hostNotification k) s = .next t ∧ t = { s with ports := t.ports, net := dropAt s.net k } ∧
          (t.port p).notes = (s.port p).notes ++ [(r, e)] ∧ e.w1 = pk.task.toNat ∧ e.w3 = ts))

/-- R299, R300, R325: an enable of legal sizes clear of device windows resets the ring's indices and enables it; a disable stops its fetching; a resume takes the halt off and
goes on after the failed command, with REDO at it. -/
def Claims.RingControl : Prop :=
  ∀ (s : State) (p r : Nat) (y : Ring), p < 4 → r < 16 → s.portUp p = true → y = (s.port p).ring r →
    (∀ v z, y.en = false → z = { y with cfg := ringCfg v } → bits v 23 20 ≤ 10 → bits v 19 16 ≤ 10 → s.meetsDevice p z.base (64 * z.sqSize) = false →
      s.meetsDevice p z.cqBase (32 * z.cqSize) = false →
      exec (.ringEnable p r v) s = .next (s.setPort p ((s.port p).setRing r
        { z with en := true, head := 0, tail := 0, cqTail := 0, cqHead := 0, halted := false, fetched := [], failed := none }))) ∧
    (∀ v, y.en = false → 10 < bits v 23 20 →
      exec (.ringEnable p r v) s = .next (s.setPort p ((s.port p).setRing r { y with cfg := ringCfg v, enRefused := true, haltCause := 0x3101 }))) ∧
    (y.en = true → exec (.ringDisable p r) s = .next (s.setPort p ((s.port p).setRing r { y with en := false, fetched := [] }))) ∧
    (∀ f, y.halted = true → y.failed = some f →
      exec (.ringResume p r) s = .next (s.setPort p ((s.port p).setRing r { y with head := f + 1, halted := false, failed := none })) ∧
      exec (.ringResumeRedo p r) s = .next (s.setPort p ((s.port p).setRing r { y with head := f, halted := false, failed := none })))

/-- R8, R294 to R297, R318, R349, R394: port registers: a context root that no enabled ring uses takes its writable bits and drops that context's
translations; a device window takes its bits and drops every translation; BAR0 and the completion timeout, in configuration space, take theirs when a
configuration request is no longer answered with retry. A function-level reset leaves no ring, translation or mailbox request, and of the commands in
execution none that will report; PERST_N also takes the link and MSI-X Enable down, and its rise trains the link. Where the spec leaves a choice, the
model's: log entries 38, 39 and 100. -/
def Claims.PortRegistersAndResets : Prop :=
  ∀ (s : State) (p : Nat), p < 4 →
    (s.portUp p = true →
      (∀ c v, c < 16 → (∀ r, r < 16 → ((s.port p).ring r).en = true → ((s.port p).ring r).ctx ≠ c) →
        ∃ t, exec (.ctxRootWrite p c v) s = .next t ∧ t = { s with ports := t.ports } ∧
          (∀ d, Tab.read (t.port p).ctxRoot 0 d = if d = c then v &&& 0xFFFFFFFFFF001 else Tab.read (s.port p).ctxRoot 0 d) ∧
          (t.port p).cache = (s.port p).cache.filter (fun e => !decide (e.ctx = c))) ∧
      (∀ w v, w < 8 →
        (∃ t, exec (.devwinWrite p w false v) s = .next t ∧ t = { s with ports := t.ports } ∧ (t.port p).cache = [] ∧
          Tab.read (t.port p).devBase 0 w = v &&& 0xFFFFFFFFFF001 ∧ (t.port p).devLimit = (s.port p).devLimit) ∧
        ∃ t, exec (.devwinWrite p w true v) s = .next t ∧ t = { s with ports := t.ports } ∧ (t.port p).cache = [] ∧
          Tab.read (t.port p).devLimit 0 w = v &&& 0xFFFFFFFFFF000 ∧ (t.port p).devBase = (s.port p).devBase) ∧
      (∀ v, s.configRetry p = false →
        exec (.registerWrite p 0x100010 v) s = .next (s.setPort p { s.port p with bar := some (v / 0x100000 * 0x100000) })) ∧
      (∀ o v, o < 0x100000 → exec (.registerWrite p o v) s = .next (s.setPort p ((s.port p).writeReg o v))) ∧
      (∀ v, s.configRetry p = false → v % 16 = 1 ∨ v % 16 = 2 ∨ v % 16 = 5 ∨ v % 16 = 6 → exec (.deviceControl2Write p v) s = .next (s.setPort p { s.port p with cplRange := v % 16 })) ∧
      ∃ t, exec (.functionLevelReset p) s = .next t ∧ (∀ q, q ≠ p → t.port q = s.port q) ∧ t = { s with ports := t.ports, fw := t.fw, wh := t.wh } ∧
        (t.port p).rings = [] ∧ (∀ c ∈ (t.port p).cmds, c.silent = true ∧ c.wait ≠ .cds) ∧ (t.port p).cache = [] ∧ (t.port p).chans = [] ∧ (t.port p).msixPend = [] ∧
        (t.port p).linkUp = (s.port p).linkUp ∧ (t.port p).bar = (s.port p).bar) ∧
    (∃ t, exec (.perstN p) s = .next t ∧ t = { s with ports := t.ports, fw := t.fw, wh := t.wh } ∧ (t.port p).rings = [] ∧
      (∀ c ∈ (t.port p).cmds, c.silent = true ∧ c.reads = []) ∧ (t.port p).msixEn = false ∧
      (t.port p).linkUp = false ∧ (t.port p).perst = false ∧ (t.port p).bar = none ∧ (t.port p).cplRange = 0) ∧
    (∀ width rate, (s.port p).perst = false →
      ∃ t, exec (.perstNRise p width rate) s = .next t ∧ t = s.setPort p (t.port p) ∧ (t.port p).perst = true ∧ (t.port p).perstAt = s.tstamp ∧
        (t.port p).linkUp = decide (s.rd.state = .on))

/-! ### Sluice ports and the cluster -/

/-- Port `p` of `t` is `s`'s port gone DOWN with nothing held: no other port changed, and the loss was reported once as 0x3301 of the port (R260, R275). -/
def Claims.portWentDown (s t : State) (p : Nat) : Prop :=
  t = { s with sluice := t.sluice, rdFaults := t.rdFaults, faultCount := (s.faultCount + 1) % 2 ^ 32 } ∧ (∀ q, q ≠ p → t.sl q = s.sl q) ∧
    (t.sl p).state = .down ∧ (t.sl p).since = s.tstamp ∧ (t.sl p).replay = [] ∧ (t.sl p).txq = [] ∧
    Tab.read (t.sl p).counters 0 0x50 = (Tab.read (s.sl p).counters 0 0x50 + 1) % 2 ^ 64 ∧
    (s.rdFaults.recs.length < 64 → ∃ r, t.rdFaults.recs = s.rdFaults.recs ++ [r] ∧ r.cause = 0x3301 ∧ r.scope = 3 ∧ r.id = 16 + p ∧ r.ts = s.tstamp)

/-- R257 to R260, R262, R263, R284: training that succeeds with another engine makes the port UP with its sequence numbers 0 and full credit; training that fails, meets the engine's own ID
or has run 100 ms ends in DOWN; a DOWN port with AUTO_RETRAIN trains again after 10 ms, its first TRAIN frame on the link; an UP port goes DOWN for a lost FEC lock; a measured delay is half the trip. Where the spec leaves a choice, the model's: log entry 40. -/
def Claims.PortsTrainAndFail : Prop :=
  ∀ (s : State) (p : Nat), p < 12 →
    (∀ width engine port, (s.sl p).state = .train → width < 3 → engine % 4096 ≠ s.engineId →
      ∃ t, exec (.trainComplete p width engine port) s = .next t ∧ t = { s with sluice := t.sluice } ∧ (∀ q, q ≠ p → t.sl q = s.sl q) ∧
        t.sl p = { s.sl p with
          state := .up, since := s.tstamp, width := width, peerEngine := engine % 4096, peerPort := port % 16, txSeq := 0, rxSeq := 0, discarding := false,
          replay := [], credits := [64, 64, 256], owed := [0, 0, 0], replays := 0, rx := none }) ∧
    (∀ width engine port, (s.sl p).state = .train → (s.sl p).held = [] → 3 ≤ width ∨ engine % 4096 = s.engineId →
      ∃ t, exec (.trainComplete p width engine port) s = .next t ∧ Claims.portWentDown s t p) ∧
    ((s.sl p).state = .train → (s.sl p).held = [] → (s.sl p).since + 10000000 ≤ s.tstamp →
      ∃ t, exec (.trainTimeout p) s = .next t ∧ Claims.portWentDown s t p) ∧
    ((s.sl p).state = .down → (s.sl p).since + 1000000 ≤ s.tstamp → bit (s.portCtrl p) 0 = true → bit (s.portCtrl p) 1 = true → s.rd.state = .on →
      ∃ t, exec (.autoRetrain p) s = .next t ∧ t = { s with sluice := t.sluice, linkOut := s.linkOut ++ [frameOut p 0 0 3 none [0, 0, 0]] } ∧
        (∀ q, q ≠ p → t.sl q = s.sl q) ∧
        t.sl p = { (s.sl p).count 0 1 with state := .train, since := s.tstamp, txSeq := 0, rxSeq := 0, owed := [0, 0, 0] }) ∧
    ((s.sl p).state = .up → (s.sl p).held = [] → ∃ t, exec (.sluicePortDown p true) s = .next t ∧ Claims.portWentDown s t p) ∧
    (∀ x, (s.sl p).state = .up → (s.sl p).held = [x] → x.src = s.engineId → x.xtype ≠ 5 → x.hops ≤ 32 →
      ∃ t, exec (.sluicePortDown p true) s = .next t ∧ (t.sl p).state = .down ∧ (t.sl p).replay = [] ∧ (t.sl p).txq = [] ∧ (∀ q, q ≠ p → t.sl q = s.sl q) ∧
        t.rd.xin = s.rd.xin ++ [(12, xlostFor s.engineId x 0x3146)]) ∧
    (∀ trip, (s.sl p).state = .up →
      ∃ t, exec (.linkDelayMeasure p trip) s = .next t ∧ (t.sl p).delay = trip / 2 ∧ (∀ q, q ≠ p → t.sl q = s.sl q) ∧ t.rd = s.rd ∧
        t.linkOut = s.linkOut ++ [frameOut p (s.sl p).txSeq (s.sl p).ackSeq 4 none (s.sl p).owed])

/-- The CRC of frame `f` is the CRC-32 over its flit and the upper half of its trailer (R257, R534). -/
def Claims.crcGood (f : Frame) : Prop := f.crc = frameCrc f.flit f.seq f.ackSeq f.ftype f.resv

/-- R9, R257 to R259, R264, R267, R534: a good DATA frame in sequence advances the sequence and is acknowledged, and a whole packet in it waits for its
gateway, unless its type is reserved or a reserved bit of it is set: then it is discarded and counted (the count for reserved bits: log entry 91). A
frame out of sequence, with errors or whose CRC-32 differs is not taken, and the first one is answered by a NAK naming the frame expected; an ACK
frame releases the frames up to its ACKSEQ; a NAK of the oldest frame, or 400 ns without acknowledgement, sends every frame held again in order. Where
the spec leaves a choice, the model's: log entries 30 and 41. -/
def Claims.FramesInSequence : Prop :=
  ∀ (s : State) (p : Nat) (f : Frame), p < 12 → (s.sl p).state = .up → (s.sl p).txq = [] →
    (∀ x, f.fecOk = true → Claims.crcGood f → f.ftype = 0 → f.resv = 0 → f.seq = (s.sl p).rxSeq → f.flit = some (.head x) →
      1 ≤ x.xtype → x.xtype < 12 → x.xtype ≠ 9 → x.xtype ≠ 10 → x.resv = 0 →
      ∃ t, exec (.frameReceive p f) s = .next t ∧ (t.sl p).rxSeq = ((s.sl p).rxSeq + 1) % 4096 ∧ (t.sl p).discarding = false ∧ (∀ q, q ≠ p → t.sl q = s.sl q) ∧
        t.rd.xin = s.rd.xin ++ [(p, x)] ∧
        t.linkOut = s.linkOut ++ [frameOut p (s.sl p).txSeq f.seq 1 none (s.sl p).owed]) ∧
    (∀ x, f.fecOk = true → Claims.crcGood f → f.ftype = 0 → f.resv = 0 → f.seq = (s.sl p).rxSeq → f.flit = some (.head x) →
      x.xtype = 0 ∨ x.xtype = 9 ∨ 12 ≤ x.xtype ∨ x.xtype ≠ 10 ∧ x.resv ≠ 0 →
      ∃ t, exec (.frameReceive p f) s = .next t ∧ (t.sl p).rxSeq = ((s.sl p).rxSeq + 1) % 4096 ∧ t.rd = s.rd ∧
        Tab.read (t.sl p).counters 0 0x40 = (Tab.read (s.sl p).counters 0 0x40 + 1) % 2 ^ 64) ∧
    (f.fecOk = false ∨ ¬ Claims.crcGood f ∨ (f.ftype = 0 ∨ f.ftype = 1 ∨ f.ftype = 4) ∧ f.resv = 0 ∧ f.seq ≠ (s.sl p).rxSeq →
      ∃ t, exec (.frameReceive p f) s = .next t ∧ t.rd = s.rd ∧ (t.sl p).rxSeq = (s.sl p).rxSeq ∧ (t.sl p).replay = (s.sl p).replay ∧ (t.sl p).discarding = true ∧
        t.linkOut = s.linkOut ++ (if (s.sl p).discarding then [] else
          [frameOut p (s.sl p).txSeq (s.sl p).rxSeq 2 none (s.sl p).owed])) ∧
    (∀ l m e, f.fecOk = true → Claims.crcGood f → f.ftype = 1 → f.resv = 0 → f.seq = (s.sl p).rxSeq → (s.sl p).replay = l ++ e :: m → e.1 = f.ackSeq → (∀ d ∈ l, d.1 ≠ f.ackSeq) →
      ∃ t, exec (.frameReceive p f) s = .next t ∧ t.rd = s.rd ∧ t.linkOut = s.linkOut ∧ (t.sl p).replay = m ∧ (t.sl p).rxSeq = (s.sl p).rxSeq) ∧
    (∀ e l r, (s.sl p).replay = e :: l → (s.sl p).replays < 8 → (∀ d ∈ e :: l, d.1 ≠ (e.1 + 4095) % 4096) →
      r = .nak p e.1 ∨ r = .replayTimeout p ∧ e.2.1 + 40 ≤ s.tstamp →
      ∃ t, exec r s = .next t ∧ t.rd = s.rd ∧ t = { s with sluice := t.sluice, linkOut := t.linkOut } ∧ (∀ q, q ≠ p → t.sl q = s.sl q) ∧
        (t.sl p).replay = (e :: l).map (fun d => (d.1, s.tstamp, d.2.2)) ∧ (t.sl p).replays = (s.sl p).replays + 1 ∧
        t.linkOut = s.linkOut ++ (e :: l).map (fun d => frameOut p d.1 (s.sl p).ackSeq 0 (some d.2.2) [0, 0, 0]))

/-- The packet at `k` of those received is `x`, come by port `p`, for this engine and of type `ty`, and the engine may take it (R268). -/
def Claims.xcame (s : State) (k p ty : Nat) (x : XPacket) : Prop := s.xat k = some (p, x) ∧ x.dst = s.engineId ∧ x.xtype = ty

/-- State `s` with the packet at `k` of those received, come by port `p`, taken, its receive buffer given back to the peer (R264, R268). -/
def Claims.took (s : State) (k p : Nat) (x : XPacket) : State := (s.modRd (fun r => { r with xin := dropAt r.xin k })).freeBuffer p x

/-- Packet `x` leaves in `t` for its destination: to this engine's own RD, the packets waiting there in `t` being else `base`, or as one frame of the UP port its route
names, which has credit and nothing waiting (R264, R268). -/
def Claims.xleaves (s t : State) (base : List (Nat × XPacket)) (x : XPacket) : Prop :=
  (x.dst = s.engineId → t.rd.xin = base ++ [(12, x)] ∧ t.linkOut = s.linkOut) ∧
  (∀ p, x.dst ≠ s.engineId → x.hops ≤ 32 → x.data = [] → s.routeOf x.dst = some p → (s.sl p).state = .up → (s.sl p).txq = [] →
    (s.sl p).replay.length < 512 → 0 < (s.sl p).credits.getD (xclass x.xtype - 2) 0 →
    t.rd.xin = base ∧ ∃ credit, t.linkOut = s.linkOut ++ [frameOut p (s.sl p).txSeq (s.sl p).ackSeq 0 (some (.head x)) credit])

/-- R268, R271, R273, R275: a packet for another engine leaves again with one hop more. An XEVENT for a field of the job's RUNNING partition goes to it on
the mesh and counts as progress there (log entry 84); with no such job it is discarded and REMOTE_REFUSED set. An event packet that reaches the
gateway of an UP port leaves as an XEVENT of the job it was sent for. An XLOST for an event of a running task refuses that task, unless an error of an
earlier instruction stands. Where the spec leaves a choice, the model's: log entries 31, 32 and 42. -/
def Claims.CrossEngineEvents : Prop :=
  ∀ (s : State) (k p : Nat) (x : XPacket),
    (s.xat k = some (p, x) → x.dst ≠ s.engineId →
      ∃ t, exec (.crossEngineTransit false k) s = .next t ∧ t.cores = s.cores ∧ t.net = s.net ∧
        Claims.xleaves s t (dropAt s.rd.xin k) { x with hops := x.hops + 1 }) ∧
    (Claims.xcame s k p 1 x →
      (∀ q f, s.jobPart x.job = some q → (s.part q).graph = .running → f = bits x.wa 46 40 → f < 72 → rectHas (s.part q).rect f = true →
        ∃ t, exec (.xevent k) s = .next t ∧ t = { Claims.took s k p x with fields := t.fields, parts := t.parts, net := t.net } ∧
          t.net = s.net ++ [{ ctlPacket (.sluice p) (.field f) 3 (some q) 0 0 (.event (BitVec.ofNat 64 x.wa)) with at' := s.tstamp }] ∧
          (t.field f).syn.progress = ((s.field f).syn.progress + 1) % 2 ^ 32 ∧ (t.field f).cis = (s.field f).cis ∧
          ∀ h, h ≠ f → t.field h = s.field h) ∧
      (s.jobPart x.job = none →
        ∃ t, exec (.xevent k) s = .next t ∧ t.net = s.net ∧ t.cores = s.cores ∧ t.fields = s.fields ∧ t.rd.xin = dropAt s.rd.xin k ∧
          t.rd.slErr = s.rd.slErr ||| 1 ∧ (s.rd.slErr = 0 → t.rd.slErrInfo = 0x3302 * 65536 + x.src))) ∧
    (∀ pk f job rec_, s.arriving k = some pk → pk.src = .field f → pk.dst = .sluice p → pk.body = .xevent rec_ job → s.rd.state = .on →
      (s.sl p).state = .up → (s.sl p).txq = [] → (s.sl p).replay.length < 512 → 0 < (s.sl p).credits.getD 1 0 →
      ∃ t y, exec (.crossEngineTransit true k) s = .next t ∧ t.net = dropAt s.net k ∧ t.rd = s.rd ∧ y.xtype = 1 ∧ y.dst = bits rec_.toNat 61 50 ∧ y.src = s.engineId ∧
        y.job = job ∧ y.wa = rec_.toNat ∧ y.sfield = f ∧ y.stag = pk.tag ∧
        t.linkOut = s.linkOut ++ [frameOut p (s.sl p).txSeq (s.sl p).ackSeq 0 (some (.head y)) (s.sl p).owed]) ∧
    (∀ f c tag n task li, Claims.xcame s k p 5 x → bits x.wa 63 60 = 1 → x.sfield = f → f < 72 →
      (s.field f).cis.xtags.find? (fun e => decide (e.tag = x.stag)) = some { tag := tag, node := n, post := some (task, li) } → c = coreId f li → c < nCores → (s.core c).runsTask task = true →
      (s.core c).lost = false →
      ∃ t, exec (.xlost k) s = .next t ∧ t = { Claims.took s k p x with cores := t.cores, fields := t.fields } ∧
        t.core c = { s.core c with
          asyncErr := if (s.core c).asyncErr = none ∨ (s.core c).counter 6 < (s.core c).errAt then some (x.wb % 65536, none, 0) else (s.core c).asyncErr,
          errAt := if (s.core c).asyncErr = none ∨ (s.core c).counter 6 < (s.core c).errAt then (s.core c).counter 6 else (s.core c).errAt } ∧
        (∀ d, d ≠ c → t.core d = s.core d) ∧ (∀ e ∈ (t.field f).cis.xtags, e.tag ≠ x.stag))

/-- R276, R312: an XCOPY that passes the checks of its job's partition writes its payload into the core's data SRAM, those bytes alone, and an XACK leaves to its source; one that
fails leaves memory as it is and an XLOST with the cause leaves. An XACK that no command waits for is taken without effect. Where the spec leaves a choice, the model's: log entries 24, 31 and 32. -/
def Claims.RemoteCopies : Prop :=
  ∀ (s : State) (k p : Nat) (x : XPacket) (a c : Nat), a = bits x.wa 47 0 → c = fabUnit a →
    (Claims.xcame s k p 10 x →
      (∀ q, s.jobPart x.job = some q → fabSpace a = 0 → s.fabCheck (some q) a x.data.length true = 0 → s.fabDomain a = .on →
        (∀ i ∈ wordsOf (fabOff a) x.data.length, i ∉ (s.core c).ue) →
        ∃ t, exec (.xcopy k) s = .next t ∧ t.net = s.net ∧ (∀ d, d ≠ c → t.core d = s.core d) ∧ (t.core c).regs = (s.core c).regs ∧ (t.core c).istore = (s.core c).istore ∧
          (∀ b, Memory.byte (t.core c).sram b =
            if fabOff a ≤ b ∧ b < fabOff a + x.data.length then x.data.getD (b - fabOff a) 0 else Memory.byte (s.core c).sram b) ∧
          Claims.xleaves s t (dropAt s.rd.xin k)
            { xtype := 11, dst := x.src, src := s.engineId, hops := 0, job := x.job, wa := 0, wb := 0, sfield := x.sfield, stag := x.stag, data := [] }) ∧
      (s.jobPart x.job = none →
        ∃ t, exec (.xcopy k) s = .next t ∧ t.cores = s.cores ∧ t.net = s.net ∧ Claims.xleaves s t (dropAt s.rd.xin k) (xlostFor s.engineId x 0x3302))) ∧
    (Claims.xcame s k p 11 x → 72 ≤ x.sfield → x.sfield < 76 → (s.port (x.sfield - 72)).cmdOf x.stag = none →
      exec (.xack k) s = .next (Claims.took s k p x)) ∧
    (∀ i d e, Claims.xcame s k p 11 x → 72 ≤ x.sfield → x.sfield < 76 → (s.port (x.sfield - 72)).cmdOf x.stag = some (i, d, e) →
      d.accs.filter (fun b => !decide (b.tag = x.stag)) ≠ [] →
      ∃ t, exec (.xack k) s = .next t ∧ t = { Claims.took s k p x with ports := t.ports } ∧
        (t.port (x.sfield - 72)).cmds = setAt (s.port (x.sfield - 72)).cmds i { d with accs := d.accs.filter (fun b => !decide (b.tag = x.stag)) })

/-- R277, R280 to R283: at the root of a valid group the engines that arrive are counted, each once; the last of EEXPECT empties the count and is released; a group that is not
valid here breaks the sender's. A release advances the group's generation in its partition and goes down the release tree; a break makes it BROKEN. Where the spec leaves a choice, the model's: log entries 31 and 32. -/
def Claims.ClusterBarriers : Prop :=
  ∀ (s : State) (k p g : Nat) (x : XPacket), g = x.wa % 256 →
    (Claims.xcame s k p 2 x →
      (∀ q, s.jobPart x.job = some q → bit (s.cwDesc g) 31 = true → bits (s.cwDesc g) 27 16 = s.engineId →
        (Tab.read s.rd.arrived [] g).contains x.src = false →
        (Tab.read s.rd.ecount 0 g + 1 ≠ bits (s.cwDesc g) 12 0 →
          ∃ t, exec (.xarrive k) s = .next t ∧ t.net = s.net ∧ t.cores = s.cores ∧ t.rd.xin = dropAt s.rd.xin k ∧
            Tab.read t.rd.ecount 0 g = Tab.read s.rd.ecount 0 g + 1 ∧ Tab.read t.rd.ejob 0 g = x.job ∧ Tab.read t.rd.arrived [] g = Tab.read s.rd.arrived [] g ++ [x.src]) ∧
        (Tab.read s.rd.ecount 0 g + 1 = bits (s.cwDesc g) 12 0 → Tab.read s.rd.arrived [] g = [] →
          ∃ t, exec (.xarrive k) s = .next t ∧ t.net = s.net ∧ Tab.read t.rd.ecount 0 g = 0 ∧ Tab.read t.rd.arrived [] g = [] ∧
            Claims.xleaves s t (dropAt s.rd.xin k) (groupPacket s 3 x.src x.job g g 0 0))) ∧
      (bit (s.cwDesc g) 31 = false →
        ∃ t, exec (.xarrive k) s = .next t ∧ t.net = s.net ∧ t.rd.slErr = s.rd.slErr ||| 2 ∧
          Claims.xleaves s t (dropAt s.rd.xin k) (groupPacket s 4 x.src x.job g g 0x3303 0))) ∧
    (∀ q wf w, s.jobPart x.job = some q → s.wellFieldOfPart q g = some wf → s.partOf wf = some q → w = s.well wf g → w.broken = false →
      (Claims.xcame s k p 3 x → bit x.wa 8 = false → (s.part q).graph = .running → w.held = false →
        ∃ t, exec (.xrelease k) s = .next t ∧ t.cores = s.cores ∧ t.rd = { s.rd with xin := dropAt s.rd.xin k } ∧
          t.well wf g = { w with
            gen := (w.gen + 1) % 2 ^ 32, count := (if wellCluster (s.wellDesc wf g) then w.count else 0), timer := w.next, next := none, out := false, held := false } ∧
          t.net = s.net ++ (s.partFields q).map (fun h => { busPacket (.field wf) (.field h) 0 0 (.release g) with at' := s.tstamp })) ∧
      (Claims.xcame s k p 4 x → bit (s.cwDesc g) 31 = false →
        ∃ t, exec (.xbreak k) s = .next t ∧ t.cores = s.cores ∧ t.rd = { s.rd with xin := dropAt s.rd.xin k } ∧
          t.well wf g = { w with broken := true, cause := x.wb % 65536, timer := none, next := none, out := false, held := false } ∧
          t.net = s.net ++ (s.partFields q).map (fun h => { busPacket (.field wf) (.field h) 0 0 (.brokenRelease g (x.wb % 65536)) with at' := s.tstamp })))

/-- R284 to R286, R401: a MASTER or LOCKED engine sends TS_SYNC every 10 µs; samples of the parent's port set distance and offset, and the fourth in agreement locks; LOCKED without
samples for 100 µs is HOLDOVER; an offset is slewed one count per 1,000 periods; CSYNC_OUT pulses for 10 counts at each multiple of 10,000. Where the spec leaves a choice, the model's: log entry 43. -/
def Claims.TimestampsSynchronise : Prop :=
  ∀ (s : State), s.rd.state = .on →
    (s.rd.sync = .master ∨ s.rd.sync = .locked → s.rd.sentSync + 1000 ≤ s.tstamp → (∀ p, p < 12 → (s.sl p).state ≠ .up) →
      exec .tsSyncSend s = .next { s with rd := { s.rd with sentSync := s.tstamp } }) ∧
    (∀ p, s.rd.sync = .master ∨ s.rd.sync = .locked → s.rd.sentSync + 1000 ≤ s.tstamp → p < 12 → (∀ q, q < 12 → ((s.sl q).state = .up ↔ q = p)) →
      (s.sl p).txq = [] → (s.sl p).replay.length < 512 → 0 < (s.sl p).credits.getD 0 0 →
      ∃ t, exec .tsSyncSend s = .next t ∧ t.rd = { s.rd with sentSync := s.tstamp } ∧ t.linkOut = s.linkOut ++
        [frameOut p (s.sl p).txSeq (s.sl p).ackSeq 0
          (some (.head { xtype := 8, dst := (s.sl p).peerEngine, src := s.engineId, hops := 0, job := 0, wa := s.tstamp, wb := s.rd.dist % 64,
                         sfield := 0, stag := 0, data := [] })) (s.sl p).owed]) ∧
    (∀ k p x, Claims.xcame s k p 8 x → s.parentPort = some p → s.rd.sync = .acquire → s.allIdle = true →
      ∃ t o, exec (.tsSync k) s = .next t ∧ t.rd.dist = (x.wb % 64 + 1) % 64 ∧ t.rd.lastSync = s.tstamp ∧ t.cores = s.cores ∧ t.net = s.net ∧
        o = (x.wa : Int) * 64 + (s.sl p).delay - (s.tstamp : Int) * 64 ∧
        ((o - s.rd.lastSample).natAbs ≤ 64 → s.rd.agree = 3 → 0 ≤ o →
          t.rd.sync = .locked ∧ (t.tstamp : Int) = s.tstamp + o / 64 ∧ t.rd.offset = o % 64) ∧
        (64 < (o - s.rd.lastSample).natAbs → t.rd.sync = .acquire ∧ t.rd.agree = 1 ∧ t.rd.offset = o ∧ t.tstamp = s.tstamp)) ∧
    (s.rd.sync = .locked → s.rd.lastSync + 10000 ≤ s.tstamp →
      ∃ t, exec .holdoverTimeout s = .next t ∧ t.rd.sync = .holdover ∧ t.rd.agree = 0 ∧ t.faultCount = (s.faultCount + 1) % 2 ^ 32 ∧
        Tab.read t.rd.counters 0 0xA208 = (Tab.read s.rd.counters 0 0xA208 + 1) % 2 ^ 64 ∧ t.tstamp = s.tstamp ∧
        (s.rdFaults.recs.length < 64 → ∃ r, t.rdFaults.recs = s.rdFaults.recs ++ [r] ∧ r.cause = 0x3304)) ∧
    (s.rd.sync = .locked → s.rd.lastSlew + 1000 ≤ s.tstamp → s.sd.refclkOk = true → s.sd.state = .on → 64 ≤ s.rd.offset.natAbs →
      ∃ t, exec .tstampSlew s = .next t ∧ t.tstamp = s.tstamp + (if 0 < s.rd.offset then 2 else 0) ∧ t.rd.lastSlew = t.tstamp ∧
        t.rd.offset.natAbs + 64 = s.rd.offset.natAbs ∧ ∀ f,
          ((s.field f).clk.cd = .on → (s.field f).clk.change = none → (s.field f).clk.stretch = none →
            (t.field f).clk = { (s.field f).clk with halfCclk := (s.field f).clk.halfCclk + (24 - (s.field f).clk.fstate) }) ∧
          ((s.field f).clk.cd ≠ .on → (t.field f).clk = (s.field f).clk)) ∧
    (s.rd.sync = .master → s.rd.edges = 4 → 9999 ≤ s.sd.vtime - s.rd.lastEdge → s.sd.vtime - s.rd.lastEdge ≤ 10001 → s.tstamp % 10000 < 5000 →
      exec .csyncInEdge s = .next { s with rd := { s.rd with
        edges := 5, lastEdge := s.sd.vtime, offset := -((s.tstamp % 10000 : Nat) : Int) * 64 } }) ∧
    (s.rd.sync = .master ∨ s.rd.sync = .locked → s.tstamp % 10000 = 0 →
      exec .csyncOutPulse s = .next { s with rd := { s.rd with csyncOut := s.sd.vtime + 10 } })

/-- R287 to R289: a member of a frequency lock proposes once an epoch the state it wants, F15 while forced; the leader keeps each member's latest and 20 µs into the epoch commands the slowest of
them, F15 until all members were heard; a member schedules the commanded state for its time; a member with no command for 1 ms is lock-lost, reported as 0x3305. -/
def Claims.FrequencyLocks : Prop :=
  ∀ (s : State) (q e : Nat), q < 16 → s.rd.state = .on → s.locked q = true → e = s.tstamp / 10000 * 10000 →
    ((s.lock q).proposedAt < e →
      ∃ t, exec (.flPropose q) s = .next t ∧ t.lock q = { s.lock q with proposedAt := s.tstamp } ∧ t.fields = s.fields ∧
        Claims.xleaves s t s.rd.xin { xtype := 6, dst := s.leader q, src := s.engineId, hops := 0, job := (s.part q).job,
                                      wa := (if s.therm.state = 2 then 15 else s.partFstate q), wb := e, sfield := 0, stag := 0, data := [] }) ∧
    (∀ k p x, Claims.xcame s k p 6 x → s.jobPart x.job = some q → s.leader q = s.engineId → (s.lock q).heard.contains x.src = false →
      ∃ t, exec (.flProposeReceive k) s = .next t ∧ t = { Claims.took s k p x with rd := t.rd } ∧ t.rd.xin = dropAt s.rd.xin k ∧
        t.lock q = { s.lock q with
          proposals := (s.lock q).proposals.filter (fun d => !decide (d.1 = x.src)) ++ [(x.src, x.wa % 16)], heard := (s.lock q).heard ++ [x.src] }) ∧
    (∀ m f, s.leader q = s.engineId → (s.lock q).proposals = [(m, f)] → e + 2000 ≤ s.tstamp → (s.lock q).decidedAt < e + 2000 →
      ∃ t, exec (.flDecide q) s = .next t ∧ (t.lock q).decidedAt = s.tstamp ∧ (t.lock q).heard = [] ∧ t.fields = s.fields ∧
        Claims.xleaves s t s.rd.xin { xtype := 7, dst := m, src := s.engineId, hops := 0, job := (s.part q).job,
                                      wa := (if 1 < bits (s.flDesc q) 12 0 then 15 else f), wb := e + 5000, sfield := 0, stag := 0, data := [] }) ∧
    (∀ k p x, Claims.xcame s k p 7 x → s.jobPart x.job = some q → s.leader q = x.src → s.therm.state ≠ 2 →
      ∃ t, exec (.flCommand k) s = .next t ∧ t = { Claims.took s k p x with rd := t.rd, fields := t.fields } ∧ t.rd.xin = dropAt s.rd.xin k ∧
        t.lock q = { s.lock q with lastCmd := s.tstamp, lost := false, late := (s.lock q).late + (if x.wb < s.tstamp then 1 else 0) } ∧
        ∀ f, t.field f = if f ∈ s.partFields q ∧ (s.field f).clk.cd = .on
          then { s.field f with clk := (s.field f).clk.ask (x.wa % 16) (if x.wb < s.tstamp then s.tstamp else x.wb) } else s.field f) ∧
    ((s.lock q).lost = false → (s.lock q).lastCmd + 100000 ≤ s.tstamp →
      ∃ t, exec (.flockLost q) s = .next t ∧ t.lock q = { s.lock q with lost := true, losts := (s.lock q).losts + 1 } ∧ t.fields = s.fields ∧
        t.faultCount = (s.faultCount + 1) % 2 ^ 32 ∧
        (s.rdFaults.recs.length < 64 → ∃ r, t.rdFaults.recs = s.rdFaults.recs ++ [r] ∧ r.cause = 0x3305 ∧ r.scope = 1 ∧ r.id = q))

/-- R265, R277, R287, R530, R531: a route entry keeps its V and port; a group that no graph claims takes its descriptor with its counts 0, a claimed one keeps it; a partition's lock descriptor is
taken while its graph is IDLE; enabling a trace destination clear of device windows sets its indices 0 and writes 0 to its header's PROD; disabling discards the records held. Where the spec leaves a choice, the model's: log entries 20 and 33. -/
def Claims.RingDomainRegisters : Prop :=
  ∀ (s : State), s.rd.state = .on →
    (∀ e v, e < 4096 → e ≠ s.rd.master →
      ∃ t, exec (.routeWrite e v) s = .next t ∧ t = { s with rd := { s.rd with route := t.rd.route } } ∧
        ∀ d, Tab.read t.rd.route 0 d = if d = e then v &&& 0x8F else Tab.read s.rd.route 0 d) ∧
    (∀ g v, g < 256 →
      (s.groupClaimed g = true → exec (.cwDescWrite g v) s = .next s) ∧
      (s.groupClaimed g = false →
        ∃ t, exec (.cwDescWrite g v) s = .next t ∧ t = { s with rd := t.rd } ∧ t.cwDesc g = v &&& 0x8FFF1FFF ∧ (∀ h, h ≠ g → t.cwDesc h = s.cwDesc h) ∧
          Tab.read t.rd.ecount 0 g = 0 ∧ Tab.read t.rd.arrived [] g = [])) ∧
    (∀ q v, q < 16 →
      ((s.part q).graph ≠ .idle → exec (.flDescWrite q v) s = .next s) ∧
      ((s.part q).graph = .idle →
        ∃ t, exec (.flDescWrite q v) s = .next t ∧ t = { s with rd := t.rd } ∧ t.flDesc q = v &&& 0x8FFF1FFF ∧ (∀ h, h ≠ q → t.flDesc h = s.flDesc h) ∧
          (t.lock q).proposals = [] ∧ (t.lock q).lost = false)) ∧
    (∀ q base b d, q < 16 → d = s.traceDest q → d.en = false → b = bits base 51 12 * 4096 → bits d.cfg 7 4 ≤ 12 →
      s.meetsDevice (d.cfg % 4) b (32 * 2 ^ (bits d.cfg 7 4 + 7)) = false → s.meetsDevice (d.cfg % 4) d.hdr 64 = false →
      ∃ t, exec (.trEnable q base) s = .next t ∧
        t.traceDest q = { d with base := b, en := true, prod := 0, index := 0, cons := 0, staging := [], dropped := 0, consAt := s.tstamp } ∧
        (∀ f ∈ s.partFields q, (t.field f).obs.trace = [] ∧ (t.field f).obs.stats = none) ∧
        t.hostOut = s.hostOut ++ [.write (d.cfg % 4) d.hdr [0, 0, 0, 0]]) ∧
    (∀ q, q < 16 → (s.traceDest q).en = true →
      ∃ t, exec (.trDisable q) s = .next t ∧ t.hostOut = s.hostOut ∧ t.traceDest q = { s.traceDest q with en := false, staging := [], dropped := 0 } ∧
        (∀ f ∈ s.partFields q, (t.field f).obs.trace = [] ∧ (t.field f).obs.stats = none) ∧
        ∀ f, f ∉ s.partFields q → t.field f = s.field f)

/-! ### The dictionary and its mailbox -/

/-- `cmd` is the row that checks a write of `who` to an object of `o` (R354); whatever service flash would return where the write reads it. -/
def Claims.checksOwn (cmd : Instr) (who : Requester) (o : OwnRow) : Prop :=
  match o with
  | .repairAdd => cmd = .repairAdd false who
  | .repairRemove => cmd = .repairRemove false who
  | .fieldRestart => cmd = .fieldRestart false who
  | .rect => cmd = .partitionRect false who
  | .job => cmd = .partJob false who
  | .engineId => cmd = .engineId false who
  | .timeMaster => cmd = .timeMaster false who
  | .powerCap => cmd = .powerCap false who
  | .detMode => cmd = .detMode false who
  | .cmdTimeout => cmd = .cmdTimeoutWrite false who
  | .dryWindow => cmd = .drywellWindow false who
  | .restoreSefiez => cmd = .restoreSefiez false who
  | .restoreComm => cmd = .restoreComm false who
  | .logClear => cmd = .faultLogClear false who
  | .historyClear => cmd = .errorHistoryClear false who
  | .portEnable => cmd = .portEnable false who
  | .portDisable => cmd = .portDisable false who
  | .repairReload => ∃ r, cmd = .repairReload false who r
  | .override => ∃ r, cmd = .buttonOverride false who r

/-- State `s` with one more write accepted: the next number of those accepted, still to be recorded in an epoch (R354, R355). -/
def Claims.accepted (s : State) (who : Requester) (role : Role) (seq : Nat) (items : List (Nat × Nat × List Byte)) : State :=
  { s with
    fw := { s.fw with
      accepted := s.fw.accepted + 1,
      wq := s.fw.wq ++ [{ who := who, role := role, seq := seq, items := items, step := .queued, answer := none, tko := false, old := [], id := s.fw.accepted + 1,
                          refused := none, void := false }] },
    wh := { s.wh with changed := true } }

/-- R348 to R351, R353 to R355: a write request whose checks pass joins the write queue and changes nothing else; one that fails a check is answered at once with its abort code and cause
in a mailbox response, and recorded in LAST_REFUSAL, no object changed. -/
def Claims.WritesAreQueuedOrRefused : Prop :=
  ∀ (s : State) (who : Requester) (q : DictReq) (cmd : Instr), s.serving = true → s.request who = some q → q.write = true →
    (cmd = .dictWrite who ∧ ownRow q.index q.sub (ofBytes q.data) = none ∨
      ∃ o, Claims.checksOwn cmd who o ∧ ownRow q.index q.sub (ofBytes q.data) = some o) →
    (s.dictCheck q = none →
      exec cmd s = .next (Claims.accepted s q.who q.role q.seq [(q.index, q.sub, q.data)])) ∧
    (∀ p c a cause, who = .mailbox p c → s.dictCheck q = some (a, cause) →
      ∃ t, exec cmd s = .next t ∧ t = { s with fw := { s.fw with refusals := t.fw.refusals }, wh := { s.wh with changed := true }, ports := t.ports } ∧
        Tab.read t.fw.refusals 0 (2 + 4 * p + c) = cause * 2 ^ 48 + q.index * 2 ^ 32 + q.sub * 2 ^ 24 ∧ ((t.port p).chan c).state = 2 ∧
        Memory.bytes ((t.port p).chan c).rsp 0 16 = toBytes 8 (q.head * 2 ^ 32 + cause * 2 ^ 16 + q.seq) ++ toBytes 8 (a * 2 ^ 32))

/-- R340, R348, R349, R355: a doorbell makes its channel BUSY, or sets OVERRUN while it is; a read that passes its checks is answered at once with the object's bytes; a write whose outcome is
committed is answered and leaves the queue. -/
def Claims.MailboxAnswers : Prop :=
  ∀ (s : State) (p c : Nat) (y : Channel), p < 4 → c < 4 → y = (s.port p).chan c →
    (s.mailUp p = true → exec (.mbDoorbell p c) s = .next (s.setPort p ((s.port p).setChan c
      (if y.state = 1 then { y with overrun := true } else { y with state := 1 })))) ∧
    (∀ q data, s.serving = true → s.request (.mailbox p c) = some q → q.write = false → s.dictCheck q = none → data = ((s.readBytes q.index q.sub).drop q.off).take 256 →
      ∃ t, exec (.dictRead (.mailbox p c)) s = .next t ∧ t = { s with ports := t.ports } ∧ ((t.port p).chan c).state = 2 ∧ ((t.port p).chan c).req = y.req ∧
        Memory.bytes ((t.port p).chan c).rsp 0 (16 + data.length) = toBytes 8 (q.head * 2 ^ 32 + q.seq) ++ toBytes 8 data.length ++ data) ∧
    (∀ r i sub b rest, s.serving = true → s.fw.wq = r :: rest → r.who = .mailbox p c → r.step = .settled → r.answer = some (0, 0) → r.items = [(i, sub, b)] → r.tko = false →
      i ≠ 0x2110 → y.state = 1 →
      ∃ t, exec .dictWriteAnswer s = .next t ∧ t = { s with fw := { s.fw with wq := rest }, wh := { s.wh with changed := true, answered := r.id }, ports := t.ports } ∧
        ((t.port p).chan c).state = 2 ∧
        Memory.bytes ((t.port p).chan c).rsp 0 16 = toBytes 8 ((2 * 2 ^ 24 + sub * 2 ^ 16 + i) * 2 ^ 32 + r.seq) ++ toBytes 8 0)

/-- The oldest write, `r`, is committed, names one object and its value `v`, and that object's rule lets it stand (R355). -/
def Claims.committed (s : State) (r : WriteReq) (i sub v : Nat) : Prop :=
  s.serving = true ∧ s.fw.wq = [r] ∧ r.step = .committed ∧ r.answer = none ∧ r.role = .operator ∧ r.void = false ∧ r.old = [] ∧ (∃ b, r.items = [(i, sub, b)] ∧ ofBytes b = v) ∧
    s.rule8 i sub v = none

/-- In `t` the write has been applied: its outcome goes into the next epoch, with the values that the objects it changes had (R354, R355). -/
def Claims.applied (s t : State) (r : WriteReq) (i sub : Nat) : Prop :=
  t.fw.wq = [{ r with answer := some (0, 0), step := .outcome (s.wh.epoch + 1), old := (affected i sub).map (fun e => (e.1, e.2, s.objBytes e.1 e.2)) }] ∧
    t.wh.changed = true

/-- Flash `x` with the runtime list `l`, both copies written one after the other, each with its CRC-32 (R41). -/
def Claims.withList (x : Flash) (l : List Word) : Flash := { x with repair := RepairCopy.of l, repair2 := RepairCopy.of l }
/-- The runtime list read from flash: the first copy whose CRC matches; none where both fail (R42). -/
def Claims.listRead (x : Flash) (r : FlashRead) : Option (List Word) :=
  if (r.repair.getD x.repair).good then some (r.repair.getD x.repair).words
  else if (r.repair2.getD x.repair2).good then some (r.repair2.getD x.repair2).words else none
/-- The stored objects read from flash, in the same way (R364). -/
def Claims.objsRead (x : Flash) (r : FlashRead) : Option (Tab Nat) :=
  if (r.objs.getD x.objs).good then some (r.objs.getD x.objs).objs
  else if (r.objs2.getD x.objs2).good then some (r.objs2.getD x.objs2).objs else none

/-- R42, R45, R46, R270, R327, R339, R346, R364, R372, R380, R384, R438, R481: what an applied write of each of these objects makes so, the write's own outcome apart. Where the spec leaves a choice, the model's: log entries 46 and 59. -/
def Claims.WritesToFirmwareApply : Prop :=
  ∀ (s : State) (r : WriteReq) (v : Nat),
    (Claims.committed s r 0x2110 3 v →
      ∃ t, exec (.repairAdd true .can) s = .next t ∧ Claims.applied s t r 0x2110 3 ∧ t.fields = s.fields ∧ t.cores = s.cores ∧
        t.flash = (if s.repairKnown v then s.flash else Claims.withList s.flash (s.flash.list ++ [BitVec.ofNat 32 v]))) ∧
    (Claims.committed s r 0x2110 4 v →
      ∃ t, exec (.repairRemove true .can) s = .next t ∧ Claims.applied s t r 0x2110 4 ∧ t.fields = s.fields ∧ t.cores = s.cores ∧
        t.flash = Claims.withList s.flash (s.flash.list.filter (fun e => !decide (e = BitVec.ofNat 32 v)))) ∧
    (∀ x : FlashRead, Claims.committed s r 0x2110 6 v →
      ∃ t, exec (.repairReload true .can x) s = .next t ∧ Claims.applied s t r 0x2110 6 ∧ t.fields = s.fields ∧
        t.flash.list = (Claims.listRead s.flash x).getD [] ∧ t.flash.objs = s.flash.objs ∧ t.fw.map = t.flash.list.foldl mapAdd [] ∧
        t.faultCount = (if Claims.listRead s.flash x = none then (s.faultCount + 1) % 2 ^ 32 else s.faultCount)) ∧
    (∀ q, q < 16 → Claims.committed s r 0x2602 (q + 1) v →
      ∃ t, exec (.partJob true .can) s = .next t ∧ Claims.applied s t r 0x2602 (q + 1) ∧ t.part q = { s.part q with job := v } ∧ (∀ p, p ≠ q → t.part p = s.part p)) ∧
    (∀ cmd o, cmd = .powerCap true .can ∧ o = 0x2400 ∨ cmd = .cmdTimeoutWrite true .can ∧ o = 0x2700 → Claims.committed s r o 1 v →
      ∃ t, exec cmd s = .next t ∧ Claims.applied s t r o 1 ∧ t.setting o 1 = v ∧ t.parts = s.parts ∧ t.fields = s.fields ∧
        ∀ i sub, sub < 256 → (i, sub) ≠ (o, 1) → t.setting i sub = s.setting i sub) ∧
    (Claims.committed s r 0x2800 1 v →
      ∃ t, exec (.detMode true .can) s = .next t ∧ Claims.applied s t r 0x2800 1 ∧ t.detMode = decide (v ≠ 0) ∧ t.fields = s.fields ∧
        (∀ c k, (c, k) ∈ s.cores → (t.core c).csr.det = if (s.field (fieldOf c)).clk.cd = .on then decide (v ≠ 0) else (s.core c).csr.det) ∧
        ∀ c, t.core c = { s.core c with csr := { (s.core c).csr with det := (t.core c).csr.det } }) ∧
    (∀ q, q < 16 → Claims.committed s r 0x2580 (q + 1) v →
      ∃ t, exec (.drywellWindow true .can) s = .next t ∧ Claims.applied s t r 0x2580 (q + 1) ∧ t.setting 0x2580 (q + 1) = v ∧
        t.part q = { s.part q with det := { (s.part q).det with last := s.tstamp } }) ∧
    (Claims.committed s r 0x2003 1 v →
      ∃ t, exec (.restoreSefiez true .can) s = .next t ∧ Claims.applied s t r 0x2003 1 ∧ t.setting 0x1017 0 = s.setting 0x1017 0 ∧ t.fields = s.fields ∧
        ∀ e ∈ [(0x2001, 1), (0x2001, 2), (0x2601, 1), (0x2601, 2), (0x2700, 1)], t.setting e.1 e.2 = objDefault s.sd.nodeId e.1 e.2) ∧
    (Claims.committed s r 0x1011 1 v →
      ∃ t, exec (.restoreComm true .can) s = .next t ∧ Claims.applied s t r 0x1011 1 ∧ t.can = s.can ∧ t.fw.dict = s.fw.dict ∧
        t.flash = { s.flash with objs := ObjsCopy.of (Tab.insert s.flash.stored restoreKey v), objs2 := ObjsCopy.of (Tab.insert s.flash.stored restoreKey v) }) ∧
    (Claims.committed s r 0x2941 0 v →
      ∃ t, exec (.faultLogClear true .can) s = .next t ∧ Claims.applied s t r 0x2941 0 ∧ t.faultCount = 0 ∧ t.fw.log = [] ∧ t.fw.writeCount = 0 ∧ t.fw.dict = s.fw.dict) ∧
    (Claims.committed s r 0x1003 0 v →
      ∃ t, exec (.errorHistoryClear true .can) s = .next t ∧ Claims.applied s t r 0x1003 0 ∧ t.can = { s.can with history := [] } ∧ t.fw.dict = s.fw.dict) ∧
    (∀ sub, sub = 1 ∨ sub = 2 → Claims.committed s r 0x2401 sub v →
      ∃ t, exec .dictWriteApply s = .next t ∧ Claims.applied s t r 0x2401 sub ∧ t.setting 0x2401 sub = v ∧ t.flash = s.flash ∧ t.fields = s.fields)

/-- R54, R55, R262, R286, R291, R388, R405 to R407, R419, R420: the writes that act on partitions, ports and fields: a rectangle written or newly enabled, with its fields' CDs
starting; a field's CD started anew; the engine's ID and time master; a port trained or taken OFF; and the button's override, which acts as a long press. Where the spec leaves a choice, the model's: log entry 25. -/
def Claims.WritesToUnitsApply : Prop :=
  ∀ (s : State) (r : WriteReq) (v : Nat),
    (∀ q, q < 16 → Claims.committed s r 0x2210 (q + 1) v → (s.part q).enabled = false →
      (bit v 31 = false →
        ∃ t, exec (.partitionRect true .can) s = .next t ∧ Claims.applied s t r 0x2210 (q + 1) ∧ t.part q = { s.part q with rect := BitVec.ofNat 32 v } ∧
          t.fields = s.fields ∧ (∀ p, p ≠ q → t.part p = s.part p)) ∧
      (bit v 31 = true →
        ∃ t, exec (.partitionRect true .can) s = .next t ∧ Claims.applied s t r 0x2210 (q + 1) ∧
          t.part q = { Part.reset with rect := BitVec.ofNat 32 v, job := (s.part q).job } ∧ (∀ p, p ≠ q → t.part p = s.part p) ∧
          (∀ f ∈ rectFields (BitVec.ofNat 32 v), (s.field f).clk.md = .on → (s.field f).clk.cd = .off → (t.field f).clk.cd = .starting) ∧
          ∀ f, f ∉ rectFields (BitVec.ofNat 32 v) → t.field f = s.field f)) ∧
    (Claims.committed s r 0x2110 7 v → s.startBlocked = false → (s.field v).clk.md = .on → s.startFailed = false →
      ∃ t, exec (.fieldRestart true .can) s = .next t ∧ Claims.applied s t r 0x2110 7 ∧ (t.field v).clk.cd = .starting ∧ (t.field v).clk.restart = true ∧
        (t.field v).clk.md = .on ∧ ∀ f, f ≠ v → t.field f = s.field f) ∧
    (Claims.committed s r 0x2601 1 v → s.rd.state = .on →
      ∃ t, exec (.engineId true .can) s = .next t ∧ Claims.applied s t r 0x2601 1 ∧ t.engineId = v ∧
        ∀ p, p < 12 → (s.sl p).state = .up → (t.sl p).state = if v = s.engineId then .up else .train) ∧
    (Claims.committed s r 0x2601 2 v → s.rd.state = .on → s.setting 0x2601 1 = s.rd.ownId →
      ∃ t, exec (.timeMaster true .can) s = .next t ∧ Claims.applied s t r 0x2601 2 ∧ t.setting 0x2601 2 = v ∧ t.tstamp = s.tstamp ∧
        (v = s.engineId → t.rd.sync = .master ∧ t.rd.dist = 0) ∧ (v = 0xFFFF → s.engineId ≠ 0xFFFF → t.rd.sync = .free)) ∧
    (∀ p, p < 12 → Claims.committed s r 0x2600 (p + 1) v → s.rd.state = .on →
      (bit v 0 = true → (s.sl p).state = .off →
        ∃ t, exec (.portEnable true .can) s = .next t ∧ Claims.applied s t r 0x2600 (p + 1) ∧ t.portCtrl p = v ∧ (t.sl p).state = .train ∧ (t.sl p).since = s.tstamp ∧
          ∀ q, q ≠ p → t.sl q = s.sl q) ∧
      (bit v 0 = false → (s.sl p).held = [] →
        ∃ t, exec (.portDisable true .can) s = .next t ∧ Claims.applied s t r 0x2600 (p + 1) ∧ t.portCtrl p = v ∧ (t.sl p).state = .off ∧
          ∀ q, q ≠ p → t.sl q = s.sl q)) ∧
    (Claims.committed s r 0x2B02 2 v → s.sd.tripLatched = false → s.sd.flowStop = false → s.sd.vrStop = false →
      ∀ x : FlashRead, ∃ t, exec (.buttonOverride true .can x) s = .next t ∧ Claims.applied s t r 0x2B02 2 ∧ t.sd.button.state = 3 ∧ t.sd.lastReset = 2 ∧
        t.sd.warmCount = (s.sd.warmCount + 1) % 2 ^ 32 ∧ t.fw.map = ((Claims.listRead s.flash x).getD []).foldl mapAdd [])

/-! ### The CAN services -/

/-- A USDO frame to the client as the model lays it out (log entry 47). -/
def Claims.usdoFrame (s : State) (code i sub : Nat) (data : List Byte) : Nat × List Byte :=
  (0x580 + s.sd.nodeId, toBytes 1 code ++ toBytes 2 i ++ toBytes 1 sub ++ data)

/-- R340, R351, R353: a download of at most 4 bytes, and an upload, complete their request as they begin; an initiate aborts the transfer that is open; a segment adds its bytes, the
last one completes the request; a transfer whose next segment does not come in time is aborted with 0x05040000 and recorded as 0x5238. Where the spec leaves a choice, the model's: log entry 47. -/
def Claims.UsdoTransfers : Prop :=
  ∀ (s : State), s.canUsdo = true →
    (∀ i sub data, i < 65536 → sub < 256 → s.fw.usdo = none → 1 ≤ data.length → data.length ≤ 4 →
      exec (.usdoInitiateDownload i sub data.length data) s = .next { s with
        fw := { s.fw with usdo := some { download := true, index := i, sub := sub, size := data.length, data := data, at' := s.tstamp, done := true } },
        wh := { s.wh with changed := true } }) ∧
    (∀ i sub, i < 65536 → sub < 256 → s.fw.usdo = none →
      exec (.usdoInitiateUpload i sub) s = .next { s with
        fw := { s.fw with usdo := some { download := false, index := i, sub := sub, size := 0, data := [], at' := s.tstamp, done := true } },
        wh := { s.wh with changed := true } }) ∧
    (∀ i sub size data u, i < 65536 → sub < 256 → 4 < size → s.fw.usdo = some u →
      ∃ t, exec (.usdoInitiateDownload i sub size data) s = .next t ∧
        t.fw.usdo = some { download := true, index := i, sub := sub, size := size, data := [], at' := s.tstamp, done := false } ∧
        t.canOut = s.canOut ++ [Claims.usdoFrame s 0x80 u.index u.sub (toBytes 4 0x08000000)] ∧ t.fw.dict = s.fw.dict ∧
        Tab.read t.fw.refusals 0 1 = 0x5237 * 2 ^ 48 + u.index * 2 ^ 32 + u.sub * 2 ^ 24) ∧
    (∀ data last u, s.fw.usdo = some u → u.done = false → u.download = true →
      exec (.usdoSegment data last) s = .next { s with
        fw := { s.fw with usdo := some { u with data := u.data ++ data, at' := s.tstamp, done := last } }, wh := { s.wh with changed := true } }) ∧
    (∀ data last u, s.fw.usdo = some u → u.done = false → u.download = false → u.data.length ≤ 56 →
      ∃ t, exec (.usdoSegment data last) s = .next t ∧ t.fw.usdo = none ∧ t.canOut = s.canOut ++ [Claims.usdoFrame s 0x52 u.index u.sub u.data]) ∧
    (∀ u, s.fw.usdo = some u → u.done = false → u.at' + 100000 * s.setting 0x2001 2 ≤ s.tstamp →
      ∃ t, exec .dictSegTimeout s = .next t ∧ t.fw.usdo = none ∧ t.canOut = s.canOut ++ [Claims.usdoFrame s 0x80 u.index u.sub (toBytes 4 0x05040000)] ∧
        Tab.read t.fw.refusals 0 1 = 0x5238 * 2 ^ 48 + u.index * 2 ^ 32 + u.sub * 2 ^ 24)

/-- R337 to R339, R344: the NMT commands set the NMT state; the two resets send the boot-up message and leave Pre-operational, or Operational where NMT_STARTUP says so, with the communication
objects as flash or a marked restore has them; heartbeats leave every HB_PRODUCER ms; a consumer whose node falls silent is reported once as 0x5240. Where the spec leaves a choice, the model's: log entry 48. -/
def Claims.NmtAndHeartbeats : Prop :=
  ∀ (s : State), s.nmtOn = true →
    (∀ e ∈ [(Instr.nmtStart, Nmt.oper), (.nmtStop, .stopped), (.nmtEnterPreOperational, .preop)],
      exec e.1 s = .next { s with can := { s.can with nmt := e.2 } }) ∧
    (∀ cmd, cmd = .nmtResetCommunication ∨ cmd = .nmtResetNode →
      ∃ t, exec cmd s = .next t ∧ t.canOut = s.canOut ++ [(0x700 + s.sd.nodeId, [0])] ∧ t.can.nmt = (if bit (t.setting 0x1F80 0) 2 then .oper else .preop) ∧
        t.fw.usdo = none ∧ t.can.busOff = s.can.busOff ∧ t.can.dropped = s.can.dropped ∧ Tab.read t.flash.stored 0 restoreKey = 0 ∧ t.fields = s.fields ∧ t.cores = s.cores ∧ t.parts = s.parts ∧
        (cmd = .nmtResetNode → t.can.emcy = [] ∧ t.can.history = []) ∧ (cmd = .nmtResetCommunication → t.can.emcy = s.can.emcy ∧ t.can.history = s.can.history) ∧
        (Tab.read s.flash.stored 0 restoreKey ≠ 0 → t.setting 0x1017 0 = 100)) ∧
    (0 < s.setting 0x1017 0 → s.can.hbLast + 100000 * s.setting 0x1017 0 ≤ s.tstamp →
      exec .heartbeatSend s = .next { s with
        canOut := s.canOut ++ [(0x700 + s.sd.nodeId, toBytes 1 s.can.nmt.code)], can := { s.can with hbLast := s.tstamp } }) ∧
    (∀ k node, k < 4 → bits (s.setting 0x1016 (k + 1)) 23 16 = node → bits (s.setting 0x1016 (k + 1)) 15 0 ≠ 0 →
      ∃ t, exec (.heartbeatReceive node) s = .next t ∧ t = { s with can := t.can } ∧ Tab.read t.can.hbSeen 0 k = s.tstamp + 1 ∧ k ∉ t.can.hbOut) ∧
    (∀ k, k < 4 → bits (s.setting 0x1016 (k + 1)) 15 0 ≠ 0 → Tab.read s.can.hbSeen 0 k ≠ 0 →
      Tab.read s.can.hbSeen 0 k + 100000 * bits (s.setting 0x1016 (k + 1)) 15 0 ≤ s.tstamp + 1 → k ∉ s.can.hbOut →
      ∃ t, exec (.canHbTimeout k) s = .next t ∧ t.can = { s.can with hbOut := s.can.hbOut ++ [k] } ∧ t.faultCount = (s.faultCount + 1) % 2 ^ 32 ∧
        (s.sdFaults.recs.length < 64 → ∃ r, t.sdFaults.recs = s.sdFaults.recs ++ [r] ∧ r.cause = 0x5240))

/-- R334, R342, R343, R345, R346, R355: an EMCY leaves, oldest first, once its inhibit time has passed; bus-off and an overrun are reported as 0x5241 and
0x5242; a PDO of the wrong length is discarded with an EMCY, one that a check refuses is answered by EMCY 0xFF00 with the check's cause and noted in
LAST_REFUSAL, one that passes its checks is queued as one operator write; a PDO in use is sent on a change, or at its event timer. Where the spec
leaves a choice, the model's: log entry 59. -/
def Claims.EmcyAndPdos : Prop :=
  ∀ (s : State),
    (∀ e rest, s.canUsdo = true → s.can.emcy = e :: rest → s.can.emcyLast = none →
      exec .emcySend s = .next { s with
        canOut := s.canOut ++ [(s.setting 0x1014 0, toBytes 2 e.code ++ toBytes 1 s.errorRegister ++ [0] ++ toBytes 2 e.cause ++ toBytes 1 e.scope ++ toBytes 1 e.id ++
          toBytes 4 e.info ++ toBytes 8 e.ts)],
        can := { s.can with emcy := rest, emcyLast := some s.tstamp } }) ∧
    (s.serving = true →
      (∃ t, exec .canBusOff s = .next t ∧ t.can = { s.can with busOff := (s.can.busOff + 1) % 2 ^ 32 } ∧ t.faultCount = (s.faultCount + 1) % 2 ^ 32 ∧
        (s.sdFaults.recs.length < 64 → ∃ r, t.sdFaults.recs = s.sdFaults.recs ++ [r] ∧ r.cause = 0x5241)) ∧
      ∃ t, exec .canOverrun s = .next t ∧ t.can = s.can ∧ t.faultCount = (s.faultCount + 1) % 2 ^ 32 ∧
        (s.sdFaults.recs.length < 64 → ∃ r, t.sdFaults.recs = s.sdFaults.recs ++ [r] ∧ r.cause = 0x5242)) ∧
    (∀ r data items, s.nmtOn = true → s.can.nmt = .oper → r < 4 → bit (s.setting (0x1400 + r) 1) 31 = false → s.setting (0x1600 + r) 0 ≠ 0 →
      items = cutItems (s.mapping (0x1600 + r)) data →
      (data.length = (s.mapping (0x1600 + r)).foldl (fun a e => a + e.2.2) 0 → s.afterQueue.checkItems items = none → s.fw.wq.length < 32 →
        exec (.rpdoReceive r data) s = .next (Claims.accepted s .rpdo .operator 0 items)) ∧
      (∀ a c i sub, data.length = (s.mapping (0x1600 + r)).foldl (fun a e => a + e.2.2) 0 → s.afterQueue.checkItems items = some (a, c, i, sub) → s.can.emcy.length < 32 →
        ∃ t e, exec (.rpdoReceive r data) s = .next t ∧ t.fw.wq = s.fw.wq ∧ t.fw.dict = s.fw.dict ∧ t.can.emcy = s.can.emcy ++ [e] ∧ e.code = 0xFF00 ∧ e.cause = c ∧
          Tab.read t.fw.refusals 0 1 = c * 2 ^ 48 + i * 2 ^ 32 + sub * 2 ^ 24) ∧
      (data.length < (s.mapping (0x1600 + r)).foldl (fun a e => a + e.2.2) 0 → s.can.emcy.length < 32 →
        ∃ t e, exec (.rpdoReceive r data) s = .next t ∧ t.fw = s.fw ∧ t.can.emcy = s.can.emcy ++ [e] ∧ e.code = 0x8210 ∧ e.cause = 0x5243 ∧ e.ts = s.tstamp)) ∧
    (∀ k data, s.nmtOn = true → s.can.nmt = .oper → k < 8 → bit (s.setting (0x1800 + k) 1) 31 = false → s.setting (0x1A00 + k) 0 ≠ 0 →
      data = (s.mapping (0x1A00 + k)).flatMap (fun e => s.readBytes e.1 e.2.1) →
      (data ≠ Tab.read s.can.tpdoSent [] k ∧ Tab.read s.can.tpdoLast 0 k + 10000 * s.setting (0x1800 + k) 3 ≤ s.tstamp ∨
        0 < s.setting (0x1800 + k) 5 ∧ Tab.read s.can.tpdoLast 0 k + 100000 * s.setting (0x1800 + k) 5 ≤ s.tstamp) →
      ∃ t, exec (.tpdoSend k) s = .next t ∧ t = { s with canOut := s.canOut ++ [(bits (s.setting (0x1800 + k) 1) 10 0, data)], can := t.can } ∧
        Tab.read t.can.tpdoLast 0 k = s.tstamp ∧ Tab.read t.can.tpdoSent [] k = data)

/-! ### Starts, resets and clocks -/

/-- Compute has been reset: every MD in `st`, its Cistern and units empty where it is OFF and held in RESET, every CD OFF and its cores OFF, the mesh empty, every graph IDLE with
its claims released (R403, R416). -/
def Claims.computeReset (s t : State) (st : DomState) : Prop :=
  (∀ f, f < 72 → (t.field f).clk.md = st ∧ (t.field f).clk.cd = .off ∧ (t.field f).clk.change = none ∧ (t.field f).clk.fstate = 15 ∧
    (st = .off → (t.field f).cis = Cistern.reset ∧ (t.field f).syn = SyncUnit.reset) ∧
    (st ≠ .off → (t.field f).cis.mem = (s.field f).cis.mem ∧ (t.field f).syn = (s.field f).syn)) ∧
  (∀ c, fieldOf c < 72 → (s.field (fieldOf c)).clk.cd ≠ .off → (t.core c).run = .off ∧ (t.core c).sram = []) ∧ t.net = [] ∧
  (∀ p, p < 16 → (t.part p).graph = .idle ∧ (t.part p).claims = [] ∧ (t.part p).rect = (s.part p).rect) ∧ t.tstamp = s.tstamp

/-- Every MD begins its start in `t`, a row of nine fields every 0.5 ms, the first at once where no MD of `s` has begun within the last 0.5 ms (R417, R422). -/
def Claims.fieldsStart (s t : State) : Prop :=
  (∀ f, f < 72 → (t.field f).clk.md = .starting ∧ s.tstamp ≤ (t.field f).clk.startAt) ∧
    ((∀ m ∈ s.sd.mdRamps, m + 50000 ≤ s.tstamp) → ∀ f, f < 72 → (t.field f).clk.startAt = s.tstamp + f / 9 * 50000)

/-- `d` is the service domain of `t`, but for the plan of supply ramps (R417). -/
def Claims.sdIs (t : State) (d : ServiceDomain) : Prop := t.sd = { d with cdRamps := t.sd.cdRamps, mdRamps := t.sd.mdRamps }

/-- R393, R397, R402, R415, R422 to R425, R433: with input power POR_N's rise begins a cold start with everything but flash at its reset value and both
Wellheads booting, and without it begins none until the power is back; its fall takes every domain and every regulator output OFF and SD_OPERATIONAL
to 0; a loss of input power keeps flash alone. The eighth strap sample gives node and slot where all agree, else 0 and 0x5263. Where the spec leaves a
choice, the model's: log entries 4, 59 and 108. -/
def Claims.PowerOnAndStraps : Prop :=
  ∀ (s : State),
    (s.sd.porLow = true →
      ∃ t, exec .porNRise s = .next t ∧ ((s.sd.inputPower = false ∧ t = { s with free := s.free + 1 }) ∨ t.sd.inputPower = true)) ∧
    (s.sd.porLow = true → s.sd.inputPower = true →
      ∃ t, exec .porNRise s = .next t ∧ t.tstamp = 0 ∧ t.fields = [] ∧ t.cores = [] ∧ t.parts = [] ∧ t.net = [] ∧ t.fw = Firmware.reset ∧ t.rd = RingDomain.reset ∧
        t.flash = s.flash.addHours s.sd.compTime ∧ t.wh.a = { Wellhead.reset with booting := true } ∧ t.wh.b = { Wellhead.reset with booting := true } ∧
        t.sd = { ServiceDomain.reset with state := .on, inputPower := true, porLow := false, step := .at 1, lockAt := t.sd.lockAt, coldCds := true } ∧
        (∀ m, t.sd.lockAt = some m → m ≤ 100000) ∧ t.pending = s.pending) ∧
    (s.sd.porLow = false →
      ∃ t, exec .porNFall s = .next t ∧ Claims.computeReset s t .off ∧ t.rd.state = .off ∧ t.sd.state = .reset ∧ t.sd.porLow = true ∧ t.sd.operational = false ∧
        t.sd.step = .none ∧ t.flash = s.flash ∧ t.pmbOut = s.pmbOut ++ s.power.rails.flatMap (fun e => railOperation e.1 false)) ∧
    (∃ t, exec .inputPowerLoss s = .next t ∧ t.tstamp = 0 ∧ t.fields = [] ∧ t.cores = [] ∧ t.fw = Firmware.reset ∧ t.flash = s.flash.addHours s.sd.compTime ∧
      t.sd = { ServiceDomain.reset with inputPower := false } ∧ t.pending = s.pending) ∧
    (∀ raw, raw < 8192 → s.sd.state = .on → 100000 * (s.sd.samples.length + 1) ≤ s.sd.vtime →
      (s.sd.samples.length < 7 → exec (.strapSample raw) s = .next { s with sd := { s.sd with samples := s.sd.samples ++ [raw] } }) ∧
      (s.sd.samples.length = 7 → (∀ x ∈ s.sd.samples, x = raw) →
        exec (.strapSample raw) s = .next { s with
          sd := { s.sd with samples := s.sd.samples ++ [raw], strapsRaw := raw, nodeId := raw % 128, slotId := raw / 128 } }) ∧
      (s.sd.samples.length = 7 → (∃ x ∈ s.sd.samples, x ≠ raw) →
        ∃ t, exec (.strapSample raw) s = .next t ∧
          t.sd = { s.sd with samples := s.sd.samples ++ [raw], strapsRaw := raw, nodeId := 0, slotId := 0 } ∧ t.faultCount = (s.faultCount + 1) % 2 ^ 32 ∧
          (s.sdFaults.recs.length < 64 → ∃ r, t.sdFaults.recs = s.sdFaults.recs ++ [r] ∧ r.cause = 0x5263)))

/-- R41, R42, R364, R422, R424, R534: a Wellhead whose boot image has another CRC-32 than it carries fails. Wellhead A, booted, is the active one, with
the stored objects and the applied map as the good copies of flash have them, and step 5 follows; once the regulators are found without a fault the SD
is operational and the RD starts; a fault or a missing regulator leaves START_FAILED at step 5 with 0x5273; steps that overrun are tried again and
then fail. Where the spec leaves a choice, the model's: log entries 13 and 108. -/
def Claims.ColdStartSteps : Prop :=
  ∀ (s : State),
    (∀ code crc x, s.sd.step = .at 2 → s.wh.a.booting = true → s.wh.b.booting = true →
      exec (.wellheadBootComplete 0 code crc x) s = .next { s with
        wh := { s.wh with a := { s.wh.a with
          booting := false, up := decide (crc32 code = crc), failed := !decide (crc32 code = crc), lastBeat := s.sd.vtime } } }) ∧
    (∀ code crc x, s.sd.step = .at 2 → s.wh.a.booting = true → s.wh.b.booting = false → s.wh.b.failed = false → crc32 code = crc →
      ∃ t, exec (.wellheadBootComplete 0 code crc x) s = .next t ∧ t.wh.active = 0 ∧ t.wh.standbyOk = s.wh.b.up ∧ t.fw.dict = (Claims.objsRead s.flash x).getD [] ∧
        t.flash.stored = t.fw.dict ∧ t.flash.list = (Claims.listRead s.flash x).getD [] ∧ t.fw.map = t.flash.list.foldl mapAdd [] ∧ t.fw.wq = [] ∧
        t.sd = { s.sd with step := .at 5, stepAt := s.sd.vtime } ∧
        ((Claims.objsRead s.flash x).isSome = true → (Claims.listRead s.flash x).isSome = true → t.faultCount = s.faultCount)) ∧
    (∀ devs, s.sd.step = .at 5 → 8 ≤ s.sd.samples.length → s.frozen = false → (∀ d ∈ devs, d.dev < 32) →
      ((∀ d ∈ devs, d.fault = false ∧ bits d.mode 7 5 = 0) →
        ∃ t, exec (.pmbusScanComplete devs false) s = .next t ∧ t.sd = { s.sd with operational := true, step6 := true, step := .at 7, stepAt := s.sd.vtime } ∧
          t.rd = { s.rd with state := .starting, tries := 0 } ∧ t.power.vrFound = devs.length ∧ t.pmbOut = s.pmbOut ++ devs.flatMap VrDevice.cmds ∧
          t.faultCount = s.faultCount) ∧
      (∀ missing, missing = true ∨ (∃ d ∈ devs, d.fault = true ∨ bits d.mode 7 5 ≠ 0) →
        ∃ t, exec (.pmbusScanComplete devs missing) s = .next t ∧ Claims.sdIs t { s.sd with operational := true, step6 := true, step := .failed 5 0x5273 } ∧
          t.rd = s.rd ∧ t.faultCount = (s.faultCount + 1) % 2 ^ 32)) ∧
    (∀ x, s.sd.step = .at 1 → s.sd.lockAt = none → s.sd.stepAt + 1000000 ≤ s.sd.vtime →
      ∃ l, exec (.startStepTimeout { step := 1, flash := x }) s = .next { s with
        sd := { s.sd with step := .at 1, stepAt := s.sd.vtime, lockAt := l }, free := s.free + 1 } ∧ (∀ m, l = some m → m ≤ s.sd.vtime + 100000)) ∧
    (∀ x, s.sd.step = .at 2 → s.sd.stepAt + 6000000 ≤ s.sd.vtime → s.wh.a.booting = true → s.wh.b.booting = true → s.wh.a.up = false → s.wh.b.up = false →
      exec (.startStepTimeout { step := 2, flash := x }) s = .next { s with
        wh := { s.wh with
          a := { s.wh.a with booting := false, failed := true }, b := { s.wh.b with booting := false, failed := true }, bothDownAt := some s.sd.vtime } }) ∧
    (∀ x, s.sd.step = .at 5 → s.sd.stepAt + 2000000 ≤ s.sd.vtime → 8 ≤ s.sd.samples.length → s.frozen = false →
      ∃ t, exec (.startStepTimeout { step := 5, flash := x }) s = .next t ∧ Claims.sdIs t { s.sd with operational := true, step6 := true, step := .failed 5 0x5273 } ∧
        t.faultCount = (s.faultCount + 1) % 2 ^ 32) ∧
    (s.rd.state = .starting →
      ∀ cmd, cmd = .rdStartComplete false ∨ (∃ x, cmd = .startStepTimeout { step := 7, flash := x }) ∧ s.sd.stepAt + 2000000 ≤ s.sd.vtime →
        (s.rd.tries = 0 →
          exec cmd s = .next { s with rd := { s.rd with tries := 1 }, sd := { s.sd with step := .at 7, stepAt := s.sd.vtime } }) ∧
        (s.rd.tries ≠ 0 →
          ∃ t, exec cmd s = .next t ∧ t.rd = { s.rd with state := .off } ∧ Claims.sdIs t { s.sd with step := .failed 7 0x5274 } ∧
            t.faultCount = (s.faultCount + 1) % 2 ^ 32))

/-- R37, R44, R60, R262, R292, R411, R417, R420, R422, R481: an RD start leaves the RD ON, its ports with EN in training, and begins every MD's start; an
MD start leaves it ON at F15 with an empty Cistern, its CD following in a cold start; one that fails is tried once more and then fails step 8 with
0x5275; a CD start leaves the CD ON, the field's repair state from the applied map, and its cores IDLE; a dead row, or 20 ms, leaves the field
DEGRADED. Where the spec leaves a choice, the model's: log entries 63 and 101. -/
def Claims.DomainsStart : Prop :=
  ∀ (s : State),
    (s.rd.state = .starting → s.sd.tripLatched = false → s.sd.flowStop = false → s.sd.vrStop = false → s.sd.button.state = 0 → s.sd.refclkOk = true →
      ∃ t, exec (.rdStartComplete true) s = .next t ∧ t.rd.state = .on ∧ t.rd.route = [] ∧ t.rd.energy = [] ∧ Claims.sdIs t { s.sd with step := .at 8, stepAt := s.sd.vtime } ∧
        Claims.fieldsStart s t ∧ (∀ p, p < 4 → (t.port p).rings = [] ∧ (t.port p).linkUp = (s.port p).perst) ∧
        ∀ p, p < 12 → (t.sl p).state = if bit (s.portCtrl p) 0 then .train else .off) ∧
    (∀ f, f < 72 → (s.field f).clk.md = .starting → (s.field f).clk.startAt ≤ s.tstamp →
      (∃ t, exec (.mdStartComplete f true) s = .next t ∧ (t.field f).clk.md = .on ∧ (t.field f).clk.fstate = 15 ∧ (t.field f).cis = Cistern.reset ∧
        (t.field f).syn = SyncUnit.reset ∧ (t.field f).downLinks = [] ∧ (∀ g, g ≠ f → t.field g = s.field g) ∧ t.cores = s.cores ∧
        (s.sd.coldCds = true → s.startFailed = false → (t.field f).clk.cd = .starting) ∧
        (s.sd.coldCds = false → s.partOf f = none → (s.field f).clk.restart = false → (t.field f).clk.cd = .off)) ∧
      ((s.field f).clk.mdTries = 0 →
        ∃ t, exec (.mdStartComplete f false) s = .next t ∧ (t.field f).clk.md = .starting ∧ (t.field f).clk.mdTries = 1 ∧ s.tstamp ≤ (t.field f).clk.startAt ∧
          ∀ g, g ≠ f → t.field g = s.field g) ∧
      ((s.field f).clk.mdTries ≠ 0 →
        ∃ t, exec (.mdStartComplete f false) s = .next t ∧ (t.field f).clk.md = .off ∧ t.sd.step = .failed 8 0x5275 ∧ t.faultCount = (s.faultCount + 1) % 2 ^ 32)) ∧
    (∀ f m, f < 72 → (s.field f).clk.cd = .starting → (s.field f).clk.cdAt = some m → m ≤ s.tstamp →
      (∀ q, s.deadField f = false → s.partOf f = some q →
        ∃ t, exec (.cdStartComplete f) s = .next t ∧ (t.field f).clk.cd = .on ∧ (t.field f).clk.restart = false ∧
          (t.field f).clk.repair = (if s.shifts f = [] then .good else .repaired) ∧ (t.field f).clk.rowMap = s.shifts f ∧ (∀ g, g ≠ f → t.field g = s.field g) ∧
          (∀ li, li < 1280 → t.core (coreId f li) =
            { Core.reset with run := .idle, autoAdd := (s.core (coreId f li)).autoAdd, csr := { Csrs.reset with det := s.detMode } }) ∧
          ∀ c, fieldOf c ≠ f → t.core c = s.core c) ∧
      (s.deadField f = true → s.partOf f = none →
        ∃ t, exec (.cdStartComplete f) s = .next t ∧ (t.field f).clk.cd = .off ∧ (t.field f).clk.repair = .degraded ∧ t.cores = s.cores ∧ t.faultCount = s.faultCount) ∧
      (m + 2000000 ≤ s.tstamp → s.partOf f = none →
        ∃ t, exec (.cdStartTimeout f) s = .next t ∧ (t.field f).clk.cd = .off ∧ (t.field f).clk.repair = .degraded ∧ t.cores = s.cores ∧
          t.faultCount = (s.faultCount + 1) % 2 ^ 32 ∧
          ((s.field f).faults.recs.length < 64 → ∃ r, (t.field f).faults.recs = (s.field f).faults.recs ++ [r] ∧ r.cause = 0x5276 ∧ r.id = f)))

/-- R398, R402 to R409, R426, R467 to R469: a press resets compute while it lasts and is counted as it ends, short or, from 4 s of the SD's clock on,
long, with the map read again from flash; one of 60 s masks the button; coolant loss stops compute, recorded as 0x5293 by a running controller, by the
SD's backup timer where it has not; flow restored and cool, the fields start again. Where the spec leaves a choice, the model's: log entries 101 and
105. -/
def Claims.ButtonAndCoolant : Prop :=
  ∀ (s : State), s.sd.state = .on →
    (s.sd.button.state = 0 →
      ∃ t, exec .rstBtnPressBegin s = .next t ∧ Claims.computeReset s t .reset ∧ Claims.sdIs t { s.sd with button := { state := 1, since := s.sd.vtime } }) ∧
    (∀ x, s.sd.button.state = 1 → s.sd.vtime - s.sd.button.since < 6000000000 → s.sd.step = .complete → s.sd.tripLatched = false → s.sd.flowStop = false →
      s.sd.vrStop = false → s.sd.refclkOk = true → s.rd.state = .on →
      ∃ t, exec (.rstBtnPressEnd x) s = .next t ∧ Claims.fieldsStart s t ∧
        Claims.sdIs t { s.sd with
          button := { state := 0, since := 0 }, lastReset := if 400000000 ≤ s.sd.vtime - s.sd.button.since then 2 else 1,
          warmCount := (s.sd.warmCount + 1) % 2 ^ 32 } ∧
        t.fw.map = (if 400000000 ≤ s.sd.vtime - s.sd.button.since then ((Claims.listRead s.flash x).getD []).foldl mapAdd [] else s.fw.map)) ∧
    (s.sd.button.state = 1 → s.sd.button.since + 6000000000 ≤ s.sd.vtime →
      ∃ t, exec .buttonStuck s = .next t ∧ t.sd.button.state = 2 ∧ t.fields = s.fields ∧ t.faultCount = (s.faultCount + 1) % 2 ^ 32) ∧
    (s.sd.flowOk = true →
      (s.frozen = false →
        ∃ t, exec .flowLossDeclare s = .next t ∧ Claims.computeReset s t .off ∧ t.sd.flowStop = true ∧ t.sd.flowOk = false ∧ t.sd.backup = some s.sd.vtime ∧
          t.faultCount = (s.faultCount + 1) % 2 ^ 32 ∧ (s.sdFaults.recs.length < 64 → ∃ r, t.sdFaults.recs = s.sdFaults.recs ++ [r] ∧ r.cause = 0x5293)) ∧
      (s.frozen = true →
        ∃ t, exec .flowLossDeclare s = .next t ∧ t.fields = s.fields ∧ t.cores = s.cores ∧ t.sd.flowStop = true ∧ t.sd.backup = some s.sd.vtime ∧ t.sd.lossOwed = true ∧
          t.faultCount = s.faultCount)) ∧
    (∀ m f k, s.sd.backup = some m → m + 2000000 ≤ s.sd.vtime → (f, k) ∈ s.fields → k.clk.md ≠ .off →
      ∃ t, exec .coolantBackupTimeout s = .next t ∧ Claims.computeReset s t .off ∧ Claims.sdIs t { s.sd with backup := none, flowHw := true }) ∧
    (exec .flowRestoreDeclare s = .next { s with sd := { s.sd with flowOk := true } }) ∧
    (s.sd.flowStop = true → s.sd.flowOk = true → (∀ x, s.tjMax = some x → x < 900) → s.sd.tripLatched = false → s.sd.step = .complete → s.sd.vrStop = false →
      s.sd.button.state = 0 → s.sd.refclkOk = true → s.rd.state = .on →
      ∃ t, exec .coolantRestart s = .next t ∧ Claims.fieldsStart s t ∧ Claims.sdIs t { s.sd with flowStop := false, flowHw := false, backup := none })

/-- R411 to R414, R427, R428: the loss of REFCLK resets compute and the RD, leaves of the PCIe links those that hold, and is recorded as 0x5270, its
return starts the engine again from step 7; a PLL that unlocks restarts every field; a change of F-state begins at its time, or is held while another
runs, or is dropped where the field's CD is not ON, and completes 20 µs after it began, counted. Where the spec leaves a choice, the model's: log
entries 10 and 108. -/
def Claims.ClocksAndFStates : Prop :=
  ∀ (s : State),
    (s.sd.state = .on → s.sd.refclkOk = true → s.rd.state = .on →
      ∃ t, exec .refclkLost s = .next t ∧ Claims.computeReset s t .reset ∧ t.rd.state = .reset ∧ t.rd.sync = .free ∧
        Claims.sdIs t { s.sd with refclkOk := false } ∧ (∀ p, p < 4 → (t.port p).linkUp = true → (s.port p).linkUp = true) ∧
        t.faultCount = (s.faultCount + 1) % 2 ^ 32 ∧ (s.sdFaults.recs.length < 64 → ∃ r, t.sdFaults.recs = s.sdFaults.recs ++ [r] ∧ r.cause = 0x5270)) ∧
    (s.sd.refclkOk = false → s.sd.step = .complete →
      exec .refclkRestore s = .next { s with
        sd := { s.sd with refclkOk := true, coldCds := true, step := .at 7, stepAt := s.sd.vtime }, rd := { s.rd with state := .starting, tries := 0 } }) ∧
    (∀ f, f < 72 → (s.field f).clk.md = .on → s.sd.step = .complete → s.startBlocked = false →
      ∃ t, exec (.pllUnlock f) s = .next t ∧ Claims.fieldsStart s t ∧ t.faultCount = (s.faultCount + 1) % 2 ^ 32 ∧
        (s.sdFaults.recs.length < 64 → ∃ r, t.sdFaults.recs = s.sdFaults.recs ++ [r] ∧ r.cause = 0x5271 ∧ r.id = f)) ∧
    (∃ t, exec .fstateChangeBegin s = .next t ∧ t = { s with fields := t.fields } ∧
      ∀ f g m k, k = (s.field f).clk → k.md = .on → k.nextCmds = [(g, m)] →
        (s.tstamp < m → t.field f = s.field f) ∧
        (m ≤ s.tstamp → k.cd = .on ∨ g = 15 → k.change = none → k.fstate ≠ g →
          t.field f = { s.field f with clk := { k with nextCmds := [], change := some (g, m), top := k.fstate } }) ∧
        (m ≤ s.tstamp → k.cd = .on ∨ g = 15 → k.change ≠ none → t.field f = { s.field f with clk := { k with nextCmds := [], heldReq := some (g, m) } }) ∧
        (m ≤ s.tstamp → k.cd ≠ .on → g ≠ 15 → t.field f = { s.field f with clk := { k with nextCmds := [] } })) ∧
    (∃ t, exec .fstateChangeComplete s = .next t ∧ t.cores = s.cores ∧
      (∀ n, n = (s.fields.filter (fun e => e.2.clk.due s.tstamp)).length → 0 < n →
        Tab.read t.totals 0 0x230401 = (Tab.read s.totals 0 0x230401 + n) % 2 ^ 64) ∧
      ∀ f g m, (s.field f).clk.change = some (g, m) → m + 2000 ≤ s.tstamp →
        (t.field f).clk.fstate = g ∧ (t.field f).cis = (s.field f).cis ∧
          ((s.field f).clk.heldReq = none → (t.field f).clk.change = none) ∧
          ∀ h n, (s.field f).clk.heldReq = some (h, n) → h ≠ g → (t.field f).clk.change = some (h, s.tstamp + 1))

/-! ### The service-processor pair -/

/-- R355, R494, R507, R508, R534: at a millisecond the active closes an epoch with its changed state, which takes in the queued writes: alone it commits
it at once, else it sends it; the standby drops one whose words or CRC-32 are not good, asks for a whole one where its number is not the next, and
else applies it and acknowledges it; the acknowledgement commits it, its writes may be applied and answered, and the drained records of it leave their
queues. Where the spec leaves a choice, the model's: log entries 66 and 79. -/
def Claims.MirrorEpochs : Prop :=
  ∀ (s : State), s.activeUp = true → s.wh.takeover = none →
    (s.wh.changed = true → s.wh.lastClose / 100000 < s.tstamp / 100000 → s.wh.sent = none → s.wh.acked = none →
      (s.wh.standbyOk = false →
        ∃ t, exec .epochClose s = .next t ∧ t.wh.epoch = s.wh.epoch + 1 ∧ t.wh.committed = (s.wh.epoch + 1) % 2 ^ 32 ∧ t.wh.sent = none ∧ t.wh.changed = false ∧
          t.fw.dict = s.fw.dict ∧ t.fw.wq.length = s.fw.wq.length ∧
          ∀ (i : Nat) (r : WriteReq), s.fw.wq[i]? = some r →
            (r.step = .queued → t.fw.wq[i]? = some { r with step := .committed }) ∧
            (∀ k, r.step = .outcome k → k ≤ s.wh.epoch + 1 → t.fw.wq[i]? = some { r with step := .settled })) ∧
      (s.wh.standbyOk = true →
        ∃ t, exec .epochClose s = .next t ∧ t = { s with fw := t.fw, wh := t.wh } ∧ t.wh.epoch = s.wh.epoch + 1 ∧ t.wh.committed = s.wh.committed ∧
          t.wh.sent = some (s.wh.epoch + 1, t.fw) ∧
          ∀ (i : Nat) (r : WriteReq), s.fw.wq[i]? = some r →
            t.fw.wq[i]? = some (if r.step = .queued then { r with step := .mirrored (s.wh.epoch + 1) } else r))) ∧
    (∀ n x, s.wh.sent = some (n, x) → (s.wellhead s.wh.other).up = true →
      ∀ w : EpochWords,
      (w.good = false → exec (.epochReceive w) s = .next { s with wh := { s.wh with sent := none } }) ∧
      (w.good = true → w.number ≠ n % 2 ^ 32 ∨ n ≠ s.wh.applied + 1 →
        exec (.epochReceive w) s = .next { s with wh := { s.wh with sent := none, resync := true, standbyOk := false } }) ∧
      (w.good = true → w.number = n % 2 ^ 32 → n = s.wh.applied + 1 →
        ∃ t, exec (.epochReceive w) s = .next t ∧ t = { s with wh := t.wh } ∧ t.wh.mirror = x ∧ t.wh.applied = n ∧ t.wh.acked = some n ∧ t.wh.sent = none)) ∧
    (∀ n, s.wh.acked = some n →
      ∃ t, exec .epochAck s = .next t ∧ t.wh.committed = n % 2 ^ 32 ∧ t.wh.acked = none ∧ t.wh.lastAck = s.sd.vtime ∧ t.fw.dict = s.fw.dict ∧
        t.rdFaults.recs = s.rdFaults.recs.filter (fun r => !s.wh.mirror.drained.contains (72, r.seq)) ∧
        t.sdFaults.recs = s.sdFaults.recs.filter (fun r => !s.wh.mirror.drained.contains (73, r.seq)) ∧
        ∀ (i : Nat) (r : WriteReq) k, s.fw.wq[i]? = some r → r.step = .mirrored k → k ≤ n → t.fw.wq[i]? = some { r with step := .committed })

/-- R14, R355, R357, R422, R423, R509 to R514: the token moves to a standby in step, which goes on from the last epoch it applied; with none both are down
and SD_OPERATIONAL is 0. The takeover is recorded and counted, writes in no committed epoch and writes already answered are dropped, channels that
wait are answered. A standby unseen for 2.5 ms is lost, restarted and brought back by a whole epoch; both down, both are restarted each second. Where
the spec leaves a choice, the model's: log entries 29, 56, 79, 104 and 105. -/
def Claims.TokenMoves : Prop :=
  ∀ (s : State),
    (∀ cmd, cmd = .heartbeatLossTimeout ∧ s.wh.takeover = none ∧ (s.wellhead s.wh.active).lastBeat + 250000 ≤ s.sd.vtime ∨
        (cmd = .wellheadWatchdogExpiry ∨ cmd = .wellheadMemoryError) ∧ s.activeUp = true →
      (s.wh.standbyOk = true → s.wh.mirror.drained = [] →
        ∃ t, exec cmd s = .next t ∧ t.wh.active = s.wh.other ∧ t.wh.takeover = some s.sd.vtime ∧ t.wh.standbyOk = false ∧ (t.wellhead s.wh.active).up = false ∧
          t.fw = { s.wh.mirror with
            kstep := s.fw.kstep, wanted := s.fw.wanted, gdyn := s.fw.gdyn, dict := s.flash.kept s.wh.mirror.dict, wq := t.fw.wq } ∧
          t.fw.wq.length = s.wh.mirror.wq.length ∧ (∀ (i : Nat) (r : WriteReq), s.wh.mirror.wq[i]? = some r → ∃ l, t.fw.wq[i]? = some { r with old := l }) ∧ t.fields = s.fields ∧ t.cores = s.cores ∧ t.net = s.net ∧ t.parts = s.parts)) ∧
    (s.activeUp = true → s.wh.standbyOk = false →
      ∀ cmd, cmd = .wellheadWatchdogExpiry ∨ cmd = .wellheadMemoryError →
        ∃ t, exec cmd s = .next t ∧ t.wh.a.up = false ∧ t.wh.b.up = false ∧ t.sd = { s.sd with operational := false } ∧ t.wh.bothDownAt = some s.sd.vtime ∧
          t.fields = s.fields ∧ t.cores = s.cores ∧ t.fw = s.fw) ∧
    (∀ m, s.wh.takeover = some m → (s.wellhead s.wh.other).heldOff = false → s.sd.lossOwed = false → s.sd.degrOwed = [] →
      ∃ t, exec .wellheadTakeover s = .next t ∧ t.wh.takeover = none ∧ t.fw.usdo = none ∧ t.faultCount = (s.faultCount + 1) % 2 ^ 32 ∧
        t.fw.wq = (s.fw.wq.filter (fun r => !decide (r.step = .queued) && decide (s.wh.answered < r.id))).map WriteReq.takeOver ∧
        t.setting 0x2010 4 = (Tab.read s.flash.stored 0 (objKey 0x2010 4) + 1) % 2 ^ 32 ∧
        t.setting 0x2010 5 = s.tstamp ∧
        (∀ p c, p < 4 → c < 4 → ((s.port p).chan c).state = 1 → (∀ r ∈ s.fw.wq, r.who = .mailbox p c → r.step = .queued ∨ r.id ≤ s.wh.answered) → ((t.port p).chan c).state = 2) ∧
        (s.sdFaults.recs.length < 64 → ∃ r, t.sdFaults.recs = s.sdFaults.recs ++ [r] ∧ r.cause = 0x52A0)) ∧
    (∀ w, w < 2 → (s.wellhead w).up = true →
      ∃ t, exec (.wellheadHeartbeat w) s = .next t ∧ t = { s with wh := t.wh } ∧ t.wellhead w = { s.wellhead w with lastBeat := s.sd.vtime }) ∧
    (s.wh.standbyOk = true → s.activeUp = true → s.wh.takeover = none → (s.wellhead s.wh.other).lastBeat + 250000 ≤ s.sd.vtime → s.wh.lastAck + 250000 ≤ s.sd.vtime →
      (s.wellhead s.wh.other).failures = [] → (s.wellhead s.wh.other).heldOff = false →
      ∃ t, exec .standbyLost s = .next t ∧ t.wh.standbyOk = false ∧ (t.wellhead s.wh.other).up = false ∧ (t.wellhead s.wh.other).booting = true ∧
        (t.wellhead s.wh.other).failures = [s.sd.compTime] ∧ t.wh.active = s.wh.active ∧ t.faultCount = (s.faultCount + 1) % 2 ^ 32) ∧
    (∀ w image, w < 2 → w ≠ s.wh.active → (s.wellhead w).booting = true → s.activeUp = true → s.sd.step ≠ .at 1 → s.sd.step ≠ .at 2 → crc32 image.code = image.crc →
      ∃ t, exec (.wellheadRestartBoot w image) s = .next t ∧ t = { s with wh := t.wh } ∧ (t.wellhead w).up = true ∧ (t.wellhead w).booting = false ∧ t.wh.resync = true) ∧
    (∀ w : EpochWords, s.wh.resync = true → (s.wellhead s.wh.other).up = true → s.activeUp = true → s.wh.takeover = none → w.good = true →
      w.number = (s.wh.epoch + 1) % 2 ^ 32 →
      ∃ t, exec (.standbyResyncComplete w) s = .next t ∧ t.wh.standbyOk = true ∧ t.wh.resync = false ∧ t.wh.epoch = s.wh.epoch + 1 ∧ t.wh.applied = s.wh.epoch + 1 ∧
        t.wh.mirror = { t.fw with drained := [] } ∧ t.fw.dict = s.fw.dict) ∧
    (∀ m, s.wh.bothDownAt = some m → s.sd.state = .on → m + 100000000 ≤ s.sd.vtime →
      ∃ t, exec .wellheadBootRetry s = .next t ∧ t.wh.bothDownAt = none ∧
        ∀ w, w < 2 → t.wellhead w = if (s.wellhead w).heldOff then s.wellhead w else { s.wellhead w with up := false, booting := true, failed := false }) ∧
    (∀ w image x, w < 2 → s.wh.a.up = false → s.wh.b.up = false → (s.wellhead w).booting = true → s.sd.step = .complete → s.sd.step6 = true → s.sd.lossOwed = false →
      s.sd.degrOwed = [] → crc32 image.code = image.crc → (Claims.objsRead s.flash x).isSome = true →
      ∃ t, exec (.wellheadPairLost w image x) s = .next t ∧ t.wh.active = w ∧ (t.wellhead w).up = true ∧ t.sd = { s.sd with operational := true } ∧ t.fw.wq = [] ∧
        t.fw.map = s.fw.map ∧ t.fields = s.fields ∧ t.cores = s.cores ∧ t.faultCount = (s.faultCount + 1) % 2 ^ 32 ∧
        (s.sdFaults.recs.length < 64 → ∃ r, t.sdFaults.recs = s.sdFaults.recs ++ [r] ∧ r.cause = 0x52A3))

/-- R40, R46, R47, R384, R494: a drain writes every record not yet drained to FAULT_LOG, the latest 127 kept, in order of TSTAMP, queue and SEQ, and leaves it in its queue until the epoch commits; firmware adds the position of a lost core
to the runtime list, once. Where the spec leaves a choice, the model's: log entry 29. -/
def Claims.DrainsAndRepairs : Prop :=
  ∀ (s : State), s.serving = true →
    (s.fw.log.length ≤ 127 →
      ∃ t, exec .faultQueueDrain s = .next t ∧ t.fields = s.fields ∧ t.rdFaults = s.rdFaults ∧ t.sdFaults = s.sdFaults ∧
        t.fw.writeCount = s.fw.writeCount + s.undrained.length ∧
        t.fw.log = (s.fw.log ++ s.undrained).drop (s.fw.log.length + s.undrained.length - 127) ∧
        t.fw.drained = s.fw.drained ++ s.undrained.map (fun r => (r.queue, r.seq)) ∧
        ∀ l r, s.undrained = l ++ [r] → t.setting 0x2901 1 = r.cause ∧ t.setting 0x2901 5 = r.ts) ∧
    (∀ c v, c < nCores → (s.core c).autoAdd = some v → s.setting 0x2110 5 = 1 → s.flash.list.length < 256 → s.repairKnown v = false →
      ∃ t, exec (.repairAutoAddEntry c) s = .next t ∧ t.flash = Claims.withList s.flash (s.flash.list ++ [BitVec.ofNat 32 v]) ∧
        t.core c = { s.core c with autoAdd := none } ∧ t.fields = s.fields)

/-! ### Thermal protection, power and the controller -/

/-- The record last added to a queue: its cause, scope and ID, if the queue had room (R491, R492). -/
def Claims.lastRecord (old new : FaultQueue) (cause scope id ts : Nat) : Prop :=
  old.recs.length < 64 → ∃ r, new.recs = old.recs ++ [r] ∧ r.cause = cause ∧ r.scope = scope ∧ r.id = id ∧ r.ts = ts

/-- R459 to R465: a conversion in range is kept; at 90.0 °C a running controller enters the warning state, at 100.0 the SD forces every running field to F15, at 110.0 it trips and compute is
reset for good; a value out of range, or 10 µs without one, fails the sensor. Each is recorded once, a field's in its own queue but for the trip. Where the spec leaves a choice, the model's: log entries 29 and 57. -/
def Claims.SensorThresholds : Prop :=
  ∀ (s : State) (i : Nat), i < 648 → i ∉ s.therm.failed → s.sensorOn i = true → s.sd.state = .on →
    (∀ x : Int, -400 ≤ x → x < 900 →
      ∃ t, exec (.sensorConversion i x) s = .next t ∧ t = { s with therm := t.therm } ∧ t.therm.state = s.therm.state ∧ t.therm.failed = s.therm.failed ∧
        Tab.read t.therm.temp (0, 0) i = (x, s.sd.vtime) ∧ ∀ j, j ≠ i → Tab.read t.therm.temp (0, 0) j = Tab.read s.therm.temp (0, 0) j) ∧
    (∀ x : Int, 900 ≤ x → x < 1000 → s.therm.state = 0 → s.serving = true →
      ∃ t, exec (.sensorConversion i x) s = .next t ∧ t.therm.state = 1 ∧ t.cores = s.cores ∧ t.faultCount = (s.faultCount + 1) % 2 ^ 32 ∧
        Claims.lastRecord (s.field (i / 9)).faults (t.field (i / 9)).faults 0x5290 2 (i / 9) s.tstamp ∧ ∀ f, (t.field f).clk = (s.field f).clk) ∧
    (∀ x : Int, 1000 ≤ x → x < 1100 → s.therm.state ≠ 2 →
      ∃ t, exec (.sensorConversion i x) s = .next t ∧ t.therm.state = 2 ∧ t.cores = s.cores ∧ t.faultCount = (s.faultCount + 1) % 2 ^ 32 ∧
        Claims.lastRecord (s.field (i / 9)).faults (t.field (i / 9)).faults 0x5291 2 (i / 9) s.tstamp ∧
        ∀ f k, k = (s.field f).clk → k.md = .on → (t.field f).clk = { k with
          nextCmds := [], heldReq := none, top := k.fastest s.tstamp, change := if k.fstate = 15 ∧ k.change = none then none else some (15, s.tstamp) }) ∧
    (∀ x : Int, 1100 ≤ x → x ≤ 1500 → s.therm.state = 2 → s.sd.tripLatched = false →
      ∃ t, exec (.sensorConversion i x) s = .next t ∧ Claims.computeReset s t .off ∧ Claims.sdIs t { s.sd with tripLatched := true } ∧
        t.setting 0x2492 2 = (Tab.read s.flash.stored 0 (objKey 0x2492 2) + 1) % 2 ^ 32 ∧ t.faultCount = (s.faultCount + 1) % 2 ^ 32 ∧
        Claims.lastRecord s.sdFaults t.sdFaults 0x5292 2 (i / 9) s.tstamp) ∧
    (∀ cmd : Instr, (∃ x : Int, cmd = .sensorConversion i x ∧ (x < -400 ∨ 1500 < x)) ∨
        cmd = .sensorFault i ∧ ((∃ x m, s.therm.temp.find? (fun e => decide (e.1 = i)) = some (i, x, m) ∧ m + 1000 ≤ s.sd.vtime) ∨
          s.therm.temp.find? (fun e => decide (e.1 = i)) = none ∧ Tab.read s.therm.onAt 0 (sensorDomain i) + 1000 ≤ s.sd.vtime) →
      ((fieldSensors (i / 9)).filter (fun j => s.therm.failed.contains j)).length < 2 →
      ∃ t, exec cmd s = .next t ∧ t.therm.failed = s.therm.failed ++ [i] ∧ t.therm.state = s.therm.state ∧ t.faultCount = (s.faultCount + 1) % 2 ^ 32 ∧
        Claims.lastRecord (s.field (i / 9)).faults (t.field (i / 9)).faults 0x5295 2 (i / 9) s.tstamp)

/-- R461 to R463, R470 to R472: with every sensor below 87.0 °C for 10 ms the warning ends and k is 0; below 95.0 for 10 ms the forced state becomes the warning; k moves to derate_step of TJ_MAX at most once a millisecond;
an hourly slack check keeps what it found, and two in a row below 8.0 % raise the field's trim by 5 mV. Where the spec leaves a choice, the model's: log entry 57. -/
def Claims.ThermalRecovery : Prop :=
  ∀ (s : State),
    (∀ m, s.serving = true → s.therm.state = 1 → s.therm.below87 = some m → m + 1000000 ≤ s.sd.vtime → s.anySensor 870 = false →
      ∃ t, exec .thermWarnClear s = .next t ∧ t.therm = { s.therm with state := 0 } ∧ t.fw = { s.fw with kstep := 0 } ∧ t.fields = s.fields) ∧
    (∀ m, s.therm.state = 2 → s.therm.below95 = some m → m + 1000000 ≤ s.sd.vtime → s.anySensor 950 = false → s.therm.failed = [] →
      ∃ t, exec .thermForcedClear s = .next t ∧ t.therm = { s.therm with state := 1 } ∧ t.cores = s.cores ∧ t.fw = s.fw ∧
        ∀ f, s.partOf f = none → t.field f = s.field f) ∧
    (∀ x k, s.serving = true → s.therm.state ≠ 0 → s.tjMax = some x → k = derateStep x s.fw.kstep → k ≠ s.fw.kstep → s.therm.lastK = 0 →
      ∃ t, exec .derateStep s = .next t ∧ t.fw = { s.fw with kstep := k } ∧ t.therm = { s.therm with lastK := s.sd.vtime + 1 } ∧ t.fields = s.fields) ∧
    (∀ f slack, f < 72 → slack < 1024 → s.serving = true → s.cdOn f = true → Tab.read s.therm.checked 0 f ≠ s.powerHours + 1 →
      (80 ≤ slack →
        ∃ t, exec (.slackCheck f slack) s = .next t ∧ t = { s with therm := t.therm } ∧ Tab.read t.therm.slack 0 f = slack ∧ f ∉ t.therm.lowOnce ∧
          Tab.read t.therm.checked 0 f = s.powerHours + 1) ∧
      (slack < 80 → f ∉ s.therm.lowOnce →
        ∃ t, exec (.slackCheck f slack) s = .next t ∧ t = { s with therm := t.therm } ∧ Tab.read t.therm.slack 0 f = slack ∧ f ∈ t.therm.lowOnce) ∧
      (slack < 80 → f ∈ s.therm.lowOnce → s.setting 0x24B0 (f + 1) < 35 →
        ∃ t, exec (.slackCheck f slack) s = .next t ∧ t.setting 0x24B0 (f + 1) = s.setting 0x24B0 (f + 1) + 5 ∧ f ∈ t.therm.trimWait ∧ t.fields = s.fields ∧
          t.faultCount = s.faultCount))

/-- R433, R434, R440, R452, R453: a rail's reading is kept, what the master sends for it leaving on PMBus; a warning derates the cap, for 50 ms after the
last; a fault is recorded once, an output that is off resets compute; two failed transactions are recorded. Above 20,000 W the ceiling guard sets
bubbles 48 and filler 0 everywhere, and gives the held values back 20 µs later below 19,000 W. Stretches are counted, and one of 10 µs is a severe
droop. Where the spec leaves a choice, the model's: log entries 26, 97 and 105. -/
def Claims.RailsGuardAndDroops : Prop :=
  ∀ (s : State),
    (∀ r, r < 64 → s.busMaster = true →
      (∀ w : Nat, ∃ t, exec (.pmbusPoll [{ rail := r, pout := .got w, status := .unread }]) s = .next t ∧
        t = { s with power := t.power, pmbOut := s.pmbOut ++ railCmds r [0x96] } ∧ t.rail r = { s.rail r with pout := w, at' := s.tstamp } ∧
        (∀ r', r' ≠ r → t.rail r' = s.rail r') ∧ t.power.derate = s.power.derate) ∧
      (∀ cmd, cmd ∈ [Instr.pmbusPoll [{ rail := r, pout := .failed, status := .unread }], .pmbusPoll [{ rail := r, pout := .unread, status := .failed }],
          .pmbAlert [(r, .failed)]] →
        ∃ t, exec cmd s = .next t ∧ t.power = s.power ∧ t.faultCount = (s.faultCount + 1) % 2 ^ 32 ∧ Claims.lastRecord s.sdFaults t.sdFaults 0x5284 0 0 s.tstamp) ∧
      (∀ x cmd, cmd = .pmbusPoll [{ rail := r, pout := .unread, status := .got x }] ∨ cmd = .pmbAlert [(r, .got x)] →
        (x.fault = false → x.off = false →
          ∃ t, exec cmd s = .next t ∧ t = { s with power := t.power, pmbOut := t.pmbOut } ∧ t.rail r = { s.rail r with fault := false } ∧
            (∀ r', r' ≠ r → t.rail r' = s.rail r') ∧ t.power.derate = if x.warn then some s.sd.vtime else s.power.derate) ∧
        (x.off = true → s.sd.vrStop = false → (s.rail r).fault = false →
          ∃ t, exec cmd s = .next t ∧ Claims.computeReset s t .off ∧ Claims.sdIs t { s.sd with vrStop := true } ∧ t.rail r = { s.rail r with fault := true } ∧
            t.faultCount = (s.faultCount + 1) % 2 ^ 32 ∧ Claims.lastRecord s.sdFaults t.sdFaults 0x5280 0 0 s.tstamp))) ∧
    (∀ m, s.serving = true → s.power.derate = some m → m + 5000000 ≤ s.sd.vtime →
      exec .vrDerateClear s = .next { s with power := { s.power with derate := none } }) ∧
    (s.power.guard = none → s.sd.state = .on → 20000 < s.power10 →
      ∃ t, exec .ceilingGuardEngage s = .next t ∧ t.power.guard = some s.tstamp ∧ t.faultCount = (s.faultCount + 1) % 2 ^ 32 ∧ t.cores = s.cores ∧
        (∀ f, f < 72 → t.field f = { s.field f with clk := { (s.field f).clk with bub := 48, duty := 0 } } ∧
          Tab.read t.power.saved 0 f = (s.field f).clk.bub * 128 + (s.field f).clk.duty) ∧
        Claims.lastRecord s.sdFaults t.sdFaults 0x5282 0 0 s.tstamp) ∧
    (∀ m, s.power.guard = some m → m + 2000 ≤ s.tstamp → s.power10 < 19000 →
      ∃ t, exec .ceilingGuardRelease s = .next t ∧ t.power.guard = none ∧ t.faultCount = s.faultCount ∧
        ∀ f, f < 72 → (t.field f).clk.bub = Tab.read s.power.saved 0 f / 128 ∧ (t.field f).clk.duty = Tab.read s.power.saved 0 f % 128) ∧
    (∀ f, f < 72 →
      ((s.field f).clk.md = .on → (s.field f).clk.stretch = none →
        ∃ t, exec (.droopStretchBegin f) s = .next t ∧ t.field f = { s.field f with clk := { (s.field f).clk with stretch := some s.tstamp, severe := false } } ∧
          Tab.read t.power.droops 0 f = (Tab.read s.power.droops 0 f + 1) % 2 ^ 32 ∧ ∀ g, g ≠ f → t.field g = s.field g) ∧
      (∃ t, exec (.droopStretchEnd f) s = .next t ∧ t = { s with fields := t.fields } ∧ (∀ g, g ≠ f → t.field g = s.field g) ∧
        t.field f = { s.field f with clk := { (s.field f).clk with stretch := none, severe := false } }) ∧
      (∀ m, (s.field f).clk.stretch = some m → (s.field f).clk.severe = false → m + 1000 ≤ s.tstamp →
        ∃ t, exec (.droopSevere f) s = .next t ∧ (t.field f).clk = { (s.field f).clk with severe := true } ∧ t.faultCount = (s.faultCount + 1) % 2 ^ 32 ∧
          Tab.read t.power.droopTill 0 f = s.tstamp + 100000 ∧ Claims.lastRecord (s.field f).faults (t.field f).faults 0x5281 2 f s.tstamp))

/-- R429, R430, R432, R442, R445, R448: a microsecond accounted adds the one before to each FIELD_ENERGY and takes the field's dynamic energy, of the
events its cores and units counted, and static energy in units of 1/16 µJ; with bubbles switched off a period leaves none; an epoch moves L(p, c) an
eighth of the way to what it measured, and an idle partition wants F15. Where the spec leaves a choice, the model's: log entries 51, 52, 53 and 58. -/
def Claims.EstimatorAndController : Prop :=
  ∀ (s : State),
    (∀ acts : List Activity, s.sd.state = .on → s.sd.refclkOk = true → s.rd.state = .on → 100 * (s.power.ticks + 1) ≤ s.tstamp →
      ∃ t, exec (.estimatorTick acts []) s = .next t ∧ t.power.ticks = s.power.ticks + 1 ∧ t.tstamp = s.tstamp ∧
        (∀ c, t.core c = { s.core c with held := [], tagged := (s.core c).counters }) ∧
        ∀ f, f < 72 → Tab.read t.rd.energy 0 f = (Tab.read s.rd.energy 0 f + Tab.read s.rd.pend 0 f) % 2 ^ 64 ∧
          Tab.read t.rd.pend 0 f = (Tab.read s.power.frac 0 f +
            (dynamicAt s.fw.gdyn (s.supplyNow f) ((s.fieldWork acts f).tagged.foldl (fun n e => n + e.2) 0) + s.staticNow f * 1000) / 62500).floor.toNat) ∧
    (s.serving = true → s.sd.refclkOk = true → s.power.periodAt < s.tstamp / 1000 → s.setting 0x2401 1 = 0 → s.power.guard = none →
      ∃ t, exec .controllerPeriod s = .next t ∧ t.power.periodAt = s.tstamp / 1000 ∧ t.cores = s.cores ∧
        (∀ f, s.partOf f = none → t.field f = s.field f) ∧
        ∀ f q, q < 16 → (s.part q).enabled = true → f ∈ s.partFields q → (t.field f).clk.bub = 0) ∧
    (s.serving = true → s.sd.refclkOk = true → s.power.epochAt < s.tstamp / 10000 →
      ∃ t, exec .controllerEpoch s = .next t ∧ t.power.epochAt = s.tstamp / 10000 ∧ t.cores = s.cores ∧
        ∀ q, q < 16 → (s.part q).enabled = true →
          (∀ c us x, c < 16 → us = Tab.read s.power.lastEpoch.taskUs 0 (q * 16 + c) → us ≠ 0 →
            x = Tab.read s.power.lastEpoch.energy 0 (q * 16 + c) / (us : Rat) / 1000 →
            t.learned q c = if s.learned q c = 0 then x else s.learned q c + (x - s.learned q c) / 8) ∧
          ((s.part q).graph = .idle → s.fixed q = false → s.drooped q = false → Tab.read t.fw.wanted 15 q = 15))

/-- R435, R436, R446, R450, R518: a calibration window within 10 % scales the dynamic estimate by its error, another is refused with 0x5283; a field without a quiet window for 100 ms is given one; a hint closes at its expiry; a core
asleep in AWAIT in an armed field runs filler, and after 200 µs lowers its duty by one every 2 µs. Where the spec leaves a choice, the model's: log entries 50 and 53. -/
def Claims.CalibrationHintsFiller : Prop :=
  ∀ (s : State),
    (∀ w, s.serving = true → s.sd.refclkOk = true → s.power.lastCal = some w → w.skip = false → w.meas ≠ 0 → w.est ≠ w.static →
      (max (-32768) (min 32767 ((w.est - w.meas) / w.meas * 1000 + 1 / 2 : Rat).floor)).natAbs ≤ 100 →
      ∃ t, exec .calibration s = .next t ∧ t.fw.gdyn = s.fw.gdyn * (w.meas - w.static) / (w.est - w.static) ∧ t.power = { s.power with lastCal := none, rejecting := false } ∧
        t.setting 0x2430 1 = (s.setting 0x2430 1 + 1) % 2 ^ 32 ∧ t.setting 0x2430 2 = s.tstamp ∧ t.faultCount = s.faultCount) ∧
    (∀ w, s.serving = true → s.sd.refclkOk = true → s.power.lastCal = some w → w.skip = false → w.meas ≠ 0 → w.est ≠ w.static → s.power.rejecting = false →
      100 < (max (-32768) (min 32767 ((w.est - w.meas) / w.meas * 1000 + 1 / 2 : Rat).floor)).natAbs →
      ∃ t, exec .calibration s = .next t ∧ t.fw.gdyn = s.fw.gdyn ∧ t.power.lastCal = none ∧ t.faultCount = (s.faultCount + 1) % 2 ^ 32 ∧
        Claims.lastRecord s.sdFaults t.sdFaults 0x5283 0 0 s.tstamp) ∧
    (∀ f, f < 72 → s.serving = true → s.cdOn f = true → (s.field f).clk.lastQuiet + 10000000 ≤ s.tstamp → (s.field f).clk.change = none → s.power.guard = none →
      s.power.lastForce ≠ s.tstamp / 1000 + 1 →
      ∃ t, exec (.quietWindowForce f) s = .next t ∧ t.field f = { s.field f with clk := { (s.field f).clk with lastQuiet := s.tstamp } } ∧
        t.setting 0x2430 4 = (s.setting 0x2430 4 + 1) % 2 ^ 32 ∧ t.power.lastForce = s.tstamp / 1000 + 1) ∧
    (∀ p c, p < 16 → ∃ t, exec (.hintExpiry p c) s = .next t ∧ t = { s with parts := t.parts } ∧ (∀ q, q ≠ p → t.part q = s.part q) ∧
      ∀ h, h ∈ (t.part p).hints ↔ h ∈ (s.part p).hints ∧ ¬ (h.pclass = c ∧ h.expiry ≠ 0 ∧ h.expiry ≤ s.tstamp)) ∧
    (∀ c b, c < nCores → (s.core c).run = .sleepSync → (s.core c).blocked = some b → b.op = .await ∨ b.op = .arriveAwait → s.armed (fieldOf c) = true →
      ∃ t, exec (.fillerEnter c) s = .next t ∧ OnlyCore s t c ∧ (t.core c).run = .filler ∧ (t.core c).fillerFrom = s.tstamp ∧ (t.core c).fillerCut = 0 ∧
        (t.core c).regs = (s.core c).regs ∧ (t.core c).blocked = some b) ∧
    (∀ c, c < nCores → (s.core c).run = .filler → (s.core c).fillerCut < (s.field (fieldOf c)).clk.duty →
      (s.core c).fillerFrom + 20000 + 200 * (s.core c).fillerCut ≤ s.tstamp →
      ∃ t, exec (.fillerDutyDecay c) s = .next t ∧ OnlyCore s t c ∧ t.core c = { s.core c with fillerCut := (s.core c).fillerCut + 1 })

/-! ### Scrubbing, statistics and the trace stream -/

/-- R131, R515 to R517: a due row of a core's SRAM or store, at once or forced after 256 CCLK, and a due slot of a Cistern, are read and the next falls due an interval later; memory keeps its bytes; an uncorrectable word found is counted
and recorded once. Where the spec leaves a choice, the model's: log entry 54. -/
def Claims.ScrubbersRead : Prop :=
  ∀ (s : State),
    (∀ c bank x cmd, c < nCores → bank < 10 → s.scrubs c bank = true → x = Tab.read (s.core c).scrub Scrub.reset bank → x.row < 511 →
      (s.core c).ue = [] → (s.core c).ce = [] →
      ∀ found, cmd = .sramScrubRow c bank found ∧ x.due ≤ s.tstamp ∨
        cmd = .forcedScrubCycle c bank found ∧ x.due ≠ 0 ∧ x.due + 512 / (24 - (s.field (fieldOf c)).clk.fstate) ≤ s.tstamp →
      (found = [] →
        ∃ t, exec cmd s = .next t ∧ OnlyCore s t c ∧ t.core c = { s.core c with scrub := (t.core c).scrub } ∧
          (Tab.read (t.core c).scrub Scrub.reset bank).row = x.row + 1 ∧
          (Tab.read (t.core c).scrub Scrub.reset bank).due = (if x.due = 0 then s.tstamp else x.due) + 195300) ∧
      (∀ j w, found = [(j, true)] → j < 8 → w = bank * 4096 + 8 * x.row + j → (s.field (fieldOf c)).ueTab = [] →
        ∃ t, exec cmd s = .next t ∧ (t.core c).ue = [w] ∧ (t.core c).sram = (s.core c).sram ∧ (t.core c).regs = (s.core c).regs ∧
          t.faultCount = (s.faultCount + 1) % 2 ^ 32 ∧ Tab.read t.totals 0 2 = (Tab.read s.totals 0 2 + 1) % 2 ^ 64 ∧
          (t.field (fieldOf c)).ueTab = [(.sram, c, w)] ∧
          Claims.lastRecord (s.field (fieldOf c)).faults (t.field (fieldOf c)).faults 0x3183 2 (fieldOf c) s.tstamp)) ∧
    (∀ f x, f < 72 → (s.field f).clk.md = .on → x = (s.field f).cis.scrub → x.due ≤ s.tstamp → x.row < 65535 → (s.field f).cis.ue = [] → (s.field f).cis.ce = [] →
      (∃ t, exec (.tableScrubSlot f []) s = .next t ∧ t = { s with fields := t.fields } ∧ (∀ g, g ≠ f → t.field g = s.field g) ∧
        (t.field f).cis.mem = (s.field f).cis.mem ∧ (t.field f).cis.nodes = (s.field f).cis.nodes ∧ (t.field f).cis.scrub.row = x.row + 1 ∧
        (t.field f).cis.scrub.due = (if x.due = 0 then s.tstamp else x.due) + 1500) ∧
      (∀ j, j < 8 → (s.field f).cis.isNode x.row = false → (s.field f).ueTab = [] →
        ∃ t, exec (.tableScrubSlot f [(j, true)]) s = .next t ∧ (t.field f).cis.ue = [8 * x.row + j] ∧ (t.field f).cis.nodes = (s.field f).cis.nodes ∧
          t.faultCount = (s.faultCount + 1) % 2 ^ 32 ∧ (t.field f).cis.err = (s.field f).cis.err ||| 4 ∧
          Claims.lastRecord (s.field f).faults (t.field f).faults 0x3141 2 f s.tstamp))

/-- R521, R526 to R531: an interval's end gives every running field of the partition a snapshot, two records a core and one of the field; what is not sent 1 ms later is dropped and counted; staged records are written to the ring in order while it has room,
PROD behind them; CONS is taken as the host answers it, and a failed read disables the destination; dropped records leave one DROP record. Where the spec leaves a choice, the model's: log entries 55 and 60. -/
def Claims.TraceStream : Prop :=
  ∀ (s : State) (p : Nat) (d : TraceDest), p < 16 → d = s.traceDest p →
    (∀ ts, (s.part p).enabled = true → s.rd.state = .on → ts = s.tstamp / (100000 * 2 ^ bits d.cfg 14 12) * (100000 * 2 ^ bits d.cfg 14 12) → d.statsAt < ts →
      ∃ t, exec (.statsIntervalEnd p) s = .next t ∧ t.traceDest p = { d with statsAt := ts, newBit := false } ∧ t.hostOut = s.hostOut ∧
        ∀ f ∈ s.partFields p, (s.field f).clk.md = .on → (t.field f).obs.partialIv = false ∧
          (d.en = true → bit (s.setting 0x2A00 (p + 1)) 1 = true → (s.field f).obs.stats = none →
            ∃ l, (t.field f).obs.stats = some { endTs := ts, recs := l } ∧ l.length = 2 * (s.statCores f).length + 1)) ∧
    (∀ f x, f < 72 → (s.field f).obs.stats = some x → s.partOf f = some p → x.endTs + 100000 ≤ s.tstamp →
      ∃ t, exec (.statsEmissionWindowEnd f) s = .next t ∧ (t.field f).obs.stats = none ∧ (t.field f).obs.dropped = (s.field f).obs.dropped + x.recs.length ∧
        (t.part p).traceDropped = ((s.part p).traceDropped + x.recs.length) % 2 ^ 32) ∧
    (∀ r, d.en = true → s.rd.state = .on → (∀ f ∈ s.partFields p, (s.field f).clk.md ≠ .on) → d.staging = [r] → d.held < d.size → s.portUp (d.cfg % 4) = true →
      ∃ t, exec (.traceRecordWrite p) s = .next t ∧ t.traceDest p = { d with staging := [], index := (d.index + 1) % 2 ^ 32 } ∧
        t.hostOut = s.hostOut ++ [.write (d.cfg % 4) (d.base + 32 * (d.index % d.size)) (toBytes 8 r.w0 ++ toBytes 8 r.w1 ++ toBytes 8 r.w2 ++ toBytes 8 r.w3)]) ∧
    (d.en = true → d.prod ≠ d.index → s.portUp (d.cfg % 4) = true →
      ∃ t, exec (.traceProdWrite p) s = .next t ∧ t.traceDest p = { d with prod := d.index } ∧
        t.hostOut = s.hostOut ++ [.write (d.cfg % 4) d.hdr (toBytes 4 d.index)]) ∧
    (d.en = true → d.consAt + 10000 ≤ s.tstamp → s.portUp (d.cfg % 4) = true →
      (∀ v, v < 2 ^ 32 → ∃ t, exec (.traceConsRead p (.inr v)) s = .next t ∧ t.traceDest p = { d with cons := v, consAt := s.tstamp } ∧ t.fields = s.fields) ∧
      ∀ e, ∃ t, exec (.traceConsRead p (.inl e)) s = .next t ∧ (t.traceDest p).en = false ∧ (t.traceDest p).readErr = true ∧ (t.traceDest p).staging = []) ∧
    (d.en = true → s.setting 0x2A00 (p + 1) % 4 ≠ 0 → 0 < d.dropped → d.staging.length < 1024 →
      ∃ t r, exec (.traceDrop p 0x7F) s = .next t ∧ t.traceDest p = { d with staging := d.staging ++ [r], dropped := 0 } ∧ t.fields = s.fields ∧
        r.w2 = s.tstamp ∧ r.w3 = d.dropped % 2 ^ 32 ∧ bits r.w0 63 59 = 0x1E)

/-! ### The whole machine -/

/-- R13 and R357 aside, commands are taken first in, first out: a step carries out the command at the front of the queue on the state with the queue's rest; an empty queue lets
one period of REFCLK pass (the model's choices of log entries 1 and 2). -/
def Claims.StepRunsFrontCommand : Prop :=
  (∀ (s : State) (c : Instr) (rest : List Instr), s.pending = c :: rest → step s = exec c { s with pending := rest }) ∧
  (∀ s : State, s.pending = [] → step s = .next (s.tick 1))

/-- No command adds to the queue or takes from it, so the queue after a step is the queue before it without its front (log entry 2). -/
def Claims.QueueIsFirstInFirstOut : Prop :=
  (∀ (c : Instr) (s t : State), exec c s = .next t → t.pending = s.pending) ∧
  (∀ s t : State, step s = .next t → t.pending = s.pending.tail)

/-- The memories are canonical, and no queue or buffer holds more than the spec gives it: 64 fault records each (R491), 1,024 ready nodes (R64), 512 trace records of a field and
1,024 of a partition (R527), 256 waiting notifications of a port (R307). -/
structure Claims.WithinBounds (s : State) : Prop where
  sram : ∀ c, Memory.wf (s.core c).sram = true
  istore : ∀ c, Memory.wf (s.core c).istore = true
  cistern : ∀ f, Memory.wf (s.field f).cis.mem = true
  pool : ∀ f, (s.field f).cis.pool.length ≤ 1024
  faults : ∀ f, (s.field f).faults.recs.length ≤ 64
  rdFaults : s.rdFaults.recs.length ≤ 64
  sdFaults : s.sdFaults.recs.length ≤ 64
  trace : ∀ f, (s.field f).obs.trace.length ≤ 512
  staging : ∀ p, (s.traceDest p).staging.length ≤ 1024
  notes : ∀ p, (s.port p).notes.length ≤ 256

/-- R64, R307, R491, R527: every step, from any state at all in which the memories are canonical and the queues and buffers within their bounds, leaves them so. -/
def Claims.BoundsAreKept : Prop := ∀ s t : State, Claims.WithinBounds s → step s = .next t → Claims.WithinBounds t

/-- R15, R54, R299, R393, R416: at reset POR_N is low, the SD is in RESET and no other domain is ON; no command waits, every graph is IDLE, every partition is disabled, every ring is
disabled, no fault is recorded, no packet travels; the bounds of the invariant hold. Where the spec gives no reset value the model's is zero (log entry 4). -/
def Claims.ResetState : Prop :=
  Claims.WithinBounds State.reset ∧ State.reset.pending = [] ∧ State.reset.sd.porLow = true ∧ State.reset.sd.state = .reset ∧
  State.reset.rd.state ≠ .on ∧ (∀ f, (State.reset.field f).clk.cd ≠ .on ∧ (State.reset.field f).clk.md ≠ .on) ∧
  (∀ p, (State.reset.part p).graph = .idle ∧ (State.reset.part p).rect = 0 ∧ (State.reset.part p).job = 0) ∧
  (∀ p r, ((State.reset.port p).ring r).en = false ∧ ((State.reset.port p).ring r).halted = false) ∧
  State.reset.faultCount = 0 ∧ State.reset.rdFaults.recs = [] ∧ State.reset.sdFaults.recs = [] ∧ (∀ f, (State.reset.field f).faults.recs = []) ∧
  State.reset.net = [] ∧ State.reset.tstamp = 0 ∧ ∀ c n, (State.reset.core c).sreg n = 0

/-- A command completes exactly where it names units that exist (R30, R32, R54, R230, R256, R293, R299, R347, R371, R433, R459); where it names one that does not it faults as noSuchUnit, and
no command is ever refused (log entry 6). -/
def Claims.CommandsNameUnits : Prop :=
  ∀ (i : Instr) (s : State), (i.wellFormed = true → ∃ t, exec i s = .next t) ∧ (i.wellFormed = false → exec i s = .fault .noSuchUnit)

/-- The core whose instruction a command is: the rows of the core instruction set. -/
def Claims.coreOf (i : Instr) : Option Nat :=
  match i with
  | .add c => some c
  | .sub c => some c
  | .and c => some c
  | .or c => some c
  | .xor c => some c
  | .sll c => some c
  | .srl c => some c
  | .sra c => some c
  | .slt c => some c
  | .sltu c => some c
  | .minMax c => some c
  | .mul c => some c
  | .mulh c => some c
  | .mulhu c => some c
  | .divRem c => some c
  | .clz c => some c
  | .popc c => some c
  | .addi c => some c
  | .andi c => some c
  | .ori c => some c
  | .xori c => some c
  | .shi c => some c
  | .slti c => some c
  | .sltiu c => some c
  | .lui c => some c
  | .jal c => some c
  | .jalr c => some c
  | .beq c => some c
  | .bne c => some c
  | .blt c => some c
  | .bge c => some c
  | .bltu c => some c
  | .bgeu c => some c
  | .lb c => some c
  | .lbu c => some c
  | .lh c => some c
  | .lhu c => some c
  | .lw c => some c
  | .ld c => some c
  | .lq c => some c
  | .sb c => some c
  | .sh c => some c
  | .sw c => some c
  | .sd c => some c
  | .sq c => some c
  | .csrr c => some c
  | .csrw c => some c
  | .vaddf c => some c
  | .vsubf c => some c
  | .vmulf c => some c
  | .vfmaf c => some c
  | .vminf c => some c
  | .vmaxf c => some c
  | .vcmpeqf c => some c
  | .vcmpltf c => some c
  | .vcmplef c => some c
  | .vrcpf c => some c
  | .vrsqf c => some c
  | .vexp2f c => some c
  | .vlog2f c => some c
  | .vdivf c => some c
  | .vsqrtf c => some c
  | .vaddi c => some c
  | .vsubi c => some c
  | .vmuli c => some c
  | .vand c => some c
  | .vor c => some c
  | .vxor c => some c
  | .vsll c => some c
  | .vsrl c => some c
  | .vsra c => some c
  | .vmini c => some c
  | .vmaxi c => some c
  | .vcmpeqi c => some c
  | .vcmplti c => some c
  | .vsel c => some c
  | .vbcast c => some c
  | .vext c => some c
  | .vins c => some c
  | .vperm c => some c
  | .vmov c => some c
  | .vrsumf c => some c
  | .vrmaxf c => some c
  | .vrminf c => some c
  | .vrsumi c => some c
  | .vcvt c => some c
  | .vld c => some c
  | .vst c => some c
  | .tdesc c => some c
  | .mma c => some c
  | .ast c => some c
  | .ald c => some c
  | .azero c => some c
  | .axv c => some c
  | .avx c => some c
  | .rlaunch c => some c
  | .send c => some c
  | .recv c => some c
  | .rpeek c => some c
  | .sadv c => some c
  | .swait c => some c
  | .sread c => some c
  | .sclr c => some c
  | .warr c => some c
  | .wawt c => some c
  | .waa c => some c
  | .post c => some c
  | .endTask c => some c
  | .fail c => some c
  | _ => none

/-- R13, R32, R149, R228, R533: an instruction of a core, whatever comes of it (its result, a sleep, an exception), writes no other core, no other field, no partition, port or dictionary entry: besides its own
core it changes only its own field's units, the fault and refusal counts, and the packets that leave: each from the core itself or from its field's agent. -/
def Claims.CoreInstructionsStayHome : Prop :=
  ∀ (i : Instr) (c : Nat) (s t : State), Claims.coreOf i = some c → exec i s = .next t →
    t = { s with cores := t.cores, fields := t.fields, net := t.net, totals := t.totals, faultCount := t.faultCount, detRefusals := t.detRefusals } ∧
    (∀ c', c' ≠ c → t.core c' = s.core c') ∧ (∀ f, f ≠ fieldOf c → t.field f = s.field f) ∧
    ∃ l, t.net = s.net ++ l ∧ ∀ pk ∈ l, pk.src = .core c ∨ pk.src = .field (fieldOf c)

/-- R157: division: DIV, DIVU, REM and REMU of any operands end in the next state, truncating toward zero, with the results the rule gives for a divisor of 0 and for the most negative
number divided by −1. -/
def Claims.DivisionTruncates : Prop :=
  ∀ (s : State) (c w : Nat) (a b : Word), Issues s c w .divRem → (s.core c).free [aField w, bField w, dField w] →
    a = (s.core c).reg (aField w) → b = (s.core c).reg (bField w) → dField w ≠ 0 →
    ∃ t, exec (.divRem c) s = .next t ∧ OnlyCore s t c ∧ (t.core c).pc = (s.core c).pc + 4 ∧ (t.core c).ending = .none ∧
      (bits w 10 0 = 0x14 →
        (b = 0 → (t.core c).reg (dField w) = 0xFFFFFFFF) ∧
        (a = 0x80000000 → b = 0xFFFFFFFF → (t.core c).reg (dField w) = 0x80000000) ∧
        (b ≠ 0 → ¬ (a = 0x80000000 ∧ b = 0xFFFFFFFF) → ((t.core c).reg (dField w)).toInt = a.toInt.tdiv b.toInt)) ∧
      (bits w 10 0 = 0x16 →
        (b = 0 → (t.core c).reg (dField w) = a) ∧
        (a = 0x80000000 → b = 0xFFFFFFFF → (t.core c).reg (dField w) = 0) ∧
        (b ≠ 0 → ((t.core c).reg (dField w)).toInt = a.toInt - b.toInt * a.toInt.tdiv b.toInt)) ∧
      (bits w 10 0 = 0x15 →
        (b = 0 → (t.core c).reg (dField w) = 0xFFFFFFFF) ∧ (b ≠ 0 → ((t.core c).reg (dField w)).toNat = a.toNat / b.toNat)) ∧
      (bits w 10 0 = 0x17 →
        (b = 0 → (t.core c).reg (dField w) = a) ∧
        (b ≠ 0 → ((t.core c).reg (dField w)).toNat = a.toNat - b.toNat * (a.toNat / b.toNat)))

/-- R30, R31: field (FX, FY) has field ID FY × 9 + FX and holds the logical cores with X from 32 × FX to 32 × FX + 31 and Y from 40 × FY to 40 × FY + 39; within it the core has local column X mod 32 and
row Y mod 40. -/
def Claims.FieldsHoldCores : Prop :=
  ∀ x y fx fy : Nat, x < 288 → y < 320 → fx < 9 → fy < 8 →
    (fieldOf (y * 288 + x) = fy * 9 + fx ↔ (32 * fx ≤ x ∧ x ≤ 32 * fx + 31) ∧ 40 * fy ≤ y ∧ y ≤ 40 * fy + 39) ∧
    localOf (y * 288 + x) % 32 = x % 32 ∧ localOf (y * 288 + x) / 32 = y % 40 ∧ fieldOf (y * 288 + x) < 72 ∧
    coreId (fieldOf (y * 288 + x)) (localOf (y * 288 + x)) = y * 288 + x

/-- R149: s0 reads as 0 and a write to it is discarded; every other register holds the last value written to it; TASK_START sets t0 to t7 to 0. -/
def Claims.RegistersHold : Prop :=
  (∀ (k : Core) (n m v : Nat), (k.setS n v).sreg 0 = 0 ∧ (k.setS 0 v) = k ∧ (m ≠ 0 → (k.setS n v).sreg m = if m = n then v % 2 ^ 32 else k.sreg m) ∧
    (k.setV n v).vreg m = (if m = n then v % 2 ^ 1024 else k.vreg m) ∧ (k.setT n v).treg m = (if m = n then v % 2 ^ 64 else k.treg m)) ∧
  (∀ (s : State) (c : Nat) (d : StartDesc), c < nCores → (s.core c).staged = some d → (s.core c).run = .idle → (s.field (fieldOf c)).clk.cd = .on →
    ∃ t, exec (.taskStart c) s = .next t ∧ (∀ n, n < 8 → (t.core c).treg n = 0) ∧ ∀ n, (t.core c).sreg n = 0)

/-! ### The statements -/

/-- Scalar register, immediate, branch and jump instructions: result, program counter, and nothing else. -/
def Obligations.ScalarInstructions : Prop :=
  Claims.ScalarRegisterResults ∧ Claims.ScalarImmediateResults ∧ Claims.BranchTargets ∧ Claims.JumpTargets ∧ Claims.ScalarWaitsForQueuedWriter

/-- Division truncates toward zero, with the results of R157 at a divisor of 0 and at overflow, and never raises an exception. -/
def Obligations.DivisionTruncates : Prop :=
  Claims.DivisionTruncates

/-- s0 reads as 0 and discards writes, every other register holds the last value written, t0 to t7 are 0 at task start. -/
def Obligations.RegistersHold : Prop :=
  Claims.RegistersHold

/-- Loads read and stores write the memory the core sees, byte for byte; a bad address ends the task. -/
def Obligations.LoadsAndStores : Prop :=
  Claims.LoadsReadSeenMemory ∧ Claims.StoresWriteSeenMemory ∧ Claims.BadAccessEndsTask

/-- CSRR and CSRW: the word at an offset, what the offsets hold, and the deterministic refusals. -/
def Obligations.CsrAccess : Prop :=
  Claims.CsrReads ∧ Claims.CsrWrites ∧ Claims.CsrContents

/-- Vector arithmetic gives every lane its result; floating point ORs the flags and draws under SR. -/
def Obligations.VectorLanes : Prop :=
  Claims.VectorIntegerLanes ∧ Claims.VectorFloatLanes

/-- Vector moves, selections, reductions and conversions, lane by lane. -/
def Obligations.VectorMovesAndConversions : Prop :=
  Claims.VectorMovesAndReductions ∧ Claims.VectorConversions

/-- VLD, VST, AST and ALD: the bytes they move, and every other byte unchanged. -/
def Obligations.VectorAndAccumulatorMemory : Prop :=
  Claims.VectorMemory ∧ Claims.AccumulatorMemory

/-- TDESC, MMA and the accumulator moves: descriptor checks, the product, the rows. -/
def Obligations.TilesAndProducts : Prop :=
  Claims.TileDescriptorLoad ∧ Claims.MatrixProduct ∧ Claims.AccumulatorMoves

/-- RLAUNCH enters a recipe that passes its checks or ends the task; a recipe takes its slices from the arrival queue. -/
def Obligations.RecipeLaunches : Prop :=
  Claims.RecipeLaunch ∧ Claims.RecipeTakesSlice

/-- A recipe's finish-sends leave, it finishes with its flags, or its fault stops it. -/
def Obligations.RecipeEnds : Prop :=
  Claims.FinishSendLeaves ∧ Claims.RecipeFinishes ∧ Claims.RecipeFaultStops

/-- SEND puts its message on the mesh against credit, sleeps without, and ends the task on illegal operands. -/
def Obligations.Sends : Prop :=
  Claims.SendLeavesMessage ∧ Claims.SendSleepsOrFaults

/-- RECV delivers the oldest message and frees its slots or sleeps; RPEEK reads its length. -/
def Obligations.ReceivesAndPeeks : Prop :=
  Claims.ReceiveDelivers ∧ Claims.PeekReadsLength

/-- Posted operations queue behind messages; blocking operations sleep and leave; wrong bindings end the task. -/
def Obligations.SyncOperations : Prop :=
  Claims.PostedOperationsQueue ∧ Claims.BlockingOperationsSleep ∧ Claims.BlockingOperationsLeave

/-- A task begins in one step with its registers set, and ends by END, FAIL or a failure with its report. -/
def Obligations.TasksBeginAndEnd : Prop :=
  Claims.TaskEnds ∧ Claims.TaskBegins

/-- Withdrawals, aborts and answers at a core, wakes, store drains, posted operations that leave, pending refusals. -/
def Obligations.CoreEventsAndControl : Prop :=
  Claims.ControlPacketsAtCore ∧ Claims.WakeDeliversAnswer ∧ Claims.CoreEvents ∧ Claims.FetchMeetsCorrectable

/-- A message that arrives joins its queue and is acknowledged; the ACK retires it at its sender. -/
def Obligations.MessagesAccepted : Prop :=
  Claims.MessageAccepted ∧ Claims.AckRetiresMessage

/-- Credit requests, grants, busy answers and returns, and the timers of credit entries. -/
def Obligations.Credits : Prop :=
  Claims.CreditMoves ∧ Claims.CreditTimers

/-- Lost messages refuse the task that sent them; link errors are resent, counted, and take the link down. -/
def Obligations.MessageLossAndLinks : Prop :=
  Claims.MessageLoss ∧ Claims.LinkErrors

/-- An event sets its flags or is discarded or refused, and a node whose mask is met fires. -/
def Obligations.EventsSetFlags : Prop :=
  Claims.EventsSetFlags

/-- From the overflow chain to the pool, from the pool to a core's staged slot, and to RUNNING. -/
def Obligations.DispatchSteps : Prop :=
  Claims.DispatchSteps

/-- Completion, failure and abort reports end a firing: node state, core slot, fault count. -/
def Obligations.ReportsEndFirings : Prop :=
  Claims.ReportsEndFirings

/-- Output records leave by the mesh, a Sluice gateway or to the host; POSTs are forwarded or refused; CS_ERR. -/
def Obligations.OutputsAndPosts : Prop :=
  Claims.OutputRecordsLeave ∧ Claims.PostsAndErrors

/-- Withdrawn nodes wait again, expired watchdogs fail their firing, silent cores are lost. -/
def Obligations.WithdrawalAndLoss : Prop :=
  Claims.WithdrawalAndLoss

/-- ADVANCE, WAIT, READ and CLEAR at a Siphon pair, with its errors and refusals. -/
def Obligations.PairTransitions : Prop :=
  Claims.AdvanceCounts ∧ Claims.BothAdvancesCount ∧ Claims.WaitReadClear

/-- Barrier operations of a core, arrivals at the well field, releases, breaks and timeouts. -/
def Obligations.Barriers : Prop :=
  Claims.BarrierOperations ∧ Claims.BarrierArrivals ∧ Claims.ReleasesAndBreaks

/-- A partition blocked without progress is declared dry, reported, or the declaration withdrawn. -/
def Obligations.DryWell : Prop :=
  Claims.DryWell

/-- Doorbells, fetches, enables and resumes of a ring; a command that fails a check has no effect. -/
def Obligations.RingsAndChecks : Prop :=
  Claims.RefusedCommandsHaveNoEffect ∧ Claims.RingsFetch ∧ Claims.RingControl

/-- The host commands without data, and what an accepted START_GRAPH resets. -/
def Obligations.HostCommandsAndGraphs : Prop :=
  Claims.HostCommandEffects ∧ Claims.GraphStarts

/-- Transfer commands translate their pages, read or write their data, and fail by cause. -/
def Obligations.TransfersAndWalks : Prop :=
  Claims.TransfersBegin ∧ Claims.WalksAndData

/-- Fabric accesses write and read exactly their bytes and are answered; answers end their command. -/
def Obligations.FabricAccesses : Prop :=
  Claims.FabricAccesses ∧ Claims.AnswersReachCommands

/-- Commands complete in ring order or time out; records, interrupts and notifications leave for the host. -/
def Obligations.CompletionsAndRecords : Prop :=
  Claims.CommandsComplete ∧ Claims.RecordsAndInterrupts

/-- Context roots, device windows, BAR0 and the completion timeout; function-level reset and PERST_N. -/
def Obligations.PortRegistersAndResets : Prop :=
  Claims.PortRegistersAndResets

/-- Sluice ports train to UP or DOWN, retrain, fail and measure their delay. -/
def Obligations.PortsTrainAndFail : Prop :=
  Claims.PortsTrainAndFail

/-- Sluice frames are taken in sequence, acknowledged, refused and sent again. -/
def Obligations.FramesInSequence : Prop :=
  Claims.FramesInSequence

/-- Packets for other engines go on; remote events, losses and copies take effect or are refused. -/
def Obligations.CrossEngine : Prop :=
  Claims.CrossEngineEvents ∧ Claims.RemoteCopies

/-- Cluster barriers: engines counted at the root, releases and breaks down the tree. -/
def Obligations.ClusterBarriers : Prop :=
  Claims.ClusterBarriers

/-- TS_SYNC, samples, LOCKED and HOLDOVER, the slewing of TSTAMP, and CSYNC_OUT. -/
def Obligations.TimestampsSynchronise : Prop :=
  Claims.TimestampsSynchronise

/-- Frequency locks propose, command and time out; route, group, lock and trace registers of the RD. -/
def Obligations.LocksAndRegisters : Prop :=
  Claims.FrequencyLocks ∧ Claims.RingDomainRegisters

/-- Dictionary writes are queued or refused by their checks; mailbox requests are answered. -/
def Obligations.DictionaryRequests : Prop :=
  Claims.WritesAreQueuedOrRefused ∧ Claims.MailboxAnswers

/-- What an applied write to an object kept by firmware makes so. -/
def Obligations.WritesToFirmwareApply : Prop :=
  Claims.WritesToFirmwareApply

/-- Applied writes that act on partitions, ports and fields. -/
def Obligations.WritesToUnitsApply : Prop :=
  Claims.WritesToUnitsApply

/-- USDO transfers, NMT commands, heartbeats, emergency messages and PDOs. -/
def Obligations.CanBus : Prop :=
  Claims.UsdoTransfers ∧ Claims.NmtAndHeartbeats ∧ Claims.EmcyAndPdos

/-- POR_N, input power, the straps and the steps of a cold start, with their failures. -/
def Obligations.ColdStart : Prop :=
  Claims.PowerOnAndStraps ∧ Claims.ColdStartSteps

/-- The RD, the MDs and the CDs start; a dead row or 20 ms leaves a field DEGRADED. -/
def Obligations.DomainsStart : Prop :=
  Claims.DomainsStart

/-- The compute-reset button and coolant loss stop compute and let it start again. -/
def Obligations.ButtonAndCoolant : Prop :=
  Claims.ButtonAndCoolant

/-- Loss of REFCLK or of a PLL, and changes of F-state. -/
def Obligations.ClocksAndFStates : Prop :=
  Claims.ClocksAndFStates

/-- Epochs of the service-processor pair commit writes; drains keep the latest records; lost cores join the repair list. -/
def Obligations.MirrorAndRepairs : Prop :=
  Claims.MirrorEpochs ∧ Claims.DrainsAndRepairs

/-- The token moves to the standby, both Wellheads down, and their restarts. -/
def Obligations.TokenMoves : Prop :=
  Claims.TokenMoves

/-- Sensor thresholds, failed sensors, recovery, derating and ageing checks. -/
def Obligations.Thermal : Prop :=
  Claims.SensorThresholds ∧ Claims.ThermalRecovery

/-- Rail readings and faults, the ceiling guard, clock stretches and severe droops. -/
def Obligations.RailsGuardAndDroops : Prop :=
  Claims.RailsGuardAndDroops

/-- Energy accounting, controller periods and epochs, calibration, hints and filler. -/
def Obligations.PowerController : Prop :=
  Claims.EstimatorAndController ∧ Claims.CalibrationHintsFiller

/-- Scrubs find bad words and keep memory; statistics and trace records reach their ring in order. -/
def Obligations.ScrubsAndTraces : Prop :=
  Claims.ScrubbersRead ∧ Claims.TraceStream

/-- Field (FX, FY) has ID FY × 9 + FX and holds the cores of its 32 columns and 40 rows. -/
def Obligations.FieldsHoldCores : Prop :=
  Claims.FieldsHoldCores

/-- A step carries out the command at the front of the queue; an empty queue lets one REFCLK period pass (model: log 1, 2). -/
def Obligations.StepRunsFrontCommand : Prop :=
  Claims.StepRunsFrontCommand

/-- No command changes the queue, so a step leaves it without its front (model: log entry 2). -/
def Obligations.QueueIsFirstInFirstOut : Prop :=
  Claims.QueueIsFirstInFirstOut

/-- The state after reset, and that the invariant of the bounds holds there (values without a rule: log entries 4, 63). -/
def Obligations.ResetState : Prop :=
  Claims.ResetState

/-- Every step keeps the memories canonical and every queue and buffer within its bound. -/
def Obligations.BoundsAreKept : Prop :=
  Claims.BoundsAreKept

/-- A command completes exactly where it names units that exist, and none is refused (model: log entry 6). -/
def Obligations.CommandsNameUnits : Prop :=
  Claims.CommandsNameUnits

/-- A core instruction writes no other core, field, partition, port or dictionary entry; its packets bear its own name. -/
def Obligations.CoreInstructionsStayHome : Prop :=
  Claims.CoreInstructionsStayHome
end

