-- ==== Sys2Proof/Laws/Table.lean ====
section
/-! SUPPORT. Sparse tables and byte memory: a read after a write, and that every operation keeps the canonical form. -/

namespace Sys2Proof.Machine

variable {α : Type}

@[simp] theorem Tab.read_nil (d : α) (k : Nat) : Tab.read [] d k = d := rfl

theorem Tab.read_insert (t : Tab α) (d v : α) (k k' : Nat) :
    Tab.read (Tab.insert t k v) d k' = if k' = k then v else Tab.read t d k' := by
  induction t with
  | nil =>
    by_cases h : k' = k
    · simp [Tab.insert, Tab.read, h]
    · simp [Tab.insert, Tab.read, h, Ne.symm h]
  | cons e r ih =>
    obtain ⟨i, w⟩ := e
    simp only [Tab.insert]
    split
    · by_cases h : k' = k
      · simp [Tab.read, h]
      · simp [Tab.read, h, Ne.symm h]
    · split
      · rename_i h1 h2
        subst h2
        by_cases h : k' = k
        · simp [Tab.read, h]
        · simp [Tab.read, h, Ne.symm h]
      · rename_i h1 h2
        by_cases h3 : i = k'
        · subst h3; simp [Tab.read, Ne.symm h2]
        · simp [Tab.read, h3, ih]

theorem Tab.read_erase (t : Tab α) (d : α) (k k' : Nat) :
    Tab.read (Tab.erase t k) d k' = if k' = k then d else Tab.read t d k' := by
  induction t with
  | nil => simp [Tab.erase]
  | cons e r ih =>
    obtain ⟨i, w⟩ := e
    simp only [Tab.erase]
    split
    · rename_i h; subst h
      rw [ih]
      by_cases h : k' = i
      · simp [h]
      · simp [Tab.read, h, Ne.symm h]
    · rename_i h
      by_cases h3 : i = k'
      · subst h3; simp [Tab.read, h]
      · simp [Tab.read, h3, ih]

/-- A read after a write: the value written at its key, and what was there at every other. -/
@[simp] theorem Tab.read_write [DecidableEq α] (t : Tab α) (d v : α) (k k' : Nat) :
    Tab.read (Tab.write t d k v) d k' = if k' = k then v else Tab.read t d k' := by
  unfold Tab.write
  split
  · rename_i h; subst h; exact Tab.read_erase t v k k'
  · exact Tab.read_insert t d v k k'

theorem Tab.wfFrom_mono [DecidableEq α] {d : α} {t : Tab α} {lo lo' : Nat} (h : lo' ≤ lo)
    (w : Tab.wfFrom d lo t = true) : Tab.wfFrom d lo' t = true := by
  cases t with
  | nil => rfl
  | cons e r =>
    simp only [Tab.wfFrom, Bool.and_eq_true, decide_eq_true_eq] at w ⊢
    exact ⟨⟨le_trans h w.1.1, w.1.2⟩, w.2⟩

theorem Tab.wfFrom_insert [DecidableEq α] {d v : α} (hv : v ≠ d) {t : Tab α} {lo k : Nat} (hk : lo ≤ k)
    (w : Tab.wfFrom d lo t = true) : Tab.wfFrom d lo (Tab.insert t k v) = true := by
  induction t generalizing lo with
  | nil => simp [Tab.insert, Tab.wfFrom, hk, hv]
  | cons e r ih =>
    obtain ⟨i, x⟩ := e
    simp only [Tab.wfFrom, Bool.and_eq_true, decide_eq_true_eq] at w
    simp only [Tab.insert]
    split
    · simp only [Tab.wfFrom, Bool.and_eq_true, decide_eq_true_eq]
      exact ⟨⟨hk, hv⟩, ⟨by omega, w.1.2⟩, w.2⟩
    · split
      · rename_i h1 h2; subst h2
        simp only [Tab.wfFrom, Bool.and_eq_true, decide_eq_true_eq]
        exact ⟨⟨hk, hv⟩, w.2⟩
      · simp only [Tab.wfFrom, Bool.and_eq_true, decide_eq_true_eq]
        exact ⟨w.1, ih (by omega) w.2⟩

theorem Tab.wfFrom_erase [DecidableEq α] {d : α} {t : Tab α} {lo k : Nat}
    (w : Tab.wfFrom d lo t = true) : Tab.wfFrom d lo (Tab.erase t k) = true := by
  induction t generalizing lo with
  | nil => rfl
  | cons e r ih =>
    obtain ⟨i, x⟩ := e
    simp only [Tab.wfFrom, Bool.and_eq_true, decide_eq_true_eq] at w
    simp only [Tab.erase]
    split
    · exact Tab.wfFrom_mono (by omega) (ih w.2)
    · simp only [Tab.wfFrom, Bool.and_eq_true, decide_eq_true_eq]
      exact ⟨w.1, ih w.2⟩

/-- A write keeps the canonical form. -/
theorem Tab.wfFrom_write [DecidableEq α] {d v : α} {t : Tab α} {k : Nat} (w : Tab.wfFrom d 0 t = true) :
    Tab.wfFrom d 0 (Tab.write t d k v) = true := by
  unfold Tab.write
  split
  · exact Tab.wfFrom_erase w
  · rename_i h; exact Tab.wfFrom_insert h (Nat.zero_le k) w

/-! ### Memory -/

@[simp] theorem Memory.byte_setByte (m : Memory) (a b : Nat) (v : Byte) :
    Memory.byte (Memory.setByte m a v) b = if b = a then v else Memory.byte m b := Tab.read_write m 0 v a b

theorem Memory.wf_setByte {m : Memory} (w : Memory.wf m = true) (a : Nat) (v : Byte) :
    Memory.wf (Memory.setByte m a v) = true := Tab.wfFrom_write w

theorem Memory.wf_setBytes {m : Memory} (w : Memory.wf m = true) (a : Nat) (l : List Byte) :
    Memory.wf (Memory.setBytes m a l) = true := by
  induction l generalizing m a with
  | nil => exact w
  | cons b r ih => exact ih (Memory.wf_setByte w a b) (a + 1)

theorem Memory.wf_setValue {m : Memory} (w : Memory.wf m = true) (a n v : Nat) :
    Memory.wf (Memory.setValue m a n v) = true := Memory.wf_setBytes w a _

theorem Tab.wfFrom_filter [DecidableEq α] {d : α} {t : Tab α} {lo : Nat} (p : Nat × α → Bool)
    (w : Tab.wfFrom d lo t = true) : Tab.wfFrom d lo (t.filter p) = true := by
  induction t generalizing lo with
  | nil => rfl
  | cons e r ih =>
    obtain ⟨i, x⟩ := e
    simp only [Tab.wfFrom, Bool.and_eq_true, decide_eq_true_eq] at w
    by_cases h : p (i, x) = true
    · simp only [List.filter, h, Tab.wfFrom, Bool.and_eq_true, decide_eq_true_eq]
      exact ⟨w.1, ih w.2⟩
    · simp only [Bool.not_eq_true] at h
      simp only [List.filter, h]
      exact Tab.wfFrom_mono (by omega) (ih w.2)

theorem Memory.wf_zero {m : Memory} (w : Memory.wf m = true) (a n : Nat) : Memory.wf (Memory.zero m a n) = true :=
  Tab.wfFrom_filter _ w

/-- A byte after a run of bytes is written: the byte written inside the run, the old one outside. -/
theorem Memory.byte_setBytes (m : Memory) (a b : Nat) (l : List Byte) :
    Memory.byte (Memory.setBytes m a l) b =
      if a ≤ b ∧ b < a + l.length then l.getD (b - a) 0 else Memory.byte m b := by
  induction l generalizing m a with
  | nil => simp only [Memory.setBytes, List.length_nil]; split <;> first | omega | rfl
  | cons x r ih =>
    simp only [Memory.setBytes, ih, List.length_cons, Memory.byte_setByte]
    by_cases h : b = a
    · subst h; simp
    · by_cases h2 : a ≤ b ∧ b < a + (r.length + 1)
      · rw [if_pos (by omega), if_pos h2, show b - a = (b - (a + 1)) + 1 by omega]; simp
      · rw [if_neg (by omega), if_neg h2, if_neg h]

@[simp] theorem toBytes_length (n v : Nat) : (toBytes n v).length = n := by
  induction n generalizing v with
  | zero => rfl
  | succ n ih => simp [toBytes, ih]

/-- A store leaves every byte outside it alone. -/
theorem Memory.byte_setValue_outside (m : Memory) (a n v b : Nat) (h : b < a ∨ a + n ≤ b) :
    Memory.byte (Memory.setValue m a n v) b = Memory.byte m b := by
  unfold Memory.setValue
  rw [Memory.byte_setBytes, if_neg (by simp; omega)]

/-- Cleared bytes read as zero, the others as before. -/
theorem Memory.byte_zero (m : Memory) (a n b : Nat) :
    Memory.byte (Memory.zero m a n) b = if a ≤ b ∧ b < a + n then 0 else Memory.byte m b := by
  unfold Memory.zero Memory.byte
  induction m with
  | nil => simp
  | cons e r ih =>
    obtain ⟨i, x⟩ := e
    by_cases h : i < a ∨ a + n ≤ i
    · have : (decide (i < a) || decide (a + n ≤ i)) = true := by simpa using h
      simp only [List.filter, this, Tab.read]
      by_cases hb : i = b
      · subst hb; simp; omega
      · rw [if_neg hb, if_neg hb]; exact ih
    · have : (decide (i < a) || decide (a + n ≤ i)) = false := by simp; omega
      simp only [List.filter, this, Tab.read]
      rw [ih]
      by_cases hb : i = b
      · subst hb; rw [if_pos (by omega), if_pos (by omega)]
      · simp [hb]

end Sys2Proof.Machine
end

