-- ==== Sys2Proof/Laws/State.lean ====
section
/-! SUPPORT. What each named update of State leaves as it is, field by field, and what a unit reads as after an update of a unit. -/

namespace Sys2Proof.Machine

variable (s : State)

/-! ### setField -/

@[simp] theorem State.setField_tstamp (f : Nat) (x : Field) : (s.setField f x).tstamp = s.tstamp := rfl
@[simp] theorem State.setField_cores (f : Nat) (x : Field) : (s.setField f x).cores = s.cores := rfl
@[simp] theorem State.setField_parts (f : Nat) (x : Field) : (s.setField f x).parts = s.parts := rfl
@[simp] theorem State.setField_net (f : Nat) (x : Field) : (s.setField f x).net = s.net := rfl
@[simp] theorem State.setField_rdFaults (f : Nat) (x : Field) : (s.setField f x).rdFaults = s.rdFaults := rfl
@[simp] theorem State.setField_sdFaults (f : Nat) (x : Field) : (s.setField f x).sdFaults = s.sdFaults := rfl
@[simp] theorem State.setField_faultCount (f : Nat) (x : Field) : (s.setField f x).faultCount = s.faultCount := rfl
@[simp] theorem State.setField_detMode (f : Nat) (x : Field) : (s.setField f x).detMode = s.detMode := rfl
@[simp] theorem State.setField_detRefusals (f : Nat) (x : Field) : (s.setField f x).detRefusals = s.detRefusals := rfl
@[simp] theorem State.setField_totals (f : Nat) (x : Field) : (s.setField f x).totals = s.totals := rfl
@[simp] theorem State.setField_ports (f : Nat) (x : Field) : (s.setField f x).ports = s.ports := rfl
@[simp] theorem State.setField_sluice (f : Nat) (x : Field) : (s.setField f x).sluice = s.sluice := rfl
@[simp] theorem State.setField_rd (f : Nat) (x : Field) : (s.setField f x).rd = s.rd := rfl
@[simp] theorem State.setField_sd (f : Nat) (x : Field) : (s.setField f x).sd = s.sd := rfl
@[simp] theorem State.setField_flash (f : Nat) (x : Field) : (s.setField f x).flash = s.flash := rfl
@[simp] theorem State.setField_fw (f : Nat) (x : Field) : (s.setField f x).fw = s.fw := rfl
@[simp] theorem State.setField_wh (f : Nat) (x : Field) : (s.setField f x).wh = s.wh := rfl
@[simp] theorem State.setField_can (f : Nat) (x : Field) : (s.setField f x).can = s.can := rfl
@[simp] theorem State.setField_therm (f : Nat) (x : Field) : (s.setField f x).therm = s.therm := rfl
@[simp] theorem State.setField_power (f : Nat) (x : Field) : (s.setField f x).power = s.power := rfl
@[simp] theorem State.setField_hostOut (f : Nat) (x : Field) : (s.setField f x).hostOut = s.hostOut := rfl
@[simp] theorem State.setField_linkOut (f : Nat) (x : Field) : (s.setField f x).linkOut = s.linkOut := rfl
@[simp] theorem State.setField_canOut (f : Nat) (x : Field) : (s.setField f x).canOut = s.canOut := rfl
@[simp] theorem State.setField_pmbOut (f : Nat) (x : Field) : (s.setField f x).pmbOut = s.pmbOut := rfl
@[simp] theorem State.setField_free (f : Nat) (x : Field) : (s.setField f x).free = s.free := rfl
@[simp] theorem State.setField_pending (f : Nat) (x : Field) : (s.setField f x).pending = s.pending := rfl

/-! ### setPart -/

@[simp] theorem State.setPart_tstamp (p : Nat) (x : Part) : (s.setPart p x).tstamp = s.tstamp := rfl
@[simp] theorem State.setPart_fields (p : Nat) (x : Part) : (s.setPart p x).fields = s.fields := rfl
@[simp] theorem State.setPart_cores (p : Nat) (x : Part) : (s.setPart p x).cores = s.cores := rfl
@[simp] theorem State.setPart_net (p : Nat) (x : Part) : (s.setPart p x).net = s.net := rfl
@[simp] theorem State.setPart_rdFaults (p : Nat) (x : Part) : (s.setPart p x).rdFaults = s.rdFaults := rfl
@[simp] theorem State.setPart_sdFaults (p : Nat) (x : Part) : (s.setPart p x).sdFaults = s.sdFaults := rfl
@[simp] theorem State.setPart_faultCount (p : Nat) (x : Part) : (s.setPart p x).faultCount = s.faultCount := rfl
@[simp] theorem State.setPart_detMode (p : Nat) (x : Part) : (s.setPart p x).detMode = s.detMode := rfl
@[simp] theorem State.setPart_detRefusals (p : Nat) (x : Part) : (s.setPart p x).detRefusals = s.detRefusals := rfl
@[simp] theorem State.setPart_totals (p : Nat) (x : Part) : (s.setPart p x).totals = s.totals := rfl
@[simp] theorem State.setPart_ports (p : Nat) (x : Part) : (s.setPart p x).ports = s.ports := rfl
@[simp] theorem State.setPart_sluice (p : Nat) (x : Part) : (s.setPart p x).sluice = s.sluice := rfl
@[simp] theorem State.setPart_rd (p : Nat) (x : Part) : (s.setPart p x).rd = s.rd := rfl
@[simp] theorem State.setPart_sd (p : Nat) (x : Part) : (s.setPart p x).sd = s.sd := rfl
@[simp] theorem State.setPart_flash (p : Nat) (x : Part) : (s.setPart p x).flash = s.flash := rfl
@[simp] theorem State.setPart_fw (p : Nat) (x : Part) : (s.setPart p x).fw = s.fw := rfl
@[simp] theorem State.setPart_wh (p : Nat) (x : Part) : (s.setPart p x).wh = s.wh := rfl
@[simp] theorem State.setPart_can (p : Nat) (x : Part) : (s.setPart p x).can = s.can := rfl
@[simp] theorem State.setPart_therm (p : Nat) (x : Part) : (s.setPart p x).therm = s.therm := rfl
@[simp] theorem State.setPart_power (p : Nat) (x : Part) : (s.setPart p x).power = s.power := rfl
@[simp] theorem State.setPart_hostOut (p : Nat) (x : Part) : (s.setPart p x).hostOut = s.hostOut := rfl
@[simp] theorem State.setPart_linkOut (p : Nat) (x : Part) : (s.setPart p x).linkOut = s.linkOut := rfl
@[simp] theorem State.setPart_canOut (p : Nat) (x : Part) : (s.setPart p x).canOut = s.canOut := rfl
@[simp] theorem State.setPart_pmbOut (p : Nat) (x : Part) : (s.setPart p x).pmbOut = s.pmbOut := rfl
@[simp] theorem State.setPart_free (p : Nat) (x : Part) : (s.setPart p x).free = s.free := rfl
@[simp] theorem State.setPart_pending (p : Nat) (x : Part) : (s.setPart p x).pending = s.pending := rfl

/-! ### setPort -/

@[simp] theorem State.setPort_tstamp (p : Nat) (x : Port) : (s.setPort p x).tstamp = s.tstamp := rfl
@[simp] theorem State.setPort_fields (p : Nat) (x : Port) : (s.setPort p x).fields = s.fields := rfl
@[simp] theorem State.setPort_cores (p : Nat) (x : Port) : (s.setPort p x).cores = s.cores := rfl
@[simp] theorem State.setPort_parts (p : Nat) (x : Port) : (s.setPort p x).parts = s.parts := rfl
@[simp] theorem State.setPort_net (p : Nat) (x : Port) : (s.setPort p x).net = s.net := rfl
@[simp] theorem State.setPort_rdFaults (p : Nat) (x : Port) : (s.setPort p x).rdFaults = s.rdFaults := rfl
@[simp] theorem State.setPort_sdFaults (p : Nat) (x : Port) : (s.setPort p x).sdFaults = s.sdFaults := rfl
@[simp] theorem State.setPort_faultCount (p : Nat) (x : Port) : (s.setPort p x).faultCount = s.faultCount := rfl
@[simp] theorem State.setPort_detMode (p : Nat) (x : Port) : (s.setPort p x).detMode = s.detMode := rfl
@[simp] theorem State.setPort_detRefusals (p : Nat) (x : Port) : (s.setPort p x).detRefusals = s.detRefusals := rfl
@[simp] theorem State.setPort_totals (p : Nat) (x : Port) : (s.setPort p x).totals = s.totals := rfl
@[simp] theorem State.setPort_sluice (p : Nat) (x : Port) : (s.setPort p x).sluice = s.sluice := rfl
@[simp] theorem State.setPort_rd (p : Nat) (x : Port) : (s.setPort p x).rd = s.rd := rfl
@[simp] theorem State.setPort_sd (p : Nat) (x : Port) : (s.setPort p x).sd = s.sd := rfl
@[simp] theorem State.setPort_flash (p : Nat) (x : Port) : (s.setPort p x).flash = s.flash := rfl
@[simp] theorem State.setPort_fw (p : Nat) (x : Port) : (s.setPort p x).fw = s.fw := rfl
@[simp] theorem State.setPort_wh (p : Nat) (x : Port) : (s.setPort p x).wh = s.wh := rfl
@[simp] theorem State.setPort_can (p : Nat) (x : Port) : (s.setPort p x).can = s.can := rfl
@[simp] theorem State.setPort_therm (p : Nat) (x : Port) : (s.setPort p x).therm = s.therm := rfl
@[simp] theorem State.setPort_power (p : Nat) (x : Port) : (s.setPort p x).power = s.power := rfl
@[simp] theorem State.setPort_hostOut (p : Nat) (x : Port) : (s.setPort p x).hostOut = s.hostOut := rfl
@[simp] theorem State.setPort_linkOut (p : Nat) (x : Port) : (s.setPort p x).linkOut = s.linkOut := rfl
@[simp] theorem State.setPort_canOut (p : Nat) (x : Port) : (s.setPort p x).canOut = s.canOut := rfl
@[simp] theorem State.setPort_pmbOut (p : Nat) (x : Port) : (s.setPort p x).pmbOut = s.pmbOut := rfl
@[simp] theorem State.setPort_free (p : Nat) (x : Port) : (s.setPort p x).free = s.free := rfl
@[simp] theorem State.setPort_pending (p : Nat) (x : Port) : (s.setPort p x).pending = s.pending := rfl

/-! ### modSl -/

@[simp] theorem State.modSl_tstamp (p : Nat) (g : Sluice → Sluice) : (s.modSl p g).tstamp = s.tstamp := rfl
@[simp] theorem State.modSl_fields (p : Nat) (g : Sluice → Sluice) : (s.modSl p g).fields = s.fields := rfl
@[simp] theorem State.modSl_cores (p : Nat) (g : Sluice → Sluice) : (s.modSl p g).cores = s.cores := rfl
@[simp] theorem State.modSl_parts (p : Nat) (g : Sluice → Sluice) : (s.modSl p g).parts = s.parts := rfl
@[simp] theorem State.modSl_net (p : Nat) (g : Sluice → Sluice) : (s.modSl p g).net = s.net := rfl
@[simp] theorem State.modSl_rdFaults (p : Nat) (g : Sluice → Sluice) : (s.modSl p g).rdFaults = s.rdFaults := rfl
@[simp] theorem State.modSl_sdFaults (p : Nat) (g : Sluice → Sluice) : (s.modSl p g).sdFaults = s.sdFaults := rfl
@[simp] theorem State.modSl_faultCount (p : Nat) (g : Sluice → Sluice) : (s.modSl p g).faultCount = s.faultCount := rfl
@[simp] theorem State.modSl_detMode (p : Nat) (g : Sluice → Sluice) : (s.modSl p g).detMode = s.detMode := rfl
@[simp] theorem State.modSl_detRefusals (p : Nat) (g : Sluice → Sluice) : (s.modSl p g).detRefusals = s.detRefusals := rfl
@[simp] theorem State.modSl_totals (p : Nat) (g : Sluice → Sluice) : (s.modSl p g).totals = s.totals := rfl
@[simp] theorem State.modSl_ports (p : Nat) (g : Sluice → Sluice) : (s.modSl p g).ports = s.ports := rfl
@[simp] theorem State.modSl_rd (p : Nat) (g : Sluice → Sluice) : (s.modSl p g).rd = s.rd := rfl
@[simp] theorem State.modSl_sd (p : Nat) (g : Sluice → Sluice) : (s.modSl p g).sd = s.sd := rfl
@[simp] theorem State.modSl_flash (p : Nat) (g : Sluice → Sluice) : (s.modSl p g).flash = s.flash := rfl
@[simp] theorem State.modSl_fw (p : Nat) (g : Sluice → Sluice) : (s.modSl p g).fw = s.fw := rfl
@[simp] theorem State.modSl_wh (p : Nat) (g : Sluice → Sluice) : (s.modSl p g).wh = s.wh := rfl
@[simp] theorem State.modSl_can (p : Nat) (g : Sluice → Sluice) : (s.modSl p g).can = s.can := rfl
@[simp] theorem State.modSl_therm (p : Nat) (g : Sluice → Sluice) : (s.modSl p g).therm = s.therm := rfl
@[simp] theorem State.modSl_power (p : Nat) (g : Sluice → Sluice) : (s.modSl p g).power = s.power := rfl
@[simp] theorem State.modSl_hostOut (p : Nat) (g : Sluice → Sluice) : (s.modSl p g).hostOut = s.hostOut := rfl
@[simp] theorem State.modSl_linkOut (p : Nat) (g : Sluice → Sluice) : (s.modSl p g).linkOut = s.linkOut := rfl
@[simp] theorem State.modSl_canOut (p : Nat) (g : Sluice → Sluice) : (s.modSl p g).canOut = s.canOut := rfl
@[simp] theorem State.modSl_pmbOut (p : Nat) (g : Sluice → Sluice) : (s.modSl p g).pmbOut = s.pmbOut := rfl
@[simp] theorem State.modSl_free (p : Nat) (g : Sluice → Sluice) : (s.modSl p g).free = s.free := rfl
@[simp] theorem State.modSl_pending (p : Nat) (g : Sluice → Sluice) : (s.modSl p g).pending = s.pending := rfl

/-! ### modRd -/

@[simp] theorem State.modRd_tstamp (g : RingDomain → RingDomain) : (s.modRd g).tstamp = s.tstamp := rfl
@[simp] theorem State.modRd_fields (g : RingDomain → RingDomain) : (s.modRd g).fields = s.fields := rfl
@[simp] theorem State.modRd_cores (g : RingDomain → RingDomain) : (s.modRd g).cores = s.cores := rfl
@[simp] theorem State.modRd_parts (g : RingDomain → RingDomain) : (s.modRd g).parts = s.parts := rfl
@[simp] theorem State.modRd_net (g : RingDomain → RingDomain) : (s.modRd g).net = s.net := rfl
@[simp] theorem State.modRd_rdFaults (g : RingDomain → RingDomain) : (s.modRd g).rdFaults = s.rdFaults := rfl
@[simp] theorem State.modRd_sdFaults (g : RingDomain → RingDomain) : (s.modRd g).sdFaults = s.sdFaults := rfl
@[simp] theorem State.modRd_faultCount (g : RingDomain → RingDomain) : (s.modRd g).faultCount = s.faultCount := rfl
@[simp] theorem State.modRd_detMode (g : RingDomain → RingDomain) : (s.modRd g).detMode = s.detMode := rfl
@[simp] theorem State.modRd_detRefusals (g : RingDomain → RingDomain) : (s.modRd g).detRefusals = s.detRefusals := rfl
@[simp] theorem State.modRd_totals (g : RingDomain → RingDomain) : (s.modRd g).totals = s.totals := rfl
@[simp] theorem State.modRd_ports (g : RingDomain → RingDomain) : (s.modRd g).ports = s.ports := rfl
@[simp] theorem State.modRd_sluice (g : RingDomain → RingDomain) : (s.modRd g).sluice = s.sluice := rfl
@[simp] theorem State.modRd_sd (g : RingDomain → RingDomain) : (s.modRd g).sd = s.sd := rfl
@[simp] theorem State.modRd_flash (g : RingDomain → RingDomain) : (s.modRd g).flash = s.flash := rfl
@[simp] theorem State.modRd_fw (g : RingDomain → RingDomain) : (s.modRd g).fw = s.fw := rfl
@[simp] theorem State.modRd_wh (g : RingDomain → RingDomain) : (s.modRd g).wh = s.wh := rfl
@[simp] theorem State.modRd_can (g : RingDomain → RingDomain) : (s.modRd g).can = s.can := rfl
@[simp] theorem State.modRd_therm (g : RingDomain → RingDomain) : (s.modRd g).therm = s.therm := rfl
@[simp] theorem State.modRd_power (g : RingDomain → RingDomain) : (s.modRd g).power = s.power := rfl
@[simp] theorem State.modRd_hostOut (g : RingDomain → RingDomain) : (s.modRd g).hostOut = s.hostOut := rfl
@[simp] theorem State.modRd_linkOut (g : RingDomain → RingDomain) : (s.modRd g).linkOut = s.linkOut := rfl
@[simp] theorem State.modRd_canOut (g : RingDomain → RingDomain) : (s.modRd g).canOut = s.canOut := rfl
@[simp] theorem State.modRd_pmbOut (g : RingDomain → RingDomain) : (s.modRd g).pmbOut = s.pmbOut := rfl
@[simp] theorem State.modRd_free (g : RingDomain → RingDomain) : (s.modRd g).free = s.free := rfl
@[simp] theorem State.modRd_pending (g : RingDomain → RingDomain) : (s.modRd g).pending = s.pending := rfl

/-! ### modSd -/

@[simp] theorem State.modSd_tstamp (g : ServiceDomain → ServiceDomain) : (s.modSd g).tstamp = s.tstamp := rfl
@[simp] theorem State.modSd_fields (g : ServiceDomain → ServiceDomain) : (s.modSd g).fields = s.fields := rfl
@[simp] theorem State.modSd_cores (g : ServiceDomain → ServiceDomain) : (s.modSd g).cores = s.cores := rfl
@[simp] theorem State.modSd_parts (g : ServiceDomain → ServiceDomain) : (s.modSd g).parts = s.parts := rfl
@[simp] theorem State.modSd_net (g : ServiceDomain → ServiceDomain) : (s.modSd g).net = s.net := rfl
@[simp] theorem State.modSd_rdFaults (g : ServiceDomain → ServiceDomain) : (s.modSd g).rdFaults = s.rdFaults := rfl
@[simp] theorem State.modSd_sdFaults (g : ServiceDomain → ServiceDomain) : (s.modSd g).sdFaults = s.sdFaults := rfl
@[simp] theorem State.modSd_faultCount (g : ServiceDomain → ServiceDomain) : (s.modSd g).faultCount = s.faultCount := rfl
@[simp] theorem State.modSd_detMode (g : ServiceDomain → ServiceDomain) : (s.modSd g).detMode = s.detMode := rfl
@[simp] theorem State.modSd_detRefusals (g : ServiceDomain → ServiceDomain) : (s.modSd g).detRefusals = s.detRefusals := rfl
@[simp] theorem State.modSd_totals (g : ServiceDomain → ServiceDomain) : (s.modSd g).totals = s.totals := rfl
@[simp] theorem State.modSd_ports (g : ServiceDomain → ServiceDomain) : (s.modSd g).ports = s.ports := rfl
@[simp] theorem State.modSd_sluice (g : ServiceDomain → ServiceDomain) : (s.modSd g).sluice = s.sluice := rfl
@[simp] theorem State.modSd_rd (g : ServiceDomain → ServiceDomain) : (s.modSd g).rd = s.rd := rfl
@[simp] theorem State.modSd_flash (g : ServiceDomain → ServiceDomain) : (s.modSd g).flash = s.flash := rfl
@[simp] theorem State.modSd_fw (g : ServiceDomain → ServiceDomain) : (s.modSd g).fw = s.fw := rfl
@[simp] theorem State.modSd_wh (g : ServiceDomain → ServiceDomain) : (s.modSd g).wh = s.wh := rfl
@[simp] theorem State.modSd_can (g : ServiceDomain → ServiceDomain) : (s.modSd g).can = s.can := rfl
@[simp] theorem State.modSd_therm (g : ServiceDomain → ServiceDomain) : (s.modSd g).therm = s.therm := rfl
@[simp] theorem State.modSd_power (g : ServiceDomain → ServiceDomain) : (s.modSd g).power = s.power := rfl
@[simp] theorem State.modSd_hostOut (g : ServiceDomain → ServiceDomain) : (s.modSd g).hostOut = s.hostOut := rfl
@[simp] theorem State.modSd_linkOut (g : ServiceDomain → ServiceDomain) : (s.modSd g).linkOut = s.linkOut := rfl
@[simp] theorem State.modSd_canOut (g : ServiceDomain → ServiceDomain) : (s.modSd g).canOut = s.canOut := rfl
@[simp] theorem State.modSd_pmbOut (g : ServiceDomain → ServiceDomain) : (s.modSd g).pmbOut = s.pmbOut := rfl
@[simp] theorem State.modSd_free (g : ServiceDomain → ServiceDomain) : (s.modSd g).free = s.free := rfl
@[simp] theorem State.modSd_pending (g : ServiceDomain → ServiceDomain) : (s.modSd g).pending = s.pending := rfl

/-! ### modWh -/

@[simp] theorem State.modWh_tstamp (g : WellPair → WellPair) : (s.modWh g).tstamp = s.tstamp := rfl
@[simp] theorem State.modWh_fields (g : WellPair → WellPair) : (s.modWh g).fields = s.fields := rfl
@[simp] theorem State.modWh_cores (g : WellPair → WellPair) : (s.modWh g).cores = s.cores := rfl
@[simp] theorem State.modWh_parts (g : WellPair → WellPair) : (s.modWh g).parts = s.parts := rfl
@[simp] theorem State.modWh_net (g : WellPair → WellPair) : (s.modWh g).net = s.net := rfl
@[simp] theorem State.modWh_rdFaults (g : WellPair → WellPair) : (s.modWh g).rdFaults = s.rdFaults := rfl
@[simp] theorem State.modWh_sdFaults (g : WellPair → WellPair) : (s.modWh g).sdFaults = s.sdFaults := rfl
@[simp] theorem State.modWh_faultCount (g : WellPair → WellPair) : (s.modWh g).faultCount = s.faultCount := rfl
@[simp] theorem State.modWh_detMode (g : WellPair → WellPair) : (s.modWh g).detMode = s.detMode := rfl
@[simp] theorem State.modWh_detRefusals (g : WellPair → WellPair) : (s.modWh g).detRefusals = s.detRefusals := rfl
@[simp] theorem State.modWh_totals (g : WellPair → WellPair) : (s.modWh g).totals = s.totals := rfl
@[simp] theorem State.modWh_ports (g : WellPair → WellPair) : (s.modWh g).ports = s.ports := rfl
@[simp] theorem State.modWh_sluice (g : WellPair → WellPair) : (s.modWh g).sluice = s.sluice := rfl
@[simp] theorem State.modWh_rd (g : WellPair → WellPair) : (s.modWh g).rd = s.rd := rfl
@[simp] theorem State.modWh_sd (g : WellPair → WellPair) : (s.modWh g).sd = s.sd := rfl
@[simp] theorem State.modWh_flash (g : WellPair → WellPair) : (s.modWh g).flash = s.flash := rfl
@[simp] theorem State.modWh_fw (g : WellPair → WellPair) : (s.modWh g).fw = s.fw := rfl
@[simp] theorem State.modWh_can (g : WellPair → WellPair) : (s.modWh g).can = s.can := rfl
@[simp] theorem State.modWh_therm (g : WellPair → WellPair) : (s.modWh g).therm = s.therm := rfl
@[simp] theorem State.modWh_power (g : WellPair → WellPair) : (s.modWh g).power = s.power := rfl
@[simp] theorem State.modWh_hostOut (g : WellPair → WellPair) : (s.modWh g).hostOut = s.hostOut := rfl
@[simp] theorem State.modWh_linkOut (g : WellPair → WellPair) : (s.modWh g).linkOut = s.linkOut := rfl
@[simp] theorem State.modWh_canOut (g : WellPair → WellPair) : (s.modWh g).canOut = s.canOut := rfl
@[simp] theorem State.modWh_pmbOut (g : WellPair → WellPair) : (s.modWh g).pmbOut = s.pmbOut := rfl
@[simp] theorem State.modWh_free (g : WellPair → WellPair) : (s.modWh g).free = s.free := rfl
@[simp] theorem State.modWh_pending (g : WellPair → WellPair) : (s.modWh g).pending = s.pending := rfl

/-! ### modFw -/

@[simp] theorem State.modFw_tstamp (g : Firmware → Firmware) : (s.modFw g).tstamp = s.tstamp := rfl
@[simp] theorem State.modFw_fields (g : Firmware → Firmware) : (s.modFw g).fields = s.fields := rfl
@[simp] theorem State.modFw_cores (g : Firmware → Firmware) : (s.modFw g).cores = s.cores := rfl
@[simp] theorem State.modFw_parts (g : Firmware → Firmware) : (s.modFw g).parts = s.parts := rfl
@[simp] theorem State.modFw_net (g : Firmware → Firmware) : (s.modFw g).net = s.net := rfl
@[simp] theorem State.modFw_rdFaults (g : Firmware → Firmware) : (s.modFw g).rdFaults = s.rdFaults := rfl
@[simp] theorem State.modFw_sdFaults (g : Firmware → Firmware) : (s.modFw g).sdFaults = s.sdFaults := rfl
@[simp] theorem State.modFw_faultCount (g : Firmware → Firmware) : (s.modFw g).faultCount = s.faultCount := rfl
@[simp] theorem State.modFw_detMode (g : Firmware → Firmware) : (s.modFw g).detMode = s.detMode := rfl
@[simp] theorem State.modFw_detRefusals (g : Firmware → Firmware) : (s.modFw g).detRefusals = s.detRefusals := rfl
@[simp] theorem State.modFw_totals (g : Firmware → Firmware) : (s.modFw g).totals = s.totals := rfl
@[simp] theorem State.modFw_ports (g : Firmware → Firmware) : (s.modFw g).ports = s.ports := rfl
@[simp] theorem State.modFw_sluice (g : Firmware → Firmware) : (s.modFw g).sluice = s.sluice := rfl
@[simp] theorem State.modFw_rd (g : Firmware → Firmware) : (s.modFw g).rd = s.rd := rfl
@[simp] theorem State.modFw_sd (g : Firmware → Firmware) : (s.modFw g).sd = s.sd := rfl
@[simp] theorem State.modFw_flash (g : Firmware → Firmware) : (s.modFw g).flash = s.flash := rfl
@[simp] theorem State.modFw_wh (g : Firmware → Firmware) : (s.modFw g).wh = s.wh := rfl
@[simp] theorem State.modFw_can (g : Firmware → Firmware) : (s.modFw g).can = s.can := rfl
@[simp] theorem State.modFw_therm (g : Firmware → Firmware) : (s.modFw g).therm = s.therm := rfl
@[simp] theorem State.modFw_power (g : Firmware → Firmware) : (s.modFw g).power = s.power := rfl
@[simp] theorem State.modFw_hostOut (g : Firmware → Firmware) : (s.modFw g).hostOut = s.hostOut := rfl
@[simp] theorem State.modFw_linkOut (g : Firmware → Firmware) : (s.modFw g).linkOut = s.linkOut := rfl
@[simp] theorem State.modFw_canOut (g : Firmware → Firmware) : (s.modFw g).canOut = s.canOut := rfl
@[simp] theorem State.modFw_pmbOut (g : Firmware → Firmware) : (s.modFw g).pmbOut = s.pmbOut := rfl
@[simp] theorem State.modFw_free (g : Firmware → Firmware) : (s.modFw g).free = s.free := rfl
@[simp] theorem State.modFw_pending (g : Firmware → Firmware) : (s.modFw g).pending = s.pending := rfl

/-! ### modCan -/

@[simp] theorem State.modCan_tstamp (g : Can → Can) : (s.modCan g).tstamp = s.tstamp := rfl
@[simp] theorem State.modCan_fields (g : Can → Can) : (s.modCan g).fields = s.fields := rfl
@[simp] theorem State.modCan_cores (g : Can → Can) : (s.modCan g).cores = s.cores := rfl
@[simp] theorem State.modCan_parts (g : Can → Can) : (s.modCan g).parts = s.parts := rfl
@[simp] theorem State.modCan_net (g : Can → Can) : (s.modCan g).net = s.net := rfl
@[simp] theorem State.modCan_rdFaults (g : Can → Can) : (s.modCan g).rdFaults = s.rdFaults := rfl
@[simp] theorem State.modCan_sdFaults (g : Can → Can) : (s.modCan g).sdFaults = s.sdFaults := rfl
@[simp] theorem State.modCan_faultCount (g : Can → Can) : (s.modCan g).faultCount = s.faultCount := rfl
@[simp] theorem State.modCan_detMode (g : Can → Can) : (s.modCan g).detMode = s.detMode := rfl
@[simp] theorem State.modCan_detRefusals (g : Can → Can) : (s.modCan g).detRefusals = s.detRefusals := rfl
@[simp] theorem State.modCan_totals (g : Can → Can) : (s.modCan g).totals = s.totals := rfl
@[simp] theorem State.modCan_ports (g : Can → Can) : (s.modCan g).ports = s.ports := rfl
@[simp] theorem State.modCan_sluice (g : Can → Can) : (s.modCan g).sluice = s.sluice := rfl
@[simp] theorem State.modCan_rd (g : Can → Can) : (s.modCan g).rd = s.rd := rfl
@[simp] theorem State.modCan_sd (g : Can → Can) : (s.modCan g).sd = s.sd := rfl
@[simp] theorem State.modCan_flash (g : Can → Can) : (s.modCan g).flash = s.flash := rfl
@[simp] theorem State.modCan_fw (g : Can → Can) : (s.modCan g).fw = s.fw := rfl
@[simp] theorem State.modCan_wh (g : Can → Can) : (s.modCan g).wh = s.wh := rfl
@[simp] theorem State.modCan_therm (g : Can → Can) : (s.modCan g).therm = s.therm := rfl
@[simp] theorem State.modCan_power (g : Can → Can) : (s.modCan g).power = s.power := rfl
@[simp] theorem State.modCan_hostOut (g : Can → Can) : (s.modCan g).hostOut = s.hostOut := rfl
@[simp] theorem State.modCan_linkOut (g : Can → Can) : (s.modCan g).linkOut = s.linkOut := rfl
@[simp] theorem State.modCan_canOut (g : Can → Can) : (s.modCan g).canOut = s.canOut := rfl
@[simp] theorem State.modCan_pmbOut (g : Can → Can) : (s.modCan g).pmbOut = s.pmbOut := rfl
@[simp] theorem State.modCan_free (g : Can → Can) : (s.modCan g).free = s.free := rfl
@[simp] theorem State.modCan_pending (g : Can → Can) : (s.modCan g).pending = s.pending := rfl

/-! ### modTherm -/

@[simp] theorem State.modTherm_tstamp (g : Thermal → Thermal) : (s.modTherm g).tstamp = s.tstamp := rfl
@[simp] theorem State.modTherm_fields (g : Thermal → Thermal) : (s.modTherm g).fields = s.fields := rfl
@[simp] theorem State.modTherm_cores (g : Thermal → Thermal) : (s.modTherm g).cores = s.cores := rfl
@[simp] theorem State.modTherm_parts (g : Thermal → Thermal) : (s.modTherm g).parts = s.parts := rfl
@[simp] theorem State.modTherm_net (g : Thermal → Thermal) : (s.modTherm g).net = s.net := rfl
@[simp] theorem State.modTherm_rdFaults (g : Thermal → Thermal) : (s.modTherm g).rdFaults = s.rdFaults := rfl
@[simp] theorem State.modTherm_sdFaults (g : Thermal → Thermal) : (s.modTherm g).sdFaults = s.sdFaults := rfl
@[simp] theorem State.modTherm_faultCount (g : Thermal → Thermal) : (s.modTherm g).faultCount = s.faultCount := rfl
@[simp] theorem State.modTherm_detMode (g : Thermal → Thermal) : (s.modTherm g).detMode = s.detMode := rfl
@[simp] theorem State.modTherm_detRefusals (g : Thermal → Thermal) : (s.modTherm g).detRefusals = s.detRefusals := rfl
@[simp] theorem State.modTherm_totals (g : Thermal → Thermal) : (s.modTherm g).totals = s.totals := rfl
@[simp] theorem State.modTherm_ports (g : Thermal → Thermal) : (s.modTherm g).ports = s.ports := rfl
@[simp] theorem State.modTherm_sluice (g : Thermal → Thermal) : (s.modTherm g).sluice = s.sluice := rfl
@[simp] theorem State.modTherm_rd (g : Thermal → Thermal) : (s.modTherm g).rd = s.rd := rfl
@[simp] theorem State.modTherm_sd (g : Thermal → Thermal) : (s.modTherm g).sd = s.sd := rfl
@[simp] theorem State.modTherm_flash (g : Thermal → Thermal) : (s.modTherm g).flash = s.flash := rfl
@[simp] theorem State.modTherm_fw (g : Thermal → Thermal) : (s.modTherm g).fw = s.fw := rfl
@[simp] theorem State.modTherm_wh (g : Thermal → Thermal) : (s.modTherm g).wh = s.wh := rfl
@[simp] theorem State.modTherm_can (g : Thermal → Thermal) : (s.modTherm g).can = s.can := rfl
@[simp] theorem State.modTherm_power (g : Thermal → Thermal) : (s.modTherm g).power = s.power := rfl
@[simp] theorem State.modTherm_hostOut (g : Thermal → Thermal) : (s.modTherm g).hostOut = s.hostOut := rfl
@[simp] theorem State.modTherm_linkOut (g : Thermal → Thermal) : (s.modTherm g).linkOut = s.linkOut := rfl
@[simp] theorem State.modTherm_canOut (g : Thermal → Thermal) : (s.modTherm g).canOut = s.canOut := rfl
@[simp] theorem State.modTherm_pmbOut (g : Thermal → Thermal) : (s.modTherm g).pmbOut = s.pmbOut := rfl
@[simp] theorem State.modTherm_free (g : Thermal → Thermal) : (s.modTherm g).free = s.free := rfl
@[simp] theorem State.modTherm_pending (g : Thermal → Thermal) : (s.modTherm g).pending = s.pending := rfl

/-! ### inject -/

@[simp] theorem State.inject_tstamp (l : List Packet) : (s.inject l).tstamp = s.tstamp := rfl
@[simp] theorem State.inject_fields (l : List Packet) : (s.inject l).fields = s.fields := rfl
@[simp] theorem State.inject_cores (l : List Packet) : (s.inject l).cores = s.cores := rfl
@[simp] theorem State.inject_parts (l : List Packet) : (s.inject l).parts = s.parts := rfl
@[simp] theorem State.inject_rdFaults (l : List Packet) : (s.inject l).rdFaults = s.rdFaults := rfl
@[simp] theorem State.inject_sdFaults (l : List Packet) : (s.inject l).sdFaults = s.sdFaults := rfl
@[simp] theorem State.inject_faultCount (l : List Packet) : (s.inject l).faultCount = s.faultCount := rfl
@[simp] theorem State.inject_detMode (l : List Packet) : (s.inject l).detMode = s.detMode := rfl
@[simp] theorem State.inject_detRefusals (l : List Packet) : (s.inject l).detRefusals = s.detRefusals := rfl
@[simp] theorem State.inject_totals (l : List Packet) : (s.inject l).totals = s.totals := rfl
@[simp] theorem State.inject_ports (l : List Packet) : (s.inject l).ports = s.ports := rfl
@[simp] theorem State.inject_sluice (l : List Packet) : (s.inject l).sluice = s.sluice := rfl
@[simp] theorem State.inject_rd (l : List Packet) : (s.inject l).rd = s.rd := rfl
@[simp] theorem State.inject_sd (l : List Packet) : (s.inject l).sd = s.sd := rfl
@[simp] theorem State.inject_flash (l : List Packet) : (s.inject l).flash = s.flash := rfl
@[simp] theorem State.inject_fw (l : List Packet) : (s.inject l).fw = s.fw := rfl
@[simp] theorem State.inject_wh (l : List Packet) : (s.inject l).wh = s.wh := rfl
@[simp] theorem State.inject_can (l : List Packet) : (s.inject l).can = s.can := rfl
@[simp] theorem State.inject_therm (l : List Packet) : (s.inject l).therm = s.therm := rfl
@[simp] theorem State.inject_power (l : List Packet) : (s.inject l).power = s.power := rfl
@[simp] theorem State.inject_hostOut (l : List Packet) : (s.inject l).hostOut = s.hostOut := rfl
@[simp] theorem State.inject_linkOut (l : List Packet) : (s.inject l).linkOut = s.linkOut := rfl
@[simp] theorem State.inject_canOut (l : List Packet) : (s.inject l).canOut = s.canOut := rfl
@[simp] theorem State.inject_pmbOut (l : List Packet) : (s.inject l).pmbOut = s.pmbOut := rfl
@[simp] theorem State.inject_free (l : List Packet) : (s.inject l).free = s.free := rfl
@[simp] theorem State.inject_pending (l : List Packet) : (s.inject l).pending = s.pending := rfl

/-! ### take -/

@[simp] theorem State.take_tstamp (k : Nat) : (s.take k).tstamp = s.tstamp := rfl
@[simp] theorem State.take_fields (k : Nat) : (s.take k).fields = s.fields := rfl
@[simp] theorem State.take_cores (k : Nat) : (s.take k).cores = s.cores := rfl
@[simp] theorem State.take_parts (k : Nat) : (s.take k).parts = s.parts := rfl
@[simp] theorem State.take_rdFaults (k : Nat) : (s.take k).rdFaults = s.rdFaults := rfl
@[simp] theorem State.take_sdFaults (k : Nat) : (s.take k).sdFaults = s.sdFaults := rfl
@[simp] theorem State.take_faultCount (k : Nat) : (s.take k).faultCount = s.faultCount := rfl
@[simp] theorem State.take_detMode (k : Nat) : (s.take k).detMode = s.detMode := rfl
@[simp] theorem State.take_detRefusals (k : Nat) : (s.take k).detRefusals = s.detRefusals := rfl
@[simp] theorem State.take_totals (k : Nat) : (s.take k).totals = s.totals := rfl
@[simp] theorem State.take_ports (k : Nat) : (s.take k).ports = s.ports := rfl
@[simp] theorem State.take_sluice (k : Nat) : (s.take k).sluice = s.sluice := rfl
@[simp] theorem State.take_rd (k : Nat) : (s.take k).rd = s.rd := rfl
@[simp] theorem State.take_sd (k : Nat) : (s.take k).sd = s.sd := rfl
@[simp] theorem State.take_flash (k : Nat) : (s.take k).flash = s.flash := rfl
@[simp] theorem State.take_fw (k : Nat) : (s.take k).fw = s.fw := rfl
@[simp] theorem State.take_wh (k : Nat) : (s.take k).wh = s.wh := rfl
@[simp] theorem State.take_can (k : Nat) : (s.take k).can = s.can := rfl
@[simp] theorem State.take_therm (k : Nat) : (s.take k).therm = s.therm := rfl
@[simp] theorem State.take_power (k : Nat) : (s.take k).power = s.power := rfl
@[simp] theorem State.take_hostOut (k : Nat) : (s.take k).hostOut = s.hostOut := rfl
@[simp] theorem State.take_linkOut (k : Nat) : (s.take k).linkOut = s.linkOut := rfl
@[simp] theorem State.take_canOut (k : Nat) : (s.take k).canOut = s.canOut := rfl
@[simp] theorem State.take_pmbOut (k : Nat) : (s.take k).pmbOut = s.pmbOut := rfl
@[simp] theorem State.take_free (k : Nat) : (s.take k).free = s.free := rfl
@[simp] theorem State.take_pending (k : Nat) : (s.take k).pending = s.pending := rfl

/-! ### addTotal -/

@[simp] theorem State.addTotal_tstamp (k n : Nat) : (s.addTotal k n).tstamp = s.tstamp := rfl
@[simp] theorem State.addTotal_fields (k n : Nat) : (s.addTotal k n).fields = s.fields := rfl
@[simp] theorem State.addTotal_cores (k n : Nat) : (s.addTotal k n).cores = s.cores := rfl
@[simp] theorem State.addTotal_parts (k n : Nat) : (s.addTotal k n).parts = s.parts := rfl
@[simp] theorem State.addTotal_net (k n : Nat) : (s.addTotal k n).net = s.net := rfl
@[simp] theorem State.addTotal_rdFaults (k n : Nat) : (s.addTotal k n).rdFaults = s.rdFaults := rfl
@[simp] theorem State.addTotal_sdFaults (k n : Nat) : (s.addTotal k n).sdFaults = s.sdFaults := rfl
@[simp] theorem State.addTotal_faultCount (k n : Nat) : (s.addTotal k n).faultCount = s.faultCount := rfl
@[simp] theorem State.addTotal_detMode (k n : Nat) : (s.addTotal k n).detMode = s.detMode := rfl
@[simp] theorem State.addTotal_detRefusals (k n : Nat) : (s.addTotal k n).detRefusals = s.detRefusals := rfl
@[simp] theorem State.addTotal_ports (k n : Nat) : (s.addTotal k n).ports = s.ports := rfl
@[simp] theorem State.addTotal_sluice (k n : Nat) : (s.addTotal k n).sluice = s.sluice := rfl
@[simp] theorem State.addTotal_rd (k n : Nat) : (s.addTotal k n).rd = s.rd := rfl
@[simp] theorem State.addTotal_sd (k n : Nat) : (s.addTotal k n).sd = s.sd := rfl
@[simp] theorem State.addTotal_flash (k n : Nat) : (s.addTotal k n).flash = s.flash := rfl
@[simp] theorem State.addTotal_fw (k n : Nat) : (s.addTotal k n).fw = s.fw := rfl
@[simp] theorem State.addTotal_wh (k n : Nat) : (s.addTotal k n).wh = s.wh := rfl
@[simp] theorem State.addTotal_can (k n : Nat) : (s.addTotal k n).can = s.can := rfl
@[simp] theorem State.addTotal_therm (k n : Nat) : (s.addTotal k n).therm = s.therm := rfl
@[simp] theorem State.addTotal_power (k n : Nat) : (s.addTotal k n).power = s.power := rfl
@[simp] theorem State.addTotal_hostOut (k n : Nat) : (s.addTotal k n).hostOut = s.hostOut := rfl
@[simp] theorem State.addTotal_linkOut (k n : Nat) : (s.addTotal k n).linkOut = s.linkOut := rfl
@[simp] theorem State.addTotal_canOut (k n : Nat) : (s.addTotal k n).canOut = s.canOut := rfl
@[simp] theorem State.addTotal_pmbOut (k n : Nat) : (s.addTotal k n).pmbOut = s.pmbOut := rfl
@[simp] theorem State.addTotal_free (k n : Nat) : (s.addTotal k n).free = s.free := rfl
@[simp] theorem State.addTotal_pending (k n : Nat) : (s.addTotal k n).pending = s.pending := rfl

end Sys2Proof.Machine
end

