-- ==== Sys2Proof/Laws/Ops.lean ====
section
/-! SUPPORT. What the shared operations can do: units read after an update, reports, registers of a core, and what issuing an instruction comes to. -/

namespace Sys2Proof.Machine

/-! ### Units after an update of a unit -/

@[simp] theorem State.field_setField (s : State) (f g : Nat) (x : Field) :
    (s.setField f x).field g = if g = f then x else s.field g := Tab.read_write s.fields Field.reset x f g
@[simp] theorem State.part_setPart (s : State) (p q : Nat) (x : Part) :
    (s.setPart p x).part q = if q = p then x else s.part q := Tab.read_write s.parts Part.reset x p q
@[simp] theorem State.port_setPort (s : State) (p q : Nat) (x : Port) :
    (s.setPort p x).port q = if q = p then x else s.port q := Tab.read_write s.ports Port.reset x p q
@[simp] theorem State.core_setField (s : State) (f c : Nat) (x : Field) : (s.setField f x).core c = s.core c := rfl
@[simp] theorem State.part_setField (s : State) (f p : Nat) (x : Field) : (s.setField f x).part p = s.part p := rfl
@[simp] theorem State.port_setField (s : State) (f p : Nat) (x : Field) : (s.setField f x).port p = s.port p := rfl
@[simp] theorem State.core_setPart (s : State) (p c : Nat) (x : Part) : (s.setPart p x).core c = s.core c := rfl
@[simp] theorem State.field_setPart (s : State) (p f : Nat) (x : Part) : (s.setPart p x).field f = s.field f := rfl
@[simp] theorem State.core_setPort (s : State) (p c : Nat) (x : Port) : (s.setPort p x).core c = s.core c := rfl
@[simp] theorem State.field_setPort (s : State) (p f : Nat) (x : Port) : (s.setPort p x).field f = s.field f := rfl
@[simp] theorem State.field_modField (s : State) (f g : Nat) (h : Field → Field) :
    (s.modField f h).field g = if g = f then h (s.field f) else s.field g := State.field_setField s f g _
@[simp] theorem State.part_modPart (s : State) (p q : Nat) (h : Part → Part) :
    (s.modPart p h).part q = if q = p then h (s.part p) else s.part q := State.part_setPart s p q _
@[simp] theorem State.port_modPort (s : State) (p q : Nat) (h : Port → Port) :
    (s.modPort p h).port q = if q = p then h (s.port p) else s.port q := State.port_setPort s p q _
@[simp] theorem Port.ring_setRing (x : Port) (r q : Nat) (y : Ring) :
    (x.setRing r y).ring q = if q = r then y else x.ring q := Tab.read_write x.rings Ring.reset y r q

/-! ### Reports (R489 to R494) -/

/-- A report changes the fault count and the fault queue of its origin, nothing else. -/
theorem State.report_frame (s : State) (q : Nat) (r : FaultRec) :
    s.report q r = { s with faultCount := (s.report q r).faultCount, rdFaults := (s.report q r).rdFaults,
                            sdFaults := (s.report q r).sdFaults, fields := (s.report q r).fields } := by
  unfold State.report; split
  · rfl
  · split <;> rfl

@[simp] theorem State.report_pending (s : State) (q : Nat) (r : FaultRec) : (s.report q r).pending = s.pending := by
  rw [State.report_frame]
@[simp] theorem State.report_tstamp (s : State) (q : Nat) (r : FaultRec) : (s.report q r).tstamp = s.tstamp := by
  rw [State.report_frame]
@[simp] theorem State.core_report (s : State) (q c : Nat) (r : FaultRec) : (s.report q r).core c = s.core c := by
  rw [State.report_frame]; rfl
@[simp] theorem State.part_report (s : State) (q p : Nat) (r : FaultRec) : (s.report q r).part p = s.part p := by
  rw [State.report_frame]; rfl

/-- Every fault is counted. -/
@[simp] theorem State.report_faultCount (s : State) (q : Nat) (r : FaultRec) :
    (s.report q r).faultCount = (s.faultCount + 1) % 2 ^ 32 := by
  unfold State.report; split
  · rfl
  · split <;> rfl

/-! ### Cores -/

@[simp] theorem State.countUe_cores (s : State) (f : Nat) (sp : UeSpace) (u w : Nat) (t : Option DWord) : (s.countUe f sp u w t).cores = s.cores := by
  unfold State.countUe
  simp only
  split
  · rfl
  · split
    · cases sp <;> rw [State.report_frame] <;> rfl
    · cases sp <;> rfl

@[simp] theorem State.countFound_cores (s : State) (f c : Nat) (l : List (UeSpace × Nat)) :
    (s.countFound f c l).cores = s.cores := by
  unfold State.countFound
  generalize (s.core c).runningTask = t
  induction l generalizing s with
  | nil => rfl
  | cons x r ih => simp [List.foldl_cons, ih]

@[simp] theorem State.forgetUe_cores (s : State) (f c : Nat) (a b : Core) : (s.forgetUe f c a b).cores = s.cores := by
  unfold State.forgetUe; split <;> rfl

/-- A core put back is read back, and every other core is as it was. -/
theorem State.core_setCore (s : State) (c c' : Nat) (k : Core) :
    (s.setCore c k).core c' = if c' = c then s.stored c k else s.core c' := by
  have h : ∀ n, (if n = 0 then s else s.addTotal 1 n).cores = s.cores := by intro n; split <;> rfl
  unfold State.setCore
  conv_lhs => unfold State.core
  simp only [Tab.read_write, State.forgetUe_cores, State.countFound_cores, h]
  rfl

/-- A core that stays in its run state is put back as given. -/
theorem State.stored_same (s : State) (c : Nat) (k : Core) (h1 : k.run = (s.core c).run) (h3 : k.found = (s.core c).found) :
    s.stored c k = k := by
  unfold State.stored
  simp only [← h1, if_true]
  rw [← h3]

/-- Putting a core back changes only that core, unless its run state, its count of correctable words, its uncorrectable words or the words found differ. -/
theorem State.setCore_quiet (s : State) (c : Nat) (k : Core) (h1 : k.run = (s.core c).run)
    (h2 : k.counter 15 = (s.core c).counter 15) (h3 : k.found = (s.core c).found) (h4 : k.ue = (s.core c).ue)
    (h5 : k.iue = (s.core c).iue) :
    s.setCore c k = { s with cores := Tab.write s.cores Core.reset c k } := by
  unfold State.setCore
  simp only [s.stored_same c k h1 h3, h2, Nat.sub_self, if_true]
  rw [← h3]
  have e : (State.countFound s (fieldOf c) c (List.drop k.found.length k.found)) = s := by simp [State.countFound]
  rw [e]
  have e2 : State.forgetUe s (fieldOf c) c (s.core c) k = s := by simp [State.forgetUe, h4, h5]
  rw [e2]

/-- What a scalar register reads after a write: s0 stays 0 (R149). -/
@[simp] theorem Core.sreg_setS (k : Core) (n m v : Nat) :
    (k.setS n v).sreg m = if m = n ∧ n ≠ 0 then v % 2 ^ 32 else k.sreg m := by
  unfold Core.setS Core.sreg
  by_cases h0 : m = 0
  · subst h0; by_cases hn : n = 0 <;> simp [hn, eq_comm]
  · by_cases hn : n = 0
    · subst hn; simp [h0]
    · simp only [hn, h0, if_false, Tab.read_write, ne_eq, not_false_eq_true, and_true]
      split
      · simp [BitVec.toNat_ofNat]
      · rfl

@[simp] theorem Core.vreg_setV (k : Core) (n m v : Nat) :
    (k.setV n v).vreg m = if m = n then (BitVec.ofNat 1024 v).toNat else k.vreg m := by
  unfold Core.setV Core.vreg
  simp only [Tab.read_write]
  split <;> rfl

@[simp] theorem Core.counter_addCounter (k : Core) (i j n : Nat) :
    (k.addCounter i n).counter j = if j = i then k.counter i + n else k.counter j := by
  unfold Core.addCounter Core.counter
  simp only [Tab.read_write]

@[simp] theorem Core.setS_fields (k : Core) (n v : Nat) :
    k.setS n v = { k with regs := { k.regs with s := (k.setS n v).regs.s } } := by
  unfold Core.setS; split <;> rfl

/-- A word without a correctable error is read as it is. -/
theorem State.meetIce_clean (s : State) (c w : Nat) (h : w ∉ (s.core c).ice) : s.meetIce c w = s := by
  unfold State.meetIce; simp [h]

/-- An instruction that may issue, fetched and decoded, does what its rule says; every other outcome of `issue` is a trap of the fetch or the word, or no change. -/
theorem issue_runs (op : CoreOp) (c : Nat) (s : State) (run : State → Core → Nat → Issue) (w : Nat)
    (hc : c < nCores) (hi : s.canIssue c = true) (hf : (s.core c).fetch = .inl w) (hd : decodeOp w = some op)
    (hn : ((s.core c).pc - istoreBase) / 8 ∉ (s.core c).ice) :
    issue op c s run = .next (match run s (s.core c) w with
      | .stall => s
      | .done k1 out => (s.setCore c (k1.addCounter 6 1)).inject out
      | .sleep k1 out => (s.setCore c k1).inject out
      | .trap k1 cause addr => s.trapCore c cause (s.core c).pc addr k1) := by
  unfold issue onCore
  simp only [hc, hi, hf, State.meetIce_clean s c _ hn, hd, if_true]
  all_goals rfl

end Sys2Proof.Machine
end

