-- ==== Sys2Proof/Tests/Slice0.lean ====
section
/-! SUPPORT. Tests: one command each on a small state, and for every statement a state and operands that meet its hypotheses. -/

set_option Elab.async false

open Sys2Proof Sys2Proof.Machine

namespace Test

/-! ### Small states -/

/-- A field whose domains are ON. -/
def field : Field := { Field.reset with clk := { FieldClock.reset with md := .on, cd := .on } }
/-- A core that runs, with instruction `w` at its program counter and scalar registers as listed. -/
def core (w : Nat) (regs : List (Nat × Word)) : Core :=
  { Core.reset with run := .run, istore := Memory.setValue [] 0 4 w, regs := { Regs.zero with s := regs } }
/-- Core 0 of field 0, both as given. -/
def one (k : Core) : State := { State.reset with cores := [(0, k)], fields := [(0, field)] }
/-- The commonest state: core 0 at instruction `w`. -/
def at' (w : Nat) (regs : List (Nat × Word)) : State := one (core w regs)

/-- An outcome is a next state that passes a check. -/
def next (o : Out) (f : State → Bool) : Bool := match o with | .next t => f t | _ => false
/-- A word issues as an instruction. -/
def issues (s : State) (c w : Nat) (op : CoreOp) : Bool :=
  decide (c < nCores) && s.canIssue c && (match (s.core c).fetch with | .inl v => decide (v = w) | .inr _ => false) && decide (decodeOp w = some op) &&
    decide (((s.core c).pc - istoreBase) / 8 ∉ (s.core c).ice)

theorem issues_of {s : State} {c w : Nat} {op : CoreOp} (h : issues s c w op = true) : Issues s c w op := by
  simp only [issues, Bool.and_eq_true, decide_eq_true_eq] at h
  obtain ⟨⟨⟨⟨h1, h2⟩, h3⟩, h4⟩, h5⟩ := h
  refine ⟨h1, h2, ?_, h4, h5⟩
  split at h3
  · rename_i v hv; rw [hv, of_decide_eq_true h3]
  · cases h3

/-- What every scalar test asks of a next state: register `n`, and the program counter. -/
def reg (o : Out) (n v pc : Nat) : Bool := next o (fun t => decide ((t.core 0).sreg n = v) && decide ((t.core 0).pc = pc))

theorem free_of {k : Core} {rs : List Nat} (h : rs.all k.sregFree = true) : k.free rs := fun r hr => List.all_eq_true.mp h r hr

theorem sound_of {k : Core} {a n : Nat} (h : ((wordsOf a n).all (fun x => !k.ue.contains x) && k.sbuf.all (fun e => (wordsOf e.addr e.size).all (fun x => !k.ue.contains x))) = true) :
    k.sound a n := by
  simp only [Bool.and_eq_true, List.all_eq_true, Bool.not_eq_true', List.contains_eq_mem, decide_eq_false_iff_not] at h
  exact ⟨h.1, h.2⟩

theorem tileSound_of {k : Core} {l : List Nat}
    (h : (l.all (fun td => (tdWords td).all (fun x => !k.ue.contains x)) && k.sbuf.all (fun e => (wordsOf e.addr e.size).all (fun x => !k.ue.contains x))) = true) :
    Claims.tileSound k l := by
  simp only [Bool.and_eq_true, List.all_eq_true, Bool.not_eq_true', List.contains_eq_mem, decide_eq_false_iff_not] at h
  exact ⟨h.1, h.2⟩

/-- A queued vector instruction. -/
def qop (w : Nat) : QOp := { mixer := false, word := w, pc := 0, sA := 0, rm := 0, satur := true, base := 0, td := [], nth := 0 }

end Test

/-! ### Core instructions -/

/-- ADD wraps modulo 2^32 (R156). -/
theorem test_add_wraps :
    Issues (Test.at' 0x00611001 [(1, 0xFFFFFFFF), (2, 3)]) 0 0x00611001 .add ∧ ((Test.at' 0x00611001 [(1, 0xFFFFFFFF), (2, 3)]).core 0).free [1, 2, 3] ∧
    Test.reg (exec (.add 0) (Test.at' 0x00611001 [(1, 0xFFFFFFFF), (2, 3)])) 3 2 0x100004 = true :=
  ⟨Test.issues_of (by decide +kernel), Test.free_of (by decide +kernel), by decide +kernel⟩

/-- SRA fills with the sign (R156). -/
theorem test_sra_sign :
    Issues (Test.at' 0x00611008 [(1, 0x80000000), (2, 33)]) 0 0x00611008 .sra ∧ ((Test.at' 0x00611008 [(1, 0x80000000), (2, 33)]).core 0).free [1, 2, 3] ∧
    Test.reg (exec (.sra 0) (Test.at' 0x00611008 [(1, 0x80000000), (2, 33)])) 3 0xC0000000 0x100004 = true :=
  ⟨Test.issues_of (by decide +kernel), Test.free_of (by decide +kernel), by decide +kernel⟩

/-- MULH of two negative numbers (R156). -/
theorem test_mulh_signs :
    Issues (Test.at' 0x00611011 [(1, 0xFFFFFFFF), (2, 0x80000000)]) 0 0x00611011 .mulh ∧ ((Test.at' 0x00611011 [(1, 0xFFFFFFFF), (2, 0x80000000)]).core 0).free [1, 2, 3] ∧
    Test.reg (exec (.mulh 0) (Test.at' 0x00611011 [(1, 0xFFFFFFFF), (2, 0x80000000)])) 3 0 0x100004 = true :=
  ⟨Test.issues_of (by decide +kernel), Test.free_of (by decide +kernel), by decide +kernel⟩

/-- MIN is signed (R156). -/
theorem test_min_signed :
    Issues (Test.at' 0x0061100B [(1, 0xFFFFFFFF), (2, 1)]) 0 0x0061100B .minMax ∧ ((Test.at' 0x0061100B [(1, 0xFFFFFFFF), (2, 1)]).core 0).free [1, 2, 3] ∧
    Test.reg (exec (.minMax 0) (Test.at' 0x0061100B [(1, 0xFFFFFFFF), (2, 1)])) 3 0xFFFFFFFF 0x100004 = true :=
  ⟨Test.issues_of (by decide +kernel), Test.free_of (by decide +kernel), by decide +kernel⟩

/-- DIV of the most negative number by −1 (R157). -/
theorem test_div_overflow :
    Issues (Test.at' 0x00611014 [(1, 0x80000000), (2, 0xFFFFFFFF)]) 0 0x00611014 .divRem ∧ ((Test.at' 0x00611014 [(1, 0x80000000), (2, 0xFFFFFFFF)]).core 0).free [1, 2, 3] ∧
    Test.reg (exec (.divRem 0) (Test.at' 0x00611014 [(1, 0x80000000), (2, 0xFFFFFFFF)])) 3 0x80000000 0x100004 = true :=
  ⟨Test.issues_of (by decide +kernel), Test.free_of (by decide +kernel), by decide +kernel⟩

/-- DIV truncates toward zero (R157). -/
theorem test_div_truncates :
    Issues (Test.at' 0x00611014 [(1, 0xFFFFFFF9), (2, 2)]) 0 0x00611014 .divRem ∧ ((Test.at' 0x00611014 [(1, 0xFFFFFFF9), (2, 2)]).core 0).free [1, 2, 3] ∧
    Test.reg (exec (.divRem 0) (Test.at' 0x00611014 [(1, 0xFFFFFFF9), (2, 2)])) 3 0xFFFFFFFD 0x100004 = true :=
  ⟨Test.issues_of (by decide +kernel), Test.free_of (by decide +kernel), by decide +kernel⟩

/-- DIVU by 0 (R157). -/
theorem test_divu_zero :
    Issues (Test.at' 0x00611015 [(1, 7)]) 0 0x00611015 .divRem ∧ ((Test.at' 0x00611015 [(1, 7)]).core 0).free [1, 2, 3] ∧
    Test.reg (exec (.divRem 0) (Test.at' 0x00611015 [(1, 7)])) 3 0xFFFFFFFF 0x100004 = true :=
  ⟨Test.issues_of (by decide +kernel), Test.free_of (by decide +kernel), by decide +kernel⟩

/-- REM by 0 returns the dividend (R157). -/
theorem test_rem_zero :
    Issues (Test.at' 0x00611016 [(1, 7)]) 0 0x00611016 .divRem ∧ ((Test.at' 0x00611016 [(1, 7)]).core 0).free [1, 2, 3] ∧
    Test.reg (exec (.divRem 0) (Test.at' 0x00611016 [(1, 7)])) 3 7 0x100004 = true :=
  ⟨Test.issues_of (by decide +kernel), Test.free_of (by decide +kernel), by decide +kernel⟩

/-- REMU (R157). -/
theorem test_remu :
    Issues (Test.at' 0x00611017 [(1, 0xFFFFFFFF), (2, 16)]) 0 0x00611017 .divRem ∧ ((Test.at' 0x00611017 [(1, 0xFFFFFFFF), (2, 16)]).core 0).free [1, 2, 3] ∧
    Test.reg (exec (.divRem 0) (Test.at' 0x00611017 [(1, 0xFFFFFFFF), (2, 16)])) 3 15 0x100004 = true :=
  ⟨Test.issues_of (by decide +kernel), Test.free_of (by decide +kernel), by decide +kernel⟩

/-- A write to s0 is discarded (R149). -/
theorem test_s0_discards :
    Issues (Test.at' 0x00011001 [(1, 5), (2, 3)]) 0 0x00011001 .add ∧ ((Test.at' 0x00011001 [(1, 5), (2, 3)]).core 0).free [1, 2, 0] ∧
    Test.reg (exec (.add 0) (Test.at' 0x00011001 [(1, 5), (2, 3)])) 0 0 0x100004 = true :=
  ⟨Test.issues_of (by decide +kernel), Test.free_of (by decide +kernel), by decide +kernel⟩

/-- ADDI sign-extends (R158). -/
theorem test_addi_negative :
    Issues (Test.at' 0x0461FFFF [(1, 5)]) 0 0x0461FFFF .addi ∧ ((Test.at' 0x0461FFFF [(1, 5)]).core 0).free [1, 3] ∧
    Test.reg (exec (.addi 0) (Test.at' 0x0461FFFF [(1, 5)])) 3 4 0x100004 = true :=
  ⟨Test.issues_of (by decide +kernel), Test.free_of (by decide +kernel), by decide +kernel⟩

/-- SLTIU compares with the sign-extended immediate as unsigned (R158). -/
theorem test_sltiu :
    Issues (Test.at' 0x1C61FFFF [(1, 5)]) 0 0x1C61FFFF .sltiu ∧ ((Test.at' 0x1C61FFFF [(1, 5)]).core 0).free [1, 3] ∧
    Test.reg (exec (.sltiu 0) (Test.at' 0x1C61FFFF [(1, 5)])) 3 1 0x100004 = true :=
  ⟨Test.issues_of (by decide +kernel), Test.free_of (by decide +kernel), by decide +kernel⟩

/-- LUI (R158). -/
theorem test_lui :
    Issues (Test.at' 0x20608001 []) 0 0x20608001 .lui ∧ ((Test.at' 0x20608001 []).core 0).free [0, 3] ∧
    Test.reg (exec (.lui 0) (Test.at' 0x20608001 [])) 3 0x80010000 0x100004 = true :=
  ⟨Test.issues_of (by decide +kernel), Test.free_of (by decide +kernel), by decide +kernel⟩

/-- BGE taken, backward (R159). -/
theorem test_bge_taken :
    Issues (Test.at' 0x3C22FFFF [(1, 1), (2, 0xFFFFFFFF)]) 0 0x3C22FFFF .bge ∧ ((Test.at' 0x3C22FFFF [(1, 1), (2, 0xFFFFFFFF)]).core 0).free [1, 2] ∧
    Test.reg (exec (.bge 0) (Test.at' 0x3C22FFFF [(1, 1), (2, 0xFFFFFFFF)])) 1 1 0xFFFFC = true :=
  ⟨Test.issues_of (by decide +kernel), Test.free_of (by decide +kernel), by decide +kernel⟩

/-- BLTU not taken (R159). -/
theorem test_bltu_not_taken :
    Issues (Test.at' 0x40220004 [(1, 0xFFFFFFFF), (2, 1)]) 0 0x40220004 .bltu ∧ ((Test.at' 0x40220004 [(1, 0xFFFFFFFF), (2, 1)]).core 0).free [1, 2] ∧
    Test.reg (exec (.bltu 0) (Test.at' 0x40220004 [(1, 0xFFFFFFFF), (2, 1)])) 1 0xFFFFFFFF 0x100004 = true :=
  ⟨Test.issues_of (by decide +kernel), Test.free_of (by decide +kernel), by decide +kernel⟩

/-- JAL links and jumps (R160). -/
theorem test_jal :
    Issues (Test.at' 0x24600005 []) 0 0x24600005 .jal ∧ ((Test.at' 0x24600005 []).core 0).free [3] ∧
    Test.reg (exec (.jal 0) (Test.at' 0x24600005 [])) 3 0x100004 0x100014 = true :=
  ⟨Test.issues_of (by decide +kernel), Test.free_of (by decide +kernel), by decide +kernel⟩

/-- JALR reads s(A) before it writes s(D), and clears bits 1:0 (R160). -/
theorem test_jalr_same :
    Issues (Test.at' 0x28630001 [(3, 0x100022)]) 0 0x28630001 .jalr ∧ ((Test.at' 0x28630001 [(3, 0x100022)]).core 0).free [3, 3] ∧
    Test.reg (exec (.jalr 0) (Test.at' 0x28630001 [(3, 0x100022)])) 3 0x100004 0x100020 = true :=
  ⟨Test.issues_of (by decide +kernel), Test.free_of (by decide +kernel), by decide +kernel⟩

/-- A scalar instruction waits for the queued VEXT that writes its register (R123). -/
theorem test_waits_for_writer :
    Issues (Test.one { Test.core 0x00611001 [] with uq := [.op (Test.qop 0x80610022)] }) 0 0x00611001 .add ∧ ¬ ((Test.one { Test.core 0x00611001 [] with uq := [.op (Test.qop 0x80610022)] }).core 0).free [1, 2, 3] ∧ Test.next (exec (.add 0) (Test.one { Test.core 0x00611001 [] with uq := [.op (Test.qop 0x80610022)] })) (fun t => decide (t = Test.one { Test.core 0x00611001 [] with uq := [.op (Test.qop 0x80610022)] })) = true :=
  ⟨Test.issues_of (by decide +kernel), fun h => absurd (h 3 (by decide)) (by decide +kernel), by decide +kernel⟩

/-- LB forwards a byte from the store buffer and extends its sign (R129, R161). -/
theorem test_lb_forwarded :
    Issues (Test.one { Test.core 0x48610002 [(1, 0x4FFFD)] with sbuf := [{ addr := 0x4FFFC, size := 4, val := 0x8F000000, pc := 0, nth := 0 }] }) 0 0x48610002 .lb ∧ ((Test.one { Test.core 0x48610002 [(1, 0x4FFFD)] with sbuf := [{ addr := 0x4FFFC, size := 4, val := 0x8F000000, pc := 0, nth := 0 }] }).core 0).free [1, 3] ∧ ((Test.one { Test.core 0x48610002 [(1, 0x4FFFD)] with sbuf := [{ addr := 0x4FFFC, size := 4, val := 0x8F000000, pc := 0, nth := 0 }] }).core 0).readBlocked 0x4FFFF 1 = false ∧ ((Test.one { Test.core 0x48610002 [(1, 0x4FFFD)] with sbuf := [{ addr := 0x4FFFC, size := 4, val := 0x8F000000, pc := 0, nth := 0 }] }).core 0).sound 0x4FFFF 1 ∧
    Test.reg (exec (.lb 0) (Test.one { Test.core 0x48610002 [(1, 0x4FFFD)] with sbuf := [{ addr := 0x4FFFC, size := 4, val := 0x8F000000, pc := 0, nth := 0 }] })) 3 0xFFFFFF8F 0x100004 = true :=
  ⟨Test.issues_of (by decide +kernel), Test.free_of (by decide +kernel), by decide +kernel, Test.sound_of (by decide +kernel), by decide +kernel⟩

/-- LD of the last doubleword of data SRAM, part of it still in the store buffer, gives a pair (R129, R130, R150). -/
theorem test_ld_pair :
    Issues (Test.one { Test.core 0x5C810000 [(1, 0x4FFF8)] with sram := Memory.setValue [] 0x4FFF8 8 0x1122334455667788, sbuf := [{ addr := 0x4FFFA, size := 2, val := 0xABCD, pc := 0, nth := 0 }] }) 0 0x5C810000 .ld ∧ ((Test.one { Test.core 0x5C810000 [(1, 0x4FFF8)] with sram := Memory.setValue [] 0x4FFF8 8 0x1122334455667788, sbuf := [{ addr := 0x4FFFA, size := 2, val := 0xABCD, pc := 0, nth := 0 }] }).core 0).free [1, 4, 5] ∧ ((Test.one { Test.core 0x5C810000 [(1, 0x4FFF8)] with sram := Memory.setValue [] 0x4FFF8 8 0x1122334455667788, sbuf := [{ addr := 0x4FFFA, size := 2, val := 0xABCD, pc := 0, nth := 0 }] }).core 0).readBlocked 0x4FFF8 8 = false ∧ ((Test.one { Test.core 0x5C810000 [(1, 0x4FFF8)] with sram := Memory.setValue [] 0x4FFF8 8 0x1122334455667788, sbuf := [{ addr := 0x4FFFA, size := 2, val := 0xABCD, pc := 0, nth := 0 }] }).core 0).sound 0x4FFF8 8 ∧
    Test.next (exec (.ld 0) (Test.one { Test.core 0x5C810000 [(1, 0x4FFF8)] with sram := Memory.setValue [] 0x4FFF8 8 0x1122334455667788, sbuf := [{ addr := 0x4FFFA, size := 2, val := 0xABCD, pc := 0, nth := 0 }] })) (fun t => decide ((t.core 0).pair 4 = 0x11223344ABCD7788) && decide ((t.core 0).sbuf = []) && decide (Memory.value (t.core 0).sram 0x4FFF8 8 = 0x11223344ABCD7788)) = true :=
  ⟨Test.issues_of (by decide +kernel), Test.free_of (by decide +kernel), by decide +kernel, Test.sound_of (by decide +kernel), by decide +kernel⟩

/-- SQ stores its quad, lowest register first (R150, R161). -/
theorem test_sq_quad :
    Issues (Test.one { Test.core 0x74810000 [(1, 0x10), (4, 1), (5, 2), (6, 3), (7, 4)] with sram := [] }) 0 0x74810000 .sq ∧ ((Test.one { Test.core 0x74810000 [(1, 0x10), (4, 1), (5, 2), (6, 3), (7, 4)] with sram := [] }).core 0).free [1, 4, 5, 6, 7] ∧ ((Test.one { Test.core 0x74810000 [(1, 0x10), (4, 1), (5, 2), (6, 3), (7, 4)] with sram := [] }).core 0).writeBlocked 0x10 16 = false ∧ ((Test.one { Test.core 0x74810000 [(1, 0x10), (4, 1), (5, 2), (6, 3), (7, 4)] with sram := [] }).core 0).sound 0x10 16 ∧
    Test.next (exec (.sq 0) (Test.one { Test.core 0x74810000 [(1, 0x10), (4, 1), (5, 2), (6, 3), (7, 4)] with sram := [] })) (fun t => decide ((t.core 0).sbuf.length = 1) && decide (Memory.value (t.core 0).seen 0x14 4 = 2) && decide (Memory.value (t.core 0).seen 0x1C 4 = 4) && decide ((t.core 0).sram = [])) = true :=
  ⟨Test.issues_of (by decide +kernel), Test.free_of (by decide +kernel), by decide +kernel, Test.sound_of (by decide +kernel), by decide +kernel⟩

/-- A load past the end of data SRAM is an address exception even where it is not aligned (R144). -/
theorem test_lw_outside :
    Issues (Test.at' 0x58610000 [(1, 0x4FFFE)]) 0 0x58610000 .lw ∧ ((Test.at' 0x58610000 [(1, 0x4FFFE)]).core 0).free [1, 3] ∧
    Test.next (exec (.lw 0) (Test.at' 0x58610000 [(1, 0x4FFFE)])) (fun t => decide ((t.core 0).run = .idle) && decide ((t.net.map (fun p => p.body)) = [.failure 0x3180 0x100000 0x4FFFE])) = true :=
  ⟨Test.issues_of (by decide +kernel), Test.free_of (by decide +kernel), by decide +kernel⟩

/-- A store inside that is not aligned (R125). -/
theorem test_sh_unaligned :
    Issues (Test.at' 0x68610000 [(1, 1)]) 0 0x68610000 .sh ∧ ((Test.at' 0x68610000 [(1, 1)]).core 0).free [1, 3] ∧
    Test.next (exec (.sh 0) (Test.at' 0x68610000 [(1, 1)])) (fun t => decide ((t.core 0).run = .idle) && decide ((t.net.map (fun p => p.body)) = [.failure 0x3181 0x100000 1])) = true :=
  ⟨Test.issues_of (by decide +kernel), Test.free_of (by decide +kernel), by decide +kernel⟩

/-- CSRR with W64 gives a pair: `c.flags` and `c.tflags` (R162). -/
theorem test_csrr_pair :
    Issues (Test.one { Test.core 0x78801020 [] with csr := { Csrs.reset with flags := 5, tflags := 9 } }) 0 0x78801020 .csrr ∧ ((Test.one { Test.core 0x78801020 [] with csr := { Csrs.reset with flags := 5, tflags := 9 } }).core 0).csr.det = false ∧ ((Test.one { Test.core 0x78801020 [] with csr := { Csrs.reset with flags := 5, tflags := 9 } }).core 0).free [4, 5] ∧
    flagsWait (((Test.one { Test.core 0x78801020 [] with csr := { Csrs.reset with flags := 5, tflags := 9 } })).core 0) (csrOffsets 0x78801020) = false ∧ Test.next (exec (.csrr 0) (Test.one { Test.core 0x78801020 [] with csr := { Csrs.reset with flags := 5, tflags := 9 } })) (fun t => decide ((t.core 0).pair 4 = 5 + 9 * 2 ^ 32)) = true :=
  ⟨Test.issues_of (by decide +kernel), by decide +kernel, Test.free_of (by decide +kernel), by decide +kernel⟩

/-- CSRR of `c.flags` waits for the unit queues (R123). -/
theorem test_csrr_waits :
    Issues (Test.one { Test.core 0x78800020 [] with uq := [.op (Test.qop 0)] }) 0 0x78800020 .csrr ∧ ((Test.one { Test.core 0x78800020 [] with uq := [.op (Test.qop 0)] }).core 0).csr.det = false ∧ ((Test.one { Test.core 0x78800020 [] with uq := [.op (Test.qop 0)] }).core 0).free [4] ∧
    flagsWait (((Test.one { Test.core 0x78800020 [] with uq := [.op (Test.qop 0)] })).core 0) (csrOffsets 0x78800020) = true ∧ Test.next (exec (.csrr 0) (Test.one { Test.core 0x78800020 [] with uq := [.op (Test.qop 0)] })) (fun t => decide (t = (Test.one { Test.core 0x78800020 [] with uq := [.op (Test.qop 0)] }))) = true :=
  ⟨Test.issues_of (by decide +kernel), by decide +kernel, Test.free_of (by decide +kernel), by decide +kernel⟩

/-- CSRR of a timed offset is refused in deterministic mode (R181). -/
theorem test_csrr_det :
    Issues (Test.one { Test.core 0x78800010 [] with csr := { Csrs.reset with det := true } }) 0 0x78800010 .csrr ∧ ((Test.one { Test.core 0x78800010 [] with csr := { Csrs.reset with det := true } }).core 0).csr.det = true ∧ ((Test.one { Test.core 0x78800010 [] with csr := { Csrs.reset with det := true } }).core 0).free [4] ∧
    (∃ o ∈ csrOffsets 0x78800010, csrTimed o = true) ∧ Test.next (exec (.csrr 0) (Test.one { Test.core 0x78800010 [] with csr := { Csrs.reset with det := true } })) (fun t => decide ((t.net.map (fun p => p.body)) = [.failure 0x3188 0x100000 0]) && decide (t.detRefusals = 1)) = true :=
  ⟨Test.issues_of (by decide +kernel), by decide +kernel, Test.free_of (by decide +kernel), by decide +kernel⟩

/-- CSRW clears the flags written 1 (R136). -/
theorem test_csrw_flags :
    Issues (Test.one { Test.core 0x7C800020 [(4, 4)] with csr := { Csrs.reset with flags := 7 } }) 0 0x7C800020 .csrw ∧ ((Test.one { Test.core 0x7C800020 [(4, 4)] with csr := { Csrs.reset with flags := 7 } }).core 0).csr.det = false ∧ ((Test.one { Test.core 0x7C800020 [(4, 4)] with csr := { Csrs.reset with flags := 7 } }).core 0).free [4] ∧
    (((Test.one { Test.core 0x7C800020 [(4, 4)] with csr := { Csrs.reset with flags := 7 } })).core 0).uq = [] ∧ Test.next (exec (.csrw 0) (Test.one { Test.core 0x7C800020 [(4, 4)] with csr := { Csrs.reset with flags := 7 } })) (fun t => decide ((t.core 0).csr.flags = 3)) = true :=
  ⟨Test.issues_of (by decide +kernel), by decide +kernel, Test.free_of (by decide +kernel), by decide +kernel⟩

/-- CSRW of `c.seed` is refused in deterministic mode (R181). -/
theorem test_csrw_seed_det :
    Issues (Test.one { Test.core 0x7C800030 [(4, 4)] with csr := { Csrs.reset with det := true } }) 0 0x7C800030 .csrw ∧ ((Test.one { Test.core 0x7C800030 [(4, 4)] with csr := { Csrs.reset with det := true } }).core 0).csr.det = true ∧ ((Test.one { Test.core 0x7C800030 [(4, 4)] with csr := { Csrs.reset with det := true } }).core 0).free [4] ∧
    0x30 ∈ csrOffsets 0x7C800030 ∧ Test.next (exec (.csrw 0) (Test.one { Test.core 0x7C800030 [(4, 4)] with csr := { Csrs.reset with det := true } })) (fun t => decide ((t.net.map (fun p => p.body)) = [.failure 0x3188 0x100000 0])) = true :=
  ⟨Test.issues_of (by decide +kernel), by decide +kernel, Test.free_of (by decide +kernel), by decide +kernel⟩

/-- VMAXI is signed, lane by lane (R163). -/
theorem test_vmaxi :
    Issues (Test.one { Test.core 0x8061101A [] with regs := { Regs.zero with v := [(1, 0x00000005FFFFFFFF), (2, 0x0000000400000001)] } }) 0 0x8061101A .vmaxi ∧ ((Test.one { Test.core 0x8061101A [] with regs := { Regs.zero with v := [(1, 0x00000005FFFFFFFF), (2, 0x0000000400000001)] } }).core 0).uq = [] ∧
    Test.next (exec (.vmaxi 0) (Test.one { Test.core 0x8061101A [] with regs := { Regs.zero with v := [(1, 0x00000005FFFFFFFF), (2, 0x0000000400000001)] } })) (fun t => decide ((t.core 0).lane 3 0 = 1) && decide ((t.core 0).lane 3 1 = 5) && decide ((t.core 0).lane 3 31 = 0)) = true :=
  ⟨Test.issues_of (by decide +kernel), by decide +kernel, by decide +kernel⟩

/-- VADDF under SR draws and advances the seed by one (R192). -/
theorem test_vaddf_sr :
    Issues (Test.one { Test.core 0x80611000 [] with regs := { Regs.zero with v := [(1, 0x3F800000), (2, 0x33000000)] }, csr := { Csrs.reset with rm := 4, seed := 9 } }) 0 0x80611000 .vaddf ∧ ((Test.one { Test.core 0x80611000 [] with regs := { Regs.zero with v := [(1, 0x3F800000), (2, 0x33000000)] }, csr := { Csrs.reset with rm := 4, seed := 9 } }).core 0).uq = [] ∧
    Test.next (exec (.vaddf 0) (Test.one { Test.core 0x80611000 [] with regs := { Regs.zero with v := [(1, 0x3F800000), (2, 0x33000000)] }, csr := { Csrs.reset with rm := 4, seed := 9 } })) (fun t => decide ((t.core 0).csr.seed = 10) && decide ((t.core 0).csr.flags = 16) && (decide ((t.core 0).lane 3 0 = 0x3F800000) || decide ((t.core 0).lane 3 0 = 0x3F800001))) = true :=
  ⟨Test.issues_of (by decide +kernel), by decide +kernel, by decide +kernel⟩

/-- VADDF of opposite infinities is invalid (R198). -/
theorem test_vaddf_invalid :
    Issues (Test.one { Test.core 0x80611000 [] with regs := { Regs.zero with v := [(1, 0x7F800000), (2, 0xFF800000)] } }) 0 0x80611000 .vaddf ∧ ((Test.one { Test.core 0x80611000 [] with regs := { Regs.zero with v := [(1, 0x7F800000), (2, 0xFF800000)] } }).core 0).uq = [] ∧
    Test.next (exec (.vaddf 0) (Test.one { Test.core 0x80611000 [] with regs := { Regs.zero with v := [(1, 0x7F800000), (2, 0xFF800000)] } })) (fun t => decide ((t.core 0).lane 3 0 = 0x7FC00000) && decide ((t.core 0).csr.tflags = 1)) = true :=
  ⟨Test.issues_of (by decide +kernel), by decide +kernel, by decide +kernel⟩

/-- VPERM takes the lane number modulo 32 (R163). -/
theorem test_vperm :
    Issues (Test.one { Test.core 0x80611024 [] with regs := { Regs.zero with v := [(1, 0x0000000700000006), (2, 0x0000000000000021)] } }) 0 0x80611024 .vperm ∧ ((Test.one { Test.core 0x80611024 [] with regs := { Regs.zero with v := [(1, 0x0000000700000006), (2, 0x0000000000000021)] } }).core 0).uq = [] ∧
    Test.next (exec (.vperm 0) (Test.one { Test.core 0x80611024 [] with regs := { Regs.zero with v := [(1, 0x0000000700000006), (2, 0x0000000000000021)] } })) (fun t => decide ((t.core 0).lane 3 0 = 7) && decide ((t.core 0).lane 3 1 = 6)) = true :=
  ⟨Test.issues_of (by decide +kernel), by decide +kernel, by decide +kernel⟩

/-- VRSUMI sums the lanes into lane 0 (R164). -/
theorem test_vrsumi :
    Issues (Test.one { Test.core 0x8061002B [] with regs := { Regs.zero with v := [(1, 0x00000007FFFFFFFF), (3, 0x0000000100000000)] } }) 0 0x8061002B .vrsumi ∧ ((Test.one { Test.core 0x8061002B [] with regs := { Regs.zero with v := [(1, 0x00000007FFFFFFFF), (3, 0x0000000100000000)] } }).core 0).uq = [] ∧
    Test.next (exec (.vrsumi 0) (Test.one { Test.core 0x8061002B [] with regs := { Regs.zero with v := [(1, 0x00000007FFFFFFFF), (3, 0x0000000100000000)] } })) (fun t => decide ((t.core 0).lane 3 0 = 6) && decide ((t.core 0).lane 3 1 = 0)) = true :=
  ⟨Test.issues_of (by decide +kernel), by decide +kernel, by decide +kernel⟩

/-- VRMAXF (R164). -/
theorem test_vrmaxf :
    Issues (Test.one { Test.core 0x80610029 [] with regs := { Regs.zero with v := [(1, 0x40000000BF800000)] } }) 0 0x80610029 .vrmaxf ∧ ((Test.one { Test.core 0x80610029 [] with regs := { Regs.zero with v := [(1, 0x40000000BF800000)] } }).core 0).uq = [] ∧
    Test.next (exec (.vrmaxf 0) (Test.one { Test.core 0x80610029 [] with regs := { Regs.zero with v := [(1, 0x40000000BF800000)] } })) (fun t => decide ((t.core 0).lane 3 0 = 0x40000000) && decide ((t.core 0).lane 3 1 = 0)) = true :=
  ⟨Test.issues_of (by decide +kernel), by decide +kernel, by decide +kernel⟩

/-- VEXT writes a scalar register (R163). -/
theorem test_vext :
    Issues (Test.one { Test.core 0x80610822 [] with regs := { Regs.zero with v := [(1, 0x00000007FFFFFFFF)] } }) 0 0x80610822 .vext ∧ ((Test.one { Test.core 0x80610822 [] with regs := { Regs.zero with v := [(1, 0x00000007FFFFFFFF)] } }).core 0).uq = [] ∧
    Test.next (exec (.vext 0) (Test.one { Test.core 0x80610822 [] with regs := { Regs.zero with v := [(1, 0x00000007FFFFFFFF)] } })) (fun t => decide ((t.core 0).sreg 3 = 7)) = true :=
  ⟨Test.issues_of (by decide +kernel), by decide +kernel, by decide +kernel⟩

/-- VCVT narrows FP32 to BF16 into part 1, keeping part 0 (R165). -/
theorem test_vcvt_bf16 :
    Issues (Test.one { Test.core 0x80610830 [] with regs := { Regs.zero with v := [(1, 0x3FC00000), (3, 0x1234)] } }) 0 0x80610830 .vcvt ∧ ((Test.one { Test.core 0x80610830 [] with regs := { Regs.zero with v := [(1, 0x3FC00000), (3, 0x1234)] } }).core 0).uq = [] ∧
    Test.next (exec (.vcvt 0) (Test.one { Test.core 0x80610830 [] with regs := { Regs.zero with v := [(1, 0x3FC00000), (3, 0x1234)] } })) (fun t => decide (Claims.elem (t.core 0) 3 2 0 = 0x1234) && decide (Claims.elem (t.core 0) 3 2 32 = 0x3FC0)) = true :=
  ⟨Test.issues_of (by decide +kernel), by decide +kernel, by decide +kernel⟩

/-- VCVT to INT8 saturates with NV (R196). -/
theorem test_vcvt_int8 :
    Issues (Test.one { Test.core 0x80610130 [] with regs := { Regs.zero with v := [(1, 0x43C80000)] } }) 0 0x80610130 .vcvt ∧ ((Test.one { Test.core 0x80610130 [] with regs := { Regs.zero with v := [(1, 0x43C80000)] } }).core 0).uq = [] ∧
    Test.next (exec (.vcvt 0) (Test.one { Test.core 0x80610130 [] with regs := { Regs.zero with v := [(1, 0x43C80000)] } })) (fun t => decide (Claims.elem (t.core 0) 3 1 0 = 0x7F) && decide ((t.core 0).csr.flags = 1)) = true :=
  ⟨Test.issues_of (by decide +kernel), by decide +kernel, by decide +kernel⟩

/-- VCVT widens FP16 (R165). -/
theorem test_vcvt_wide :
    Issues (Test.one { Test.core 0x80610270 [] with regs := { Regs.zero with v := [(1, 0x3C00)] } }) 0 0x80610270 .vcvt ∧ ((Test.one { Test.core 0x80610270 [] with regs := { Regs.zero with v := [(1, 0x3C00)] } }).core 0).uq = [] ∧
    Test.next (exec (.vcvt 0) (Test.one { Test.core 0x80610270 [] with regs := { Regs.zero with v := [(1, 0x3C00)] } })) (fun t => decide ((t.core 0).lane 3 0 = 0x3F800000)) = true :=
  ⟨Test.issues_of (by decide +kernel), by decide +kernel, by decide +kernel⟩

/-- VLD of the last 128 bytes of data SRAM, a store before it still in the buffer (R130, R166). -/
theorem test_vld :
    Issues (Test.one { Test.core 0x84610000 [(1, 0x4FF80)] with sbuf := [{ addr := 0x4FFFC, size := 4, val := 77, pc := 0, nth := 0 }] }) 0 0x84610000 .vld ∧ ((Test.one { Test.core 0x84610000 [(1, 0x4FF80)] with sbuf := [{ addr := 0x4FFFC, size := 4, val := 77, pc := 0, nth := 0 }] }).core 0).uq = [] ∧ ((Test.one { Test.core 0x84610000 [(1, 0x4FF80)] with sbuf := [{ addr := 0x4FFFC, size := 4, val := 77, pc := 0, nth := 0 }] }).core 0).sound 0x4FF80 128 ∧
    Test.next (exec (.vld 0) (Test.one { Test.core 0x84610000 [(1, 0x4FF80)] with sbuf := [{ addr := 0x4FFFC, size := 4, val := 77, pc := 0, nth := 0 }] })) (fun t => decide ((t.core 0).lane 3 31 = 77) && decide ((t.core 0).lane 3 0 = 0) && decide ((t.core 0).sbuf = [])) = true :=
  ⟨Test.issues_of (by decide +kernel), by decide +kernel, Test.sound_of (by decide +kernel), by decide +kernel⟩

/-- VST (R166). -/
theorem test_vst :
    Issues (Test.one { Test.core 0x88610000 [(1, 0x4FF80)] with regs := { Regs.zero with s := [(1, 0x4FF80)], v := [(3, 0x0807060504030201)] } }) 0 0x88610000 .vst ∧ ((Test.one { Test.core 0x88610000 [(1, 0x4FF80)] with regs := { Regs.zero with s := [(1, 0x4FF80)], v := [(3, 0x0807060504030201)] } }).core 0).uq = [] ∧ ((Test.one { Test.core 0x88610000 [(1, 0x4FF80)] with regs := { Regs.zero with s := [(1, 0x4FF80)], v := [(3, 0x0807060504030201)] } }).core 0).sound 0x4FF80 128 ∧
    Test.next (exec (.vst 0) (Test.one { Test.core 0x88610000 [(1, 0x4FF80)] with regs := { Regs.zero with s := [(1, 0x4FF80)], v := [(3, 0x0807060504030201)] } })) (fun t => decide (Memory.value (t.core 0).seen 0x4FF80 8 = 0x0807060504030201)) = true :=
  ⟨Test.issues_of (by decide +kernel), by decide +kernel, Test.sound_of (by decide +kernel), by decide +kernel⟩

/-- TDESC loads a descriptor that passes its checks (R168). -/
theorem test_tdesc :
    Issues (Test.one { Test.core 0xA2820000 [(2, 0x00100100), (3, 0xC001C0F0)] with uq := [] }) 0 0xA2820000 .tdesc ∧ ((Test.one { Test.core 0xA2820000 [(2, 0x00100100), (3, 0xC001C0F0)] with uq := [] }).core 0).unitLen true < 4 ∧ ((Test.one { Test.core 0xA2820000 [(2, 0x00100100), (3, 0xC001C0F0)] with uq := [] }).core 0).free [2, 3] ∧
    tdescFault 0xc001c0f000100100 = none ∧ Test.next (exec (.tdesc 0) (Test.one { Test.core 0xA2820000 [(2, 0x00100100), (3, 0xC001C0F0)] with uq := [] })) (fun t => decide ((t.core 0).treg 5 = 0xc001c0f000100100)) = true :=
  ⟨Test.issues_of (by decide +kernel), by decide +kernel, Test.free_of (by decide +kernel), by decide +kernel⟩

/-- A stride shorter than a line is illegal (R168). -/
theorem test_tdesc_stride :
    Issues (Test.one { Test.core 0xA2820000 [(2, 0x00080100), (3, 0xC001C0F0)] with uq := [] }) 0 0xA2820000 .tdesc ∧ ((Test.one { Test.core 0xA2820000 [(2, 0x00080100), (3, 0xC001C0F0)] with uq := [] }).core 0).unitLen true < 4 ∧ ((Test.one { Test.core 0xA2820000 [(2, 0x00080100), (3, 0xC001C0F0)] with uq := [] }).core 0).free [2, 3] ∧
    tdescFault 0xc001c0f000080100 = some (0x3182, 0) ∧ Test.next (exec (.tdesc 0) (Test.one { Test.core 0xA2820000 [(2, 0x00080100), (3, 0xC001C0F0)] with uq := [] })) (fun t => decide ((t.net.map (fun p => p.body)) = [.failure 0x3182 0x100000 0])) = true :=
  ⟨Test.issues_of (by decide +kernel), by decide +kernel, Test.free_of (by decide +kernel), by decide +kernel⟩

/-- TDESC waits while four mixer instructions queue (R122). -/
theorem test_tdesc_full :
    Issues (Test.one { Test.core 0xA2820000 [(2, 0x00100100), (3, 0xC001C0F0)] with uq := List.replicate 4 (.op { Test.qop 0 with mixer := true }) }) 0 0xA2820000 .tdesc ∧ 4 ≤ ((Test.one { Test.core 0xA2820000 [(2, 0x00100100), (3, 0xC001C0F0)] with uq := List.replicate 4 (.op { Test.qop 0 with mixer := true }) }).core 0).unitLen true ∧ Test.next (exec (.tdesc 0) (Test.one { Test.core 0xA2820000 [(2, 0x00100100), (3, 0xC001C0F0)] with uq := List.replicate 4 (.op { Test.qop 0 with mixer := true }) })) (fun t => decide (t = (Test.one { Test.core 0xA2820000 [(2, 0x00100100), (3, 0xC001C0F0)] with uq := List.replicate 4 (.op { Test.qop 0 with mixer := true }) }))) = true :=
  ⟨Test.issues_of (by decide +kernel), by decide +kernel, by decide +kernel⟩

/-- MMA of INT8 tiles, depth 2, from zero: −1 × 3 + 2 × 7, a store to the B tile still in the buffer (R170). -/
theorem test_mma_int8 :
    Issues (Test.one { Test.core 0xA5810000 [] with regs := { Regs.zero with t := [(0, 0x8001c01000080000), (1, 0x800040f000080400)], a := [(128, 5)] }, sram := Memory.setValue (Memory.setValue [] 0 2 0x02FF) 0x400 1 3, sbuf := [{ addr := 0x420, size := 1, val := 7, pc := 0, nth := 0 }] }) 0 0xA5810000 .mma ∧ ((Test.one { Test.core 0xA5810000 [] with regs := { Regs.zero with t := [(0, 0x8001c01000080000), (1, 0x800040f000080400)], a := [(128, 5)] }, sram := Memory.setValue (Memory.setValue [] 0 2 0x02FF) 0x400 1 3, sbuf := [{ addr := 0x420, size := 1, val := 7, pc := 0, nth := 0 }] }).core 0).uq = [] ∧ tdSrc 0x8001c01000080000 = 0 ∧ tdSrc 0x800040f000080400 = 0 ∧ tdRows 0x8001c01000080000 = 8 ∧ tdCols 0x800040f000080400 = 16 ∧
    tdCols 0x8001c01000080000 = tdRows 0x800040f000080400 ∧ pairKind (tdFmt 0x8001c01000080000) (tdFmt 0x800040f000080400) = some 2 ∧ Claims.tileSound ((Test.one { Test.core 0xA5810000 [] with regs := { Regs.zero with t := [(0, 0x8001c01000080000), (1, 0x800040f000080400)], a := [(128, 5)] }, sram := Memory.setValue (Memory.setValue [] 0 2 0x02FF) 0x400 1 3, sbuf := [{ addr := 0x420, size := 1, val := 7, pc := 0, nth := 0 }] }).core 0) [0x8001c01000080000, 0x800040f000080400] ∧
    Test.next (exec (.mma 0) (Test.one { Test.core 0xA5810000 [] with regs := { Regs.zero with t := [(0, 0x8001c01000080000), (1, 0x800040f000080400)], a := [(128, 5)] }, sram := Memory.setValue (Memory.setValue [] 0 2 0x02FF) 0x400 1 3, sbuf := [{ addr := 0x420, size := 1, val := 7, pc := 0, nth := 0 }] })) (fun t => decide ((t.core 0).acc 1 0 0 = 11) && decide ((t.core 0).acc 1 0 1 = 0) && decide ((t.core 0).acc 1 1 0 = 0) && decide ((t.core 0).counter 8 = 1)) = true :=
  ⟨Test.issues_of (by decide +kernel), by decide +kernel, by decide +kernel, by decide +kernel, by decide +kernel, by decide +kernel, by decide +kernel, by decide +kernel, Test.tileSound_of (by decide +kernel), by decide +kernel⟩

/-- AST converts to INT8 and stores at row 1, column 1 (R171). -/
theorem test_ast :
    Issues (Test.one { Test.core 0xA9000000 [] with regs := { Regs.zero with t := [(0, 0x8001c0f000080100)], a := [(128 + 17, 0x42F70000)] } }) 0 0xA9000000 .ast ∧ ((Test.one { Test.core 0xA9000000 [] with regs := { Regs.zero with t := [(0, 0x8001c0f000080100)], a := [(128 + 17, 0x42F70000)] } }).core 0).uq = [] ∧ tdSrc 0x8001c0f000080100 = 0 ∧ tdRows 0x8001c0f000080100 = 8 ∧ tdCols 0x8001c0f000080100 = 16 ∧ Claims.tileSound ((Test.one { Test.core 0xA9000000 [] with regs := { Regs.zero with t := [(0, 0x8001c0f000080100)], a := [(128 + 17, 0x42F70000)] } }).core 0) [0x8001c0f000080100] ∧
    tdescFault 0x8001c0f000080100 = none ∧ Test.next (exec (.ast 0) (Test.one { Test.core 0xA9000000 [] with regs := { Regs.zero with t := [(0, 0x8001c0f000080100)], a := [(128 + 17, 0x42F70000)] } })) (fun t => decide (Memory.byte (t.core 0).seen 0x121 = 124) && decide (Memory.byte (t.core 0).seen 0x120 = 0)) = true :=
  ⟨Test.issues_of (by decide +kernel), by decide +kernel, by decide +kernel, by decide +kernel, by decide +kernel, Test.tileSound_of (by decide +kernel), by decide +kernel, by decide +kernel⟩

/-- ALD loads element (1, 1) from the second line (R171). -/
theorem test_ald :
    Issues (Test.one { Test.core 0xAE000000 [] with regs := { Regs.zero with t := [(0, 0xc001c0f000100100)] }, sram := Memory.setValue [] 0x144 4 9 }) 0 0xAE000000 .ald ∧ ((Test.one { Test.core 0xAE000000 [] with regs := { Regs.zero with t := [(0, 0xc001c0f000100100)] }, sram := Memory.setValue [] 0x144 4 9 }).core 0).uq = [] ∧ tdSrc 0xc001c0f000100100 = 0 ∧ tdRows 0xc001c0f000100100 = 8 ∧ tdCols 0xc001c0f000100100 = 16 ∧ tdFmt 0xc001c0f000100100 = 6 ∧ Claims.tileSound ((Test.one { Test.core 0xAE000000 [] with regs := { Regs.zero with t := [(0, 0xc001c0f000100100)] }, sram := Memory.setValue [] 0x144 4 9 }).core 0) [0xc001c0f000100100] ∧
    Test.next (exec (.ald 0) (Test.one { Test.core 0xAE000000 [] with regs := { Regs.zero with t := [(0, 0xc001c0f000100100)] }, sram := Memory.setValue [] 0x144 4 9 })) (fun t => decide ((t.core 0).acc 2 1 1 = 9) && decide ((t.core 0).acc 2 0 1 = 0)) = true :=
  ⟨Test.issues_of (by decide +kernel), by decide +kernel, by decide +kernel, by decide +kernel, by decide +kernel, by decide +kernel, Test.tileSound_of (by decide +kernel), by decide +kernel⟩

/-- AXV copies two rows to a vector register (R171). -/
theorem test_axv :
    Issues (Test.one { Test.core 0xB5630000 [] with regs := { Regs.zero with a := [(128 + 6 * 16, 5), (128 + 7 * 16 + 15, 6)] } }) 0 0xB5630000 .axv ∧ ((Test.one { Test.core 0xB5630000 [] with regs := { Regs.zero with a := [(128 + 6 * 16, 5), (128 + 7 * 16 + 15, 6)] } }).core 0).uq = [] ∧
    Test.next (exec (.axv 0) (Test.one { Test.core 0xB5630000 [] with regs := { Regs.zero with a := [(128 + 6 * 16, 5), (128 + 7 * 16 + 15, 6)] } })) (fun t => decide ((t.core 0).lane 3 0 = 5) && decide ((t.core 0).lane 3 31 = 6)) = true :=
  ⟨Test.issues_of (by decide +kernel), by decide +kernel, by decide +kernel⟩

/-- AVX copies a vector register into two rows (R171). -/
theorem test_avx :
    Issues (Test.one { Test.core 0xB5E30000 [] with regs := { Regs.zero with a := [(128, 4)], v := [(3, 5)] } }) 0 0xB5E30000 .avx ∧ ((Test.one { Test.core 0xB5E30000 [] with regs := { Regs.zero with a := [(128, 4)], v := [(3, 5)] } }).core 0).uq = [] ∧
    Test.next (exec (.avx 0) (Test.one { Test.core 0xB5E30000 [] with regs := { Regs.zero with a := [(128, 4)], v := [(3, 5)] } })) (fun t => decide ((t.core 0).acc 1 6 0 = 5) && decide ((t.core 0).acc 1 0 0 = 4)) = true :=
  ⟨Test.issues_of (by decide +kernel), by decide +kernel, by decide +kernel⟩

/-- AZERO (R171). -/
theorem test_azero :
    Issues (Test.one { Test.core 0xB1000000 [] with regs := { Regs.zero with a := [(127, 4), (128, 4)] } }) 0 0xB1000000 .azero ∧ ((Test.one { Test.core 0xB1000000 [] with regs := { Regs.zero with a := [(127, 4), (128, 4)] } }).core 0).uq = [] ∧
    Test.next (exec (.azero 0) (Test.one { Test.core 0xB1000000 [] with regs := { Regs.zero with a := [(127, 4), (128, 4)] } })) (fun t => decide ((t.core 0).acc 1 0 0 = 0) && decide ((t.core 0).acc 0 7 15 = 4)) = true :=
  ⟨Test.issues_of (by decide +kernel), by decide +kernel, by decide +kernel⟩

/-! ### Recipes, messages and the operations of a task -/

namespace Test

/-- Partition 0 holds field 0 and its graph runs. -/
def part : Part := { Part.reset with rect := 0x80000000, graph := .running }
/-- Core 0 of the field of partition 0. -/
def own (k : Core) : State := { one k with parts := [(0, part)] }
/-- A block of RID 1: a product of BF16, 8 × 1 by 1 × 16, sent as FP32 to core 33, which lies in field 1. -/
def block : List Nat := [0x100540000000000, 0x1000000000000, 0x0, 0x21, 0x1c00000081000, 0xf000081100]
/-- Memory with a block at 0x40, A all 1.0, B all 2.0. -/
def blockMem (b : List Nat) : Memory :=
  let m := (List.range b.length).foldl (fun m i => Memory.setValue m (0x40 + 8 * i) 8 (b.getD i 0)) []
  let m := (List.range 8).foldl (fun m i => Memory.setValue m (0x1000 + 32 * i) 2 0x3F80) m
  (List.range 16).foldl (fun m i => Memory.setValue m (0x1100 + 2 * i) 2 0x4000) m
/-- A core at RLAUNCH. -/
def launcher (b : List Nat) : Core := { core 0xB8010000 [(1, 0x40)] with sram := blockMem b }
/-- A partition of fields 0 and 1. -/
def wide (k : Core) : State := { own k with parts := [(0, { part with rect := 0x80001000 })] }

end Test

/-- RLAUNCH: a good block begins with the draw base, and SR advances the seed by the blocks (R205, R214). -/
theorem test_rlaunch :
    Issues (Test.wide { Test.launcher Test.block with csr := { Csrs.reset with rm := 4, seed := 7 } }) 0 0xB8010000 .rlaunch ∧
    readBlock ((Test.wide { Test.launcher Test.block with csr := { Csrs.reset with rm := 4, seed := 7 } }).core 0).seen 0x40 = Test.block ++ List.replicate 10 0 ∧
    launchFault (Test.wide { Test.launcher Test.block with csr := { Csrs.reset with rm := 4, seed := 7 } }) 0 ((Test.wide { Test.launcher Test.block with csr := { Csrs.reset with rm := 4, seed := 7 } }).core 0) 0x40 (Test.block ++ List.replicate 10 0) = none ∧
    Test.next (exec (.rlaunch 0) (Test.wide { Test.launcher Test.block with csr := { Csrs.reset with rm := 4, seed := 7 } })) (fun t => decide ((t.core 0).csr.seed = 8) &&
      (match (t.core 0).uq with | [.recipe r] => decide (r.base = 7) && decide (r.mem = some (Test.blockMem Test.block)) | _ => false)) = true :=
  ⟨Test.issues_of (by decide +kernel), by decide +kernel⟩

/-- RLAUNCH: an RID that is not listed (R223). -/
theorem test_rlaunch_rid :
    Issues (Test.wide (Test.launcher (0x700000000000000 :: Test.block.tail))) 0 0xB8010000 .rlaunch ∧
    Test.next (exec (.rlaunch 0) (Test.wide (Test.launcher (0x700000000000000 :: Test.block.tail)))) (fun t => decide (t.net.map (fun p => p.body) = [.failure 0x3190 0x100000 0])) = true :=
  ⟨Test.issues_of (by decide +kernel), by decide +kernel⟩

/-- FINISH_SEND: the block of 8 × 16 FP32 products leaves, its 528 bytes with header taking 9 slots of credit (R219, R242). -/
theorem test_finish_send :
    Claims.running (Test.wide ({ Test.core 0 [] with uq := [.recipe { block := Test.block, pc := 0x100000, rm := 0, satur := true, base := 0, mem := some (Test.blockMem Test.block), slices := [], sent := 0, nth := 0, bad := none }], commit := true, nif := { NetIf.empty with credits := [{ dst := 33, vc := 0, held := 9, want := 0, lastUse := 0, asked := false, retryAt := none, waiter := none }] } })) 0 ({ block := Test.block, pc := 0x100000, rm := 0, satur := true, base := 0, mem := some (Test.blockMem Test.block), slices := [], sent := 0, nth := 0, bad := none }) [] ∧ rSlices Test.block ≤ 0 ∧ 0 < rMsgs Test.block ∧ rFs Test.block = 1 ∧ slotsFor (sendBytes Test.block) ≤ 9 ∧
    Test.next (exec (.finishSend 0) (Test.wide ({ Test.core 0 [] with uq := [.recipe { block := Test.block, pc := 0x100000, rm := 0, satur := true, base := 0, mem := some (Test.blockMem Test.block), slices := [], sent := 0, nth := 0, bad := none }], commit := true, nif := { NetIf.empty with credits := [{ dst := 33, vc := 0, held := 9, want := 0, lastUse := 0, asked := false, retryAt := none, waiter := none }] } }))) (fun t => match t.net with
      | [p] => (match p.body with | .msg d => decide (d.length = 512) && decide (ofBytes (d.take 4) = 0x40000000) | _ => false) && decide (((t.core 0).nif.credits.map (fun e => e.held)) = [0])
      | _ => false) = true :=
  ⟨⟨by decide +kernel, by decide +kernel, by decide +kernel, by decide +kernel⟩, by decide +kernel⟩

/-- RECIPE_FINISH: the recipe leaves the queue, its one step of the multiplier counted, the accumulators 0 (R215, R519). -/
theorem test_recipe_finish :
    Claims.running (Test.wide ({ Test.core 0 [] with uq := [.recipe { block := Test.block, pc := 0x100000, rm := 0, satur := true, base := 0, mem := some (Test.blockMem Test.block), slices := [], sent := 1, nth := 0, bad := none }], commit := true, nif := { NetIf.empty with credits := [{ dst := 33, vc := 0, held := 9, want := 0, lastUse := 0, asked := false, retryAt := none, waiter := none }] } })) 0 ({ block := Test.block, pc := 0x100000, rm := 0, satur := true, base := 0, mem := some (Test.blockMem Test.block), slices := [], sent := 1, nth := 0, bad := none }) [] ∧ rMsgs Test.block ≤ 1 ∧ ((Test.wide ({ Test.core 0 [] with uq := [.recipe { block := Test.block, pc := 0x100000, rm := 0, satur := true, base := 0, mem := some (Test.blockMem Test.block), slices := [], sent := 1, nth := 0, bad := none }], commit := true, nif := { NetIf.empty with credits := [{ dst := 33, vc := 0, held := 9, want := 0, lastUse := 0, asked := false, retryAt := none, waiter := none }] } })).core 0).ending = .none ∧
    Test.next (exec (.recipeFinish 0) (Test.wide ({ Test.core 0 [] with uq := [.recipe { block := Test.block, pc := 0x100000, rm := 0, satur := true, base := 0, mem := some (Test.blockMem Test.block), slices := [], sent := 1, nth := 0, bad := none }], commit := true, nif := { NetIf.empty with credits := [{ dst := 33, vc := 0, held := 9, want := 0, lastUse := 0, asked := false, retryAt := none, waiter := none }] } }))) (fun t => decide ((t.core 0).uq = []) && decide ((t.core 0).counter 8 = 1) && decide ((t.core 0).regs.a = [])) = true :=
  ⟨⟨by decide +kernel, by decide +kernel, by decide +kernel, by decide +kernel⟩, by decide +kernel⟩

/-- RECIPE_ARRIVAL_SLICE: the message of 16 bytes becomes the slice, one consumer ADVANCE is queued (R216, R217). -/
theorem test_recipe_slice :
    Claims.running (Test.wide ({ Test.core 0 [] with uq := [.recipe ({ block := [0x101540800000000, 0x1000000000000, 0x0, 0x1ffff00000021, 0x401c00000000000, 0xf000081100], pc := 0x100000, rm := 0, satur := true, base := 0, mem := some [], slices := [], sent := 0, nth := 0, bad := none })], inq := [(0, { InQueue.empty with free := 62, msgs := [⟨5, List.replicate 16 1⟩] })] })) 0 ({ block := [0x101540800000000, 0x1000000000000, 0x0, 0x1ffff00000021, 0x401c00000000000, 0xf000081100], pc := 0x100000, rm := 0, satur := true, base := 0, mem := some [], slices := [], sent := 0, nth := 0, bad := none }) [] ∧ 0 < rSlices [0x101540800000000, 0x1000000000000, 0x0, 0x1ffff00000021, 0x401c00000000000, 0xf000081100] ∧ (((Test.wide ({ Test.core 0 [] with uq := [.recipe ({ block := [0x101540800000000, 0x1000000000000, 0x0, 0x1ffff00000021, 0x401c00000000000, 0xf000081100], pc := 0x100000, rm := 0, satur := true, base := 0, mem := some [], slices := [], sent := 0, nth := 0, bad := none })], inq := [(0, { InQueue.empty with free := 62, msgs := [⟨5, List.replicate 16 1⟩] })] })).core 0).popMsg (Test.wide ({ Test.core 0 [] with uq := [.recipe ({ block := [0x101540800000000, 0x1000000000000, 0x0, 0x1ffff00000021, 0x401c00000000000, 0xf000081100], pc := 0x100000, rm := 0, satur := true, base := 0, mem := some [], slices := [], sent := 0, nth := 0, bad := none })], inq := [(0, { InQueue.empty with free := 62, msgs := [⟨5, List.replicate 16 1⟩] })] })) 0 0).isSome = true ∧
    Test.next (exec (.recipeArrivalSlice 0) (Test.wide ({ Test.core 0 [] with uq := [.recipe ({ block := [0x101540800000000, 0x1000000000000, 0x0, 0x1ffff00000021, 0x401c00000000000, 0xf000081100], pc := 0x100000, rm := 0, satur := true, base := 0, mem := some [], slices := [], sent := 0, nth := 0, bad := none })], inq := [(0, { InQueue.empty with free := 62, msgs := [⟨5, List.replicate 16 1⟩] })] }))) (fun t => decide ((t.core 0).outq = [{ op := .sadv 0 1 true, after := 0, rpc := some (0x100000, 0) }]) && decide (((t.core 0).queue 0).free = 63)) = true :=
  ⟨⟨by decide +kernel, by decide +kernel, by decide +kernel, by decide +kernel⟩, by decide +kernel⟩

/-- A message of another length than the slice stops the recipe (R224). -/
theorem test_recipe_fault :
    recipeFault ((Test.wide ({ Test.core 0 [] with uq := [.recipe ({ block := [0x101540800000000, 0x1000000000000, 0x0, 0x1ffff00000021, 0x401c00000000000, 0xf000081100], pc := 0x100000, rm := 0, satur := true, base := 0, mem := some [], slices := [], sent := 0, nth := 0, bad := none })], inq := [(0, { InQueue.empty with free := 62, msgs := [⟨5, List.replicate 8 1⟩] })] })).core 0) ({ block := [0x101540800000000, 0x1000000000000, 0x0, 0x1ffff00000021, 0x401c00000000000, 0xf000081100], pc := 0x100000, rm := 0, satur := true, base := 0, mem := some [], slices := [], sent := 0, nth := 0, bad := none }) = some (0x3194, 0) ∧ Test.next (exec (.recipeRunFault 0) (Test.wide ({ Test.core 0 [] with uq := [.recipe ({ block := [0x101540800000000, 0x1000000000000, 0x0, 0x1ffff00000021, 0x401c00000000000, 0xf000081100], pc := 0x100000, rm := 0, satur := true, base := 0, mem := some [], slices := [], sent := 0, nth := 0, bad := none })], inq := [(0, { InQueue.empty with free := 62, msgs := [⟨5, List.replicate 8 1⟩] })] }))) (fun t => decide ((t.core 0).uq = []) && decide ((t.core 0).asyncErr = some (0x3194, some 0x100000, 0))) = true :=
  by decide +kernel

/-- SEND of the last 8 bytes of data SRAM, still in the store buffer: commit notice, then the message (R174, R502). -/
theorem test_send :
    Issues (Test.wide { Test.core 0xC00110C0 [(1, 32), (2, 0x4FFF8), (3, 8)] with nif := { NetIf.empty with credits := [{ dst := 32, vc := 0, held := 1, want := 0, lastUse := 0, asked := false, retryAt := none, waiter := none }] }, sbuf := [{ addr := 0x4FFF8, size := 8, val := 0x55, pc := 0, nth := 0 }] }) 0 0xC00110C0 .send ∧ ((Test.wide { Test.core 0xC00110C0 [(1, 32), (2, 0x4FFF8), (3, 8)] with nif := { NetIf.empty with credits := [{ dst := 32, vc := 0, held := 1, want := 0, lastUse := 0, asked := false, retryAt := none, waiter := none }] }, sbuf := [{ addr := 0x4FFF8, size := 8, val := 0x55, pc := 0, nth := 0 }] }).core 0).free [1, 2, 3] ∧ ((Test.wide { Test.core 0xC00110C0 [(1, 32), (2, 0x4FFF8), (3, 8)] with nif := { NetIf.empty with credits := [{ dst := 32, vc := 0, held := 1, want := 0, lastUse := 0, asked := false, retryAt := none, waiter := none }] }, sbuf := [{ addr := 0x4FFF8, size := 8, val := 0x55, pc := 0, nth := 0 }] }).core 0).sound 0x4FFF8 8 ∧ (Test.wide { Test.core 0xC00110C0 [(1, 32), (2, 0x4FFF8), (3, 8)] with nif := { NetIf.empty with credits := [{ dst := 32, vc := 0, held := 1, want := 0, lastUse := 0, asked := false, retryAt := none, waiter := none }] }, sbuf := [{ addr := 0x4FFF8, size := 8, val := 0x55, pc := 0, nth := 0 }] }).inPartOf 0 32 = true ∧ ((Test.wide { Test.core 0xC00110C0 [(1, 32), (2, 0x4FFF8), (3, 8)] with nif := { NetIf.empty with credits := [{ dst := 32, vc := 0, held := 1, want := 0, lastUse := 0, asked := false, retryAt := none, waiter := none }] }, sbuf := [{ addr := 0x4FFF8, size := 8, val := 0x55, pc := 0, nth := 0 }] }).core 0).readBlocked 0x4FFF8 8 = false ∧
    slotsFor 8 ≤ 1 ∧ Test.next (exec (.send 0) (Test.wide { Test.core 0xC00110C0 [(1, 32), (2, 0x4FFF8), (3, 8)] with nif := { NetIf.empty with credits := [{ dst := 32, vc := 0, held := 1, want := 0, lastUse := 0, asked := false, retryAt := none, waiter := none }] }, sbuf := [{ addr := 0x4FFF8, size := 8, val := 0x55, pc := 0, nth := 0 }] })) (fun t => decide (t.net.map (fun p => p.body) = [.commitNotice, .msg [0x55, 0, 0, 0, 0, 0, 0, 0]])) = true :=
  ⟨Test.issues_of (by decide +kernel), Test.free_of (by decide +kernel), Test.sound_of (by decide +kernel), by decide +kernel⟩

/-- SEND without credit, a request already out, sleeps (R242). -/
theorem test_send_sleeps :
    Issues (Test.wide { Test.core 0xC00110C0 [(1, 32), (2, 0x4FFF8), (3, 8)] with nif := { NetIf.empty with credits := [{ dst := 32, vc := 0, held := 0, want := 0, lastUse := 0, asked := true, retryAt := none, waiter := none }] } }) 0 0xC00110C0 .send ∧ ((Test.wide { Test.core 0xC00110C0 [(1, 32), (2, 0x4FFF8), (3, 8)] with nif := { NetIf.empty with credits := [{ dst := 32, vc := 0, held := 0, want := 0, lastUse := 0, asked := true, retryAt := none, waiter := none }] } }).core 0).free [1, 2, 3] ∧ ((Test.wide { Test.core 0xC00110C0 [(1, 32), (2, 0x4FFF8), (3, 8)] with nif := { NetIf.empty with credits := [{ dst := 32, vc := 0, held := 0, want := 0, lastUse := 0, asked := true, retryAt := none, waiter := none }] } }).core 0).readBlocked 0x4FFF8 8 = false ∧ (Test.wide { Test.core 0xC00110C0 [(1, 32), (2, 0x4FFF8), (3, 8)] with nif := { NetIf.empty with credits := [{ dst := 32, vc := 0, held := 0, want := 0, lastUse := 0, asked := true, retryAt := none, waiter := none }] } }).inPartOf 0 32 = true ∧
    Test.next (exec (.send 0) (Test.wide { Test.core 0xC00110C0 [(1, 32), (2, 0x4FFF8), (3, 8)] with nif := { NetIf.empty with credits := [{ dst := 32, vc := 0, held := 0, want := 0, lastUse := 0, asked := true, retryAt := none, waiter := none }] } })) (fun t => decide ((t.core 0).run = .sleepSend) && decide (t.net = [])) = true :=
  ⟨Test.issues_of (by decide +kernel), Test.free_of (by decide +kernel), by decide +kernel⟩

/-- SEND past the end of data SRAM (R174). -/
theorem test_send_address :
    Issues (Test.wide { Test.core 0xC00110C0 [(1, 32), (2, 0x4FFF8), (3, 16)] with nif := { NetIf.empty with credits := [{ dst := 32, vc := 0, held := 64, want := 0, lastUse := 0, asked := false, retryAt := none, waiter := none }] } }) 0 0xC00110C0 .send ∧ ((Test.wide { Test.core 0xC00110C0 [(1, 32), (2, 0x4FFF8), (3, 16)] with nif := { NetIf.empty with credits := [{ dst := 32, vc := 0, held := 64, want := 0, lastUse := 0, asked := false, retryAt := none, waiter := none }] } }).core 0).free [1, 2, 3] ∧ 0x50000 < 0x4FFF8 + 16 ∧ Test.next (exec (.send 0) (Test.wide { Test.core 0xC00110C0 [(1, 32), (2, 0x4FFF8), (3, 16)] with nif := { NetIf.empty with credits := [{ dst := 32, vc := 0, held := 64, want := 0, lastUse := 0, asked := false, retryAt := none, waiter := none }] } })) (fun t => decide (t.net.map (fun p => p.body) = [.failure 0x3180 0x100000 0x4FFF8])) = true :=
  ⟨Test.issues_of (by decide +kernel), Test.free_of (by decide +kernel), by decide +kernel⟩

/-- SEND from an odd address (R174). -/
theorem test_send_align :
    Issues (Test.wide { Test.core 0xC00110C0 [(1, 32), (2, 0x4FFF4), (3, 8)] with nif := { NetIf.empty with credits := [{ dst := 32, vc := 0, held := 64, want := 0, lastUse := 0, asked := false, retryAt := none, waiter := none }] } }) 0 0xC00110C0 .send ∧ ((Test.wide { Test.core 0xC00110C0 [(1, 32), (2, 0x4FFF4), (3, 8)] with nif := { NetIf.empty with credits := [{ dst := 32, vc := 0, held := 64, want := 0, lastUse := 0, asked := false, retryAt := none, waiter := none }] } }).core 0).free [1, 2, 3] ∧ 0x4FFF4 % 8 ≠ 0 ∧ Test.next (exec (.send 0) (Test.wide { Test.core 0xC00110C0 [(1, 32), (2, 0x4FFF4), (3, 8)] with nif := { NetIf.empty with credits := [{ dst := 32, vc := 0, held := 64, want := 0, lastUse := 0, asked := false, retryAt := none, waiter := none }] } })) (fun t => decide (t.net.map (fun p => p.body) = [.failure 0x3181 0x100000 0x4FFF4])) = true :=
  ⟨Test.issues_of (by decide +kernel), Test.free_of (by decide +kernel), by decide +kernel⟩

/-- SEND to a core outside the partition (R174). -/
theorem test_send_target :
    Issues (Test.wide { Test.core 0xC00110C0 [(1, 64), (2, 0), (3, 4032)] with nif := { NetIf.empty with credits := [{ dst := 32, vc := 0, held := 64, want := 0, lastUse := 0, asked := false, retryAt := none, waiter := none }] } }) 0 0xC00110C0 .send ∧ ((Test.wide { Test.core 0xC00110C0 [(1, 64), (2, 0), (3, 4032)] with nif := { NetIf.empty with credits := [{ dst := 32, vc := 0, held := 64, want := 0, lastUse := 0, asked := false, retryAt := none, waiter := none }] } }).core 0).free [1, 2, 3] ∧ (Test.wide { Test.core 0xC00110C0 [(1, 64), (2, 0), (3, 4032)] with nif := { NetIf.empty with credits := [{ dst := 32, vc := 0, held := 64, want := 0, lastUse := 0, asked := false, retryAt := none, waiter := none }] } }).inPartOf 0 64 = false ∧ Test.next (exec (.send 0) (Test.wide { Test.core 0xC00110C0 [(1, 64), (2, 0), (3, 4032)] with nif := { NetIf.empty with credits := [{ dst := 32, vc := 0, held := 64, want := 0, lastUse := 0, asked := false, retryAt := none, waiter := none }] } })) (fun t => decide (t.net.map (fun p => p.body) = [.failure 0x3186 0x100000 0])) = true :=
  ⟨Test.issues_of (by decide +kernel), Test.free_of (by decide +kernel), by decide +kernel⟩

/-- RECV writes payload, length and sender, and frees the slot (R175). -/
theorem test_recv :
    Issues (Test.wide { Test.core 0xC4811000 [(1, 0x4FFF0), (2, 16)] with inq := [(0, { InQueue.empty with free := 62, msgs := [⟨7, [1, 2, 3, 4, 5, 6, 7, 8]⟩, ⟨8, []⟩] })] }) 0 0xC4811000 .recv ∧ ((Test.wide { Test.core 0xC4811000 [(1, 0x4FFF0), (2, 16)] with inq := [(0, { InQueue.empty with free := 62, msgs := [⟨7, [1, 2, 3, 4, 5, 6, 7, 8]⟩, ⟨8, []⟩] })] }).core 0).free [1, 2, 4, 5] ∧ ((Test.wide { Test.core 0xC4811000 [(1, 0x4FFF0), (2, 16)] with inq := [(0, { InQueue.empty with free := 62, msgs := [⟨7, [1, 2, 3, 4, 5, 6, 7, 8]⟩, ⟨8, []⟩] })] }).core 0).sound 0x4FFF0 8 ∧ ((Test.wide { Test.core 0xC4811000 [(1, 0x4FFF0), (2, 16)] with inq := [(0, { InQueue.empty with free := 62, msgs := [⟨7, [1, 2, 3, 4, 5, 6, 7, 8]⟩, ⟨8, []⟩] })] }).core 0).arrivalPending 0 = false ∧ ((Test.wide { Test.core 0xC4811000 [(1, 0x4FFF0), (2, 16)] with inq := [(0, { InQueue.empty with free := 62, msgs := [⟨7, [1, 2, 3, 4, 5, 6, 7, 8]⟩, ⟨8, []⟩] })] }).core 0).writeBlocked 0x4FFF0 8 = false ∧
    Test.next (exec (.recv 0) (Test.wide { Test.core 0xC4811000 [(1, 0x4FFF0), (2, 16)] with inq := [(0, { InQueue.empty with free := 62, msgs := [⟨7, [1, 2, 3, 4, 5, 6, 7, 8]⟩, ⟨8, []⟩] })] })) (fun t => decide (Memory.value (t.core 0).seen 0x4FFF0 8 = 0x0807060504030201) && decide ((t.core 0).pair 4 = 8 + 7 * 2 ^ 32) && decide (((t.core 0).queue 0).free = 63)) = true :=
  ⟨Test.issues_of (by decide +kernel), Test.free_of (by decide +kernel), Test.sound_of (by decide +kernel), by decide +kernel⟩

/-- RECV on an empty queue sleeps (R134). -/
theorem test_recv_sleeps :
    Issues (Test.at' 0xC4811000 [(1, 0x4FFF0), (2, 16)]) 0 0xC4811000 .recv ∧ ((Test.at' 0xC4811000 [(1, 0x4FFF0), (2, 16)]).core 0).free [1, 2, 4, 5] ∧ (((Test.at' 0xC4811000 [(1, 0x4FFF0), (2, 16)]).core 0).queue 0).msgs = [] ∧
    Test.next (exec (.recv 0) (Test.at' 0xC4811000 [(1, 0x4FFF0), (2, 16)])) (fun t => decide ((t.core 0).run = .sleepRecv) && decide ((t.core 0).pc = 0x100000)) = true :=
  ⟨Test.issues_of (by decide +kernel), Test.free_of (by decide +kernel), by decide +kernel⟩

/-- RPEEK reads the length and takes nothing (R173). -/
theorem test_rpeek :
    Issues (Test.wide { Test.core 0xC8800000 [] with inq := [(0, { InQueue.empty with msgs := [⟨7, [1, 2, 3, 4, 5, 6, 7, 8]⟩] })] }) 0 0xC8800000 .rpeek ∧ ((Test.wide { Test.core 0xC8800000 [] with inq := [(0, { InQueue.empty with msgs := [⟨7, [1, 2, 3, 4, 5, 6, 7, 8]⟩] })] }).core 0).free [4] ∧ ((Test.wide { Test.core 0xC8800000 [] with inq := [(0, { InQueue.empty with msgs := [⟨7, [1, 2, 3, 4, 5, 6, 7, 8]⟩] })] }).core 0).csr.det = false ∧ ((Test.wide { Test.core 0xC8800000 [] with inq := [(0, { InQueue.empty with msgs := [⟨7, [1, 2, 3, 4, 5, 6, 7, 8]⟩] })] }).core 0).arrivalPending 0 = false ∧
    Test.next (exec (.rpeek 0) (Test.wide { Test.core 0xC8800000 [] with inq := [(0, { InQueue.empty with msgs := [⟨7, [1, 2, 3, 4, 5, 6, 7, 8]⟩] })] })) (fun t => decide ((t.core 0).sreg 4 = 8) && decide (((t.core 0).queue 0).msgs.length = 1)) = true :=
  ⟨Test.issues_of (by decide +kernel), Test.free_of (by decide +kernel), by decide +kernel⟩

/-- SADV on a consumer binding enters the outbound queue (R177, R178). -/
theorem test_sadv :
    Issues (Test.own { Test.core 0xD00000C8 [] with desc := { StartDesc.none with taskId := 3, info := 0x100000, binds := [0x4000010000000005] }, outq := [] }) 0 0xD00000C8 .sadv ∧ ((Test.own { Test.core 0xD00000C8 [] with desc := { StartDesc.none with taskId := 3, info := 0x100000, binds := [0x4000010000000005] }, outq := [] }).core 0).bindIs 0 1 = true ∧ Test.next (exec (.sadv 0) (Test.own { Test.core 0xD00000C8 [] with desc := { StartDesc.none with taskId := 3, info := 0x100000, binds := [0x4000010000000005] }, outq := [] })) (fun t => decide ((t.core 0).outq = [{ op := .sadv 0 200 true, after := 0, rpc := none }]) && decide ((t.core 0).pc = 0x100004)) = true :=
  ⟨Test.issues_of (by decide +kernel), by decide +kernel⟩

/-- The outbound queue of four holds SADV back (R178). -/
theorem test_sadv_full :
    Issues (Test.own { Test.core 0xD00000C8 [] with desc := { StartDesc.none with taskId := 3, info := 0x100000, binds := [0x4000010000000005] }, outq := List.replicate 4 { op := .sadv 0 1 true, after := 0, rpc := none } }) 0 0xD00000C8 .sadv ∧ ((Test.own { Test.core 0xD00000C8 [] with desc := { StartDesc.none with taskId := 3, info := 0x100000, binds := [0x4000010000000005] }, outq := List.replicate 4 { op := .sadv 0 1 true, after := 0, rpc := none } }).core 0).bindIs 0 1 = true ∧ Test.next (exec (.sadv 0) (Test.own { Test.core 0xD00000C8 [] with desc := { StartDesc.none with taskId := 3, info := 0x100000, binds := [0x4000010000000005] }, outq := List.replicate 4 { op := .sadv 0 1 true, after := 0, rpc := none } })) (fun t => decide (t = (Test.own { Test.core 0xD00000C8 [] with desc := { StartDesc.none with taskId := 3, info := 0x100000, binds := [0x4000010000000005] }, outq := List.replicate 4 { op := .sadv 0 1 true, after := 0, rpc := none } }))) = true :=
  ⟨Test.issues_of (by decide +kernel), by decide +kernel⟩

/-- SADV on a barrier binding ends the task (R97). -/
theorem test_sadv_bind :
    Issues (Test.own { Test.core 0xD00000C8 [] with desc := { StartDesc.none with taskId := 3, info := 0x100000, binds := [0x8000000000000005] }, outq := [] }) 0 0xD00000C8 .sadv ∧ ((Test.own { Test.core 0xD00000C8 [] with desc := { StartDesc.none with taskId := 3, info := 0x100000, binds := [0x8000000000000005] }, outq := [] }).core 0).bindIs 0 0 = false ∧ ((Test.own { Test.core 0xD00000C8 [] with desc := { StartDesc.none with taskId := 3, info := 0x100000, binds := [0x8000000000000005] }, outq := [] }).core 0).bindIs 0 1 = false ∧ Test.next (exec (.sadv 0) (Test.own { Test.core 0xD00000C8 [] with desc := { StartDesc.none with taskId := 3, info := 0x100000, binds := [0x8000000000000005] }, outq := [] })) (fun t => decide (t.net.map (fun p => p.body) = [.failure 0x3168 0x100000 0])) = true :=
  ⟨Test.issues_of (by decide +kernel), by decide +kernel⟩

/-- WARR on binding 7 (R176). -/
theorem test_warr :
    Issues (Test.own { Test.core 0xD000F000 [] with desc := { StartDesc.none with taskId := 3, info := 0x800000, binds := [0x0, 0x0, 0x0, 0x0, 0x0, 0x0, 0x0, 0x8000000000000005] }, outq := [] }) 0 0xD000F000 .warr ∧ ((Test.own { Test.core 0xD000F000 [] with desc := { StartDesc.none with taskId := 3, info := 0x800000, binds := [0x0, 0x0, 0x0, 0x0, 0x0, 0x0, 0x0, 0x8000000000000005] }, outq := [] }).core 0).bindIs 7 2 = true ∧ Test.next (exec (.warr 0) (Test.own { Test.core 0xD000F000 [] with desc := { StartDesc.none with taskId := 3, info := 0x800000, binds := [0x0, 0x0, 0x0, 0x0, 0x0, 0x0, 0x0, 0x8000000000000005] }, outq := [] })) (fun t => decide ((t.core 0).outq.map (fun e => e.op) = [.warr 7])) = true :=
  ⟨Test.issues_of (by decide +kernel), by decide +kernel⟩

/-- POST of a record for another engine is queued (R176). -/
theorem test_post :
    Issues (Test.own { Test.core 0xD8020000 [(2, 0x01000100), (3, 0x4FFC0100)] with desc := { StartDesc.none with taskId := 3, info := 0x0, binds := [] }, outq := [] }) 0 0xD8020000 .post ∧ ((Test.own { Test.core 0xD8020000 [(2, 0x01000100), (3, 0x4FFC0100)] with desc := { StartDesc.none with taskId := 3, info := 0x0, binds := [] }, outq := [] }).core 0).free [2, 3] ∧ bits (((Test.own { Test.core 0xD8020000 [(2, 0x01000100), (3, 0x4FFC0100)] with desc := { StartDesc.none with taskId := 3, info := 0x0, binds := [] }, outq := [] }).core 0).pair 2) 63 62 = 1 ∧ bits (((Test.own { Test.core 0xD8020000 [(2, 0x01000100), (3, 0x4FFC0100)] with desc := { StartDesc.none with taskId := 3, info := 0x0, binds := [] }, outq := [] }).core 0).pair 2) 49 48 = 0 ∧ bits (((Test.own { Test.core 0xD8020000 [(2, 0x01000100), (3, 0x4FFC0100)] with desc := { StartDesc.none with taskId := 3, info := 0x0, binds := [] }, outq := [] }).core 0).pair 2) 7 0 = 0 ∧
    Test.next (exec (.post 0) (Test.own { Test.core 0xD8020000 [(2, 0x01000100), (3, 0x4FFC0100)] with desc := { StartDesc.none with taskId := 3, info := 0x0, binds := [] }, outq := [] })) (fun t => decide ((t.core 0).outq.map (fun e => e.op) = [.post 0x4FFC010001000100])) = true :=
  ⟨Test.issues_of (by decide +kernel), Test.free_of (by decide +kernel), by decide +kernel⟩

/-- POST of a record of KIND 3 ends the task (R176). -/
theorem test_post_kind :
    Issues (Test.own { Test.core 0xD8020000 [(3, 0xC0000000)] with desc := { StartDesc.none with taskId := 3, info := 0x0, binds := [] }, outq := [] }) 0 0xD8020000 .post ∧ ((Test.own { Test.core 0xD8020000 [(3, 0xC0000000)] with desc := { StartDesc.none with taskId := 3, info := 0x0, binds := [] }, outq := [] }).core 0).free [2, 3] ∧ bits (((Test.own { Test.core 0xD8020000 [(3, 0xC0000000)] with desc := { StartDesc.none with taskId := 3, info := 0x0, binds := [] }, outq := [] }).core 0).pair 2) 63 62 = 3 ∧
    Test.next (exec (.post 0) (Test.own { Test.core 0xD8020000 [(3, 0xC0000000)] with desc := { StartDesc.none with taskId := 3, info := 0x0, binds := [] }, outq := [] })) (fun t => decide (t.net.map (fun p => p.body) = [.failure 0x3132 0x100000 0])) = true :=
  ⟨Test.issues_of (by decide +kernel), Test.free_of (by decide +kernel), by decide +kernel⟩

/-- SWAIT sleeps behind a posted operation and does not leave (R178). -/
theorem test_swait_behind :
    Issues (Test.own { Test.core 0xD0000409 [] with desc := { StartDesc.none with taskId := 3, info := 0x100000, binds := [0x4000010000000005] }, outq := [{ op := .sadv 0 1 true, after := 0, rpc := none }] }) 0 0xD0000409 .swait ∧ ((Test.own { Test.core 0xD0000409 [] with desc := { StartDesc.none with taskId := 3, info := 0x100000, binds := [0x4000010000000005] }, outq := [{ op := .sadv 0 1 true, after := 0, rpc := none }] }).core 0).bindIs 0 1 = true ∧ ((Test.own { Test.core 0xD0000409 [] with desc := { StartDesc.none with taskId := 3, info := 0x100000, binds := [0x4000010000000005] }, outq := [{ op := .sadv 0 1 true, after := 0, rpc := none }] }).core 0).outq ≠ [] ∧ Test.next (exec (.swait 0) (Test.own { Test.core 0xD0000409 [] with desc := { StartDesc.none with taskId := 3, info := 0x100000, binds := [0x4000010000000005] }, outq := [{ op := .sadv 0 1 true, after := 0, rpc := none }] })) (fun t => decide ((t.core 0).run = .sleepSync) && decide (t.net = []) && decide ((t.core 0).counter 6 = 1)) = true :=
  ⟨Test.issues_of (by decide +kernel), by decide +kernel⟩

/-- SWAIT leaves for the field of its pair, another field than its own (R176). -/
theorem test_swait_leaves :
    Issues (Test.own { Test.core 0xD0000409 [] with desc := { StartDesc.none with taskId := 3, info := 0x100000, binds := [0x4000010000000005] }, outq := [] }) 0 0xD0000409 .swait ∧ ((Test.own { Test.core 0xD0000409 [] with desc := { StartDesc.none with taskId := 3, info := 0x100000, binds := [0x4000010000000005] }, outq := [] }).core 0).bindIs 0 1 = true ∧ ((Test.own { Test.core 0xD0000409 [] with desc := { StartDesc.none with taskId := 3, info := 0x100000, binds := [0x4000010000000005] }, outq := [] }).core 0).outq = [] ∧ ((Test.own { Test.core 0xD0000409 [] with desc := { StartDesc.none with taskId := 3, info := 0x100000, binds := [0x4000010000000005] }, outq := [] }).core 0).csr.det = false ∧ Test.next (exec (.swait 0) (Test.own { Test.core 0xD0000409 [] with desc := { StartDesc.none with taskId := 3, info := 0x100000, binds := [0x4000010000000005] }, outq := [] })) (fun t => decide (t.net.map (fun p => (p.dst, p.vc, p.body)) = [(.field 1, 2, .syncOp .wait true 9 5)])) = true :=
  ⟨Test.issues_of (by decide +kernel), by decide +kernel⟩

/-- SCLR is for the consumer side alone (R97). -/
theorem test_sclr_producer :
    Issues (Test.own { Test.core 0xD0800C00 [] with desc := { StartDesc.none with taskId := 3, info := 0x100000, binds := [0x5] }, outq := [] }) 0 0xD0800C00 .sclr ∧ ((Test.own { Test.core 0xD0800C00 [] with desc := { StartDesc.none with taskId := 3, info := 0x100000, binds := [0x5] }, outq := [] }).core 0).bindIs 0 1 = false ∧ Test.next (exec (.sclr 0) (Test.own { Test.core 0xD0800C00 [] with desc := { StartDesc.none with taskId := 3, info := 0x100000, binds := [0x5] }, outq := [] })) (fun t => decide (t.net.map (fun p => p.body) = [.failure 0x3168 0x100000 0])) = true :=
  ⟨Test.issues_of (by decide +kernel), by decide +kernel⟩

/-- SREAD is refused in deterministic mode (R181). -/
theorem test_sread_det :
    Issues (Test.own { Test.core 0xD0800800 [] with desc := { StartDesc.none with taskId := 3, info := 0x100000, binds := [0x4000000000000005] }, csr := { Csrs.reset with det := true } }) 0 0xD0800800 .sread ∧ ((Test.own { Test.core 0xD0800800 [] with desc := { StartDesc.none with taskId := 3, info := 0x100000, binds := [0x4000000000000005] }, csr := { Csrs.reset with det := true } }).core 0).bindIs 0 1 = true ∧ ((Test.own { Test.core 0xD0800800 [] with desc := { StartDesc.none with taskId := 3, info := 0x100000, binds := [0x4000000000000005] }, csr := { Csrs.reset with det := true } }).core 0).csr.det = true ∧ Test.next (exec (.sread 0) (Test.own { Test.core 0xD0800800 [] with desc := { StartDesc.none with taskId := 3, info := 0x100000, binds := [0x4000000000000005] }, csr := { Csrs.reset with det := true } })) (fun t => decide (t.net.map (fun p => p.body) = [.failure 0x3188 0x100000 0])) = true :=
  ⟨Test.issues_of (by decide +kernel), by decide +kernel⟩

/-- WAA of a core that has not arrived sends its arrival to the well field (R108). -/
theorem test_waa :
    Issues (Test.own { Test.core 0xD0001800 [] with desc := { StartDesc.none with taskId := 3, info := 0x100000, binds := [0x8000000000000005] }, commit := true }) 0 0xD0001800 .waa ∧ ((Test.own { Test.core 0xD0001800 [] with desc := { StartDesc.none with taskId := 3, info := 0x100000, binds := [0x8000000000000005] }, commit := true }).core 0).bindIs 0 2 = true ∧ (Test.own { Test.core 0xD0001800 [] with desc := { StartDesc.none with taskId := 3, info := 0x100000, binds := [0x8000000000000005] }, commit := true }).brokenCause 0 5 = 0 ∧ (Test.own { Test.core 0xD0001800 [] with desc := { StartDesc.none with taskId := 3, info := 0x100000, binds := [0x8000000000000005] }, commit := true }).arrival 0 0 = .none ∧ ((Test.own { Test.core 0xD0001800 [] with desc := { StartDesc.none with taskId := 3, info := 0x100000, binds := [0x8000000000000005] }, commit := true }).core 0).commit = true ∧
    Test.next (exec (.waa 0) (Test.own { Test.core 0xD0001800 [] with desc := { StartDesc.none with taskId := 3, info := 0x100000, binds := [0x8000000000000005] }, commit := true })) (fun t => decide (t.arrival 0 0 = .arrived) && decide (t.net.map (fun p => (p.dst, p.body)) = [(.field 0, .syncOp .arrive false 1 5)])) = true :=
  ⟨Test.issues_of (by decide +kernel), by decide +kernel⟩

/-- WAWT of a core whose group was released is answered at once (R108). -/
theorem test_wawt :
    Issues ((Test.own { Test.core 0xD0001400 [] with desc := { StartDesc.none with taskId := 3, info := 0x100000, binds := [0x8000000000000005] }, commit := true }).setArrival 0 0 .released) 0 0xD0001400 .wawt ∧ (((Test.own { Test.core 0xD0001400 [] with desc := { StartDesc.none with taskId := 3, info := 0x100000, binds := [0x8000000000000005] }, commit := true }).setArrival 0 0 .released).core 0).bindIs 0 2 = true ∧ ((Test.own { Test.core 0xD0001400 [] with desc := { StartDesc.none with taskId := 3, info := 0x100000, binds := [0x8000000000000005] }, commit := true }).setArrival 0 0 .released).brokenCause 0 5 = 0 ∧ ((Test.own { Test.core 0xD0001400 [] with desc := { StartDesc.none with taskId := 3, info := 0x100000, binds := [0x8000000000000005] }, commit := true }).setArrival 0 0 .released).arrival 0 0 = .released ∧
    Test.next (exec (.wawt 0) ((Test.own { Test.core 0xD0001400 [] with desc := { StartDesc.none with taskId := 3, info := 0x100000, binds := [0x8000000000000005] }, commit := true }).setArrival 0 0 .released)) (fun t => decide (t.arrival 0 0 = .none) && decide (t.net.map (fun p => p.body) = [.syncAns 0 0 0 0])) = true :=
  ⟨Test.issues_of (by decide +kernel), by decide +kernel⟩

/-- END waits for its work (R140). -/
theorem test_end :
    Issues (Test.at' 0xF8000000 []) 0 0xF8000000 .endOp ∧ Test.next (exec (.endTask 0) (Test.at' 0xF8000000 [])) (fun t => decide ((t.core 0).ending = .endWait) && decide ((t.core 0).run = .run)) = true :=
  ⟨Test.issues_of (by decide +kernel), by decide +kernel⟩

/-- FAIL carries its code in the address field (R180). -/
theorem test_fail :
    Issues (Test.at' 0xFC0000AB []) 0 0xFC0000AB .failOp ∧ Test.next (exec (.fail 0) (Test.at' 0xFC0000AB [])) (fun t => decide ((t.core 0).run = .idle) && decide (t.net.map (fun p => p.body) = [.failure 0x3185 0x100000 0xAB])) = true :=
  ⟨Test.issues_of (by decide +kernel), by decide +kernel⟩

/-- END_COMPLETION_SEND returns credit and reports `c.tflags` (R140, R242). -/
theorem test_end_completion :
    ((Test.one { Test.core 0 [] with ending := .endWait, csr := { Csrs.reset with tflags := 9 }, nif := { NetIf.empty with credits := [{ dst := 3, vc := 1, held := 5, want := 0, lastUse := 0, asked := false, retryAt := none, waiter := none }] } }).core 0).endReady = true ∧ ((Test.one { Test.core 0 [] with ending := .endWait, csr := { Csrs.reset with tflags := 9 }, nif := { NetIf.empty with credits := [{ dst := 3, vc := 1, held := 5, want := 0, lastUse := 0, asked := false, retryAt := none, waiter := none }] } }).field 0).clk.cd = .on ∧ Test.next (exec (.endCompletionSend 0) (Test.one { Test.core 0 [] with ending := .endWait, csr := { Csrs.reset with tflags := 9 }, nif := { NetIf.empty with credits := [{ dst := 3, vc := 1, held := 5, want := 0, lastUse := 0, asked := false, retryAt := none, waiter := none }] } })) (fun t => decide ((t.core 0).run = .idle) && decide (t.net.map (fun p => p.body) = [.creditReturn 5, .completion 9])) = true :=
  by decide +kernel

/-- TASK_START at the last entry of the instruction store (R138). -/
theorem test_task_start :
    ((Test.one { Test.core 0 [(5, 1)] with run := .idle, staged := some { StartDesc.none with taskId := 3, info := 0x5FFC } }).core 0).run = .idle ∧ ((Test.one { Test.core 0 [(5, 1)] with run := .idle, staged := some { StartDesc.none with taskId := 3, info := 0x5FFC } }).field 0).clk.cd = .on ∧ ((Test.one { Test.core 0 [(5, 1)] with run := .idle, staged := some { StartDesc.none with taskId := 3, info := 0x5FFC } }).core 0).staged.isSome = true ∧ Test.next (exec (.taskStart 0) (Test.one { Test.core 0 [(5, 1)] with run := .idle, staged := some { StartDesc.none with taskId := 3, info := 0x5FFC } })) (fun t => decide ((t.core 0).pc = 0x105FFC) && decide ((t.core 0).regs = Regs.zero) && decide ((t.core 0).run = .run) && decide (t.net.map (fun p => p.body) = [.startReport 0])) = true :=
  by decide +kernel

/-- WITHDRAW_REQUEST of the staged task (R143). -/
theorem test_withdraw :
    (({ Test.one { Test.core 0 [] with staged := some { StartDesc.none with taskId := 3 } } with net := [{ src := .field 0, dst := .core 0, vc := 0, ctl := true, bus := true, part := none, tag := 0, task := 3, at' := 0, body := .withdrawReq }] }).arriving 0).isSome = true ∧ Test.next (exec (.withdrawRequest 0) ({ Test.one { Test.core 0 [] with staged := some { StartDesc.none with taskId := 3 } } with net := [{ src := .field 0, dst := .core 0, vc := 0, ctl := true, bus := true, part := none, tag := 0, task := 3, at' := 0, body := .withdrawReq }] })) (fun t => decide ((t.core 0).staged = none) && decide (t.net.map (fun p => p.body) = [.withdrawAns false])) = true :=
  by decide +kernel

/-- ABORT_REQUEST drains the stores and drops the posted operations (R142). -/
theorem test_abort :
    (({ Test.one { Test.core 0 [] with desc := { StartDesc.none with taskId := 3 }, sbuf := [{ addr := 8, size := 8, val := 5, pc := 0, nth := 0 }], outq := [{ op := .sadv 0 1 true, after := 0, rpc := none }] } with net := [{ src := .field 0, dst := .core 0, vc := 0, ctl := true, bus := true, part := none, tag := 0, task := 3, at' := 0, body := .abortReq }] }).arriving 0).isSome = true ∧ (({ Test.one { Test.core 0 [] with desc := { StartDesc.none with taskId := 3 }, sbuf := [{ addr := 8, size := 8, val := 5, pc := 0, nth := 0 }], outq := [{ op := .sadv 0 1 true, after := 0, rpc := none }] } with net := [{ src := .field 0, dst := .core 0, vc := 0, ctl := true, bus := true, part := none, tag := 0, task := 3, at' := 0, body := .abortReq }] }).core 0).run = .run ∧ (({ Test.one { Test.core 0 [] with desc := { StartDesc.none with taskId := 3 }, sbuf := [{ addr := 8, size := 8, val := 5, pc := 0, nth := 0 }], outq := [{ op := .sadv 0 1 true, after := 0, rpc := none }] } with net := [{ src := .field 0, dst := .core 0, vc := 0, ctl := true, bus := true, part := none, tag := 0, task := 3, at' := 0, body := .abortReq }] }).core 0).desc.taskId = 3 ∧ Test.next (exec (.abortRequest 0) ({ Test.one { Test.core 0 [] with desc := { StartDesc.none with taskId := 3 }, sbuf := [{ addr := 8, size := 8, val := 5, pc := 0, nth := 0 }], outq := [{ op := .sadv 0 1 true, after := 0, rpc := none }] } with net := [{ src := .field 0, dst := .core 0, vc := 0, ctl := true, bus := true, part := none, tag := 0, task := 3, at' := 0, body := .abortReq }] })) (fun t => decide ((t.core 0).run = .idle) && decide ((t.core 0).outq = []) && decide (Memory.value (t.core 0).sram 8 8 = 5) && decide (t.net.map (fun p => p.body) = [.abortReport])) = true :=
  by decide +kernel

/-- SYNC_ANSWER is kept for the operation that waits (R100). -/
theorem test_sync_answer :
    (({ Test.one { Test.core 0 [] with run := .sleepSync, desc := { StartDesc.none with taskId := 3 }, blocked := some { op := .clear, bind := 0, left := true, answer := none } } with net := [{ src := .field 0, dst := .core 0, vc := 0, ctl := true, bus := true, part := none, tag := blockTag, task := 3, at' := 0, body := .syncAns 0 4 5 6 }] }).arriving 0).isSome = true ∧ (({ Test.one { Test.core 0 [] with run := .sleepSync, desc := { StartDesc.none with taskId := 3 }, blocked := some { op := .clear, bind := 0, left := true, answer := none } } with net := [{ src := .field 0, dst := .core 0, vc := 0, ctl := true, bus := true, part := none, tag := blockTag, task := 3, at' := 0, body := .syncAns 0 4 5 6 }] }).core 0).runsTask 3 = true ∧ Test.next (exec (.syncAnswer 0) ({ Test.one { Test.core 0 [] with run := .sleepSync, desc := { StartDesc.none with taskId := 3 }, blocked := some { op := .clear, bind := 0, left := true, answer := none } } with net := [{ src := .field 0, dst := .core 0, vc := 0, ctl := true, bus := true, part := none, tag := blockTag, task := 3, at' := 0, body := .syncAns 0 4 5 6 }] })) (fun t => decide ((t.core 0).blocked = some { op := .clear, bind := 0, left := true, answer := some { cause := 0, cleared := 4, p := 5, c := 6 } }) && decide (t.net = [])) = true :=
  by decide +kernel

/-- CORE_WAKE: SREAD delivers P and C (R176). -/
theorem test_wake :
    ((Test.one { Test.core 0xD3C00800 [] with run := .sleepSync, blocked := some { op := .read, bind := 0, left := true, answer := some { cause := 0, cleared := 0, p := 5, c := 6 } } }).core 0).run = .sleepSync ∧ ((Test.one { Test.core 0xD3C00800 [] with run := .sleepSync, blocked := some { op := .read, bind := 0, left := true, answer := some { cause := 0, cleared := 0, p := 5, c := 6 } } }).core 0).asyncErr = none ∧ ((Test.one { Test.core 0xD3C00800 [] with run := .sleepSync, blocked := some { op := .read, bind := 0, left := true, answer := some { cause := 0, cleared := 0, p := 5, c := 6 } } }).core 0).ending = .none ∧ dField ((Test.one { Test.core 0xD3C00800 [] with run := .sleepSync, blocked := some { op := .read, bind := 0, left := true, answer := some { cause := 0, cleared := 0, p := 5, c := 6 } } }).core 0).wordAtPc = 30 ∧ Test.next (exec (.coreWake 0) (Test.one { Test.core 0xD3C00800 [] with run := .sleepSync, blocked := some { op := .read, bind := 0, left := true, answer := some { cause := 0, cleared := 0, p := 5, c := 6 } } })) (fun t => decide ((t.core 0).run = .run) && decide ((t.core 0).pair 30 = 5 + 6 * 2 ^ 32) && decide ((t.core 0).pc = 0x100004)) = true :=
  by decide +kernel

/-- STORE_BUFFER_DRAIN of a whole word ends its correctable error (R128, R131). -/
theorem test_drain :
    ((Test.one { Test.core 0 [] with sbuf := [{ addr := 8, size := 8, val := 5, pc := 0, nth := 0 }], ce := [1], wback := [1] }).core 0).writeBlocked 8 8 = false ∧ (∀ x ∈ wordsOf 8 8, x ∉ ((Test.one { Test.core 0 [] with sbuf := [{ addr := 8, size := 8, val := 5, pc := 0, nth := 0 }], ce := [1], wback := [1] }).core 0).ue) ∧ Test.next (exec (.storeBufferDrain 0) (Test.one { Test.core 0 [] with sbuf := [{ addr := 8, size := 8, val := 5, pc := 0, nth := 0 }], ce := [1], wback := [1] })) (fun t => decide ((t.core 0).sbuf = []) && decide ((t.core 0).ce = []) && decide (Memory.value (t.core 0).sram 8 8 = 5)) = true :=
  by decide +kernel

/-- ECC_WRITE_BACK of bank 1 (R131). -/
theorem test_ecc :
    ((Test.one { Test.core 0 [] with ce := [4096, 1], wback := [1, 4096] }).core 0).wback.find? (fun w => decide (w / 4096 = 1)) = some 4096 ∧ Test.next (exec (.eccWriteBack 0 1) (Test.one { Test.core 0 [] with ce := [4096, 1], wback := [1, 4096] })) (fun t => decide ((t.core 0).ce = [1]) && decide ((t.core 0).wback = [1])) = true :=
  by decide +kernel

/-- OUTBOUND_ENTRY_LEAVE: the ADVANCE leaves once the message before it is acknowledged (R178). -/
theorem test_outbound :
    ((Test.own { Test.core 0x00000000 [] with desc := { StartDesc.none with taskId := 3, info := 0x100000, binds := [0x4000010000000005] }, outq := [{ op := .sadv 0 2 true, after := 1, rpc := none }], commit := true }).core 0).olderAcked 1 = true ∧ ((Test.own { Test.core 0x00000000 [] with desc := { StartDesc.none with taskId := 3, info := 0x100000, binds := [0x4000010000000005] }, outq := [{ op := .sadv 0 2 true, after := 1, rpc := none }], commit := true }).core 0).blocked = none ∧ ((Test.own { Test.core 0x00000000 [] with desc := { StartDesc.none with taskId := 3, info := 0x100000, binds := [0x4000010000000005] }, outq := [{ op := .sadv 0 2 true, after := 1, rpc := none }], commit := true }).core 0).ending = .none ∧ Test.next (exec (.outboundEntryLeave 0) (Test.own { Test.core 0x00000000 [] with desc := { StartDesc.none with taskId := 3, info := 0x100000, binds := [0x4000010000000005] }, outq := [{ op := .sadv 0 2 true, after := 1, rpc := none }], commit := true })) (fun t => decide ((t.core 0).outq = []) && decide (t.net.map (fun p => (p.dst, p.body)) = [(.field 1, .syncOp .advance true 2 5)])) = true :=
  by decide +kernel

/-- REFUSAL_DELIVERY ends the task with the program counter that posted (R179). -/
theorem test_refusal :
    ((Test.one { Test.core 0 [] with asyncErr := some (0x3162, some 0x100010, 7) }).core 0).run = .run ∧ ((Test.one { Test.core 0 [] with asyncErr := some (0x3162, some 0x100010, 7) }).core 0).ending = .none ∧ Test.next (exec (.refusalDelivery 0) (Test.one { Test.core 0 [] with asyncErr := some (0x3162, some 0x100010, 7) })) (fun t => decide ((t.core 0).run = .idle) && decide (t.net.map (fun p => p.body) = [.failure 0x3162 0x100010 7])) = true :=
  by decide +kernel

/-! ### The mesh, the Cistern, pairs and groups -/

namespace Test

/-- A packet on the mesh (`bus` false) or the field bus. -/
def pk (src dst : Agent) (vc : Nat) (bus : Bool) (task : DWord) (tag : Nat) (b : Payload) : Packet :=
  { src := src, dst := dst, vc := vc, ctl := true, bus := bus, part := none, tag := tag, task := task, at' := 0, body := b }
/-- A state with one packet on its way. -/
def sent (p : Packet) (s : State) : State := { s with net := [p] }
/-- Core 0 with what `g` makes of its fresh interface, and a packet on its way. -/
def link (p : Packet) (k : Core) : State := sent p (one k)
/-- A credit entry of core 0 toward core 33. -/
def entry : CreditEntry := { dst := 33, vc := 1, held := 4, want := 7, lastUse := 0, asked := false, retryAt := none, waiter := none }
/-- A message of core 0 under tag 9 that was the third it sent. -/
def unacked : Unacked := { tag := 9, seq := 3, dst := 33, vc := 1, at' := 0, len := 40, task := 3, bind := some (2, 0x100008, 0) }
/-- Core 0 running task 3 with a message outstanding and two posted operations behind it. -/
def sender : Core :=
  { core 0 [] with desc := { StartDesc.none with taskId := 3 }, nif := { NetIf.empty with credits := [entry], unacked := [unacked], sendSeq := 4 },
                   outq := [{ op := .warr 0, after := 3, rpc := none }, { op := .warr 1, after := 4, rpc := none }] }

/-- Partition 0 holds field 0 alone; its Cistern is as given. -/
def graph (c : Cistern) : State :=
  { State.reset with fields := [(0, { field with cis := c })], cores := [(0, { Core.reset with run := .idle })], parts := [(0, part)] }
/-- Node 1: a task node of MASK 3 that may fire twice, with one output record in slot 5 and placement set 2, whose watchdog is 7. -/
def nodeMem (rec : Nat) : Memory :=
  Memory.setValue (Memory.setValue (Memory.setValue (Memory.setValue [] 64 4 0x80020002) 68 4 3) 72 8 0x0005010000070000) 320 8 rec
/-- A Cistern that holds node 1 with run state `r`. -/
def cis (r : NodeRun) : Cistern :=
  { Cistern.reset with mem := nodeMem 0x4000000200000100, nodeLimit := 8, nodes := [(1, r)], psets := [(2, 0x4000000000001F00)] }
/-- Node 1 waits with flag 0 set and two firings left. -/
def waiting : NodeRun := { NodeRun.reset with flags := 1, fireLeft := 2 }
/-- An event for node `n` that sets flags `b`, in field `f`. -/
def evt (f n b : Nat) : DWord := BitVec.ofNat 64 (f <<< 40 + n <<< 24 + b <<< 8)

end Test

/-- A message of 48 bytes joins queue 1 of core 0; its ACK leaves (R133, R245). -/
theorem test_message_accept :
    ((Test.link (Test.pk (.core 33) (.core 0) 1 false 3 9 (.msg (List.replicate 48 1))) (Test.core 0 [])).arriving 0).isSome = true ∧
    (Test.link (Test.pk (.core 33) (.core 0) 1 false 3 9 (.msg (List.replicate 48 1))) (Test.core 0 [])).reachable 0 = true ∧
    Test.next (exec (.messageAccept 0) (Test.link (Test.pk (.core 33) (.core 0) 1 false 3 9 (.msg (List.replicate 48 1))) (Test.core 0 []))) (fun t =>
      decide (((t.core 0).queue 1).hwm = 1) && decide (((t.core 0).queue 1).msgs.length = 1) && decide (((t.core 0).queue 0).msgs = []) &&
      decide ((t.field 0).syn.progress = 1) && decide (t.net.map (fun p => (p.dst, p.tag, p.body)) = [(.core 33, 9, .ack)])) = true := by decide +kernel
/-- The ACK retires message 9 and posts the finish-send's ADVANCE behind it (R219, R244). -/
theorem test_ack :
    (Test.link (Test.pk (.core 33) (.core 0) 1 false 3 9 .ack) Test.sender).arriving 0 = some (Test.pk (.core 33) (.core 0) 1 false 3 9 .ack) ∧
    Test.sender.lost = false ∧ Test.sender.nif.unacked.find? (fun x => decide (x.tag = 9)) = some Test.unacked ∧
    Test.next (exec (.ack 0) (Test.link (Test.pk (.core 33) (.core 0) 1 false 3 9 .ack) Test.sender)) (fun t =>
      decide ((t.core 0).nif.unacked = []) && decide ((t.core 0).counter 11 = 1) && decide ((t.core 0).counter 13 = 40) &&
      decide ((t.core 0).outq.drop 2 = [{ op := .sadv 2 1 false, after := 4, rpc := some (0x100008, 0) }])) = true := by decide +kernel
/-- A request of exactly the free slots is granted (R241). -/
theorem test_credit_req :
    Test.next (exec (.creditReq 0) (Test.link (Test.pk (.core 33) (.core 0) 1 false 3 9 (.creditReq 64)) Test.sender)) (fun t =>
      decide (((t.core 0).queue 1).free = 0) && decide (t.net.map (fun p => (p.dst, p.body)) = [(.core 33, .creditGrant 64)])) = true := by decide +kernel
/-- A busy answer sets the retry 96 half CCLK on (R241); a grant fills the entry. -/
theorem test_credit_grant :
    ({ Test.sender.nif with credits := [{ Test.entry with asked := true }] } : NetIf).entry 33 1 = some { Test.entry with asked := true } ∧
    Test.next (exec (.creditGrant 0) (Test.link (Test.pk (.core 33) (.core 0) 1 false 3 9 (.creditGrant 0))
      { Test.sender with nif := { Test.sender.nif with credits := [{ Test.entry with asked := true }] } })) (fun t =>
      decide ((t.core 0).nif.credits = [{ Test.entry with retryAt := some 96 }])) = true ∧
    Test.next (exec (.creditGrant 0) (Test.link (Test.pk (.core 33) (.core 0) 1 false 3 9 (.creditGrant 7))
      { Test.sender with nif := { Test.sender.nif with credits := [{ Test.entry with asked := true }] } })) (fun t =>
      decide ((t.core 0).nif.credits = [{ Test.entry with held := 11 }])) = true := by decide +kernel
/-- Returned slots never pass 64 (R241). -/
theorem test_credit_return :
    Test.next (exec (.creditReturn 0) (Test.link (Test.pk (.core 33) (.core 0) 1 false 3 9 (.creditReturn 5))
      { Test.sender with inq := [(1, { InQueue.empty with free := 60 })] })) (fun t => decide (((t.core 0).queue 1).free = 64)) = true := by decide +kernel
/-- The three timers of a credit entry at their first moment (R241 to R243). -/
theorem test_credit_timers :
    Test.next (exec (.creditEntryIdleTimeout 0 0) { Test.one Test.sender with
      fields := [(0, { Test.field with clk := { Test.field.clk with halfCclk := 6144 } })] }) (fun t =>
      decide ((t.core 0).nif.credits = []) && decide (t.net.map (fun p => (p.dst, p.vc, p.body)) = [(.core 33, 1, .creditReturn 4)])) = true ∧
    Test.next (exec (.creditBusyRetry 0 0) (Test.one { Test.sender with
      nif := { Test.sender.nif with credits := [{ Test.entry with retryAt := some 0 }] } })) (fun t =>
      decide ((t.core 0).nif.credits = [{ Test.entry with asked := true }]) && decide (t.net.map (fun p => p.body) = [.creditReq 7])) = true ∧
    Test.next (exec (.lostCoreCreditReturn 0) (Test.one { Test.sender with lost := true })) (fun t =>
      decide ((t.core 0).nif.credits = []) && decide (t.net.map (fun p => p.body) = [.creditReturn 4])) = true := by decide +kernel
/-- A message for a core that is OFF comes back as LOST (R235). -/
theorem test_msg_unreachable :
    (Test.link (Test.pk (.core 33) (.core 0) 1 false 3 9 (.msg [1])) Core.reset).reachable 0 = false ∧
    Test.next (exec (.msgUnreachable 0) (Test.link (Test.pk (.core 33) (.core 0) 1 false 3 9 (.msg [1])) Core.reset)) (fun t =>
      decide (t.net.map (fun p => (p.dst, p.body)) = [(.core 33, .lost 0x3144 (.core 0) (.msg [1]))])) = true := by decide +kernel
/-- The loss refuses the task and drops what was queued after the message (R179, R252); the timeout does so with 0x3143. -/
theorem test_msg_lost :
    Test.sender.runsTask 3 = true ∧ Test.sender.ending = .none ∧
    Test.next (exec (.lost 0) (Test.link (Test.pk (.core 33) (.core 0) 1 false 3 9 (.lost 0x3144 (.core 33) (.msg [1]))) Test.sender)) (fun t =>
      decide ((t.core 0).asyncErr = some (0x3144, none, 0)) && decide ((t.core 0).outq.map (fun e => e.after) = [3]) &&
      decide ((t.core 0).nif.unacked = [])) = true ∧
    Test.next (exec (.msgAckTimeout 0 0) { Test.one Test.sender with tstamp := 10000 }) (fun t =>
      decide ((t.core 0).asyncErr = some (0x3143, none, 0)) && decide ((t.core 0).outq.map (fun e => e.after) = [3])) = true := by decide +kernel
/-- A header whose flit count is not that of its length is counted (R238). -/
theorem test_packet_reserved :
    bits (8 * 2 ^ 7) 57 52 + 1 ≠ (16 + 8 * bits (8 * 2 ^ 7) 15 7 + 63) / 64 ∧
    Test.next (exec (.packetReservedDiscard 0 { h0 := 8 * 2 ^ 7, h1 := 0 }) (Test.at' 0 [])) (fun t => decide (Tab.read (t.field 0).obs.counters 0 0x18 = 1)) = true := by
  decide +kernel
/-- The link east of router (32, 0) belongs to field 0: one error, the resend, the second error (R250, R251, R493). -/
theorem test_link_errors :
    linkOwner 32 0 1 = 0 ∧ (linkEnd 32 0 1).isSome = true ∧
    Test.next (exec (.linkFlitError 32 0 1) (Test.at' 0 [])) (fun t => decide ((t.field 0).retries = [(32, 0, 1)])) = true ∧
    Test.next (exec (.linkResendRequest 32 0 1) { Test.at' 0 [] with fields := [(0, { Test.field with retries := [(32, 0, 1)] })] }) (fun t =>
      decide ((t.field 0).retries = [(32, 0, 5)]) && decide (Tab.read (t.field 0).obs.counters 0 0x10 = 1)) = true ∧
    Test.next (exec (.meshLinkDown 32 0 1 []) { Test.at' 0 [] with fields := [(0, { Test.field with retries := [(32, 0, 5)] })] }) (fun t =>
      t.linkDown 32 0 1 && decide ((t.field 0).faults.recs.map (fun r => (r.cause, r.info)) = [(0x3148, 32 * 2 ^ 18 + 1)])) = true := by decide +kernel
/-- A message routed over the DOWN link is lost with 0x3143, an ACK silently (R251). -/
theorem test_down_link :
    (Test.at' 0 []).crosses (Test.pk (.core 0) (.core 33) 1 false 3 9 (.msg [1])) 32 0 1 = true ∧
    Test.next (exec (.downLinkPacketLost 32 0 1 0) { Test.sent (Test.pk (.core 0) (.core 33) 1 false 3 9 (.msg [1])) (Test.at' 0 []) with
      fields := [(0, { Test.field with downLinks := [(32, 0, 1)] })] }) (fun t =>
      decide (t.net.map (fun p => (p.dst, p.body)) = [(.core 0, .lost 0x3143 (.core 33) (.msg [1]))])) = true ∧
    Test.next (exec (.downLinkPacketLost 32 0 1 0) { Test.sent (Test.pk (.core 0) (.core 33) 1 false 3 9 .ack) (Test.at' 0 []) with
      fields := [(0, { Test.field with downLinks := [(32, 0, 1)] })] }) (fun t => decide (t.net = [])) = true := by decide +kernel

/-- The event that meets the mask fires node 1: its flags go, one firing is left, it is READY in the pool (R61, R65). -/
theorem test_event_fires :
    (Test.cis Test.waiting).isNode 1 = true ∧ (Test.cis Test.waiting).mask 1 = 3 ∧
    Test.next (exec (.cisternEventAccept 0 0) (Test.sent (Test.pk (.field 1) (.field 0) 3 false 0 0 (.event (Test.evt 0 1 2))) (Test.graph (Test.cis Test.waiting)))) (fun t =>
      decide ((Claims.cis t 0).pool = [1]) && decide (((Claims.cis t 0).node 1).state = .ready) && decide (((Claims.cis t 0).node 1).flags = 0) &&
      decide (((Claims.cis t 0).node 1).fireLeft = 1) && decide (((Claims.cis t 0).node 1).firing = 1) && decide (t.net = [])) = true := by decide +kernel
/-- An event for the node past NODE_LIMIT is an error and a fault (R62); for a DONE node it is discarded (R63); for a RUNNING one with its flag set it merges (R63). -/
theorem test_event_discards :
    Test.next (exec (.cisternEventAccept 0 0) (Test.sent (Test.pk (.field 1) (.field 0) 3 false 0 0 (.event (Test.evt 0 8 2))) (Test.graph (Test.cis Test.waiting)))) (fun t =>
      decide ((Claims.cis t 0).err = 1) && decide (t.faultCount = 1) && decide ((Claims.cis t 0).discarded = 1)) = true ∧
    Test.next (exec (.cisternEventAccept 0 0) (Test.sent (Test.pk (.field 1) (.field 0) 3 false 0 0 (.event (Test.evt 0 1 2)))
      (Test.graph (Test.cis { Test.waiting with state := .done })))) (fun t =>
      decide ((Claims.cis t 0).discarded = 1) && decide (t.faultCount = 0) && decide (((Claims.cis t 0).node 1).flags = 1)) = true ∧
    Test.next (exec (.cisternEventAccept 0 0) (Test.sent (Test.pk (.field 1) (.field 0) 3 false 0 0 (.event (Test.evt 0 1 1)))
      (Test.graph (Test.cis { Test.waiting with state := .running })))) (fun t =>
      decide ((Claims.cis t 0).merged = 1) && decide (((Claims.cis t 0).node 1).flags = 1)) = true := by decide +kernel
/-- The chain's head moves to the pool's last place (R65). -/
theorem test_chain_advance :
    Test.next (exec (.overflowChainAdvance 0) (Test.graph { Test.cis { Test.waiting with state := .pending } with
      chain := [1, 4], pool := List.replicate 1023 0 })) (fun t =>
      decide ((Claims.cis t 0).chain = [4]) && decide ((Claims.cis t 0).pool.getLast? = some 1) && decide (((Claims.cis t 0).node 1).state = .ready)) = true := by
  decide +kernel
/-- Node 1 is assigned to core 31, the last of its set, and STAGED there (R66, R70, R137). -/
theorem test_task_assign :
    (Claims.cis (Test.graph (Test.cis Test.waiting)) 0).psetHas 2 31 = true ∧ (Test.cis Test.waiting).badStart 1 = none ∧
    Test.next (exec (.taskAssign 0 1 { li := 31, readFirst := false }) (Test.graph { Test.cis { Test.waiting with state := .ready, firing := 1 } with pool := [0, 1] })) (fun t =>
      decide ((Claims.cis t 0).pool = [0]) && decide (((Claims.cis t 0).slot 31).staged = some 1) && decide (((Claims.cis t 0).node 1).state = .staged) &&
      decide ((t.core 31).staged.map (fun d => (d.taskId, d.layerOper)) = some (0x0000000100000000, 0)) && decide (t.net = [])) = true := by decide +kernel
/-- The start report makes node 1 RUNNING in slot 0, its watchdog 7 × 1000 TSTAMP on (R69, R496). -/
theorem test_start_report :
    Test.next (exec (.startReport 0) (Test.sent (Test.pk (.core 0) (.field 0) 0 true 0x0000000100000000 0 (.startReport 0))
      (Test.graph { Test.cis { Test.waiting with state := .staged, firing := 1 } with slots := [(0, { CoreSlot.idle with staged := some 1 })] }))) (fun t =>
      decide ((Claims.cis t 0).slot 0 = { CoreSlot.idle with running := some 1 }) && decide (((Claims.cis t 0).node 1).state = .running) &&
      decide (((Claims.cis t 0).node 1).wdogEnd = some 7000)) = true := by decide +kernel

namespace Test

/-- Node 1 runs on core 0, its output read; a report of the core is on its way. -/
def reported (r : NodeRun) (b : Payload) : State :=
  sent (pk (.core 0) (.field 0) 0 true 0x0000000100000000 0 b)
    (graph { cis r with slots := [(0, { CoreSlot.idle with running := some 1 })] })
/-- Node 1 in its first firing. -/
def running : NodeRun := { NodeRun.reset with fireLeft := 1, firing := 1, state := .running, outRead := .good, outRecs := [0x4000000200000100] }

theorem reports_of {s : State} {f k n li : Nat} {b : Payload} {p : Packet} (h : (f < 72 ∧ li < 1280 ∧ (s.arriving k = some p ∧ p.src = .core (coreId f li) ∧
    p.dst = .field f ∧ p.bus = true ∧ p.body = b ∧ taskNode p.task = n ∧ s.taskOf f n = p.task)) ∧ ((Claims.cis s f).slot li).running = some n ∧
    ((Claims.cis s f).node n).state = .running) : Claims.reports s f k n li b := ⟨h.1.1, h.1.2.1, ⟨p, h.1.2.2⟩, h.2⟩

end Test

/-- A completion makes node 1 WAITING again and queues its record; of the last firing, DONE (R72, R75). -/
theorem test_completion :
    Claims.reports (Test.reported Test.running (.completion 5)) 0 0 1 0 (.completion 5) ∧
    Test.next (exec (.completionReport 0) (Test.reported Test.running (.completion 5))) (fun t =>
      decide ((Claims.cis t 0).slot 0 = CoreSlot.idle) && decide (((Claims.cis t 0).node 1).state = .waiting) && decide (((Claims.cis t 0).node 1).aflags = 5) &&
      decide ((Claims.cis t 0).emit.map (fun e => (e.node, e.ready, e.recs)) = [(1, true, [0x4000000200000100])])) = true ∧
    Test.next (exec (.completionReport 0) (Test.reported { Test.running with fireLeft := 0 } (.completion 5))) (fun t =>
      decide (((Claims.cis t 0).node 1).state = .done)) = true :=
  ⟨Test.reports_of (p := Test.pk (.core 0) (.field 0) 0 true 0x0000000100000000 0 (.completion 5)) (by decide +kernel), by decide +kernel, by decide +kernel⟩
/-- Failure, abort and commit reports of the running firing (R76, R496, R502). -/
theorem test_reports :
    Claims.reports (Test.reported Test.running (.failure 0x3010 0x100004 0)) 0 0 1 0 (.failure 0x3010 0x100004 0) ∧ countedHere 0x3010 = true ∧
    Test.next (exec (.failureReport 0) (Test.reported Test.running (.failure 0x3010 0x100004 0))) (fun t =>
      decide (((Claims.cis t 0).node 1).state = .failed) && decide (((Claims.cis t 0).node 1).cause = 0x3010) && decide (t.faultCount = 1)) = true ∧
    Test.next (exec (.abortReport 0) (Test.reported Test.running .abortReport)) (fun t =>
      decide (((Claims.cis t 0).slot 0).running = none) && decide ((Claims.cis t 0).node 1 = Test.running)) = true ∧
    Test.next (exec (.commitNotice 0) (Test.reported Test.running .commitNotice)) (fun t => ((Claims.cis t 0).node 1).commit) = true :=
  ⟨Test.reports_of (p := Test.pk (.core 0) (.field 0) 0 true 0x0000000100000000 0 (.failure 0x3010 0x100004 0)) (by decide +kernel), by decide +kernel,
   by decide +kernel, by decide +kernel, by decide +kernel⟩
/-- The read of node 1's output record ends good (R83). -/
theorem test_output_read :
    (Test.cis { Test.running with outRead := .reading }).badOut 1 = none ∧
    Test.next (exec (.outputRecordReadEnd 0 1) (Test.graph (Test.cis { Test.running with outRead := .reading }))) (fun t =>
      decide (((Claims.cis t 0).node 1).outRead = .good) && decide (((Claims.cis t 0).node 1).outRecs = [0x4000000200000100])) = true := by decide +kernel
/-- A record for field 3 leaves over the mesh, one for a host to its port, one for engine 6 to the gateway of its route (R73, R78, R271). -/
theorem test_output_emit :
    Test.next (exec (.outputRecordEmit 0 none) (Test.graph { Test.cis Test.running with
      emit := [{ node := 1, ready := true, aflags := 5, task := 8, layerOper := 0, ts := 0, stopping := false, recs := [Test.evt 3 1 1, 7] }] })) (fun t =>
      decide (t.net.map (fun p => (p.dst, p.task, p.body)) = [(.field 3, 8, .event (Test.evt 3 1 1))]) && decide ((Claims.cis t 0).emit.map (fun e => e.recs) = [[7]])) = true ∧
    Test.next (exec (.outputRecordEmit 0 none) (Test.graph { Test.cis Test.running with
      emit := [{ node := 1, ready := true, aflags := 5, task := 8, layerOper := 0, ts := 4, stopping := false, recs := [0x8000C00000000000] }] })) (fun t =>
      decide (t.net.map (fun p => (p.dst, p.body)) = [(.ingress 3, .hostNote 0x8000C00000000000 5 0 4 false)]) && decide ((Claims.cis t 0).emit = [])) = true ∧
    Test.next (exec (.outputRecordEmit 0 none) { Test.graph { Test.cis Test.running with
      emit := [{ node := 1, ready := true, aflags := 5, task := 8, layerOper := 0, ts := 4, stopping := false, recs := [0x4018000000000000] }] } with
      rd := { RingDomain.reset with route := [(6, 0x8B)] } }) (fun t =>
      decide (t.net.map (fun p => (p.dst, p.body)) = [(.sluice 11, .xevent 0x4018000000000000 0)])) = true := by decide +kernel
/-- A withdrawn node waits again with its firing spent (R91, R142). -/
theorem test_withdraw_answer :
    Test.next (exec (.withdrawAnswer 0) (Test.sent (Test.pk (.core 0) (.field 0) 0 true 0x0000000100000000 0 (.withdrawAns false))
      (Test.graph { Test.cis { Test.running with state := .staged } with slots := [(0, { CoreSlot.idle with staged := some 1 })] }))) (fun t =>
      decide ((Claims.cis t 0).slot 0 = CoreSlot.idle) && decide (((Claims.cis t 0).node 1).state = .waiting) && decide (((Claims.cis t 0).node 1).fireLeft = 1)) = true := by
  decide +kernel
/-- The watchdog at its moment: 0x3151 and an abort request (R496, R498). -/
theorem test_watchdog :
    Test.next (exec (.taskWatchdog 0 1) { Test.reported { Test.running with wdogEnd := some 7000 } .abortReport with tstamp := 7000 }) (fun t =>
      decide (((Claims.cis t 0).node 1).cause = 0x3151) && decide (t.faultCount = 1) && decide (((Claims.cis t 0).slot 0).aborting = some 0) &&
      decide ((t.net.map (fun p => p.body)).getLast? = some .abortReq)) = true := by decide +kernel
/-- 2,048 half CCLK without an answer, and a bus error, lose the core (R498, R500, R501). -/
theorem test_core_lost :
    Test.next (exec (.abortNoAnswer 0 0) { Test.graph { Cistern.reset with slots := [(0, { CoreSlot.idle with aborting := some 0 })] } with
      fields := [(0, { Test.field with clk := { Test.field.clk with halfCclk := 2048 }, cis := { Cistern.reset with slots := [(0, { CoreSlot.idle with aborting := some 0 })] } })] })
      (fun t => (t.core 0).lost && decide ((t.core 0).run = .off) && decide ((Claims.cis t 0).slot 0 = { CoreSlot.idle with lost := true }) && decide (t.faultCount = 1)) = true ∧
    Test.next (exec (.coreLost 92159 1) { State.reset with fields := [(71, Test.field)] })
      (fun t => (t.core 92159).lost && (t.core 92159).autoAdd.isSome && !(Claims.cis t 71).idleCore 1279) = true := by decide +kernel
/-- A POST into another field of the partition, and one into field 72, which no engine has (R80). -/
theorem test_post_receive :
    Test.next (exec (.postReceive 0 none) { Test.sent (Test.pk (.core 0) (.field 0) 0 true 3 0 (.post (Test.evt 1 1 1))) (Test.at' 0 []) with
      parts := [(0, { Test.part with rect := 0x80001000 })] }) (fun t => decide (t.net.map (fun p => (p.src, p.dst, p.body)) = [(.field 0, .field 1, .event (Test.evt 1 1 1))])) = true ∧
    Test.next (exec (.postReceive 0 none) (Test.sent (Test.pk (.core 0) (.field 0) 0 true 3 0 (.post (Test.evt 72 1 1))) (Test.own (Test.core 0 [])))) (fun t =>
      decide (t.net.map (fun p => (p.dst, p.body)) = [(.core 0, .syncAns 0x3132 0 0 0)])) = true := by decide +kernel
/-- The loss of an event stops the graph; CS_ERR is cleared bit by bit (R82, R93). -/
theorem test_event_lost :
    Test.next (exec (.eventLost 0) (Test.sent (Test.pk (.field 1) (.field 0) 3 false 3 0 (.lost 0x3143 (.field 1) (.event (Test.evt 1 1 1))))
      (Test.graph (Test.cis Test.waiting)))) (fun t => decide ((Claims.cis t 0).err = 2) && decide ((t.part 0).graph = .idle) && decide (t.faultCount = 1)) = true ∧
    Test.next (exec (.csErrClear 0 1) { Test.graph { Test.cis Test.waiting with err := 3, errNode := 7 } with parts := [] }) (fun t =>
      decide ((Claims.cis t 0).err = 2) && decide ((Claims.cis t 0).errNode = 7)) = true ∧
    Test.next (exec (.csErrClear 0 3) { Test.graph { Test.cis Test.waiting with err := 3, errNode := 7 } with parts := [] }) (fun t => decide ((Claims.cis t 0).errNode = 0)) = true := by
  decide +kernel

/-! ### Pairs, groups, detector -/

namespace Test

/-- A pair operation of core 0 for the last pair, 4095, of field 0, at its field. -/
def pairOp (x : Pair) (op : SyncKind) (consumer : Bool) (n : Nat) : State :=
  sent (pk (.core 0) (.field 0) 0 true 3 9 (.syncOp op consumer n 4095))
    { graph Cistern.reset with fields := [(0, { field with syn := { SyncUnit.reset with pairs := [(4095, x)], decls := [(4095, 8)] } })] }
/-- A pair with P and C as given. -/
def pair (p c : Nat) : Pair := { Pair.reset with p := p, c := c }
/-- Field 0 as well field of group 4 with descriptor `d` and run state `w`; packet `b` has reached it. -/
def group (d : DWord) (w : Well) (k : Core) (arr : Tab Arrival) (src : Agent) (b : Payload) : State :=
  sent (pk src (.field 0) 0 true 3 9 b)
    { graph Cistern.reset with cores := [(0, k)], fields := [(0, { field with syn := { SyncUnit.reset with wells := [(4, w)], descs := [(4, d)], arrivals := arr } })] }
/-- A group of two arrivals whose TMO is 7. -/
def two : DWord := 0x8000000700000002
/-- Core 0 with binding 1 on group 4. -/
def bound : Core := { core 0 [] with desc := { StartDesc.none with info := 0x00200000, binds := [0, 0x8000000000000004] } }
/-- Core 0 asleep in AWAIT on it. -/
def asleep : Core := { bound with run := .sleepSync, blocked := some { op := .await, bind := 1, left := true, answer := none } }

end Test

/-- An ADVANCE by one to the last free place of DEPTH 8 counts; by two it passes DEPTH: ERR, 0x3160, refused (R96, R101, R102). -/
theorem test_producer_advance :
    Test.next (exec (.producerAdvance { k := 0, other := none }) (Test.pairOp (Test.pair 12 5) .advance false 1)) (fun t =>
      decide (t.pair 0 4095 = Test.pair 13 5) && decide (t.net = []) && decide ((t.field 0).syn.progress = 1)) = true ∧
    Test.next (exec (.producerAdvance { k := 0, other := none }) (Test.pairOp (Test.pair 12 5) .advance false 2)) (fun t =>
      decide (t.pair 0 4095 = { Test.pair 12 5 with err := true, cause := 0x3160 }) && decide (t.faultCount = 1) &&
      decide (t.net.map (fun p => (p.dst, p.tag, p.body)) = [(.core 0, 9, .syncAns 0x3160 0 0 0)])) = true := by decide +kernel
/-- A consumer ADVANCE to P, one past it, and one at a pair with ERR (R101, R102). -/
theorem test_consumer_advance :
    Test.next (exec (.consumerAdvance { k := 0, other := none }) (Test.pairOp (Test.pair 12 5) .advance true 7)) (fun t => decide (t.pair 0 4095 = Test.pair 12 12)) = true ∧
    Test.next (exec (.consumerAdvance { k := 0, other := none }) (Test.pairOp (Test.pair 12 5) .advance true 8)) (fun t =>
      decide ((t.pair 0 4095).cause = 0x3161) && decide (t.net.map (fun p => p.body) = [.syncAns 0x3161 0 0 0])) = true ∧
    Test.next (exec (.consumerAdvance { k := 0, other := none }) (Test.pairOp { Test.pair 12 5 with err := true, cause := 0x3160 } .advance true 1)) (fun t =>
      decide (t.net.map (fun p => p.body) = [.syncAns 0x3160 0 0 0]) && decide (t.faultCount = 0)) = true := by decide +kernel
/-- A WAIT for one free place: met at 12 and 5, registered at 13 and 5 (R96, R99). -/
theorem test_pair_wait :
    waitMet 8 (Test.pair 12 5) false 1 = true ∧ waitMet 8 (Test.pair 13 5) false 1 = false ∧
    Test.next (exec (.pairWait { k := 0, other := none }) (Test.pairOp (Test.pair 12 5) .wait false 1)) (fun t => decide (t.net.map (fun p => p.body) = [.syncAns 0 0 12 5])) = true ∧
    Test.next (exec (.pairWait { k := 0, other := none }) (Test.pairOp (Test.pair 13 5) .wait false 1)) (fun t =>
      decide (t.net = []) && decide ((t.pair 0 4095).waitP = some { core := 0, n := 1, tag := 9, task := 3 })) = true := by decide +kernel
/-- READ and CLEAR of a pair, and SX_ERR (R96, R101, R103). -/
theorem test_pair_read_clear :
    Test.next (exec (.pairRead { k := 0, other := none }) (Test.pairOp (Test.pair 12 5) .read false 0)) (fun t => decide (t.net.map (fun p => p.body) = [.syncAns 0 0 12 5])) = true ∧
    Test.next (exec (.pairClear { k := 0, other := none }) (Test.pairOp (Test.pair 12 12) .clear false 0)) (fun t =>
      decide (t.pair 0 4095 = Pair.reset) && decide (t.net.map (fun p => p.body) = [.syncAns 0 1 0 0])) = true ∧
    Test.next (exec (.pairClear { k := 0, other := none }) (Test.pairOp (Test.pair 12 5) .clear false 0)) (fun t =>
      decide (t.pair 0 4095 = Test.pair 12 5) && decide (t.net.map (fun p => p.body) = [.syncAns 0 0 12 5])) = true ∧
    Test.next (exec (.sxErrClear 0 1) { Test.graph Cistern.reset with parts := [], fields := [(0, { Test.field with syn := { SyncUnit.reset with sxErr := 3 } })] }) (fun t =>
      decide ((t.field 0).syn.sxErr = 2)) = true := by decide +kernel
/-- The first arrival of two starts the timer; the second releases the group in every field (R109, R112). -/
theorem test_well_arrival :
    Test.next (exec (.wellArrival 0) (Test.group Test.two Well.reset Core.reset [] (.core 0) (.syncOp .arrive false 1 4))) (fun t =>
      decide (t.well 0 4 = { Well.reset with count := 1, timer := some 0 }) && decide (t.net = [])) = true ∧
    Test.next (exec (.wellArrival 0) (Test.group Test.two { Well.reset with count := 1, timer := some 0 } Core.reset [] (.core 0) (.syncOp .arrive false 1 4))) (fun t =>
      decide (t.well 0 4 = { Well.reset with gen := 1 }) && decide (t.net.map (fun p => (p.dst, p.body)) = [(.field 0, .release 4)])) = true ∧
    Test.next (exec (.wellArrival 0) (Test.group Test.two { Well.reset with broken := true } Core.reset [] (.core 0) (.syncOp .arrive false 1 4))) (fun t =>
      decide ((t.well 0 4).count = 0) && decide (t.net = [])) = true := by decide +kernel
/-- The release: an ARRIVED core becomes RELEASED, a sleeper is woken (R108). -/
theorem test_release :
    groupOf (Test.bound.bind 1) = 4 ∧ bits (Test.bound.bind 1) 63 62 = 2 ∧ Test.bound.bindCount = 2 ∧
    Test.next (exec (.releaseTreeArrival 0) (Test.group Test.two Well.reset Test.bound [(arrivalKey 0 1, .arrived)] (.field 0) (.release 4))) (fun t =>
      decide (t.arrival 0 1 = .released) && decide (t.core 0 = Test.bound)) = true ∧
    Test.next (exec (.releaseTreeArrival 0) (Test.group Test.two Well.reset Test.asleep [(arrivalKey 0 1, .arrived)] (.field 0) (.release 4))) (fun t =>
      decide (t.arrival 0 1 = .none) && decide (((t.core 0).blocked.map (fun b => b.answer)) = some (some { cause := 0, cleared := 0, p := 0, c := 0 }))) = true := by
  decide +kernel
/-- A broken release, and the timeout 7 × 1000 TSTAMP after the first arrival (R112). -/
theorem test_broken :
    Test.next (exec (.brokenReleaseArrival 0) (Test.group Test.two Well.reset Test.asleep [] (.field 0) (.brokenRelease 4 0x3171))) (fun t =>
      decide (t.brokenCause 0 4 = 0x3171) && decide (((t.core 0).blocked.map (fun b => b.answer)) = some (some { cause := 0x3171, cleared := 0, p := 0, c := 0 }))) = true ∧
    Test.next (exec (.wellTimeout 0 4) { Test.group Test.two { Well.reset with count := 1, timer := some 5 } Core.reset [] (.field 0) .ack with net := [], tstamp := 7005 }) (fun t =>
      (t.well 0 4).broken && decide (t.faultCount = 1) && decide (t.net.map (fun p => p.body) = [.brokenRelease 4 0x3171])) = true := by decide +kernel
/-- Core 0 asleep in a running task: the partition is blocked, and the declaration opens at its window of 10,000,000 TSTAMP (R117, R118). -/
theorem test_dry_well :
    Test.next (exec (.dryWellDeclare 0) { Test.graph { Test.cis Test.running with slots := [(0, { CoreSlot.idle with running := some 1 })] } with
      tstamp := 10000000, cores := [(0, Test.asleep)] }) (fun t => decide ((t.part 0).det.openAt = some 10000000) && decide ((t.part 0).det.progAt = [0])) = true ∧
    Test.next (exec (.dryWellDeclare 0) { Test.graph { Test.cis Test.running with slots := [(0, { CoreSlot.idle with running := some 1 })] } with
      tstamp := 9999999, cores := [(0, Test.asleep)] }) (fun t => decide ((t.part 0).det.openAt = none)) = true := by decide +kernel
/-- Progress withdraws the declaration; without it the action to report only counts it (R119, R121). -/
theorem test_dry_well_commit :
    Test.next (exec (.dryWellSnapshotCommit 0) { Test.graph Cistern.reset with parts := [(0, { Test.part with det := { Test.part.det with openAt := some 6, progAt := [1] } })] }) (fun t =>
      decide ((t.part 0).det.openAt = none) && decide (t.faultCount = 0)) = true ∧
    Test.next (exec (.dryWellSnapshotCommit 0) { Test.graph Cistern.reset with fw := { Firmware.reset with dict := [(objKey 0x2581 1, 0)] }, parts := [(0, { Test.part with det := { Test.part.det with openAt := some 6, progAt := [0] } })] }) (fun t =>
      decide ((t.part 0).dryCount = 1) && decide ((t.part 0).dryTs = 6) && !(t.part 0).det.armed && decide (t.faultCount = 1)) = true := by decide +kernel

/-! ### Rings, host commands and fabric accesses -/

namespace Test

/-- The words of a command. -/
def cmd (opc w1 w2 w3 : Nat) : List Nat := [opc <<< 56 + 7, w1, w2, w3]
/-- Ring 0 of 64 entries, enabled and bound to partition 0. -/
def ring0 : Ring := { Ring.reset with en := true, cfg := 0x8000 }
/-- Port 0 up with ring 0 and commands in execution. -/
def port (y : Ring) (cs : List Cmd) : Port := { Port.reset with linkUp := true, rings := [(0, y)], cmds := cs }
/-- Partition 0, its graph as given, holds field 0, of Cistern `c`; port 0 is `x`. -/
def host (g : GraphState) (c : Cistern) (x : Port) : State :=
  { graph c with parts := [(0, { part with graph := g })], rd := { RingDomain.reset with state := .on }, ports := [(0, x)] }
/-- The command with words `w` fetched at index 0 of ring 0. -/
def fetched (g : GraphState) (w : List Nat) : State := host g Cistern.reset (port { ring0 with fetched := [(0, w)], head := 1, tail := 1 } [])
/-- The cache holds page `g` of context 0 at bus page 5 with both rights. -/
def cached (g : Nat) (s : State) : State :=
  { s with ports := s.ports.map (fun e => (e.1, { e.2 with cache := [{ ctx := 0, page := g, addr := 0x5000, rd := true, wr := true }] })) }
/-- The first command of port 0 passes a check. -/
def cmd0 (o : Out) (f : State → Cmd → Bool) : Bool := next o (fun t => match (t.port 0).cmds with | c :: _ => f t c | [] => false)
/-- A well-formed graph: node 1, whose output record goes to itself. -/
def ready : Cistern := { cis NodeRun.reset with mem := nodeMem 0x01000100, nodeLimit := 2 }

theorem mayBegin_of {s : State} {p r idx : Nat} {w : List Nat} {rest : List (Nat × List Nat)}
    (h : p < 4 ∧ r < 16 ∧ s.portUp p = true ∧ ((s.port p).ring r).en = true ∧ ((s.port p).ring r).halted = false ∧
      ((s.port p).ring r).fetched = (idx, w) :: rest ∧ (s.port p).mayStart r w = true ∧ turnOf (s.port p).startTurn (s.port p).wantsStart = some r) : Claims.mayBegin s p r idx w rest := h

end Test

/-- NOP with no error; with a reserved bit 0x3010 (R308, R309); words of WRITE_DATA are not NOP's. -/
theorem test_nop :
    Claims.mayBegin (Test.fetched .idle (Test.cmd 1 0 0 0)) 0 0 0 (Test.cmd 1 0 0 0) [] ∧
    (Test.fetched .idle (Test.cmd 1 0 0 0)).cmdCheck Test.ring0 (Test.cmd 1 0 0 0) = none ∧
    Test.cmd0 (exec (.nop 0 0) (Test.fetched .idle (Test.cmd 1 0 0 0))) (fun t c => c.ended && decide (c.cause = 0) && decide (((t.port 0).ring 0).fetched = [])) = true ∧
    Test.cmd0 (exec (.nop 0 0) (Test.fetched .idle (Test.cmd 1 1 0 0))) (fun _ c => c.ended && decide (c.cause = 0x3010)) = true ∧
    selOpc 1 (Test.cmd 2 0 0 8) = false ∧
    Test.next (exec (.nop 0 0) (Test.fetched .idle (Test.cmd 2 0 0 8))) (fun t => decide ((t.port 0).cmds = [])) = true :=
  ⟨Test.mayBegin_of (by decide +kernel), by decide +kernel, by decide +kernel, by decide +kernel, by decide +kernel, by decide +kernel⟩
/-- The checks of R309 that come first: length 0, a bound ring's graph state, a target field outside, no job for REMOTE_WRITE. -/
theorem test_checks :
    (Test.fetched .idle []).cmdCheck Test.ring0 (Test.cmd 2 0 0 0) = some (0x3101, 0) ∧
    (Test.fetched .running []).cmdCheck Test.ring0 (Test.cmd 6 0 0 0) = some (0x3121, 0) ∧
    (Test.fetched .idle []).cmdCheck Test.ring0 (Test.cmd 8 0 0 0) = some (0x3120, 0) ∧
    (Test.fetched .running []).cmdCheck Test.ring0 (Test.cmd 8 (1 <<< 48) 0 0) = some (0x3132, 0) ∧
    (Test.fetched .idle []).cmdCheck Test.ring0 (Test.cmd 12 0 0 (1 <<< 32 + 8)) = some (0x3114, 0) ∧
    (Test.fetched .idle []).cmdCheck { Test.ring0 with cfg := 0 } (Test.cmd 6 0 0 0) = some (0x3109, 0) := by decide +kernel
/-- SQ_TAIL at the last entry and past it; CQ_HEAD past the queue (R302, R306). -/
theorem test_doorbells :
    Test.next (exec (.sqTail 0 0 63) (Test.host .idle Cistern.reset (Test.port Test.ring0 []))) (fun t => decide (((t.port 0).ring 0).tail = 63)) = true ∧
    Test.next (exec (.sqTail 0 0 64) (Test.host .idle Cistern.reset (Test.port Test.ring0 []))) (fun t => ((t.port 0).ring 0).dbInvalid) = true ∧
    Test.next (exec (.cqHead 0 0 64) (Test.host .idle Cistern.reset (Test.port Test.ring0 []))) (fun t => ((t.port 0).ring 0).dbInvalid) = true ∧
    Test.next (exec (.cqHead 0 0 2) (Test.host .idle Cistern.reset (Test.port { Test.ring0 with cqHead := 63, cqTail := 66 } []))) (fun t =>
      decide (((t.port 0).ring 0).cqHead = 66)) = true := by decide +kernel
/-- Nine commands recorded: eight are fetched (R302); a failed read halts the ring (R324). -/
theorem test_fetch :
    Test.next (exec (.commandFetch 0 0 (.inr [[1 <<< 56]])) (Test.host .idle Cistern.reset (Test.port { Test.ring0 with tail := 9 } []))) (fun t =>
      decide (((t.port 0).ring 0).head = 8) && decide ((((t.port 0).ring 0).fetched.map (fun e => e.2.headD 9)) = [1 <<< 56, 0, 0, 0, 0, 0, 0, 0])) = true ∧
    Test.next (exec (.commandFetch 0 0 (.inl .abort)) (Test.host .idle Cistern.reset (Test.port { Test.ring0 with tail := 9 } []))) (fun t =>
      ((t.port 0).ring 0).halted && decide (((t.port 0).ring 0).haltCause = 0x3108)) = true := by decide +kernel
/-- STOP_GRAPH of an idle and of a running graph without tasks (R20, R312). -/
theorem test_stop_graph :
    Test.cmd0 (exec (.stopGraph 0 0) (Test.fetched .idle (Test.cmd 7 0 0 0))) (fun _ c => c.ended) = true ∧
    Test.cmd0 (exec (.stopGraph 0 0) (Test.fetched .running (Test.cmd 7 0 0 0))) (fun t c => decide (c.wait = .idle) && decide ((t.part 0).graph = .idle)) = true := by
  decide +kernel
/-- POST_EVENT to node 3 of field 0 (R312). -/
theorem test_post_event :
    (Test.fetched .running (Test.cmd 8 (3 <<< 32 + 5) 0 0)).cmdCheck Test.ring0 (Test.cmd 8 (3 <<< 32 + 5) 0 0) = none ∧
    Test.cmd0 (exec (.postEvent 0 0) (Test.fetched .running (Test.cmd 8 (3 <<< 32 + 5) 0 0))) (fun t c =>
      decide (c.accs.map (fun a => a.tag) = [65536]) && decide (t.net.map (fun p => (p.src, p.dst, p.tag, p.body)) = [(.ingress 0, .field 0, 65536, .event 0x0000000300000005)])) = true := by
  decide +kernel
/-- A hint opens with demand 255/255 of 1,280 cores and a duration, and closes (R446). -/
theorem test_hint :
    (Test.fetched .idle []).setting 0x2401 3 = 1 ∧
    Test.cmd0 (exec (.hintPhaseBegin 0 0) (Test.fetched .idle (Test.cmd 9 (255 <<< 16 + 4) 6 0))) (fun t c => c.ended &&
      decide ((t.part 0).hints = [{ pclass := 4, level := 1280, expiry := 600 }])) = true ∧
    Test.cmd0 (exec (.hintPhaseEnd 0 0) { Test.fetched .idle (Test.cmd 9 (1 <<< 8 + 4) 0 0) with
      parts := [(0, { Test.part with graph := .idle, hints := [{ pclass := 4, level := 1280, expiry := 600 }] })] }) (fun t c => c.ended && decide ((t.part 0).hints = [])) = true := by
  decide +kernel
/-- An energy mark opens and closes (R455); the tag of an open one is refused. -/
theorem test_mark :
    Test.cmd0 (exec (.energyMarkOpen 0 0) (Test.fetched .idle (Test.cmd 10 (8 <<< 16) 0 0))) (fun t c => c.ended && decide ((t.part 0).marks.map (fun m => m.tag) = [8])) = true ∧
    Test.cmd0 (exec (.energyMarkClose 0 0) { Test.fetched .idle (Test.cmd 10 (8 <<< 16 + 1) 0 0) with
      parts := [(0, { Test.part with graph := .idle, marks := [⟨8, 0, false, [{ field := 0, since := 0, base := none, till := none, last := none }]⟩] })] }) (fun t c =>
      decide (c.wait = .close) && decide ((t.part 0).marks.map (fun m => m.shares.map (fun h => h.till)) = [[some 0]])) = true := by decide +kernel
/-- INVALIDATE of a port, a context and a range of one page (R320). -/
theorem test_invalidate :
    Test.cmd0 (exec (.invalidatePort 0 0) (Test.cached 4 (Test.fetched .idle (Test.cmd 11 0 0 0)))) (fun t c => decide (c.wait = .close) && decide ((t.port 0).cache = [])) = true ∧
    Test.cmd0 (exec (.invalidateContext 0 0) (Test.cached 4 (Test.fetched .idle (Test.cmd 11 0x11 0 0)))) (fun t _ => decide ((t.port 0).cache.length = 1)) = true ∧
    Test.cmd0 (exec (.invalidateRange 0 0) (Test.cached 4 (Test.fetched .idle (Test.cmd 11 2 0x3000 1)))) (fun t _ => decide ((t.port 0).cache.length = 1)) = true ∧
    Test.cmd0 (exec (.invalidateRange 0 0) (Test.cached 4 (Test.fetched .idle (Test.cmd 11 2 0x3000 2)))) (fun t _ => decide ((t.port 0).cache = [])) = true := by decide +kernel
/-- START_GRAPH of one node, at once and deferred: RUNNING, the node WAITING with its two firings (R18, R89, R90). -/
theorem test_start_graph :
    (Test.host .idle Test.ready (Test.port { Test.ring0 with fetched := [(0, Test.cmd 6 0 0 0)] } [])).graphCheck 0 = none ∧
    Test.cmd0 (exec (.startGraph 0 0) (Test.host .idle Test.ready (Test.port { Test.ring0 with fetched := [(0, Test.cmd 6 0 0 0)] } []))) (fun t c =>
      c.ended && decide (c.cause = 0) && decide ((t.part 0).graph = .running) && decide (((Claims.cis t 0).node 1).fireLeft = 2)) = true ∧
    Test.cmd0 (exec (.startGraphDeferredCheck 0 0) (Test.host .idle Test.ready (Test.port Test.ring0 [{ newCmd Test.ring0 0 0 (Test.cmd 6 0 0 0) 0 with wait := .cds }]))) (fun t c =>
      c.ended && decide ((t.part 0).graph = .running)) = true := by decide +kernel
/-- While its CD starts it waits (R421); an empty partition is refused with 0x3122 (R90). -/
theorem test_start_graph_wait :
    Test.cmd0 (exec (.startGraph 0 0) { Test.fetched .idle (Test.cmd 6 0 0 0) with
      fields := [(0, { Test.field with clk := { Test.field.clk with cd := .starting } })] }) (fun _ c => decide (c.wait = .cds)) = true ∧
    Test.cmd0 (exec (.startGraph 0 0) (Test.fetched .idle (Test.cmd 6 0 0 0))) (fun t c => decide (c.cause = 0x3122) && decide ((t.part 0).graph = .idle)) = true := by
  decide +kernel
/-- WRITE_DATA over two cached pages: two host reads leave (R305, R310, R319). -/
theorem test_write_data :
    cmdPages (Test.cmd 2 0 0x3FF8 8) = [3] ∧
    Test.cmd0 (exec (.writeData 0 0) (Test.cached 3 (Test.fetched .idle (Test.cmd 2 0 0x3FF8 8)))) (fun _ c =>
      c.issued && decide (c.walks.map (fun k => (k.page, k.level, k.addr)) = [(3, 0, 0x5000)]) && decide (c.reads = [(0, 8)])) = true := by decide +kernel
/-- READ_DATA of 8 bytes of core 0's last word (R321, R322). -/
theorem test_read_data :
    (Test.fetched .idle (Test.cmd 3 0x4FFF8 0x3000 8)).cmdCheck Test.ring0 (Test.cmd 3 0x4FFF8 0x3000 8) = none ∧
    Test.cmd0 (exec (.readData 0 0) (Test.cached 3 (Test.fetched .idle (Test.cmd 3 0x4FFF8 0x3000 8)))) (fun t c =>
      decide (c.accs.map (fun a => (a.addr, a.len)) = [(0x4FFF8, 8)]) &&
      decide (t.net.map (fun p => (p.src, p.dst, p.body)) = [(.ingress 0, .core 0, .fabric .readData 0x4FFF8 8 [] false)])) = true := by decide +kernel
/-- LOAD_IMAGE to core 0 reads header and code; WRITE_TABLE to Cistern 0; REMOTE_WRITE to engine 1 of job 7 (R59, R276, R311). -/
theorem test_transfers :
    Test.cmd0 (exec (.loadImage 0 0) { Test.fetched .idle (Test.cmd 4 0x3000 0 0) with ports := [(0, { Test.port { Test.ring0 with fetched := [(0, Test.cmd 4 0x3000 0 0)] } [] with
      cache := (List.range 7).map (fun i => { ctx := 0, page := 3 + i, addr := 0x5000, rd := true, wr := true }) })] }) (fun _ c =>
      c.issued && decide (c.reads = [(0, 4096), (4096, 4096), (8192, 4096), (12288, 4096), (16384, 4096), (20480, 4096), (24576, 64)])) = true ∧
    Test.cmd0 (exec (.writeTable 0 0) (Test.cached 3 (Test.fetched .idle (Test.cmd 5 (2 <<< 45) 0x3000 8)))) (fun _ c => decide (c.cause = 0) && decide (c.reads = [(0, 8)])) = true ∧
    Test.cmd0 (exec (.remoteWrite 0 0) { Test.cached 3 (Test.fetched .idle (Test.cmd 12 0 0x3000 (1 <<< 32 + 8))) with
      parts := [(0, { Test.part with graph := .idle, job := 7 })] }) (fun _ c => decide (c.cause = 0) && decide (c.reads = [(0, 8)])) = true := by decide +kernel
/-- Nothing cached: the walk begins at a valid root, or fails at an invalid one (R316, R317). -/
theorem test_walk_begin :
    Test.cmd0 (exec (.writeData 0 0) { Test.fetched .idle (Test.cmd 2 0 0x3008 8) with
      ports := [(0, { Test.port { Test.ring0 with fetched := [(0, Test.cmd 2 0 0x3008 8)] } [] with ctxRoot := [(0, 0x9001)] })] }) (fun _ c =>
      decide (c.walks = [{ page := 3, level := 4, addr := 0x9000, rd := true, wr := true, fill := true, at' := 0 }])) = true ∧
    Test.cmd0 (exec (.writeData 0 0) (Test.fetched .idle (Test.cmd 2 0 0x3008 8))) (fun _ c =>
      decide (c.cause = 0x3105) && decide (c.info0 = 0x3008) && decide (c.info1 = 4 * 2 ^ 60) && c.halts) = true := by decide +kernel

namespace Test

/-- WRITE_DATA in execution, its one page at level `l` of the walk. -/
def walking (l : Nat) (reads : List (Nat × Nat)) : Cmd :=
  { newCmd ring0 0 0 (cmd 2 0x10 0x3008 8) 0 with walks := [{ page := 3, level := l, addr := 0x9000, rd := true, wr := true, fill := true, at' := 0 }], issued := decide (l = 0), reads := reads }
/-- A fabric packet from port 0 to core 0 or field 0. -/
def fabric (k : FabricKind) (a len : Nat) (d : List Byte) (held : Bool) (dst : Agent) (s : State) : State :=
  sent { src := .ingress 0, dst := dst, vc := 0, ctl := false, bus := false, part := none, tag := 65536, task := 0, at' := 0, body := .fabric k a len d held } s

end Test

/-- An entry with RD alone leads on; one with reserved bits is 0x3010 (R316, R317). -/
theorem test_walk :
    Test.cmd0 (exec (.walkReadResponse 0 0 0 (.inr 0x7005)) (Test.host .idle Cistern.reset (Test.port Test.ring0 [Test.walking 2 []]))) (fun _ c =>
      decide (c.walks = [{ page := 3, level := 1, addr := 0x7000, rd := true, wr := false, fill := true, at' := 0 }])) = true ∧
    Test.cmd0 (exec (.walkReadResponse 0 0 0 (.inr 0x700D)) (Test.host .idle Cistern.reset (Test.port Test.ring0 [Test.walking 2 []]))) (fun _ c =>
      decide (c.cause = 0x3010) && decide (c.info0 = 0x3008) && decide (c.info1 = 2 * 2 ^ 60 + 0x9000)) = true := by decide +kernel
/-- The leaf fills the cache and the host read leaves (R310, R319). -/
theorem test_walk_leaf :
    Test.cmd0 (exec (.walkReadResponse 0 0 0 (.inr 0x7005)) (Test.host .idle Cistern.reset (Test.port Test.ring0 [Test.walking 1 []]))) (fun t c =>
      c.issued && decide (c.reads = [(0, 8)]) && decide ((t.port 0).cache = [{ ctx := 0, page := 3, addr := 0x7000, rd := true, wr := false }])) = true := by decide +kernel
/-- The data goes on as a packet; a failed read ends the command with 0x3107 (R310). -/
theorem test_host_data :
    Test.cmd0 (exec (.hostDataReadResponse 0 0 0 (.inr [1, 2, 3, 4, 5, 6, 7, 8])) (Test.host .idle Cistern.reset (Test.port Test.ring0 [Test.walking 0 [(0, 8)]]))) (fun t c =>
      decide (c.reads = []) && !c.ended && decide (t.net.map (fun p => (p.dst, p.body)) = [(.core 0, .fabric .writeData 0x10 8 [1, 2, 3, 4, 5, 6, 7, 8] false)])) = true ∧
    Test.cmd0 (exec (.hostDataReadResponse 0 0 0 (.inl .abort)) (Test.host .idle Cistern.reset (Test.port Test.ring0 [Test.walking 0 [(0, 8)]]))) (fun _ c =>
      c.ended && decide (c.cause = 0x3107) && decide (c.info0 = 0x3008)) = true := by decide +kernel
/-- A write of the last word of core 0's SRAM, an image write, a read with a bad word (R51, R321, R322). -/
theorem test_fabric :
    Test.next (exec (.fabricAccess 0) (Test.fabric .writeData 0x4FFF8 8 [1, 0, 0, 0, 0, 0, 0, 2] false (.core 0) (Test.at' 0 []))) (fun t =>
      decide (Memory.value (t.core 0).sram 0x4FFF8 8 = 0x0200000000000001) && decide (t.net.map (fun p => (p.dst, p.body)) = [(.ingress 0, .fabricRsp 0 [] [])])) = true ∧
    Test.next (exec (.fabricAccess 0) (Test.fabric .loadImage (1 <<< 45 + 0x5FF8) 8 [1, 0, 0, 0, 0, 0, 0, 2] false (.core 0) (Test.at' 0 []))) (fun t =>
      decide (Memory.value (t.core 0).istore 0x5FF8 8 = 0x0200000000000001)) = true ∧
    Test.next (exec (.fabricAccess 0) (Test.fabric .readData 8 8 [] false (.core 0) (Test.one { Test.core 0 [] with ue := [1] }))) (fun t =>
      decide (t.net.map (fun p => p.body) = [.fabricRsp 0x3112 [1] (List.replicate 8 0)])) = true := by decide +kernel
/-- Held while the domain starts, made on release, refused where the field is DEGRADED (R51, R52). -/
theorem test_fabric_hold :
    Test.next (exec (.fabricAccess 0) (Test.fabric .readData 8 8 [] false (.core 0) { Test.at' 0 [] with
      fields := [(0, { Test.field with clk := { Test.field.clk with cd := .starting } })] })) (fun t =>
      decide (t.net.map (fun p => p.body) = [.fabric .readData 8 8 [] true])) = true ∧
    Test.next (exec (.fabricAccessRelease 0) (Test.fabric .readData 8 8 [] true (.core 0) (Test.at' 0 []))) (fun t =>
      decide (t.net.map (fun p => p.body) = [.fabricRsp 0 [] (List.replicate 8 0)])) = true ∧
    Test.next (exec (.fabricAccess 0) (Test.fabric .readData 8 8 [] false (.core 0) { Test.at' 0 [] with
      fields := [(0, { Test.field with clk := { Test.field.clk with repair := .degraded } })] })) (fun t =>
      decide (t.net.map (fun p => p.body) = [.fabricRsp 0x5213 [] []])) = true := by decide +kernel
/-- The last answer ends the command, with the cause it carries; one for nobody is dropped (R312, R314, R326). -/
theorem test_fabric_rsp :
    Test.cmd0 (exec (.fabricRsp 0) (Test.sent (Test.pk (.core 0) (.ingress 0) 0 false 0 65536 (.fabricRsp 0x5213 [] []))
      (Test.host .idle Cistern.reset (Test.port Test.ring0 [{ Test.walking 0 [] with accs := [{ tag := 65536, addr := 0x10, len := 8 }] }])))) (fun t c =>
      c.ended && decide (c.cause = 0x5213) && decide (c.info0 = 0x10) && decide (t.net = [])) = true ∧
    Test.next (exec (.fabricRsp 0) (Test.sent (Test.pk (.core 0) (.ingress 0) 0 false 0 65536 (.fabricRsp 0 [] []))
      (Test.host .idle Cistern.reset (Test.port Test.ring0 [])))) (fun t => decide (t.net = [])) = true := by decide +kernel
/-- Completion prepares the record; the timeout at its moment halts the ring with 0x3102 (R312, R313, R326). -/
theorem test_completion_of_command :
    Test.next (exec (.commandCompletion 0 0) (Test.host .idle Cistern.reset (Test.port { Test.ring0 with head := 1 } [{ newCmd Test.ring0 0 0 (Test.cmd 1 0 0 0) 0 with ended := true, info0 := 5 }]))) (fun t =>
      decide ((t.port 0).cmds = []) && decide (((t.port 0).ring 0).recs.map (fun r => (r.w0 % 2 ^ 16, r.w1)) = [(7, 5)]) && decide (Tab.read (t.port 0).counters 0 0 = 1)) = true ∧
    Test.next (exec (.cmdTimeout 0 0) { Test.host .idle Cistern.reset (Test.port { Test.ring0 with head := 1 } [Test.walking 2 []]) with tstamp := 50000000 }) (fun t =>
      ((t.port 0).ring 0).halted && decide (((t.port 0).ring 0).haltCause = 0x3102) && decide (((t.port 0).ring 0).failed = some 0) && decide (t.faultCount = 1)) = true := by
  decide +kernel
/-- The 64th record has PHASE 1, the 65th PHASE 0 at the first slot (R306, R313). -/
theorem test_record_write :
    Test.next (exec (.completionRecordWrite 0 0) (Test.host .idle Cistern.reset (Test.port { Test.ring0 with cqBase := 0x8000, cqTail := 63, cqHead := 63, recs := [⟨1, 2, 3, 4⟩] } []))) (fun t =>
      decide (t.hostOut = [.write 0 (0x8000 + 63 * 32) (toBytes 8 (2 ^ 63 + 1) ++ toBytes 8 2 ++ toBytes 8 3 ++ toBytes 8 4)]) && decide ((t.port 0).msixPend = [0])) = true ∧
    Test.next (exec (.completionRecordWrite 0 0) (Test.host .idle Cistern.reset (Test.port { Test.ring0 with cqBase := 0x8000, cqTail := 64, cqHead := 64, recs := [⟨1, 2, 3, 4⟩] } []))) (fun t =>
      decide (t.hostOut = [.write 0 0x8000 (toBytes 8 1 ++ toBytes 8 2 ++ toBytes 8 3 ++ toBytes 8 4)])) = true := by decide +kernel
/-- MSI-X of an unmasked vector; a notification with room, and one while the queue is full (R306, R307, R315). -/
theorem test_msix_notes :
    Test.next (exec (.msixSignal 0 16) (Test.host .idle Cistern.reset { Test.port Test.ring0 [] with msixEn := true, msixPend := [16], msixTable := [(268, 1)] })) (fun t =>
      decide (t.hostOut = [.msix 0 16]) && decide ((t.port 0).msixPend = [])) = true ∧
    Test.next (exec (.hostNotification 0) (Test.sent { Test.pk (.field 0) (.ingress 0) 0 true 3 0 (.hostNote 0x8000000000000000 5 6 7 false) with part := some 0 }
      (Test.host .idle Cistern.reset (Test.port Test.ring0 [])))) (fun t => decide (((t.port 0).ring 0).cqTail = 1) && decide (t.hostOut.length = 1)) = true ∧
    Test.next (exec (.hostNotification 0) (Test.sent { Test.pk (.field 0) (.ingress 0) 0 true 3 0 (.hostNote 0x8000000000000000 5 6 7 false) with part := some 0 }
      (Test.host .idle Cistern.reset (Test.port { Test.ring0 with cqTail := 64 } [])))) (fun t => decide ((t.port 0).notes.map (fun n => (n.1, n.2.w1, n.2.w3)) = [(0, 3, 7)])) = true := by
  decide +kernel
/-- RING_CFG with EN 1: the largest sizes are taken, one more is refused (R299, R300). -/
theorem test_ring_enable :
    Test.next (exec (.ringEnable 0 15 0x80AA8000) (Test.host .idle Cistern.reset (Test.port Ring.reset []))) (fun t =>
      ((t.port 0).ring 15).en && decide (((t.port 0).ring 15).sqSize = 65536)) = true ∧
    Test.next (exec (.ringEnable 0 15 0x80BA8000) (Test.host .idle Cistern.reset (Test.port Ring.reset []))) (fun t =>
      !((t.port 0).ring 15).en && ((t.port 0).ring 15).enRefused && decide (((t.port 0).ring 15).haltCause = 0x3101)) = true := by decide +kernel
/-- Disable; resume past the failed command and at it (R300, R325). -/
theorem test_ring_control :
    Test.next (exec (.ringDisable 0 0) (Test.fetched .idle (Test.cmd 1 0 0 0))) (fun t => !((t.port 0).ring 0).en && decide (((t.port 0).ring 0).fetched = [])) = true ∧
    Test.next (exec (.ringResume 0 0) (Test.host .idle Cistern.reset (Test.port { Test.ring0 with halted := true, failed := some 3, haltCause := 0x3102, head := 9 } []))) (fun t =>
      !((t.port 0).ring 0).halted && decide (((t.port 0).ring 0).head = 4)) = true ∧
    Test.next (exec (.ringResumeRedo 0 0) (Test.host .idle Cistern.reset (Test.port { Test.ring0 with halted := true, failed := some 3, haltCause := 0x3102, head := 9 } []))) (fun t =>
      decide (((t.port 0).ring 0).head = 3)) = true := by decide +kernel
/-- Port registers and resets (R294 to R297, R318, R394). -/
theorem test_port_registers :
    Test.next (exec (.ctxRootWrite 0 15 0xFFFFFFFFFFFFFFFF) (Test.host .idle Cistern.reset (Test.port Test.ring0 []))) (fun t =>
      decide (Tab.read (t.port 0).ctxRoot 0 15 = 0xFFFFFFFFFF001)) = true ∧
    Test.next (exec (.devwinWrite 0 7 true 0xFFFFFFFFFFFFFFFF) (Test.cached 3 (Test.host .idle Cistern.reset (Test.port Test.ring0 [])))) (fun t =>
      decide (Tab.read (t.port 0).devLimit 0 7 = 0xFFFFFFFFFF000) && decide ((t.port 0).cache = [])) = true ∧
    Test.next (exec (.registerWrite 0 0x30010 0xFEE0) (Test.host .idle Cistern.reset (Test.port Test.ring0 []))) (fun t => decide (Memory.value (t.port 0).msixTable 16 8 = 0xFEE0)) = true := by decide +kernel

namespace Test

/-- Port 0 up since 100 ms and more. -/
def settled : State := { host .idle Cistern.reset (port ring0 []) with tstamp := 20000000 }

/-- Whatever the time its training took, configuration requests are answered (R394). -/
theorem settled_ready : settled.configRetry 0 = false := by
  have h : (!settled.portUp 0) = false := by decide +kernel
  have e : (settled.port 0).perstAt = 0 := by decide +kernel
  have g : settled.tstamp = 20000000 := rfl
  simp only [State.configRetry, h, e, g, Bool.false_or, decide_eq_false_iff_not]
  omega

end Test

/-- BAR0 and the completion timeout are taken once the link has trained (R294, R296, R394). -/
theorem test_configuration :
    Test.next (exec (.registerWrite 0 0x100010 0x123456789) Test.settled) (fun t => decide ((t.port 0).bar = some 0x123400000)) = true ∧
    Test.next (exec (.deviceControl2Write 0 6) Test.settled) (fun t => decide ((t.port 0).cplRange = 6)) = true := by
  simp only [exec, execRegisterWrite, execDeviceControl2Write, onPort, Test.settled_ready]
  decide +kernel
/-- The three resets of a port (R295, R394). -/
theorem test_port_resets :
    Test.next (exec (.functionLevelReset 0) (Test.fetched .idle (Test.cmd 1 0 0 0))) (fun t => decide ((t.port 0).rings = []) && (t.port 0).linkUp) = true ∧
    Test.next (exec (.perstN 0) (Test.fetched .idle (Test.cmd 1 0 0 0))) (fun t => decide ((t.port 0).rings = []) && !(t.port 0).linkUp) = true ∧
    Test.next (exec (.perstNRise 0 4 5) { Test.host .idle Cistern.reset { Port.reset with perst := false } with tstamp := 9 }) (fun t => (t.port 0).linkUp && decide ((t.port 0).perstAt = 9)) = true := by decide +kernel

/-! ### Sluice ports and the cluster -/

namespace Test

/-- Port 3 as given; engine 5 lies behind it, and is the time master; partition 0 has job 7. -/
def sluice (y : Sluice) : State :=
  { graph Cistern.reset with parts := [(0, { part with job := 7 })], rd := { RingDomain.reset with state := .on, route := [(5, 0x83)], master := 5 }, sluice := [(3, y)] }
/-- A port that is UP. -/
def up : Sluice := { Sluice.reset with state := .up, peerEngine := 5 }
/-- A packet of job 7 from engine 5. -/
def xp (ty wa wb sf tag : Nat) (d : List Byte) : XPacket :=
  { xtype := ty, dst := 0, src := 5, hops := 0, job := 7, wa := wa, wb := wb, sfield := sf, stag := tag, data := d }
/-- Packet `x` has come by port 3, which is UP. -/
def came (x : XPacket) : State := { sluice up with rd := { (sluice up).rd with xin := [(3, x)] } }
/-- A good frame. -/
def frame (ty seq ack : Nat) (fl : Option Flit) : Frame := { seq := seq, ackSeq := ack, ftype := ty, resv := 0, fecOk := true, corr := 0, crc := frameCrc fl seq ack ty 0, flit := fl, credit := [0, 0, 0] }
/-- Frame `q` of the replay buffer, sent at 0. -/
def kept (q : Nat) : Nat × Nat × Flit := (q, 0, .head (xp 8 q 0 0 0 []))
/-- The single packet that left by port 3. -/
def left (o : Out) (f : State → XPacket → Bool) : Bool :=
  next o (fun t => match t.linkOut with | [e] => (match e.flit with | some (.head x) => decide (e.port = 3) && f t x | _ => false) | _ => false)

end Test

/-- Training with engine 5 succeeds, with the engine's own ID it fails (R262, R263). -/
theorem test_train :
    Test.next (exec (.trainComplete 3 2 5 11) (Test.sluice { Sluice.reset with state := .train, txSeq := 9 })) (fun t =>
      decide ((t.sl 3).state = .up) && decide ((t.sl 3).peerPort = 11) && decide ((t.sl 3).txSeq = 0)) = true ∧
    Test.next (exec (.trainComplete 3 0 4096 1) (Test.sluice { Sluice.reset with state := .train })) (fun t =>
      decide ((t.sl 3).state = .down) && decide (t.rdFaults.recs.map (fun r => (r.cause, r.id)) = [(0x3301, 19)])) = true := by decide +kernel
/-- The three timers at their first moment (R260, R262). -/
theorem test_port_timers :
    Test.next (exec (.trainTimeout 3) { Test.sluice { Sluice.reset with state := .train } with tstamp := 10000000 }) (fun t => decide ((t.sl 3).state = .down)) = true ∧
    Test.next (exec (.autoRetrain 3) { Test.sluice { Sluice.reset with state := .down } with tstamp := 1000000 }) (fun t => decide ((t.sl 3).state = .train)) = true ∧
    Test.next (exec (.sluicePortDown 3 true) (Test.sluice { Test.up with txq := [(2, .head { Test.xp 6 1 0 0 0 [] with src := 0, dst := 5 })], credits := [0, 0, 0] })) (fun t =>
      decide ((t.sl 3).state = .down) && decide (t.rd.xin.map (fun e => (e.1, e.2.xtype, e.2.wb)) = [(12, 5, 0x3146)])) = true := by decide +kernel
/-- The delay is half the trip (R284). -/
theorem test_link_delay :
    Test.next (exec (.linkDelayMeasure 3 101) (Test.sluice Test.up)) (fun t => decide ((t.sl 3).delay = 50) && decide (t.linkOut.map (fun e => e.ftype) = [4])) = true := by decide +kernel
/-- A DATA frame at the last sequence number is taken and acknowledged; one out of sequence gets the NAK once (R257, R258). -/
theorem test_frame :
    Test.next (exec (.frameReceive 3 (Test.frame 0 4095 0 (some (.head (Test.xp 1 0 0 0 0 []))))) (Test.sluice { Test.up with rxSeq := 4095 })) (fun t =>
      decide ((t.sl 3).rxSeq = 0) && decide (t.rd.xin = [(3, Test.xp 1 0 0 0 0 [])]) && decide (t.linkOut.map (fun e => (e.ftype, e.ackSeq)) = [(1, 4095)])) = true ∧
    Test.next (exec (.frameReceive 3 (Test.frame 0 7 0 (some (.head (Test.xp 1 0 0 0 0 []))))) (Test.sluice { Test.up with rxSeq := 6 })) (fun t =>
      (t.sl 3).discarding && decide (t.rd.xin = []) && decide (t.linkOut.map (fun e => (e.ftype, e.ackSeq)) = [(2, 6)])) = true ∧
    Test.next (exec (.frameReceive 3 { Test.frame 0 6 0 none with crc := 0x25335294 }) (Test.sluice { Test.up with rxSeq := 6, discarding := true })) (fun t =>
      decide (t.linkOut = []) && decide ((t.sl 3).rxSeq = 6)) = true := by decide +kernel
/-- An ACK releases up to its frame; a NAK of the oldest, or 400 ns, resends all (R257, R259). -/
theorem test_ack_nak :
    Test.next (exec (.frameReceive 3 (Test.frame 1 0 1 none)) (Test.sluice { Test.up with replay := [Test.kept 0, Test.kept 1, Test.kept 2] })) (fun t => decide ((t.sl 3).replay = [Test.kept 2])) = true ∧
    Test.next (exec (.nak 3 1) { Test.sluice { Test.up with replay := [Test.kept 1, Test.kept 2], txSeq := 3 } with tstamp := 4 }) (fun t =>
      decide (t.linkOut.map (fun e => e.seq) = [1, 2]) && decide ((t.sl 3).replay.map (fun e => e.2.1) = [4, 4]) && decide ((t.sl 3).replays = 1)) = true ∧
    Test.next (exec (.replayTimeout 3) { Test.sluice { Test.up with replay := [Test.kept 1] } with tstamp := 40 }) (fun t => decide (t.linkOut.map (fun e => e.seq) = [1])) = true := by decide +kernel
/-- A packet for engine 5 goes on with one hop more (R268). -/
theorem test_transit :
    (Test.came { Test.xp 1 2 3 4 6 [] with dst := 5, src := 6 }).xat 0 = some (3, { Test.xp 1 2 3 4 6 [] with dst := 5, src := 6 }) ∧
    Test.left (exec (.crossEngineTransit false 0) (Test.came { Test.xp 1 2 3 4 6 [] with dst := 5, src := 6 })) (fun t x => decide (t.rd.xin = []) && decide (x.hops = 1)) = true := by
  decide +kernel
/-- XEVENT for field 0 of the job, and one whose job no partition has (R273). -/
theorem test_xevent :
    Test.next (exec (.xevent 0) (Test.came (Test.xp 1 0x4000000001000100 0 0 0 []))) (fun t =>
      decide (t.net.map (fun p => (p.src, p.dst, p.body)) = [(.sluice 3, .field 0, .event 0x4000000001000100)]) && decide (t.rd.xin = [])) = true ∧
    Test.next (exec (.xevent 0) (Test.came { Test.xp 1 0 0 0 0 [] with job := 8 })) (fun t =>
      decide (t.net = []) && decide (t.rd.slErr = 1) && decide (t.rd.slErrInfo = 0x3302 * 65536 + 5)) = true := by decide +kernel
/-- An event packet at the gateway leaves as an XEVENT (R271). -/
theorem test_xevent_send :
    Test.left (exec (.crossEngineTransit true 0) (Test.sent { Test.pk (.field 0) (.sluice 3) 3 false 0 9 (.xevent 0x4014000001000100 7) with part := some 0 } (Test.sluice Test.up))) (fun t x =>
      decide (t.net = []) && decide ((x.xtype, x.dst, x.job, x.sfield, x.stag) = (1, 5, 7, 0, 9))) = true := by decide +kernel
/-- An XLOST for the event of a running task's POST (R275). -/
theorem test_xlost :
    Test.next (exec (.xlost 0) { Test.came (Test.xp 5 (1 <<< 60) 0x3147 0 9 []) with
      cores := [(0, Test.sender)], fields := [(0, { Test.field with cis := { Cistern.reset with xtags := [{ tag := 9, node := 1, post := some (3, 0) }] } })] }) (fun t =>
      decide ((t.core 0).asyncErr = some (0x3147, none, 0)) && decide ((Claims.cis t 0).xtags = [])) = true := by decide +kernel
/-- XCOPY of 8 bytes into core 0's last word; without a job it is lost with 0x3302; XACK takes one access off (R276, R312). -/
theorem test_xcopy :
    Test.left (exec (.xcopy 0) (Test.came (Test.xp 10 0x4FFF8 8 72 4 [1, 2, 3, 4, 5, 6, 7, 8]))) (fun t x =>
      decide (Memory.value (t.core 0).sram 0x4FFF8 8 = 0x0807060504030201) && decide ((x.xtype, x.dst, x.sfield, x.stag) = (11, 5, 72, 4))) = true ∧
    Test.left (exec (.xcopy 0) (Test.came { Test.xp 10 0x4FFF8 8 72 4 [1, 2, 3, 4, 5, 6, 7, 8] with job := 8 })) (fun _ x => decide ((x.xtype, x.wb, x.stag) = (5, 0x3302, 4))) = true ∧
    Test.next (exec (.xack 0) { Test.came (Test.xp 11 0 0 72 4 []) with
      ports := [(0, Test.port Test.ring0 [{ newCmd Test.ring0 0 0 (Test.cmd 12 0 0x3000 8) 0 with issued := true, accs := [{ tag := 4, addr := 0, len := 8 }, { tag := 5, addr := 8, len := 8 }] }])] }) (fun t =>
      decide ((t.port 0).cmds.map (fun c => c.accs.map (fun a => a.tag)) = [[5]]) && decide (t.rd.xin = [])) = true := by decide +kernel
/-- At the root: the first of two engines is counted, the last is released; an invalid group is broken at its sender (R277, R280, R283). -/
theorem test_xarrive :
    Test.next (exec (.xarrive 0) { Test.came (Test.xp 2 4 0 0 4 []) with rd := { (Test.came (Test.xp 2 4 0 0 4 [])).rd with cw := [(4, 0x80000002)] } }) (fun t =>
      decide (Tab.read t.rd.ecount 0 4 = 1) && decide (Tab.read t.rd.arrived [] 4 = [5]) && decide (t.linkOut = [])) = true ∧
    Test.left (exec (.xarrive 0) { Test.came (Test.xp 2 4 0 0 4 []) with rd := { (Test.came (Test.xp 2 4 0 0 4 [])).rd with cw := [(4, 0x80000001)] } }) (fun t x =>
      decide (Tab.read t.rd.ecount 0 4 = 0) && decide ((x.xtype, x.dst, x.wa) = (3, 5, 4))) = true ∧
    Test.left (exec (.xarrive 0) (Test.came (Test.xp 2 4 0 0 4 []))) (fun t x => decide (t.rd.slErr = 2) && decide ((x.xtype, x.wb) = (4, 0x3303))) = true := by decide +kernel
/-- A release and a break reach group 4 of the job's partition (R280, R282). -/
theorem test_xrelease_xbreak :
    Test.next (exec (.xrelease 0) { Test.came (Test.xp 3 4 0 0 4 []) with
      fields := [(0, { Test.field with syn := { SyncUnit.reset with descs := [(4, 0xC000000700000002)], wells := [(4, { Well.reset with out := true })] } })] }) (fun t =>
      decide (t.well 0 4 = { Well.reset with gen := 1 }) && decide (t.net.map (fun p => p.body) = [.release 4])) = true ∧
    Test.next (exec (.xbreak 0) { Test.came (Test.xp 4 4 0x3303 0 4 []) with
      fields := [(0, { Test.field with syn := { SyncUnit.reset with descs := [(4, 0xC000000700000002)] } })] }) (fun t =>
      (t.well 0 4).broken && decide ((t.well 0 4).cause = 0x3303) && decide (t.net.map (fun p => p.body) = [.brokenRelease 4 0x3303])) = true := by decide +kernel
/-- A LOCKED engine sends TS_SYNC by its one UP port (R284). -/
theorem test_ts_sync_send :
    Test.left (exec .tsSyncSend { Test.sluice Test.up with tstamp := 1000, rd := { (Test.sluice Test.up).rd with sync := .locked, dist := 2 } }) (fun t x =>
      decide ((x.xtype, x.dst, x.wa, x.wb) = (8, 5, 1000, 2)) && decide (t.rd.sentSync = 1000)) = true := by decide +kernel
/-- The fourth sample that agrees locks and steps TSTAMP by 3 counts; one that disagrees starts again (R285, R286). -/
theorem test_ts_sync :
    (Test.came (Test.xp 8 103 1 0 0 [])).parentPort = some 3 ∧
    Test.next (exec (.tsSync 0) { Test.came (Test.xp 8 103 1 0 0 []) with
      tstamp := 100, parts := [], rd := { (Test.came (Test.xp 8 103 1 0 0 [])).rd with sync := .acquire, agree := 3, lastSample := 192 } }) (fun t =>
      decide (t.rd.sync = .locked) && decide (t.tstamp = 103) && decide (t.rd.offset = 0) && decide (t.rd.dist = 2)) = true ∧
    Test.next (exec (.tsSync 0) { Test.came (Test.xp 8 103 1 0 0 []) with
      tstamp := 100, parts := [], rd := { (Test.came (Test.xp 8 103 1 0 0 [])).rd with sync := .acquire, agree := 3, lastSample := 257 } }) (fun t =>
      decide (t.rd.sync = .acquire) && decide (t.rd.agree = 1) && decide (t.tstamp = 100)) = true := by decide +kernel
/-- 100 µs without a sample, a slew of one count, an edge and a pulse of CSYNC (R285, R286, R401). -/
theorem test_time :
    Test.next (exec .holdoverTimeout { Test.sluice Test.up with tstamp := 10000, rd := { (Test.sluice Test.up).rd with sync := .locked } }) (fun t =>
      decide (t.rd.sync = .holdover) && decide (t.rdFaults.recs.map (fun r => r.cause) = [0x3304])) = true ∧
    Test.next (exec .tstampSlew { Test.sluice Test.up with
      tstamp := 1000, sd := { ServiceDomain.reset with state := .on }, rd := { (Test.sluice Test.up).rd with sync := .locked, offset := -64 } }) (fun t =>
      decide (t.tstamp = 1000) && decide (t.rd.offset = 0)) = true ∧
    Test.next (exec .csyncInEdge { Test.sluice Test.up with tstamp := 50003, sd := { ServiceDomain.reset with vtime := 50003 }, rd := { (Test.sluice Test.up).rd with sync := .master, edges := 4, lastEdge := 40004 } }) (fun t =>
      decide (t.rd.edges = 5) && decide (t.rd.offset = -192)) = true ∧
    Test.next (exec .csyncOutPulse { Test.sluice Test.up with tstamp := 50000, sd := { ServiceDomain.reset with vtime := 50000 }, rd := { (Test.sluice Test.up).rd with sync := .master } }) (fun t =>
      decide (t.rd.csyncOut = 50010)) = true := by decide +kernel

namespace Test

/-- Partition 0 locked in a job of two members whose leader is engine `e`. -/
def locked (e : Nat) (l : FreqLock) (xs : List (Nat × XPacket)) (ts : Nat) : State :=
  { sluice up with tstamp := ts, rd := { (sluice up).rd with fl := [(0, 0x80000002 + e <<< 16)], locks := [(0, l)], xin := xs } }

end Test

/-- A member proposes in a new epoch (R288). -/
theorem test_fl_propose :
    (Test.locked 5 FreqLock.reset [] 10000).locked 0 = true ∧
    Test.left (exec (.flPropose 0) (Test.locked 5 FreqLock.reset [] 10000)) (fun t x =>
      decide ((x.xtype, x.dst, x.wa, x.wb) = (6, 5, 15, 10000)) && decide ((t.lock 0).proposedAt = 10000)) = true := by decide +kernel
/-- The leader keeps a proposal; 20 µs into the epoch it commands F15 while a member is missing (R288). -/
theorem test_fl_decide :
    Test.next (exec (.flProposeReceive 0) (Test.locked 0 FreqLock.reset [(3, Test.xp 6 9 0 0 0 [])] 10000)) (fun t => decide ((t.lock 0).proposals = [(5, 9)])) = true ∧
    Test.left (exec (.flDecide 0) (Test.locked 0 { FreqLock.reset with proposals := [(5, 9)], heard := [5] } [] 12000)) (fun t x =>
      decide ((x.xtype, x.dst, x.wa, x.wb) = (7, 5, 15, 15000)) && decide ((t.lock 0).decidedAt = 12000)) = true := by decide +kernel
/-- A command schedules F9 for its time; after 1 ms without one the member is lock-lost (R288, R289). -/
theorem test_fl_command :
    Test.next (exec (.flCommand 0) (Test.locked 5 FreqLock.reset [(3, Test.xp 7 9 15000 0 0 [])] 12000)) (fun t =>
      decide ((t.field 0).clk.nextCmds = [(9, 15000)]) && decide ((t.lock 0).lastCmd = 12000)) = true ∧
    Test.next (exec (.flockLost 0) (Test.locked 5 FreqLock.reset [] 100000)) (fun t => (t.lock 0).lost && decide (t.rdFaults.recs.map (fun r => r.cause) = [0x3305])) = true := by
  decide +kernel
/-- Registers of the ring domain keep their writable bits (R265, R277, R287). -/
theorem test_rd_registers :
    Test.next (exec (.routeWrite 4095 0xFFFFFFFF) (Test.sluice Test.up)) (fun t => decide (Tab.read t.rd.route 0 4095 = 0x8F)) = true ∧
    Test.next (exec (.cwDescWrite 255 0xFFFFFFFF) (Test.sluice Test.up)) (fun t => decide (t.cwDesc 255 = 0x8FFF1FFF)) = true ∧
    Test.next (exec (.cwDescWrite 4 0xFFFFFFFF) { Test.sluice Test.up with parts := [(0, { Test.part with claims := [4] })] }) (fun t => decide (t.cwDesc 4 = 0)) = true ∧
    Test.next (exec (.flDescWrite 15 0xFFFFFFFF) (Test.sluice Test.up)) (fun t => decide (t.flDesc 15 = 0x8FFF1FFF)) = true ∧
    Test.next (exec (.flDescWrite 0 0xFFFFFFFF) (Test.sluice Test.up)) (fun t => decide (t.flDesc 0 = 0)) = true := by decide +kernel
/-- A trace destination of the largest size is enabled and disabled (R530, R531). -/
theorem test_tr_enable :
    Test.next (exec (.trEnable 0 0x8000) { Test.sluice Test.up with rd := { (Test.sluice Test.up).rd with traces := [(0, { TraceDest.reset with cfg := 0xC0, hdr := 0x40 })] } }) (fun t =>
      (t.traceDest 0).en && decide ((t.traceDest 0).base = 0x8000) && decide (t.hostOut = [.write 0 0x40 [0, 0, 0, 0]])) = true ∧
    Test.next (exec (.trDisable 0) { Test.sluice Test.up with rd := { (Test.sluice Test.up).rd with traces := [(0, { TraceDest.reset with en := true, staging := [⟨1, 2, 3, 4⟩] })] } }) (fun t =>
      !(t.traceDest 0).en && decide ((t.traceDest 0).staging = [])) = true := by decide +kernel

/-! ### The dictionary and CAN -/

namespace Test

/-- The service domain of a started engine with node-ID 5. -/
def sd : ServiceDomain := { ServiceDomain.reset with state := .on, porLow := false, operational := true, step := .complete, nodeId := 5 }
/-- The pair with A active. -/
def pairUp : WellPair := { WellPair.reset with a := { Wellhead.reset with up := true }, b := { Wellhead.reset with up := true }, standbyOk := true }
/-- A started engine: SD, RD, Wellheads and field 0 are up; port 0 is `x`. -/
def live (x : Port) : State :=
  { State.reset with sd := sd, wh := pairUp, rd := { RingDomain.reset with state := .on }, ports := [(0, x)], fields := [(0, field)], can := { Can.reset with nmt := .oper } }
/-- A BUSY channel with a request. -/
def chan (req : List Byte) : Channel := { Channel.reset with state := 1, req := Memory.setBytes [] 0 req }
/-- A BUSY channel 3 with a request: OP, ROLE and partition, object, SEQ 9, and data. -/
def asked (op role part i sub : Nat) (data : List Byte) : Port :=
  { Port.reset with linkUp := true, chans := [(3, chan (toBytes 8 (op <<< 56 + sub <<< 48 + i <<< 32 + role <<< 30 + part <<< 24 + 9) ++ toBytes 8 data.length ++ data))] }
/-- The oldest write, committed. -/
def write (i sub v n : Nat) : WriteReq :=
  { who := .can, role := .operator, seq := 9, items := [(i, sub, toBytes n v)], step := .committed, answer := none, tko := false, old := [], id := 1, refused := none, void := false }
/-- A started engine with that write. -/
def wrote (i sub v n : Nat) (s : State) : State := { s with fw := { s.fw with wq := [write i sub v n] } }
/-- The write has been applied in `t`, and `f` holds. -/
def did (o : Out) (f : State → Bool) : Bool :=
  next o (fun t => (match t.fw.wq with | [r] => decide (r.answer = some (0, 0)) && decide (r.step = .outcome 1) | _ => false) && f t)

theorem committed_of {s : State} {r : WriteReq} {i sub v : Nat} {b : List Byte} (h : s.serving = true ∧ s.fw.wq = [r] ∧ r.step = .committed ∧ r.answer = none ∧
    r.role = .operator ∧ r.void = false ∧ r.old = [] ∧ r.items = [(i, sub, b)] ∧ ofBytes b = v ∧ s.rule8 i sub v = none) : Claims.committed s r i sub v :=
  ⟨h.1, h.2.1, h.2.2.1, h.2.2.2.1, h.2.2.2.2.1, h.2.2.2.2.2.1, h.2.2.2.2.2.2.1, ⟨b, h.2.2.2.2.2.2.2.1, h.2.2.2.2.2.2.2.2.1⟩, h.2.2.2.2.2.2.2.2.2⟩

/-- Service flash with a runtime list and stored objects. -/
def flash (l : List Word) (o : Tab Nat) : Flash := { objs := ObjsCopy.of o, objs2 := ObjsCopy.of o, repair := RepairCopy.of l, repair2 := RepairCopy.of l }
/-- A reading of service flash as it was last written, and one that finds both copies of the list bad. -/
def asWritten : FlashRead := { objs := none, objs2 := none, repair := none, repair2 := none }
def listBad : FlashRead := { asWritten with repair := some { words := [], crc := 1 }, repair2 := some { words := [], crc := 1 } }

end Test

/-- A mailbox write of POWER_CAP at its upper bound is queued; one above it is answered with 0x06090031 and 0x5230 (R351, R354). -/
theorem test_mailbox_write :
    Test.next (exec (.powerCap false (.mailbox 0 3)) (Test.live (Test.asked 2 2 0 0x2400 1 (toBytes 4 20000)))) (fun t =>
      decide (t.fw.wq.map (fun r => r.who) = [.mailbox 0 3]) && decide (t.fw.wq.map (fun r => r.role) = [.operator]) && decide (t.fw.wq.map (fun r => r.items) = [[(0x2400, 1, toBytes 4 20000)]]) && decide (((t.port 0).chan 3).state = 1)) = true ∧
    Test.next (exec (.powerCap false (.mailbox 0 3)) (Test.live (Test.asked 2 2 0 0x2400 1 (toBytes 4 20001)))) (fun t =>
      decide (t.fw.wq = []) && decide (((t.port 0).chan 3).state = 2) && decide (Tab.read t.fw.refusals 0 5 = 0x5230240001000000) &&
      decide (Memory.value ((t.port 0).chan 3).rsp 0 8 = 0x0201240052300009) && decide (Memory.value ((t.port 0).chan 3).rsp 8 8 = 0x0609003100000000)) = true := by decide +kernel
/-- A tenant's read of another partition's object does not exist for it; a write by the mailbox while its operator is disabled is refused (R351, R359). -/
theorem test_mailbox_checks :
    Test.next (exec (.dictRead (.mailbox 0 3)) { Test.live (Test.asked 1 1 0 0x2211 2 []) with parts := [(0, Test.part)] }) (fun t =>
      decide (Memory.value ((t.port 0).chan 3).rsp 8 8 = 0x0609001100000000)) = true ∧
    Test.next (exec (.powerCap false (.mailbox 0 3)) { Test.live (Test.asked 2 2 0 0x2400 1 (toBytes 4 16000)) with fw := { Firmware.reset with dict := [(objKey 0x2001 1, 0)] } }) (fun t =>
      decide (Tab.read t.fw.refusals 0 5 / 2 ^ 48 = 0x5236)) = true := by decide +kernel
/-- Every row whose object has its own takes a write of it, DICT_WRITE any other (R354). -/
theorem test_own_rows :
    [ownRow 0x2110 3 0, ownRow 0x2110 4 0, ownRow 0x2110 6 1, ownRow 0x2110 7 0, ownRow 0x2210 16 0, ownRow 0x2602 1 0, ownRow 0x2601 1 0, ownRow 0x2601 2 0, ownRow 0x2400 1 0,
     ownRow 0x2800 1 0, ownRow 0x2700 1 0, ownRow 0x2580 1 0, ownRow 0x2003 1 0, ownRow 0x1011 1 0, ownRow 0x2B02 2 0, ownRow 0x2941 0 1, ownRow 0x1003 0 0, ownRow 0x2600 12 1,
     ownRow 0x2600 12 6, ownRow 0x2401 1 0] =
    [some .repairAdd, some .repairRemove, some .repairReload, some .fieldRestart, some .rect, some .job, some .engineId, some .timeMaster, some .powerCap, some .detMode,
     some .cmdTimeout, some .dryWindow, some .restoreSefiez, some .restoreComm, some .override, some .logClear, some .historyClear, some .portEnable, some .portDisable, none] := by
  decide +kernel
/-- The doorbell, a read of VENDOR-ID and the answer of a settled write (R348, R349, R355). -/
theorem test_mailbox :
    Test.next (exec (.mbDoorbell 0 3) (Test.live (Test.asked 1 0 0 0x1018 1 []))) (fun t => ((t.port 0).chan 3).overrun) = true ∧
    Test.next (exec (.dictRead (.mailbox 0 3)) (Test.live (Test.asked 1 0 0 0x1018 1 []))) (fun t =>
      decide (((t.port 0).chan 3).state = 2) && decide (Memory.value ((t.port 0).chan 3).rsp 8 8 = 4) && decide (Memory.value ((t.port 0).chan 3).rsp 16 4 = 0x53465A00)) = true ∧
    Test.next (exec .dictWriteAnswer { Test.live (Test.asked 2 2 0 0x2400 1 (toBytes 4 20000)) with
      fw := { Firmware.reset with wq := [{ Test.write 0x2400 1 20000 4 with who := .mailbox 0 3, step := .settled, answer := some (0, 0) }] } }) (fun t =>
      decide (t.fw.wq = []) && decide (((t.port 0).chan 3).state = 2) && decide (Memory.value ((t.port 0).chan 3).rsp 0 8 = 0x0201240000000009)) = true := by decide +kernel
/-- REPAIR_ADD of a valid entry may be applied whatever the fuses hold (R46); an entry of field 72 may not. -/
theorem test_repair_add :
    Claims.committed (Test.wrote 0x2110 3 0x00470120 4 (Test.live Port.reset)) (Test.write 0x2110 3 0x00470120 4) 0x2110 3 0x00470120 ∧
    (Test.live Port.reset).rule8 0x2110 3 0x00480120 = some (0x06090030, 0x5202) := by
  refine ⟨⟨by decide +kernel, by decide +kernel, by decide +kernel, by decide +kernel, by decide +kernel, by decide +kernel, by decide +kernel, ⟨toBytes 4 0x00470120, by decide +kernel, by decide +kernel⟩, ?_⟩, by decide +kernel⟩
  have h : ¬ 256 ≤ (Test.wrote 0x2110 3 0x00470120 4 (Test.live Port.reset)).flash.list.length := by decide +kernel
  have h2 : entryValid 0x00470120 = true := by decide +kernel
  simp [State.rule8, State.ownRule, isMapping, h, h2]
/-- REPAIR_REMOVE and REPAIR_RELOAD (R42, R45). -/
theorem test_repair :
    Claims.committed (Test.wrote 0x2110 4 0x105 4 { Test.live Port.reset with flash := Test.flash [0x105] [] }) (Test.write 0x2110 4 0x105 4) 0x2110 4 0x105 ∧
    Test.did (exec (.repairRemove true .can) (Test.wrote 0x2110 4 0x105 4 { Test.live Port.reset with flash := Test.flash [0x105] [] })) (fun t => decide (t.flash.list = [])) = true ∧
    Test.did (exec (.repairReload true .can Test.asWritten) (Test.wrote 0x2110 6 1 1 { Test.live Port.reset with flash := Test.flash [0x105] [] })) (fun t => decide (t.fw.map = [(1, [5])])) = true ∧
    Test.did (exec (.repairReload true .can Test.listBad) (Test.wrote 0x2110 6 1 1 { Test.live Port.reset with flash := Test.flash [0x105] [] })) (fun t =>
      decide (t.fw.map = []) && decide (t.faultCount = 1)) = true :=
  ⟨Test.committed_of (b := toBytes 4 0x105) (by decide +kernel), by decide +kernel, by decide +kernel, by decide +kernel⟩
/-- PART_JOB, POWER_CAP, CMD_TIMEOUT, DET_MODE and DRYWELL_WINDOW (R270, R327, R380, R438, R481). -/
theorem test_settings :
    Test.did (exec (.partJob true .can) (Test.wrote 0x2602 16 65535 2 (Test.live Port.reset))) (fun t => decide ((t.part 15).job = 65535)) = true ∧
    Test.did (exec (.powerCap true .can) (Test.wrote 0x2400 1 6000 4 (Test.live Port.reset))) (fun t => decide (t.setting 0x2400 1 = 6000)) = true ∧
    Test.did (exec (.cmdTimeoutWrite true .can) (Test.wrote 0x2700 1 60000000 4 (Test.live Port.reset))) (fun t => decide (t.setting 0x2700 1 = 60000000)) = true ∧
    Test.did (exec (.detMode true .can) (Test.wrote 0x2800 1 1 1 { Test.live Port.reset with cores := [(0, Core.reset)] })) (fun t => t.detMode && (t.core 0).csr.det) = true ∧
    Test.did (exec (.drywellWindow true .can) (Test.wrote 0x2580 1 0 4 { Test.live Port.reset with tstamp := 7 })) (fun t =>
      decide ((t.part 0).det.last = 7) && decide (t.dryWindow 0 = none)) = true ∧
    Test.did (exec .dictWriteApply (Test.wrote 0x2401 2 0 1 (Test.live Port.reset))) (fun t => decide (t.setting 0x2401 2 = 0)) = true := by decide +kernel
/-- The restores, and the clearing of logs (R339, R346, R372, R384). -/
theorem test_restores :
    Test.did (exec (.restoreSefiez true .can) (Test.wrote 0x2003 1 0x64616F6C 4 { Test.live Port.reset with
      fw := { Firmware.reset with dict := [(objKey 0x2601 1, 7), (objKey 0x1017 0, 20)] } })) (fun t => decide (t.engineId = 0) && decide (t.setting 0x1017 0 = 20)) = true ∧
    Test.did (exec (.restoreComm true .can) (Test.wrote 0x1011 1 0x64616F6C 4 (Test.live Port.reset))) (fun t => decide (Tab.read t.flash.stored 0 restoreKey = 0x64616F6C)) = true ∧
    Test.did (exec (.faultLogClear true .can) (Test.wrote 0x2941 0 1 1 { Test.live Port.reset with faultCount := 5 })) (fun t => decide (t.faultCount = 0)) = true ∧
    Test.did (exec (.errorHistoryClear true .can) (Test.wrote 0x1003 0 0 1 { Test.live Port.reset with can := { Can.reset with history := [5] } })) (fun t => decide (t.can.history = [])) = true := by
  decide +kernel
/-- A partition of fields 0 and 1 is enabled, its CDs start; a rectangle without EN is only kept (R55, R420). -/
theorem test_partition_rect :
    Test.did (exec (.partitionRect true .can) (Test.wrote 0x2210 3 0x80001000 4 { Test.live Port.reset with
      fields := [(0, { Test.field with clk := { Test.field.clk with cd := .off } }), (1, Test.field)] })) (fun t =>
      (t.part 2).enabled && decide (t.partOf 1 = some 2) && decide ((t.field 0).clk.cd = .starting) && decide ((t.field 1).clk.cd = .on)) = true ∧
    Test.did (exec (.partitionRect true .can) (Test.wrote 0x2210 3 0x1000 4 (Test.live Port.reset))) (fun t => decide ((t.part 2).rect = 0x1000) && !(t.part 2).enabled) = true := by
  decide +kernel
/-- FIELD_RESTART, ENGINE_ID and TIME_MASTER (R286, R291, R419). -/
theorem test_field_restart :
    Test.did (exec (.fieldRestart true .can) (Test.wrote 0x2110 7 0 1 (Test.live Port.reset))) (fun t => (t.field 0).clk.restart && decide ((t.field 0).clk.cd = .starting)) = true ∧
    Test.did (exec (.engineId true .can) (Test.wrote 0x2601 1 9 2 { Test.live Port.reset with sluice := [(3, Test.up)] })) (fun t => decide (t.engineId = 9) && decide ((t.sl 3).state = .train)) = true ∧
    Test.did (exec (.timeMaster true .can) (Test.wrote 0x2601 2 0 2 (Test.live Port.reset))) (fun t => decide (t.rd.sync = .master)) = true := by decide +kernel
/-- A port is enabled and disabled; the stuck button is overridden (R262, R407). -/
theorem test_port_enable :
    Test.did (exec (.portEnable true .can) (Test.wrote 0x2600 12 1 4 (Test.live Port.reset))) (fun t => decide ((t.sl 11).state = .train)) = true ∧
    Test.did (exec (.portDisable true .can) (Test.wrote 0x2600 4 6 4 { Test.live Port.reset with sluice := [(3, Test.up)] })) (fun t => decide ((t.sl 3).state = .off) && decide (t.portCtrl 3 = 6)) = true ∧
    Test.did (exec (.buttonOverride true .can Test.asWritten) (Test.wrote 0x2B02 2 0x5A17 2 { Test.live Port.reset with sd := { Test.sd with button := { state := 2, since := 0 } } })) (fun t =>
      decide (t.sd.button.state = 3) && decide (t.sd.warmCount = 1) && decide (t.sd.lastReset = 2)) = true := by decide +kernel

namespace Test

/-- A transfer of object 0x1018.1 open on CAN. -/
def usdo (down : Bool) (data : List Byte) : State :=
  { live Port.reset with fw := { Firmware.reset with usdo := some { download := down, index := 0x1018, sub := 1, size := 8, data := data, at' := 0, done := false } } }
/-- PDO 0 in use, mapping 0x2401.1 and 0x2401.2. -/
def pdo (base : Nat) : State :=
  { live Port.reset with fw := { Firmware.reset with dict := [(objKey (base + 0x200) 0, 2), (objKey (base + 0x200) 1, 0x24010108), (objKey (base + 0x200) 2, 0x24010208), (objKey base 1, 0x205), (objKey 0x1800 5, 0)] } }

end Test

/-- USDO transfers begin; an initiate aborts the open one (R340). -/
theorem test_usdo_initiate :
    Test.next (exec (.usdoInitiateDownload 0x2400 1 4 (toBytes 4 7000)) (Test.live Port.reset)) (fun t => decide ((t.fw.usdo.map (fun u => (u.data, u.done))) = some (toBytes 4 7000, true))) = true ∧
    Test.next (exec (.usdoInitiateUpload 0x1018 1) (Test.live Port.reset)) (fun t => decide ((t.fw.usdo.map (fun u => (u.download, u.done))) = some (false, true))) = true ∧
    Test.next (exec (.usdoInitiateDownload 0x2400 1 5 []) (Test.usdo true [])) (fun t =>
      decide ((t.fw.usdo.map (fun u => (u.size, u.done))) = some (5, false)) && decide (t.canOut = [(0x585, [0x80, 0x18, 0x10, 1, 0, 0, 0, 8])])) = true := by decide +kernel
/-- Segments, and the timeout at its moment (R340). -/
theorem test_usdo_segment :
    Test.next (exec (.usdoSegment [3] true) (Test.usdo true [1, 2])) (fun t => decide ((t.fw.usdo.map (fun u => (u.data, u.done))) = some ([1, 2, 3], true))) = true ∧
    Test.next (exec (.usdoSegment [] true) (Test.usdo false (List.replicate 56 1))) (fun t => decide (t.fw.usdo = none) && decide (t.canOut.length = 1)) = true ∧
    Test.next (exec .dictSegTimeout { Test.usdo true [] with tstamp := 50000000 }) (fun t =>
      decide (t.fw.usdo = none) && decide (t.canOut = [(0x585, [0x80, 0x18, 0x10, 1, 0, 0, 4, 5])]) && decide (Tab.read t.fw.refusals 0 1 / 2 ^ 48 = 0x5238)) = true := by decide +kernel
/-- NMT commands and resets (R337, R338). -/
theorem test_nmt :
    (Test.live Port.reset).nmtOn = true ∧
    Test.next (exec .nmtStop (Test.live Port.reset)) (fun t => decide (t.can.nmt = .stopped)) = true ∧
    Test.next (exec .nmtEnterPreOperational (Test.live Port.reset)) (fun t => decide (t.can.nmt = .preop)) = true ∧
    Test.next (exec .nmtStart { Test.live Port.reset with can := { Can.reset with nmt := .preop } }) (fun t => decide (t.can.nmt = .oper)) = true ∧
    Test.next (exec .nmtResetCommunication { Test.live Port.reset with can := { Can.reset with nmt := .oper, history := [5] }, flash := Test.flash [] [(restoreKey, 1)], fw := { Firmware.reset with dict := [(objKey 0x1017 0, 20)] } }) (fun t =>
      decide (t.can.nmt = .preop) && decide (t.setting 0x1017 0 = 100) && decide (t.can.history = [5]) && decide (t.canOut = [(0x705, [0])])) = true ∧
    Test.next (exec .nmtResetNode { Test.live Port.reset with can := { Can.reset with nmt := .oper, history := [5] } }) (fun t => decide (t.can.history = [])) = true := by decide +kernel
/-- Heartbeats at their first moments (R344). -/
theorem test_heartbeat :
    Test.next (exec .heartbeatSend { Test.live Port.reset with tstamp := 10000000 }) (fun t => decide (t.canOut = [(0x705, [5])]) && decide (t.can.hbLast = 10000000)) = true ∧
    Test.next (exec (.heartbeatReceive 9) { Test.live Port.reset with fw := { Firmware.reset with dict := [(objKey 0x1016 4, 0x9000A)] } }) (fun t => decide (Tab.read t.can.hbSeen 0 3 = 1)) = true ∧
    Test.next (exec (.canHbTimeout 3) { Test.live Port.reset with tstamp := 1000000, can := { Can.reset with nmt := .oper, hbSeen := [(3, 1)] }, fw := { Firmware.reset with dict := [(objKey 0x1016 4, 0x9000A)] } }) (fun t =>
      decide (t.can.hbOut = [3]) && decide (t.sdFaults.recs.map (fun r => r.cause) = [0x5240])) = true := by decide +kernel
/-- EMCY, bus-off and overrun (R345). -/
theorem test_emcy :
    Test.next (exec .emcySend { Test.live Port.reset with can := { Can.reset with nmt := .oper, emcy := [{ code := 0x8210, cause := 0x5243, scope := 0, id := 0, info := 0, ts := 1 }] } }) (fun t =>
      decide (t.can.emcy = []) && decide ((t.canOut.map (fun e => (e.1, e.2.take 2, e.2.length))) = [(0x85, [0x10, 0x82], 20)])) = true ∧
    Test.next (exec .canBusOff (Test.live Port.reset)) (fun t => decide (t.can.busOff = 1) && decide (t.sdFaults.recs.map (fun r => r.cause) = [0x5241])) = true ∧
    Test.next (exec .canOverrun (Test.live Port.reset)) (fun t => decide (t.sdFaults.recs.map (fun r => r.cause) = [0x5242])) = true := by decide +kernel
/-- An RPDO of the right length is one write of two objects, a shorter one an EMCY; a TPDO is sent on a change and at its timer (R342, R343). -/
theorem test_pdo :
    Test.next (exec (.rpdoReceive 0 [0, 1]) (Test.pdo 0x1400)) (fun t => decide (t.fw.wq.map (fun r => r.items) = [[(0x2401, 1, [0]), (0x2401, 2, [1])]])) = true ∧
    Test.next (exec (.rpdoReceive 0 [0]) (Test.pdo 0x1400)) (fun t => decide (t.can.emcy.map (fun e => (e.code, e.cause)) = [(0x8210, 0x5243)])) = true ∧
    Test.next (exec (.tpdoSend 0) (Test.pdo 0x1800)) (fun t => decide (t.canOut = [(0x205, [1, 1])])) = true ∧
    Test.next (exec (.tpdoSend 0) { Test.pdo 0x1800 with can := { Can.reset with nmt := .oper, tpdoSent := [(0, [1, 1])] } }) (fun t => decide (t.canOut = [])) = true := by decide +kernel

/-! ### Starts, thermal protection, power, the pair and observation -/

namespace Test

/-- A started engine whose service domain is `d`, `now` after its own start as by TSTAMP. -/
def started (d : ServiceDomain) (now : Nat) : State := { live Port.reset with sd := { d with vtime := now }, tstamp := now }
/-- Field 0's clocks as given. -/
def clocked (k : FieldClock) (now : Nat) : State := { live Port.reset with fields := [(0, { field with clk := k })], sd := { sd with vtime := now }, tstamp := now }
/-- The causes in the SD's queue. -/
def causes (t : State) : List Nat := t.sdFaults.recs.map (fun r => r.cause)
/-- The causes in field 0's queue. -/
def causes0 (t : State) : List Nat := (t.field 0).faults.recs.map (fun r => r.cause)

end Test

/-- A firmware image that is sound, and one that is not. -/
def Test.image : Image := { code := [], crc := 0 }
def Test.badImage : Image := { code := [], crc := 1 }

/-- POR_N's rise and fall, and the loss of power (R393, R402, R415, R422, R425). -/
theorem test_por :
    Test.next (exec .porNRise { State.reset with tstamp := 77 }) (fun t => decide (t.tstamp = 0) && decide (t.sd.state = .on) && decide (t.sd.step = .at 1) && t.wh.a.booting && t.wh.b.booting) = true ∧
    Test.next (exec .porNRise { State.reset with sd := { ServiceDomain.reset with compTime := 360000000000 } }) (fun t => decide (t.sd.step = .at 1) && decide (t.flash.stored ≠ [])) = true ∧
    Test.next (exec .porNRise { State.reset with sd := { ServiceDomain.reset with porLow := false } }) (fun t => decide (t.sd.state = .reset)) = true ∧
    Test.next (exec .porNFall (Test.live Port.reset)) (fun t => decide (t.sd.state = .reset) && decide ((t.field 0).clk.md = .off) && decide (t.rd.state = .off) && !t.sd.operational) = true ∧
    Test.next (exec .inputPowerLoss { Test.live Port.reset with flash := Test.flash [] [(5, 6)] }) (fun t => !t.sd.inputPower && decide (t.flash.stored = [(5, 6)]) && decide (t.fields = [])) = true := by
  decide +kernel
/-- Straps 3 : 5, and eight samples that differ (R397). -/
theorem test_straps :
    Test.next (exec (.strapSample 0x185) (Test.started { Test.sd with samples := List.replicate 7 0x185 } 800000)) (fun t => decide (t.sd.nodeId = 5) && decide (t.sd.slotId = 3)) = true ∧
    Test.next (exec (.strapSample 0x185) (Test.started { Test.sd with samples := List.replicate 7 0x184 } 800000)) (fun t => decide (t.sd.nodeId = 0) && decide (Test.causes t = [0x5263])) = true ∧
    Test.next (exec (.strapSample 1) (Test.started { Test.sd with samples := [] } 99999)) (fun t => decide (t.sd.samples = [])) = true := by decide +kernel
/-- The boots, the regulator scan, and steps that overrun (R422, R424). -/
theorem test_cold_start :
    Test.next (exec (.wellheadBootComplete 0 Test.image.code Test.image.crc Test.asWritten) { Test.started { Test.sd with step := .at 2 } 9 with
      wh := { Test.pairUp with a := { Wellhead.reset with booting := true } }, flash := Test.flash [0x105] [(0x240001, 9000)] }) (fun t =>
      decide (t.sd.step = .at 5) && decide (t.wh.active = 0) && t.wh.standbyOk && decide (t.fw.dict = [(0x240001, 9000)]) && decide (t.fw.map = [(1, [5])])) = true ∧
    Test.next (exec (.wellheadBootComplete 0 Test.badImage.code Test.badImage.crc Test.asWritten) { Test.started { Test.sd with step := .at 2 } 9 with
      wh := { WellPair.reset with a := { Wellhead.reset with booting := true }, b := { Wellhead.reset with booting := true } } }) (fun t =>
      t.wh.a.failed && !t.wh.a.up && decide (t.sd.step = .at 2)) = true ∧
    Test.next (exec (.pmbusScanComplete [{ dev := 31, pages := 2, mode := 0x17, fault := false }] false) (Test.started { Test.sd with step := .at 5, samples := List.replicate 8 5, operational := false } 9)) (fun t =>
      t.sd.operational && decide (t.sd.step = .at 7) && decide (t.rd.state = .starting)) = true ∧
    Test.next (exec (.pmbusScanComplete [{ dev := 31, pages := 2, mode := 0x20, fault := false }] false) (Test.started { Test.sd with step := .at 5, samples := List.replicate 8 5, operational := false } 9)) (fun t =>
      t.sd.operational && decide (t.sd.step = .failed 5 0x5273) && decide (Test.causes t = [0x5273])) = true ∧
    Test.next (exec (.startStepTimeout { step := 7, flash := Test.asWritten }) { Test.started { Test.sd with step := .at 7 } 2000000 with rd := { RingDomain.reset with state := .starting, tries := 1 } }) (fun t =>
      decide (t.rd.state = .off) && decide (t.sd.step = .failed 7 0x5274)) = true ∧
    Test.next (exec (.startStepTimeout { step := 1, flash := Test.asWritten }) (Test.started { Test.sd with step := .at 1 } 1000000)) (fun t => decide (t.sd.stepAt = 1000000) && decide (t.sd.step = .at 1)) = true ∧
    Test.next (exec (.startStepTimeout { step := 2, flash := Test.asWritten }) { Test.started { Test.sd with step := .at 2 } 6000000 with
      wh := { WellPair.reset with a := { Wellhead.reset with booting := true }, b := { Wellhead.reset with booting := true } } }) (fun t =>
      t.wh.a.failed && t.wh.b.failed && decide (t.wh.bothDownAt = some 6000000)) = true ∧
    Test.next (exec (.startStepTimeout { step := 5, flash := Test.asWritten }) (Test.started { Test.sd with step := .at 5, samples := List.replicate 8 5, operational := false } 2000000)) (fun t =>
      t.sd.operational && decide (t.sd.step = .failed 5 0x5273)) = true := by decide +kernel
/-- The RD starts and the MDs follow a row every 0.5 ms; an MD ends ON at F15 (R411, R417, R422). -/
theorem test_domains :
    Test.next (exec (.rdStartComplete true) { Test.started { Test.sd with step := .at 7 } 1000 with rd := { RingDomain.reset with state := .starting } }) (fun t =>
      decide (t.rd.state = .on) && decide (t.sd.step = .at 8) && decide ((t.field 71).clk.startAt = 351000) && decide ((t.field 8).clk.startAt = 1000)) = true ∧
    Test.next (exec (.mdStartComplete 0 true) { Test.clocked { FieldClock.reset with md := .starting } 9 with sd := { Test.sd with coldCds := true } }) (fun t =>
      decide ((t.field 0).clk.md = .on) && decide ((t.field 0).clk.fstate = 15) && decide ((t.field 0).clk.cd = .starting)) = true ∧
    Test.next (exec (.mdStartComplete 0 false) (Test.clocked { FieldClock.reset with md := .starting, mdTries := 1 } 9)) (fun t =>
      decide (t.sd.step = .failed 8 0x5275) && decide (Test.causes t = [0x5275])) = true ∧
    Test.next (exec (.cdStartTimeout 0) (Test.clocked { FieldClock.reset with md := .on, cd := .starting, cdAt := some 0 } 2000000)) (fun t =>
      decide ((t.field 0).clk.cd = .off) && decide ((t.field 0).clk.repair = .degraded) && decide (Test.causes0 t = [0x5276])) = true := by decide +kernel
/-- A state in which a CD starts and row 0 is dead whatever the fuses are: the list has two of its columns (R37, R420). -/
theorem test_dead_row :
    ∃ s : State, s.deadField 0 = true ∧ s.partOf 0 = none ∧ (s.field 0).clk.cd = .starting ∧ (s.field 0).clk.cdAt = some 0 := by
  refine ⟨{ Test.clocked { FieldClock.reset with md := .on, cd := .starting, cdAt := some 0 } 9 with fw := { Firmware.reset with map := [(0, [3, 7])] } }, ?_, by decide +kernel, by decide +kernel, by decide +kernel⟩
  refine List.any_eq_true.mpr ⟨0, by decide, ?_⟩
  have h : Tab.read [(0, [3, 7])] [] (rowKey 0 0) = [3, 7] := by decide
  simp only [State.deadRow, State.badCols, decide_eq_true_eq, h]
  split <;> simp
/-- A field without runtime entries has no dead row under any fuse map. -/
theorem test_no_dead_row :
    (Test.clocked { FieldClock.reset with md := .on, cd := .starting, cdAt := some 0 } 9).deadField 0 = false := by
  refine List.any_eq_false.mpr ?_
  intro r _
  have h : Tab.read (Test.clocked { FieldClock.reset with md := .on, cd := .starting, cdAt := some 0 } 9).fw.map [] (rowKey 0 r) = [] := rfl
  simp only [State.deadRow, State.badCols, h, decide_eq_true_eq]
  by_cases hc : Config.fuseCol 0 r % 64 < 33 <;> simp [hc]
/-- A press resets compute, is counted as it ends, long from 4 s on, and masks the button at 60 s (R404 to R406). -/
theorem test_button :
    Test.next (exec .rstBtnPressBegin (Test.started Test.sd 50)) (fun t => decide ((t.field 0).clk.md = .reset) && decide (t.sd.button = { state := 1, since := 50 })) = true ∧
    Test.next (exec (.rstBtnPressEnd Test.asWritten) (Test.started { Test.sd with button := { state := 1, since := 50 } } 400000050)) (fun t =>
      decide (t.sd.lastReset = 2) && decide (t.sd.warmCount = 1) && decide ((t.field 0).clk.md = .starting)) = true ∧
    Test.next (exec (.rstBtnPressEnd Test.asWritten) (Test.started { Test.sd with button := { state := 1, since := 50 } } 400000049)) (fun t => decide (t.sd.lastReset = 1)) = true ∧
    Test.next (exec .buttonStuck (Test.started { Test.sd with button := { state := 1, since := 0 } } 6000000000)) (fun t => decide (t.sd.button.state = 2) && decide (Test.causes t = [0x5261])) = true := by
  decide +kernel
/-- Coolant loss with the controller running and frozen, the backup timer, and the restart (R398, R467 to R469). -/
theorem test_coolant :
    Test.next (exec .flowLossDeclare (Test.started Test.sd 9)) (fun t => decide ((t.field 0).clk.md = .off) && t.sd.flowStop && decide (Test.causes t = [0x5293])) = true ∧
    Test.next (exec .flowLossDeclare { Test.started Test.sd 9 with wh := WellPair.reset }) (fun t => decide ((t.field 0).clk.md = .on) && t.sd.lossOwed && decide (Test.causes t = [])) = true ∧
    Test.next (exec .coolantBackupTimeout (Test.started { Test.sd with backup := some 0 } 2000000)) (fun t => decide ((t.field 0).clk.md = .off) && t.sd.flowHw) = true ∧
    Test.next (exec .flowRestoreDeclare (Test.started { Test.sd with flowOk := false } 9)) (fun t => t.sd.flowOk) = true ∧
    Test.next (exec .coolantRestart (Test.started { Test.sd with flowStop := true } 9)) (fun t => !t.sd.flowStop && decide ((t.field 9).clk.startAt = 50009)) = true := by decide +kernel
/-- REFCLK lost and back, and a PLL that unlocks (R427, R428). -/
theorem test_clock_loss :
    Test.next (exec .refclkLost (Test.started Test.sd 9)) (fun t => decide ((t.field 0).clk.md = .reset) && decide (t.rd.state = .reset) && !t.sd.refclkOk && decide (Test.causes t = [0x5270])) = true ∧
    Test.next (exec .refclkRestore (Test.started { Test.sd with refclkOk := false } 9)) (fun t => t.sd.refclkOk && decide (t.sd.step = .at 7) && decide (t.rd.state = .starting)) = true ∧
    Test.next (exec (.pllUnlock 0) (Test.started Test.sd 9)) (fun t => decide ((t.field 0).clk.md = .starting) && decide (Test.causes t = [0x5271])) = true := by decide +kernel
/-- An F-state change begins at its TSTAMP and completes 20 µs later, the held one next (R412 to R414). -/
theorem test_fstate :
    Test.next (exec .fstateChangeBegin (Test.clocked { Test.field.clk with nextCmds := [(3, 100)] } 100)) (fun t => decide ((t.field 0).clk.change = some (3, 100))) = true ∧
    Test.next (exec .fstateChangeBegin (Test.clocked { Test.field.clk with nextCmds := [(3, 100)] } 99)) (fun t => decide ((t.field 0).clk.change = none)) = true ∧
    Test.next (exec .fstateChangeBegin (Test.clocked { Test.field.clk with nextCmds := [(3, 100)], change := some (2, 50) } 100)) (fun t => decide ((t.field 0).clk.heldReq = some (3, 100))) = true ∧
    Test.next (exec .fstateChangeComplete (Test.clocked { Test.field.clk with change := some (2, 50), heldReq := some (3, 100) } 2050)) (fun t =>
      decide ((t.field 0).clk.fstate = 2) && decide ((t.field 0).clk.change = some (3, 2051)) && decide (Tab.read t.totals 0 0x230401 = 1)) = true := by decide +kernel

namespace Test

/-- A pair whose active has changed state, with a queued write. -/
def epochState (sb : Bool) : State :=
  { live Port.reset with tstamp := 100000, wh := { pairUp with changed := true, standbyOk := sb }, fw := { Firmware.reset with wq := [{ write 0x2400 1 9 4 with step := .queued }] } }
/-- Epoch `n` as the mirror link brings it, its body empty. -/
def words (n : Nat) : EpochWords := { header := n <<< 32, body := [], commit := n <<< 32 + crc32 (toBytes 8 (n <<< 32)) }
/-- An epoch has been sent. -/
def sentState (n : Nat) : State := { live Port.reset with wh := { pairUp with epoch := n, sent := some (n, Firmware.reset) } }

end Test

/-- An epoch is closed, sent, applied, acknowledged and committed; out of sequence or corrupt it is not applied (R355, R507, R508). -/
theorem test_epochs :
    Test.next (exec .epochClose (Test.epochState true)) (fun t => decide (t.wh.epoch = 1) && decide (t.fw.wq.map (fun r => r.step) = [.mirrored 1]) && t.wh.sent.isSome) = true ∧
    Test.next (exec .epochClose (Test.epochState false)) (fun t => decide (t.wh.committed = 1) && decide (t.fw.wq.map (fun r => r.step) = [.committed]) && t.wh.sent.isNone) = true ∧
    Test.next (exec (.epochReceive (Test.words 1)) (Test.sentState 1)) (fun t => decide (t.wh.applied = 1) && decide (t.wh.acked = some 1)) = true ∧
    Test.next (exec (.epochReceive (Test.words 2)) (Test.sentState 2)) (fun t => t.wh.resync && !t.wh.standbyOk) = true ∧
    Test.next (exec (.epochReceive { Test.words 1 with commit := 0 }) (Test.sentState 1)) (fun t => decide (t.wh.applied = 0) && t.wh.sent.isNone) = true ∧
    Test.next (exec .epochAck { Test.wrote 0x2400 1 9 4 (Test.live Port.reset) with wh := { Test.pairUp with acked := some 1, epoch := 1 }, fw := { Firmware.reset with wq := [{ Test.write 0x2400 1 9 4 with step := .mirrored 1 }] } })
      (fun t => decide (t.wh.committed = 1) && decide (t.fw.wq.map (fun r => r.step) = [.committed])) = true := by decide +kernel
/-- The token moves, and with no standby both are down (R509, R514). -/
theorem test_token :
    Test.next (exec .heartbeatLossTimeout (Test.started Test.sd 250000)) (fun t => decide (t.wh.active = 1) && decide (t.wh.takeover = some 250000) && !t.wh.a.up) = true ∧
    Test.next (exec .heartbeatLossTimeout (Test.started Test.sd 249999)) (fun t => decide (t.wh.active = 0)) = true ∧
    Test.next (exec .wellheadWatchdogExpiry (Test.live Port.reset)) (fun t => decide (t.wh.active = 1)) = true ∧
    Test.next (exec .wellheadMemoryError { Test.live Port.reset with wh := { Test.pairUp with standbyOk := false } }) (fun t => !t.wh.a.up && !t.wh.b.up && !t.sd.operational && decide (t.wh.bothDownAt = some 0)) = true := by
  decide +kernel
/-- The takeover, heartbeats, the standby lost and back, and both down (R357, R511, R513, R514). -/
theorem test_pair :
    Test.next (exec .wellheadTakeover { Test.wrote 0x2400 1 9 4 (Test.live Port.reset) with wh := { Test.pairUp with active := 1, takeover := some 0 } }) (fun t =>
      decide (t.wh.takeover = none) && decide (Test.causes t = [0x52A0]) && decide (t.fw.wq.map (fun r => r.tko) = [true]) && decide (t.setting 0x2010 4 = 1)) = true ∧
    Test.next (exec (.wellheadHeartbeat 1) (Test.started Test.sd 44)) (fun t => decide (t.wh.b.lastBeat = 44)) = true ∧
    Test.next (exec .standbyLost (Test.started Test.sd 250000)) (fun t => !t.wh.standbyOk && t.wh.b.booting && decide (Test.causes t = [0x52A1])) = true ∧
    Test.next (exec (.wellheadRestartBoot 1 Test.image) { Test.live Port.reset with wh := { Test.pairUp with standbyOk := false, b := { Wellhead.reset with booting := true } } }) (fun t => t.wh.b.up && t.wh.resync) = true ∧
    Test.next (exec (.standbyResyncComplete (Test.words 1)) { Test.live Port.reset with wh := { Test.pairUp with standbyOk := false, resync := true } }) (fun t => t.wh.standbyOk && decide (t.wh.applied = 1)) = true ∧
    Test.next (exec .wellheadBootRetry { Test.started Test.sd 100000000 with wh := { WellPair.reset with bothDownAt := some 0 } }) (fun t => t.wh.a.booting && t.wh.b.booting) = true ∧
    Test.next (exec (.wellheadPairLost 1 Test.image Test.asWritten) { Test.started { Test.sd with step6 := true, operational := false } 9 with wh := { WellPair.reset with b := { Wellhead.reset with booting := true } } }) (fun t =>
      decide (t.wh.active = 1) && t.sd.operational && decide (Test.causes t = [0x52A3])) = true := by decide +kernel

namespace Test

/-- A record. -/
def rcd (q n ts cause : Nat) : FaultRec :=
  { ts := ts, cause := cause, scope := 2, id := q, task := none, queue := q, seq := n, info := 0, pc := 0, core := none, addr := 0 }

end Test

/-- Records are drained in order of TSTAMP (R494), and a lost core's position joins the list (R40). -/
theorem test_fault_drain :
    Test.next (exec .faultQueueDrain { Test.live Port.reset with fields := [(0, { Test.field with faults := { FaultQueue.empty with recs := [Test.rcd 0 0 9 0x3183] } })], sdFaults := { FaultQueue.empty with recs := [Test.rcd 73 0 5 0x5270] } })
      (fun t => decide (t.fw.log.map (fun r => r.cause) = [0x5270, 0x3183]) && decide (t.fw.writeCount = 2) && decide (t.setting 0x2901 1 = 0x3183) && decide (t.sdFaults.recs.length = 1)) = true := by decide +kernel
/-- A state in which firmware adds the position of a lost core. -/
theorem test_auto_add :
    ({ Test.live Port.reset with cores := [(0, { Core.reset with autoAdd := some 0x105 })] } : State).setting 0x2110 5 = 1 ∧
    ({ Test.live Port.reset with cores := [(0, { Core.reset with autoAdd := some 0x105 })] } : State).serving = true := by decide +kernel
/-- The thresholds of a sensor (R460 to R465). -/
theorem test_sensor :
    Test.next (exec (.sensorConversion 3 899) (Test.started Test.sd 9)) (fun t => decide (t.therm.state = 0) && decide (t.therm.temp = [(3, 899, 9)])) = true ∧
    Test.next (exec (.sensorConversion 3 900) (Test.started Test.sd 9)) (fun t => decide (t.therm.state = 1) && decide (Test.causes0 t = [0x5290])) = true ∧
    Test.next (exec (.sensorConversion 3 1000) (Test.clocked { Test.field.clk with fstate := 4 } 9)) (fun t => decide (t.therm.state = 2) && decide (Test.causes0 t = [0x5291]) && decide ((t.field 0).clk.change = some (15, 9))) = true ∧
    Test.next (exec (.sensorConversion 3 1100) { Test.started Test.sd 9 with therm := { Thermal.reset with state := 2 } }) (fun t =>
      t.sd.tripLatched && decide ((t.field 0).clk.md = .off) && decide (Test.causes t = [0x5292]) && decide (t.setting 0x2492 2 = 1)) = true ∧
    Test.next (exec (.sensorConversion 3 (-401)) (Test.started Test.sd 9)) (fun t => decide (t.therm.failed = [3]) && decide (Test.causes0 t = [0x5295])) = true ∧
    Test.next (exec (.sensorFault 3) { Test.started Test.sd 1009 with therm := { Thermal.reset with temp := [(3, 500, 9)] } }) (fun t => decide (t.therm.failed = [3])) = true := by decide +kernel
/-- Recovery, derating and ageing (R461 to R463, R470, R471). -/
theorem test_thermal_recovery :
    Test.next (exec .thermWarnClear { Test.started Test.sd 1000009 with therm := { Thermal.reset with state := 1, below87 := some 9 }, fw := { Firmware.reset with kstep := 4 } }) (fun t => decide (t.therm.state = 0) && decide (t.fw.kstep = 0)) = true ∧
    Test.next (exec .thermForcedClear { Test.started Test.sd 1000009 with therm := { Thermal.reset with state := 2, below95 := some 9 } }) (fun t => decide (t.therm.state = 1)) = true ∧
    Test.next (exec .derateStep { Test.started Test.sd 9 with therm := { Thermal.reset with state := 1, temp := [(3, 910, 9)] } }) (fun t => decide (t.fw.kstep = 2) && decide (t.therm.lastK = 10)) = true ∧
    Test.next (exec (.slackCheck 0 80) (Test.started Test.sd 9)) (fun t => decide (t.therm.lowOnce = []) && decide (Tab.read t.therm.slack 0 0 = 80)) = true ∧
    Test.next (exec (.slackCheck 0 79) (Test.started Test.sd 9)) (fun t => decide (t.therm.lowOnce = [0])) = true ∧
    Test.next (exec (.slackCheck 0 79) { Test.started Test.sd 9 with therm := { Thermal.reset with lowOnce := [0] } }) (fun t => decide (t.setting 0x24B0 1 = 5)) = true := by decide +kernel
/-- derate_step rises and falls with the hysteresis of R462. -/
theorem test_derate_step : derateStep 899 0 = 0 ∧ derateStep 900 0 = 1 ∧ derateStep 894 1 = 0 ∧ derateStep 895 1 = 1 ∧ derateStep 1200 0 = 10 := by decide +kernel
/-- Rails (R434). -/
theorem test_rails :
    Test.next (exec (.pmbusPoll [{ rail := 63, pout := .got 300, status := .got { warn := true, fault := false, off := false } }]) (Test.started Test.sd 9)) (fun t =>
      decide (t.power.rails = [(63, { pout := 300, at' := 9, fault := false })]) && decide (t.power.derate = some 9)) = true ∧
    Test.next (exec (.pmbusPoll [{ rail := 63, pout := .unread, status := .got { warn := true, fault := false, off := false } }]) { Test.started Test.sd 9 with
      power := { Power.reset with rails := [(63, { pout := 300, at' := 1, fault := false })] } }) (fun t =>
      decide (t.power.rails = [(63, { pout := 300, at' := 1, fault := false })]) && decide (t.power.derate = some 9)) = true ∧
    Test.next (exec (.pmbAlert [(1, .got { warn := false, fault := true, off := true })]) (Test.started Test.sd 9)) (fun t =>
      t.sd.vrStop && decide ((t.field 0).clk.md = .off) && decide (Test.causes t = [0x5280])) = true ∧
    Test.next (exec (.pmbAlert [(1, .failed)]) (Test.started Test.sd 9)) (fun t => decide (Test.causes t = [0x5284])) = true ∧
    Test.next (exec .vrDerateClear { Test.started Test.sd 5000009 with power := { Power.reset with derate := some 9 } }) (fun t => decide (t.power.derate = none)) = true := by decide +kernel
/-- The ceiling guard (R440). -/
theorem test_guard :
    Test.next (exec .ceilingGuardEngage { Test.started Test.sd 9 with power := { Power.reset with recent := List.replicate 10 20001 } }) (fun t =>
      decide ((t.field 0).clk.bub = 48) && decide (t.power.guard = some 9) && decide (Test.causes t = [0x5282])) = true ∧
    Test.next (exec .ceilingGuardRelease { Test.started Test.sd 2009 with power := { Power.reset with recent := List.replicate 10 18000, guard := some 9, saved := [(0, 8 * 128 + 5)] } }) (fun t =>
      decide ((t.field 0).clk.bub = 8) && decide ((t.field 0).clk.duty = 5) && decide (t.power.guard = none)) = true := by decide +kernel
/-- Droops (R452, R453). -/
theorem test_droop :
    Test.next (exec (.droopStretchBegin 0) (Test.started Test.sd 9)) (fun t => decide ((t.field 0).clk.stretch = some 9) && decide (Tab.read t.power.droops 0 0 = 1)) = true ∧
    Test.next (exec (.droopStretchEnd 0) (Test.clocked { Test.field.clk with stretch := some 9 } 19)) (fun t => decide ((t.field 0).clk.stretch = none)) = true ∧
    Test.next (exec (.droopSevere 0) (Test.clocked { Test.field.clk with stretch := some 9 } 1009)) (fun t => (t.field 0).clk.severe && decide (Test.causes0 t = [0x5281])) = true := by decide +kernel

namespace Test

/-- What a field did in a microsecond: 62,500 clocked core cycles. -/
def busy : Activity := { field := 0, tag := 0, clk := 62500, fill := 0, bank := 0, flit := 0, run := 0 }
/-- Partition 0 of field 0, running. -/
def running0 (w : Power) (now : Nat) : State := { live Port.reset with tstamp := now, power := w, parts := [(0, part)] }

end Test

/-- A clocked cycle takes 8 pJ at 800 mV (R429, R430): 62,500 of them are eight units of 1/16 µJ; and the tick counts. -/
theorem test_estimator :
    dynamicAt 1 800 Test.busy.pJ = 500000 ∧
    Test.next (exec (.estimatorTick [Test.busy] []) { Test.clocked FieldClock.reset 100 with rd := { RingDomain.reset with state := .on, pend := [(0, 7)], energy := [(0, 3)] } }) (fun t =>
      decide (t.power.ticks = 1) && decide (Tab.read t.rd.energy 0 0 = 10) && decide (Tab.read t.rd.pend 0 0 = 0)) = true := by decide +kernel
/-- A period with bubbles switched off; an epoch's learning, and its choice for an idle partition (R442, R445, R448). -/
theorem test_controller :
    ({ Test.running0 Power.reset 1000 with fw := { Firmware.reset with dict := [(objKey 0x2401 1, 0)] } } : State).setting 0x2401 1 = 0 ∧
    (Test.part.enabled = true ∧ (Test.running0 Power.reset 1000).serving = true ∧ 0 ∈ (Test.running0 Power.reset 1000).partFields 0) ∧
    Test.next (exec .controllerEpoch (Test.running0 { Power.reset with lastEpoch := { energy := [(1, 200000)], taskUs := [(1, 2)] } } 10000)) (fun t =>
      decide (t.learned 0 1 = 100)) = true ∧
    Test.next (exec .controllerEpoch { Test.running0 { Power.reset with lastEpoch := { energy := [(1, 200000)], taskUs := [(1, 2)] } } 10000 with fw := { Firmware.reset with learned := [(1, 180)] } }) (fun t =>
      decide (t.learned 0 1 = 170)) = true ∧
    bubbleTarget 100 50 0 = 32 ∧ bubbleStep 0 32 = 8 ∧ bubbleStep 48 32 = 40 ∧ dutyOf 1 3 0 = 21 := by decide +kernel
/-- Calibration within 10 % and outside it, and a forced window (R435, R436, R518). -/
theorem test_calibration :
    Test.next (exec .calibration { Test.started Test.sd 9 with power := { Power.reset with lastCal := some { meas := 1000, est := 1100, static := 600, skip := false } } }) (fun t =>
      decide (t.fw.gdyn = 4 / 5) && decide (t.setting 0x2430 1 = 1)) = true ∧
    Test.next (exec .calibration { Test.started Test.sd 9 with power := { Power.reset with lastCal := some { meas := 1000, est := 1101, static := 600, skip := false } } }) (fun t =>
      decide (t.fw.gdyn = 1) && decide (Test.causes t = [0x5283])) = true ∧
    Test.next (exec (.quietWindowForce 0) (Test.started Test.sd 10000000)) (fun t => decide ((t.field 0).clk.lastQuiet = 10000000) && decide (t.setting 0x2430 4 = 1)) = true := by decide +kernel
/-- A hint ends at its expiry; filler begins and decays (R446, R450). -/
theorem test_hint_filler :
    Test.next (exec (.hintExpiry 0 2) { Test.started Test.sd 9 with parts := [(0, { Test.part with hints := [{ pclass := 2, level := 5, expiry := 9 }, { pclass := 2, level := 5, expiry := 0 }] })] }) (fun t =>
      decide ((t.part 0).hints = [{ pclass := 2, level := 5, expiry := 0 }])) = true ∧
    Test.next (exec (.fillerDutyDecay 0) { Test.clocked { Test.field.clk with duty := 3 } 20200 with cores := [(0, { Core.reset with run := .filler, fillerCut := 1 })] }) (fun t => decide ((t.core 0).fillerCut = 2)) = true := by
  decide +kernel
/-- A row of a core is scrubbed; an uncorrectable word is recorded (R515, R516). -/
theorem test_scrub :
    Test.next (exec (.sramScrubRow 0 1 []) (Test.one { Core.reset with run := .idle })) (fun t => decide ((Tab.read (t.core 0).scrub Scrub.reset 1).due = 195300) && decide ((Tab.read (t.core 0).scrub Scrub.reset 1).row = 1)) = true ∧
    Test.next (exec (.forcedScrubCycle 0 1 [(7, true)]) { Test.one { Core.reset with run := .idle, scrub := [(1, { Scrub.reset with row := 2, due := 10 })] } with tstamp := 66 }) (fun t =>
      decide ((t.core 0).ue = [4096 + 16 + 7]) && decide (Test.causes0 t = [0x3183])) = true ∧
    Test.next (exec (.tableScrubSlot 0 []) (Test.live Port.reset)) (fun t => decide ((t.field 0).cis.scrub.row = 1) && decide ((t.field 0).cis.scrub.due = 1500)) = true ∧
    Test.next (exec (.tableScrubSlot 0 [(3, true)]) (Test.live Port.reset)) (fun t => decide ((t.field 0).cis.ue = [3]) && decide (Test.causes0 t = [0x3141])) = true := by decide +kernel

namespace Test

/-- A trace record. -/
def trec : TraceRec := { w0 := 1, w1 := 2, w2 := 3, w3 := 4 }
/-- Partition 0's destination at port 0, ring of 128 at 0x1000. -/
def dest : TraceDest := { TraceDest.reset with en := true, base := 0x1000, hdr := 0x800 }
/-- A started engine that traces. -/
def traced (d : TraceDest) (now : Nat) : State :=
  { live { Port.reset with linkUp := true } with
      tstamp := now, parts := [(0, part)], fw := { Firmware.reset with dict := [(objKey 0x2A00 1, 3)] }, rd := { RingDomain.reset with state := .on, traces := [(0, d)] } }

end Test

/-- An interval's end with no core in place leaves the field's record; the window's end drops what waits (R526, R527). -/
theorem test_statistics :
    Test.next (exec (.statsIntervalEnd 0) (Test.traced Test.dest 100009)) (fun t =>
      decide ((t.traceDest 0).statsAt = 100000) && decide ((t.field 0).obs.stats.map (fun x => (x.endTs, x.recs.length)) = some (100000, 1))) = true ∧
    Test.next (exec (.statsEmissionWindowEnd 0) { Test.traced Test.dest 200000 with fields := [(0, { Test.field with obs := { FieldObs.reset with stats := some { endTs := 100000, recs := [Test.trec] } } })] }) (fun t =>
      decide ((t.field 0).obs.stats = none) && decide ((t.field 0).obs.dropped = 1) && decide ((t.part 0).traceDropped = 1)) = true := by decide +kernel
/-- Records, PROD and CONS, and a DROP record (R528 to R530). -/
theorem test_trace_stream :
    Test.next (exec (.traceRecordWrite 0) { Test.traced { Test.dest with staging := [Test.trec] } 9 with fields := [] }) (fun t =>
      decide (t.hostOut = [.write 0 0x1000 (toBytes 8 1 ++ toBytes 8 2 ++ toBytes 8 3 ++ toBytes 8 4)]) && decide ((t.traceDest 0).index = 1)) = true ∧
    Test.next (exec (.traceProdWrite 0) (Test.traced { Test.dest with index := 5 } 9)) (fun t => decide (t.hostOut = [.write 0 0x800 (toBytes 4 5)])) = true ∧
    Test.next (exec (.traceConsRead 0 (.inr 4)) (Test.traced Test.dest 10000)) (fun t => decide ((t.traceDest 0).cons = 4)) = true ∧
    Test.next (exec (.traceConsRead 0 (.inl .abort)) (Test.traced Test.dest 10000)) (fun t => !(t.traceDest 0).en && (t.traceDest 0).readErr) = true ∧
    Test.next (exec (.traceDrop 0 0x7F) (Test.traced { Test.dest with dropped := 6 } 9)) (fun t => decide ((t.traceDest 0).staging.map (fun r => r.w3) = [6]) && decide ((t.traceDest 0).dropped = 0)) = true := by
  decide +kernel

/-! ### The queue, the bounds, and commands that name no unit -/

/-- A step takes the command at the front and leaves the rest; with none waiting a period of REFCLK passes (log entries 1 and 2). -/
theorem test_step :
    Test.next (step { State.reset with pending := [.porNRise, .rstBtnPressBegin] }) (fun t => decide (t.sd.state = .on) && decide (t.pending = [.rstBtnPressBegin])) = true ∧
    Test.next (step (Test.live Port.reset)) (fun t => decide (t.tstamp = 1)) = true := by decide +kernel
/-- A word spells no command (log entry 3). -/
theorem test_no_word : decodeTableWord 32 5 = none ∧ State.reset.withFetchWord 32 5 = State.reset := ⟨rfl, rfl⟩
/-- A state within the bounds with bytes in memory: the premise of `BoundsAreKept` is met, and a step of it answers a next state. -/
theorem test_within_bounds :
    Claims.WithinBounds { Test.at' 0x00611001 [] with pending := [.fail 0] } ∧
    Test.next (step { Test.at' 0x00611001 [] with pending := [.add 0] }) (fun t => decide ((t.core 0).pc = 0x100004)) = true := by
  refine ⟨⟨?_, ?_, ?_, ?_, ?_, by decide, by decide, ?_, ?_, ?_⟩, by decide +kernel⟩
  · intro c
    by_cases h : c = 0
    · subst h; rfl
    · simp [State.core, Test.at', Test.one, Tab.read, Ne.symm h]; rfl
  · intro c
    by_cases h : c = 0
    · subst h; decide
    · simp [State.core, Test.at', Test.one, Tab.read, Ne.symm h]; rfl
  all_goals
    intro f
    first
      | (by_cases h : f = 0
         · subst h; decide
         · simp [State.field, Test.at', Test.one, Tab.read, Ne.symm h]
           first | rfl | decide)
      | decide
      | (simp [State.traceDest, State.port, Test.at', Test.one, State.reset, RingDomain.reset, TraceDest.reset, Port.reset])
/-- The memories of the reset state are canonical. -/
theorem test_reset_memory : Memory.wf (State.reset.core 5).sram = true ∧ Memory.wf (State.reset.field 5).cis.mem = true := by decide
/-- Every check of well-formedness refuses a command that names a unit beyond the last, and accepts the last. -/
theorem test_ill_formed :
    [Instr.add 92160, .mdStartComplete 72 true, .dryWellDeclare 16, .startGraphDeferredCheck 4 0, .sqTail 0 16 0, .trainComplete 12 0 0 0, .linkFlitError 296 0 1,
     .portEnable true (.mailbox 4 0), .wellheadPairLost 2 Test.image Test.asWritten, .sensorConversion 654 0].map Instr.wellFormed = List.replicate 10 false ∧
    (Instr.pmbAlert [(64, .failed)]).wellFormed = false ∧
    [Instr.add 92159, .mdStartComplete 71 true, .dryWellDeclare 15, .startGraphDeferredCheck 3 0, .sqTail 3 15 0, .trainComplete 11 0 0 0, .linkFlitError 295 0 1,
     .portEnable true (.mailbox 3 3), .wellheadPairLost 1 Test.image Test.asWritten, .sensorConversion 653 0].map Instr.wellFormed = List.replicate 10 true := by decide
/-- An ill-formed command faults, whatever the state (log entry 6). -/
theorem test_ill_formed_faults (s : State) :
    exec (.add 92160) s = .fault .noSuchUnit ∧ exec (.mdStartComplete 72 true) s = .fault .noSuchUnit ∧ exec (.sensorConversion 654 0) s = .fault .noSuchUnit := ⟨rfl, rfl, rfl⟩
/-- An instruction of a core in another field: it changes its core only. -/
theorem test_stays_home :
    Claims.coreOf (.add 0) = some 0 ∧ Claims.coreOf .porNFall = none ∧
    Test.next (exec (.add 0) (Test.at' 0x00611001 [(1, 2)])) (fun t => decide (t.cores.length = 1) && decide (t.net = []) && decide (t.fields = [(0, Test.field)])) = true := by decide +kernel
/-- Core (33, 41) is core 1 of row 1 of field (1, 1) (R30, R31). -/
theorem test_fields_hold_cores :
    fieldOf (41 * 288 + 33) = 10 ∧ localOf (41 * 288 + 33) = 33 ∧ coreId 10 33 = 41 * 288 + 33 ∧ fieldOf 92159 = 71 ∧ localOf 92159 = 1279 := by decide
/-- Registers hold what is written to them, s0 nothing (R149). -/
theorem test_registers :
    (Core.reset.setS 0 7).sreg 0 = 0 ∧ (Core.reset.setS 31 (2 ^ 32 + 7)).sreg 31 = 7 ∧ ((Core.reset.setS 31 7).setS 30 8).sreg 31 = 7 ∧ (Core.reset.setV 31 9).vreg 31 = 9 ∧ (Core.reset.setT 7 9).treg 7 = 9 := by
  decide +kernel

/-! ### Every result instruction once, its word spelled from R152 to R163 -/

namespace Test

/-- Runs command `i` on core 0 at word `w` and shows register `n` and the program counter. -/
def ran (x : Instr × Nat × List (Nat × Word) × Nat × Nat × Nat) : Bool :=
  reg (exec x.1 (at' x.2.1 x.2.2.1)) x.2.2.2.1 x.2.2.2.2.1 x.2.2.2.2.2
/-- Runs a vector command with v1, v2, v5 and v3 as listed, lane 0, and shows lane 0 of v3. -/
def vran (x : Instr × Nat × Nat × Nat × Nat × Nat × Nat) : Bool :=
  next (exec x.1 (one { core x.2.1 [(1, 5)] with regs := { (core 0 [(1, 5)]).regs with v := [(1, x.2.2.1), (2, x.2.2.2.1), (3, x.2.2.2.2.2.1), (5, x.2.2.2.2.1)] } })) (fun t =>
    decide ((t.core 0).lane 3 0 = x.2.2.2.2.2.2))

end Test

/-- Arithmetic, logic, shifts, comparisons (R156). -/
theorem test_scalar_results :
    [(.sub 0, 0x00611002, [(1, 0x3), (2, 0x5)], 3, 0xFFFFFFFE, 0x100004),
     (.and 0, 0x00611003, [(1, 0xF0F0), (2, 0xFF)], 3, 0xF0, 0x100004),
     (.or 0, 0x00611004, [(1, 0xF0F0), (2, 0xFF)], 3, 0xF0FF, 0x100004),
     (.xor 0, 0x00611005, [(1, 0xF0F0), (2, 0xFF)], 3, 0xF00F, 0x100004),
     (.sll 0, 0x00611006, [(1, 0x3), (2, 0x21)], 3, 0x6, 0x100004),
     (.srl 0, 0x00611007, [(1, 0x80000000), (2, 0x1F)], 3, 0x1, 0x100004),
     (.slt 0, 0x00611009, [(1, 0xFFFFFFFF), (2, 0x1)], 3, 0x1, 0x100004),
     (.sltu 0, 0x0061100A, [(1, 0xFFFFFFFF), (2, 0x1)], 3, 0x0, 0x100004),
     (.minMax 0, 0x0061100C, [(1, 0xFFFFFFFF), (2, 0x1)], 3, 0x1, 0x100004),
     (.minMax 0, 0x0061100D, [(1, 0xFFFFFFFF), (2, 0x1)], 3, 0x1, 0x100004),
     (.minMax 0, 0x0061100E, [(1, 0xFFFFFFFF), (2, 0x1)], 3, 0xFFFFFFFF, 0x100004)].all Test.ran = true := by decide +kernel

/-- Products, counts and immediates (R156, R158). -/
theorem test_scalar_results2 :
    [(.mul 0, 0x00611010, [(1, 0x10001), (2, 0x10001)], 3, 0x20001, 0x100004),
     (.mulhu 0, 0x00611012, [(1, 0xFFFFFFFF), (2, 0xFFFFFFFF)], 3, 0xFFFFFFFE, 0x100004),
     (.clz 0, 0x00610018, [(1, 0x10000)], 3, 15, 0x100004),
     (.clz 0, 0x00610018, [], 3, 32, 0x100004),
     (.popc 0, 0x00610019, [(1, 0xF0F1)], 3, 9, 0x100004),
     (.andi 0, 0x08618001, [(1, 0xFFFFFFFF)], 3, 0x8001, 0x100004),
     (.ori 0, 0x0C618001, [(1, 0x10000)], 3, 0x18001, 0x100004),
     (.xori 0, 0x10618001, [(1, 0xFFFF)], 3, 0x7FFE, 0x100004),
     (.slti 0, 0x1861FFFF, [(1, 0x5)], 3, 0x0, 0x100004),
     (.shi 0, 0x14610004, [(1, 0x80000001)], 3, 0x10, 0x100004),
     (.shi 0, 0x14614004, [(1, 0x80000000)], 3, 0x8000000, 0x100004),
     (.shi 0, 0x14618004, [(1, 0x80000000)], 3, 0xF8000000, 0x100004)].all Test.ran = true := by decide +kernel

/-- Branches from word 0x100000 (R159). -/
theorem test_branch_results :
    [(.beq 0, 0x30220004, [(1, 0x7), (2, 0x7)], 1, 0x7, 0x100010),
     (.beq 0, 0x30220004, [(1, 0x7), (2, 0x8)], 1, 0x7, 0x100004),
     (.bne 0, 0x34227FFF, [(1, 0x7), (2, 0x8)], 1, 0x7, 0x11FFFC),
     (.blt 0, 0x38220002, [(1, 0xFFFFFFFF), (2, 0x0)], 1, 0xFFFFFFFF, 0x100008),
     (.bgeu 0, 0x44220002, [(1, 0xFFFFFFFF), (2, 0x0)], 1, 0xFFFFFFFF, 0x100008)].all Test.ran = true := by decide +kernel

/-- Floating-point lanes: exact results (R163, R188, R200). -/
theorem test_vector_float :
    [(.vsubf 0, 0x80611001, 0x3FC00000, 0x40000000, 0x0, 0x0, 0xBF000000),
     (.vmulf 0, 0x80611002, 0x3FC00000, 0xC0000000, 0x0, 0x0, 0xC0400000),
     (.vfmaf 0, 0x80611143, 0x40000000, 0x40400000, 0x3F800000, 0x0, 0x40E00000),
     (.vminf 0, 0x80611004, 0xBF800000, 0x40000000, 0x0, 0x0, 0xBF800000),
     (.vmaxf 0, 0x80611005, 0xBF800000, 0x40000000, 0x0, 0x0, 0x40000000),
     (.vcmpeqf 0, 0x80611006, 0x80000000, 0x0, 0x0, 0x0, 0xFFFFFFFF),
     (.vcmpltf 0, 0x80611007, 0x3F800000, 0x3F800000, 0x0, 0x0, 0x0),
     (.vcmplef 0, 0x80611008, 0x3F800000, 0x3F800000, 0x0, 0x0, 0xFFFFFFFF),
     (.vrcpf 0, 0x80610009, 0x40800000, 0x0, 0x0, 0x0, 0x3E800000),
     (.vrsqf 0, 0x8061000A, 0x40800000, 0x0, 0x0, 0x0, 0x3F000000),
     (.vexp2f 0, 0x8061000B, 0x40400000, 0x0, 0x0, 0x0, 0x41000000),
     (.vlog2f 0, 0x8061000C, 0x41000000, 0x0, 0x0, 0x0, 0x40400000),
     (.vdivf 0, 0x8061100D, 0x3F800000, 0x40800000, 0x0, 0x0, 0x3E800000),
     (.vsqrtf 0, 0x8061000E, 0x41100000, 0x0, 0x0, 0x0, 0x40400000)].all Test.vran = true := by decide +kernel

/-- Integer lanes, selection and moves (R163, R164). -/
theorem test_vector_results :
    [(.vaddi 0, 0x80611010, 0xFFFFFFFF, 0x2, 0x0, 0x0, 0x1),
     (.vsubi 0, 0x80611011, 0x1, 0x2, 0x0, 0x0, 0xFFFFFFFF),
     (.vmuli 0, 0x80611012, 0x10001, 0x10001, 0x0, 0x0, 0x20001),
     (.vand 0, 0x80611013, 0xF0F0, 0xFF, 0x0, 0x0, 0xF0),
     (.vor 0, 0x80611014, 0xF0F0, 0xFF, 0x0, 0x0, 0xF0FF),
     (.vxor 0, 0x80611015, 0xF0F0, 0xFF, 0x0, 0x0, 0xF00F),
     (.vsll 0, 0x80611016, 0x3, 0x21, 0x0, 0x0, 0x6),
     (.vsrl 0, 0x80611017, 0x80000000, 0x1F, 0x0, 0x0, 0x1),
     (.vsra 0, 0x80611018, 0x80000000, 0x1F, 0x0, 0x0, 0xFFFFFFFF),
     (.vmini 0, 0x80611019, 0xFFFFFFFF, 0x1, 0x0, 0x0, 0xFFFFFFFF),
     (.vcmpeqi 0, 0x8061101B, 0x5, 0x5, 0x0, 0x0, 0xFFFFFFFF),
     (.vcmplti 0, 0x8061101C, 0xFFFFFFFF, 0x0, 0x0, 0x0, 0xFFFFFFFF),
     (.vsel 0, 0x80611160, 0x7, 0x8, 0x80000000, 0x0, 0x7),
     (.vsel 0, 0x80611160, 0x7, 0x8, 0x0, 0x0, 0x8),
     (.vbcast 0, 0x80610021, 0x0, 0x0, 0x0, 0x0, 0x5),
     (.vins 0, 0x80610023, 0x0, 0x0, 0x0, 0x9, 0x5),
     (.vmov 0, 0x80610025, 0x4D, 0x0, 0x0, 0x0, 0x4D),
     (.vrsumf 0, 0x80610028, 0x40200000, 0x0, 0x0, 0x0, 0x40200000),
     (.vrminf 0, 0x8061002A, 0xC0200000, 0x0, 0x0, 0x0, 0xC0200000)].all Test.vran = true := by decide +kernel

namespace Test

/-- Core 0 with s1 = 0x200, bytes 0x55 and 0x80 below it, four words at it, and `w` to run. -/
def mem (w : Nat) : State :=
  one { core w [(1, 0x200), (3, 0xABCD)] with sram := Memory.setValue (Memory.setValue [] 0x1FE 2 0x8055) 0x200 16 0x44444444333333332222222211111111 }

end Test

/-- Loads: byte and half-word, both extensions, and four registers (R161). -/
theorem test_load_results :
    [(.lbu 0, 0x4C61FFFF, 3, 0x80),
     (.lh 0, 0x5061FFFE, 3, 0xFFFF8055),
     (.lhu 0, 0x5461FFFE, 3, 0x8055),
     (.lq 0, 0x60810000, 7, 0x44444444),
     (.lq 0, 0x60810000, 4, 0x11111111)].all (fun x : Instr × Nat × Nat × Nat => Test.reg (exec x.1 (Test.mem x.2.1)) x.2.2.1 x.2.2.2 0x100004) = true := by decide +kernel
/-- Stores enter the store buffer with their size and value (R129, R161). -/
theorem test_store_results :
    [(Instr.sb 0, 0x64610004, 1, 0xCD), (.sw 0, 0x6C610004, 4, 0xABCD)].all (fun x : Instr × Nat × Nat × Nat =>
      Test.next (exec x.1 (Test.mem x.2.1)) (fun t => decide ((t.core 0).sbuf.map (fun e => (e.addr, e.size, e.val)) = [(0x204, x.2.2.1, x.2.2.2)]) && decide ((t.core 0).pc = 0x100004))) = true := by
  decide +kernel
/-- A core asleep in AWAIT in an armed field runs filler (R449, R450); a write of an object without a row of its own is queued (R354). -/
theorem test_filler_enter :
    Test.next (exec (.fillerEnter 0) { Test.live Port.reset with cores := [(0, Test.asleep)], parts := [(0, { Test.part with graph := .running })], fields := [(0, { Test.field with clk := { Test.field.clk with duty := 3 } })], tstamp := 7 })
      (fun t => decide ((t.core 0).run = .filler) && decide ((t.core 0).fillerFrom = 7)) = true ∧
    Test.next (exec (.dictWrite (.mailbox 0 3)) (Test.live (Test.asked 2 2 0 0x2401 1 (toBytes 1 0)))) (fun t => decide (t.fw.wq.map (fun r => r.items) = [[(0x2401, 1, toBytes 1 0)]])) = true := by decide +kernel

/-! ### Later clauses -/

/-- An instruction whose word has a correctable error issues, the word written back and counted (R131, R384). -/
theorem test_fetch_correctable :
    (Test.one { Test.core 0x00611001 [(1, 5), (2, 3)] with ice := [0, 4] }).canIssue 0 = true ∧
    Test.next (exec (.add 0) (Test.one { Test.core 0x00611001 [(1, 5), (2, 3)] with ice := [0, 4] })) (fun t =>
      decide ((t.core 0).sreg 3 = 8) && decide ((t.core 0).ice = [4]) && decide (t.totals = [(1, 1)])) = true := by decide +kernel
/-- TDESC behind an MMA that cannot move waits in the mixer queue (R122). -/
theorem test_tdesc_waits :
    Test.next (exec (.tdesc 0) (Test.one { Test.core 0xA2820000 [(2, 0x00100100), (3, 0xC001C0F0)] with uq := [.recipe { block := [0x101540800000000, 0x1000000000000, 0x0, 0x1ffff00000021, 0x401c00000000000, 0xf000081100], pc := 0, rm := 0, satur := true, base := 0, mem := some [], slices := [], sent := 0, nth := 0, bad := none }] })) (fun t =>
      decide ((t.core 0).uq.length = 2) && decide ((t.core 0).pc = 0x100004) && decide ((t.core 0).regs.t = [])) = true := by decide +kernel
/-- A node whose own slot is bad fails as it is assigned, from READY with CORE unwritten or from STAGED (R83, R91). -/
theorem test_assign_bad :
    ({ Test.cis Test.waiting with ue := [8] } : Cistern).badStart 1 = some 8 ∧
    Test.next (exec (.taskAssign 0 1 { li := 31, readFirst := true }) (Test.graph { Test.cis { Test.waiting with state := .ready, firing := 1 } with pool := [0, 1], ue := [8] })) (fun t =>
      decide ((Claims.cis t 0).pool = [0]) && decide (((Claims.cis t 0).node 1).state = .failed) && decide (((Claims.cis t 0).node 1).cause = 0x3141) &&
      decide (((Claims.cis t 0).node 1).core = 0) && decide ((Claims.cis t 0).dispatched = 0)) = true ∧
    Test.next (exec (.taskAssign 0 1 { li := 31, readFirst := false }) (Test.graph { Test.cis { Test.waiting with state := .ready, firing := 1 } with pool := [0, 1], ue := [8] })) (fun t =>
      decide (((Claims.cis t 0).node 1).core = 31) && decide ((Claims.cis t 0).slot 31 = CoreSlot.idle) && decide ((Claims.cis t 0).dispatched = 1)) = true := by decide +kernel
/-- A read of output records ends bad for a RUNNING firing; for a completed one its records become ready (R73, R83). -/
theorem test_output_read_bad :
    ({ Test.cis { Test.running with outRead := .reading } with ue := [40] } : Cistern).badOut 1 = some 40 ∧
    Test.next (exec (.outputRecordReadEnd 0 1) (Test.graph { Test.cis { Test.running with outRead := .reading } with ue := [40] })) (fun t =>
      decide (((Claims.cis t 0).node 1).outRead = .bad) && bit (Claims.cis t 0).err 2) = true ∧
    Test.next (exec (.outputRecordReadEnd 0 1) (Test.graph { Test.cis { Test.running with outRead := .reading } with emit := [{ node := 1, ready := false, aflags := 5, task := 8, layerOper := 0, ts := 0, stopping := false, recs := [7] }] })) (fun t =>
      decide ((Claims.cis t 0).emit.map (fun e => e.ready) = [true])) = true := by decide +kernel
/-- CS_ERR and SX_ERR stand while the graph runs (R59, R92, R114). -/
theorem test_errors_kept :
    Test.next (exec (.csErrClear 0 3) (Test.graph { Test.cis Test.waiting with err := 3 })) (fun t => decide ((Claims.cis t 0).err = 3)) = true ∧
    Test.next (exec (.sxErrClear 0 3) { Test.graph Cistern.reset with fields := [(0, { Test.field with syn := { SyncUnit.reset with sxErr := 3 } })] }) (fun t =>
      decide ((t.field 0).syn.sxErr = 3)) = true := by decide +kernel
/-- Both ADVANCEs of one SCLK count before the registered WAIT is looked at (R98, R99). -/
theorem test_both_advances :
    Test.next (exec (.consumerAdvance { k := 0, other := some 1 }) { Test.pairOp { Test.pair 13 5 with waitP := some { core := 0, n := 7, tag := 9, task := 3 } } .advance true 8 with net := [Test.pk (.core 0) (.field 0) 0 true 3 9 (.syncOp .advance true 8 4095), Test.pk (.core 33) (.field 0) 0 false 3 9 (.syncOp .advance false 1 4095)] }) (fun t =>
      decide (t.pair 0 4095 = Test.pair 14 13) && decide (t.net.map (fun p => p.body) = [.syncAns 0 0 14 13])) = true ∧
    Test.next (exec (.pairWait { k := 0, other := none }) (Test.pairOp { Test.pair 12 5 with waitP := some { core := 0, n := 7, tag := 9, task := 3 } } .wait false 1)) (fun t =>
      decide (t.faultCount = 1) && decide (t.net.map (fun p => p.body) = [.syncAns 0x3163 0 0 0])) = true := by decide +kernel
/-- A packet of a reserved type, or with a reserved bit set, is discarded and counted (R9, R267). -/
theorem test_reserved_packet :
    Test.next (exec (.frameReceive 3 (Test.frame 0 6 0 (some (.head (Test.xp 12 0 0 0 0 []))))) (Test.sluice { Test.up with rxSeq := 6 })) (fun t =>
      decide ((t.sl 3).rxSeq = 7) && decide (t.rd.xin = []) && decide (Tab.read (t.sl 3).counters 0 0x40 = 1)) = true ∧
    Test.next (exec (.frameReceive 3 (Test.frame 0 6 0 (some (.head { Test.xp 1 0 0 0 0 [] with resv := 1 })))) (Test.sluice { Test.up with rxSeq := 6 })) (fun t =>
      decide ((t.sl 3).rxSeq = 7) && decide (t.rd.xin = []) && decide (Tab.read (t.sl 3).counters 0 0x40 = 1)) = true := by decide +kernel
/-- An RPDO with a value out of range is refused whole, with an EMCY and the refused object (R343). -/
theorem test_rpdo_refused :
    Test.next (exec (.rpdoReceive 0 [0, 200]) (Test.pdo 0x1400)) (fun t =>
      decide (t.fw.wq = []) && decide (t.can.emcy.map (fun e => (e.code, e.cause)) = [(0xFF00, 0x5230)]) && decide (Tab.read t.fw.refusals 0 1 = 0x5230 * 2 ^ 48 + 0x2401 * 2 ^ 32 + 2 * 2 ^ 24)) = true := by
  decide +kernel
/-- The first failure of the RD's start is retried, the second is its last (R422); a command for a field whose CD is not ON changes no F-state (R411). -/
theorem test_rd_start_fails :
    Test.next (exec (.rdStartComplete false) { Test.started { Test.sd with step := .at 7 } 9 with rd := { RingDomain.reset with state := .starting } }) (fun t =>
      decide (t.rd.state = .starting) && decide (t.rd.tries = 1) && decide (t.sd.stepAt = 9)) = true ∧
    Test.next (exec (.rdStartComplete false) { Test.started { Test.sd with step := .at 7 } 9 with rd := { RingDomain.reset with state := .starting, tries := 1 } }) (fun t =>
      decide (t.rd.state = .off) && decide (Test.causes t = [0x5274])) = true ∧
    Test.next (exec .fstateChangeBegin (Test.clocked { Test.field.clk with cd := .off, nextCmds := [(3, 100)] } 100)) (fun t =>
      decide ((t.field 0).clk = { Test.field.clk with cd := .off })) = true := by decide +kernel
/-- With 16 messages unacknowledged a finish-send waits and holds issue (R244). -/
theorem test_wait_under_limit :
    Claims.running (Test.wide { Test.core 0 [] with uq := [.recipe { block := Test.block, pc := 0x100000, rm := 0, satur := true, base := 0, mem := some (Test.blockMem Test.block), slices := [], sent := 0, nth := 0, bad := none }], nif := { NetIf.empty with unacked := List.replicate 16 Test.unacked } }) 0 { block := Test.block, pc := 0x100000, rm := 0, satur := true, base := 0, mem := some (Test.blockMem Test.block), slices := [], sent := 0, nth := 0, bad := none } [] ∧
    Test.next (exec (.finishSend 0) (Test.wide { Test.core 0 [] with uq := [.recipe { block := Test.block, pc := 0x100000, rm := 0, satur := true, base := 0, mem := some (Test.blockMem Test.block), slices := [], sent := 0, nth := 0, bad := none }], nif := { NetIf.empty with unacked := List.replicate 16 Test.unacked } })) (fun t => decide ((t.core 0).run = .sleepSend) && (t.core 0).finHold && decide (t.net = [])) = true :=
  ⟨⟨by decide +kernel, by decide +kernel, by decide +kernel, by decide +kernel⟩, by decide +kernel⟩
/-- A SEND with 16 messages unacknowledged sleeps (R244); a doorbell of a disabled ring is recorded and checked (R302, R306); a ring out of its turn fetches nothing (R303). -/
theorem test_turns :
    Test.next (exec (.send 0) (Test.wide { Test.core 0xC00110C0 [(1, 32), (2, 0x4FFF8), (3, 8)] with nif := { NetIf.empty with unacked := List.replicate 16 Test.unacked } })) (fun t =>
      decide ((t.core 0).run = .sleepSend) && decide ((t.core 0).pc = 0x100000) && decide (t.net = [])) = true ∧
    Test.next (exec (.sqTail 0 0 64) (Test.host .idle Cistern.reset (Test.port { Test.ring0 with en := false } []))) (fun t => ((t.port 0).ring 0).dbInvalid) = true ∧
    Test.next (exec (.cqHead 0 0 2) (Test.host .idle Cistern.reset (Test.port { Test.ring0 with en := false, cqHead := 63, cqTail := 66 } []))) (fun t =>
      decide (((t.port 0).ring 0).cqHead = 66)) = true ∧
    Test.next (exec (.commandFetch 0 0 (.inr [[1 <<< 56]])) (Test.host .idle Cistern.reset { Test.port { Test.ring0 with tail := 1 } [] with rings := [(0, { Test.ring0 with tail := 1 }), (1, { Test.ring0 with tail := 1 })], fetchTurn := 0 })) (fun t =>
      decide (((t.port 0).ring 0).fetched = [])) = true := by decide +kernel
/-- A sensor that has converted nothing 10 µs after its domain came on has failed (R460). -/
theorem test_sensor_never :
    Test.next (exec (.sensorFault 0) (Test.started Test.sd 1000)) (fun t => decide (t.therm.failed = [0])) = true ∧
    Test.next (exec (.sensorFault 0) (Test.started Test.sd 999)) (fun t => decide (t.therm.failed = [])) = true := by decide +kernel
end

section
/-! PROOFS. No operation of the model writes the queue of commands (log entry 2). One lemma for each operation over State, in the order of the model's files; an operation's lemma
rests on those of the operations it is made of. -/

namespace Sys2Proof.Machine

variable (s : State)

/-! ### Branches and folds -/

@[simp] theorem State.pending_ite (c : Prop) [Decidable c] (a b : State) :
    (if c then a else b).pending = if c then a.pending else b.pending := apply_ite State.pending c a b

/-- A fold whose every step keeps the queue keeps it. -/
@[simp] theorem foldl_pending {α : Type} (f : State → α → State) (l : List α) (s : State)
    (h : ∀ t a, (f t a).pending = t.pending) : (l.foldl f s).pending = s.pending := by
  induction l generalizing s with
  | nil => rfl
  | cons a r ih => rw [List.foldl_cons, ih, h]

/-- The same of a fold that carries a result beside the state. -/
theorem foldl_fst_pending {α β : Type} (f : State × β → α → State × β) (l : List α) (e : State × β)
    (h : ∀ e a, (f e a).1.pending = e.1.pending) : (l.foldl f e).1.pending = e.1.pending := by
  induction l generalizing e with
  | nil => rfl
  | cons a r ih => rw [List.foldl_cons, ih, h]

/-! ### Cores, fields, faults and packets -/

@[simp] theorem State.modField_pending (f : Nat) (g : Field → Field) : (s.modField f g).pending = s.pending := s.setField_pending f _
@[simp] theorem State.modPart_pending (p : Nat) (g : Part → Part) : (s.modPart p g).pending = s.pending := s.setPart_pending p _
@[simp] theorem State.modCis_pending (f : Nat) (g : Cistern → Cistern) : (s.modCis f g).pending = s.pending := s.modField_pending f _
@[simp] theorem State.modSyn_pending (f : Nat) (g : SyncUnit → SyncUnit) : (s.modSyn f g).pending = s.pending := s.modField_pending f _
@[simp] theorem State.engineFault_pending (cause info : Nat) : (s.engineFault cause info).pending = s.pending := s.report_pending _ _
@[simp] theorem State.fieldFault_pending (f cause info : Nat) : (s.fieldFault f cause info).pending = s.pending := s.report_pending _ _
@[simp] theorem State.partFault_pending (p f node cause : Nat) : (s.partFault p f node cause).pending = s.pending := s.report_pending _ _

@[simp] theorem State.portFault_pending (id cause info : Nat) : (s.portFault id cause info).pending = s.pending := by
  simp [State.portFault]

@[simp] theorem State.addFieldCtr_pending (f off n : Nat) : (s.addFieldCtr f off n).pending = s.pending := rfl

@[simp] theorem State.countUe_pending (f : Nat) (sp : UeSpace) (unit w : Nat) (task : Option DWord) :
    (s.countUe f sp unit w task).pending = s.pending := by
  unfold State.countUe
  split <;> simp

@[simp] theorem State.countFound_pending (f c : Nat) (l : List (UeSpace × Nat)) : (s.countFound f c l).pending = s.pending := by
  simp [State.countFound]

@[simp] theorem State.forgetUe_pending (f c : Nat) (old new : Core) : (s.forgetUe f c old new).pending = s.pending := by
  simp [State.forgetUe]

@[simp] theorem State.setCore_pending (c : Nat) (k : Core) : (s.setCore c k).pending = s.pending := by
  simp [State.setCore]

@[simp] theorem State.modCore_pending (c : Nat) (g : Core → Core) : (s.modCore c g).pending = s.pending := by
  simp [State.modCore]

@[simp] theorem State.finishFail_pending (c : Nat) : (s.finishFail c).pending = s.pending := by
  unfold State.finishFail
  dsimp only
  split <;> simp

@[simp] theorem State.trapCore_pending (c cause pc addr : Nat) (k : Core) : (s.trapCore c cause pc addr k).pending = s.pending := by
  simp [State.trapCore]

@[simp] theorem State.meetIce_pending (c w : Nat) : (s.meetIce c w).pending = s.pending := by
  simp [State.meetIce]

/-! ### Pair, barrier and event operations of a core -/

@[simp] theorem State.setArrival_pending (c i : Nat) (a : Arrival) : (s.setArrival c i a).pending = s.pending := s.modSyn_pending _ _

@[simp] theorem State.syncFault_pending (f bitNo cause index : Nat) (group : Bool) (who : Option (DWord × Nat)) :
    (s.syncFault f bitNo cause index group who).pending = s.pending := by
  simp [State.syncFault]

@[simp] theorem State.progress_pending (f : Nat) : (s.progress f).pending = s.pending := by
  unfold State.progress
  dsimp only
  split <;> simp

@[simp] theorem State.answerCore_pending (f c tag : Nat) (task : DWord) (b : Payload) : (s.answerCore f c tag task b).pending = s.pending := by
  simp [State.answerCore]

@[simp] theorem State.arrive_pending (c i tag : Nat) (task : DWord) : (s.arrive c i tag task).1.pending = s.pending := by
  unfold State.arrive
  split
  · dsimp only
    split <;> simp
  · dsimp only
    split <;> simp

@[simp] theorem State.await_pending (c i tag : Nat) (task : DWord) : (s.await c i tag task).pending = s.pending := by
  unfold State.await
  split <;> simp

@[simp] theorem State.commit_pending (c : Nat) : (s.commit c).pending = s.pending := by
  simp [State.commit]

@[simp] theorem State.leaveBlocking_pending (c : Nat) : (s.leaveBlocking c).pending = s.pending := by
  unfold State.leaveBlocking
  dsimp only
  split
  · rfl
  · split
    · rfl
    · split <;> simp

theorem State.recall_pending (c : Nat) (task : DWord) (cause : Nat) (t : State) (h : s.recall c task cause = some t) : t.pending = s.pending := by
  simp only [State.recall] at h
  split at h
  · injection h with h; rw [← h]
  · cases h

@[simp] theorem State.recall_getD_pending (c : Nat) (task : DWord) (cause : Nat) : ((s.recall c task cause).getD s).pending = s.pending := by
  cases h : s.recall c task cause with
  | none => rfl
  | some t => exact State.recall_pending _ _ _ _ _ h

@[simp] theorem State.applyIssue_pending (c : Nat) (r : Issue) : (s.applyIssue c r).pending = s.pending := by
  unfold State.applyIssue
  split <;> simp

@[simp] theorem State.wakeSync_pending (c : Nat) (b : Blocked) (a : SyncAnswer) : (s.wakeSync c b a).pending = s.pending := by
  simp only [State.wakeSync]
  split <;> simp only [State.trapCore_pending, State.setCore_pending]

/-! ### Settings and trace records -/

@[simp] theorem State.setDict_pending (i sub v : Nat) : (s.setDict i sub v).pending = s.pending := rfl
@[simp] theorem State.clearDict_pending (i sub : Nat) : (s.clearDict i sub).pending = s.pending := rfl
@[simp] theorem State.setTraceDest_pending (p : Nat) (t : TraceDest) : (s.setTraceDest p t).pending = s.pending := rfl
@[simp] theorem State.addRdCtr_pending (off n : Nat) : (s.addRdCtr off n).pending = s.pending := rfl
@[simp] theorem State.fieldDropped_pending (f p n : Nat) : (s.fieldDropped f p n).pending = s.pending := rfl

@[simp] theorem State.traceMake_pending (f kind layer oper : Nat) (task : DWord) (ts w3 : Nat) :
    (s.traceMake f kind layer oper task ts w3).pending = s.pending := by
  unfold State.traceMake
  split <;> simp

/-! ### Host commands in execution -/

@[simp] theorem State.modPort_pending (p : Nat) (g : Port → Port) : (s.modPort p g).pending = s.pending := s.setPort_pending p _

@[simp] theorem State.answerCmd_pending (p tag cause : Nat) (at' : Option Nat) : (s.answerCmd p tag cause at').pending = s.pending := by
  unfold State.answerCmd
  dsimp only
  split <;> simp

/-! ### Nodes and the graph of a partition -/

@[simp] theorem State.traceAt_pending (f n kind ts w3 : Nat) : (s.traceAt f n kind ts w3).pending = s.pending := by
  simp [State.traceAt]

@[simp] theorem State.traceNode_pending (f n kind w3 : Nat) : (s.traceNode f n kind w3).pending = s.pending := by
  simp [State.traceNode]

@[simp] theorem State.fireNode_pending (f n src : Nat) : (s.fireNode f n src).pending = s.pending := by
  simp [State.fireNode]

@[simp] theorem State.failQuiet_pending (f n cause : Nat) : (s.failQuiet f n cause).pending = s.pending := by
  simp [State.failQuiet]

@[simp] theorem State.failNode_pending (f n cause : Nat) : (s.failNode f n cause).pending = s.pending := by
  rw [State.failNode, State.failQuiet_pending, State.progress_pending]

@[simp] theorem State.freeRunning_pending (f li : Nat) : (s.freeRunning f li).pending = s.pending := rfl
@[simp] theorem State.freeStaged_pending (f li : Nat) : (s.freeStaged f li).pending = s.pending := rfl
@[simp] theorem State.toCore_pending (f li : Nat) (task : DWord) (b : Payload) : (s.toCore f li task b).pending = s.pending := rfl
@[simp] theorem State.mapQueue_pending (g : WriteReq → WriteReq) : (s.mapQueue g).pending = s.pending := rfl
@[simp] theorem State.leaveQueue_pending (hit : Requester → Bool) : (s.leaveQueue hit).pending = s.pending := rfl
@[simp] theorem State.voidTenant_pending (q : Nat) : (s.voidTenant q).pending = s.pending := rfl

@[simp] theorem State.endStops_pending (p : Nat) : (s.endStops p).pending = s.pending := by
  simp [State.endStops]

@[simp] theorem State.idlePart_pending (p : Nat) : (s.idlePart p).pending = s.pending := by
  simp [State.idlePart]

@[simp] theorem State.idleCheck_pending (p : Nat) : (s.idleCheck p).pending = s.pending := by
  simp [State.idleCheck]

@[simp] theorem State.idleCheckOf_pending (f : Nat) : (s.idleCheckOf f).pending = s.pending := by
  unfold State.idleCheckOf
  split <;> simp

@[simp] theorem State.stopField_pending (f : Nat) : (s.stopField f).pending = s.pending := by
  unfold State.stopField
  refine foldl_pending _ _ s fun t e => ?_
  cases e.2.running <;> cases e.2.staged <;> rfl

@[simp] theorem State.stopPartition_pending (p : Nat) : (s.stopPartition p).pending = s.pending := by
  simp [State.stopPartition]

@[simp] theorem State.stopFault_pending (f n cause : Nat) : (s.stopFault f n cause).pending = s.pending := by
  unfold State.stopFault
  split <;> simp

@[simp] theorem State.taskFault_pending (f li : Nat) (task : DWord) (cause pc addr : Nat) :
    (s.taskFault f li task cause pc addr).pending = s.pending := by
  simp [State.taskFault]

@[simp] theorem State.tableError_pending (f n w : Nat) : (s.tableError f n w).pending = s.pending := by
  simp [State.tableError]

/-! ### Losses on the mesh -/

@[simp] theorem State.loseAt_pending (k px py : Nat) (p : Packet) : (s.loseAt k px py p).pending = s.pending := by
  simp [State.loseAt]

@[simp] theorem State.lostMessage_pending (c tag : Nat) (task : DWord) (dst vc cause : Nat) (isMsg : Bool) :
    (s.lostMessage c tag task dst vc cause isMsg).pending = s.pending := by
  simp [State.lostMessage]

@[simp] theorem State.eventLost_pending (f node cause : Nat) : (s.eventLost f node cause).pending = s.pending := by
  simp [State.eventLost]

@[simp] theorem State.actLost_pending (p : Packet) (cause : Nat) (target : Agent) (what : Payload) :
    (s.actLost p cause target what).pending = s.pending := by
  unfold State.actLost
  split
  case h_3 =>
    dsimp only
    split_ifs
    · simp
    · simp
    · simp
    · split
      · next h => rw [State.recall_pending _ _ _ _ _ h, State.addFieldCtr_pending]
      · simp
  all_goals simp

/-! ### The task-graph scheduler -/

@[simp] theorem State.countCev_pending (f : Nat) : (s.countCev f).pending = s.pending := rfl

@[simp] theorem State.applyEvent_pending (f : Nat) (e : NodeEvent) : (s.applyEvent f e).pending = s.pending := by
  simp [State.applyEvent]

@[simp] theorem State.applyEvents_pending (f : Nat) (l : List NodeEvent) : (s.applyEvents f l).pending = s.pending := by
  simp [State.applyEvents]

@[simp] theorem State.takeMesh_pending (f : Nat) (mesh : Option Nat) : (s.takeMesh f mesh).1.pending = s.pending := by
  unfold State.takeMesh
  split
  · rfl
  · split
    · dsimp only; split <;> simp
    · rfl

@[simp] theorem State.complete_pending (f li n aflags : Nat) : (s.complete f li n aflags).pending = s.pending := by
  unfold State.complete
  dsimp only
  split
  · split
    · split
      · split <;> simp
      · split <;> simp
    · split
      · split <;> simp
      · split <;> simp
  · split
    · split <;> simp
    · split <;> simp

@[simp] theorem State.freeEnded_pending (f li : Nat) (task : DWord) : (s.freeEnded f li task).pending = s.pending := by
  simp [State.freeEnded]

@[simp] theorem State.sendXevent_pending (f q : Nat) (part : Option Nat) (task : DWord) (post : Option (DWord × Nat)) (rec : DWord) :
    (s.sendXevent f q part task post rec).pending = s.pending :=
    rfl

@[simp] theorem State.emitRecord_pending (f : Nat) (e : Emission) (rec : DWord) : (s.emitRecord f e rec).1.pending = s.pending := by
  unfold State.emitRecord
  dsimp only
  split
  · split <;> simp
  · split <;> simp
  · simp

@[simp] theorem State.dropWaits_pending (c : Nat) : (s.dropWaits c).pending = s.pending := rfl
@[simp] theorem State.abortCore_pending (f li : Nat) (task : DWord) : (s.abortCore f li task).pending = s.pending := rfl

@[simp] theorem State.restartNode_pending (f n : Nat) : (s.restartNode f n).pending = s.pending := by
  simp [State.restartNode]

@[simp] theorem State.declareLost_pending (f li reason : Nat) : (s.declareLost f li reason).pending = s.pending := by
  simp [State.declareLost]

/-! ### Cross-engine packets and barrier groups -/

@[simp] theorem State.syncRefresh_pending : s.syncRefresh.pending = s.pending := by
  simp [State.syncRefresh]

@[simp] theorem State.slError_pending (bitNo cause engine : Nat) : (s.slError bitNo cause engine).pending = s.pending := rfl

@[simp] theorem State.pump_pending (fuel p : Nat) : (s.pump fuel p).pending = s.pending := by
  induction fuel generalizing s with
  | zero => rfl
  | succ n ih =>
    unfold State.pump
    dsimp only
    split
    · rfl
    · split
      · rfl
      · rw [ih]; rfl

@[simp] theorem State.pumpAll_pending (p : Nat) : (s.pumpAll p).pending = s.pending := by
  simp [State.pumpAll]

@[simp] theorem State.xput_pending (p : Nat) (x : XPacket) : (s.xput p x).pending = s.pending := by
  simp [State.xput]

@[simp] theorem State.xlocal_pending (p : Nat) (x : XPacket) : (s.xlocal p x).pending = s.pending := rfl

@[simp] theorem State.xsendLast_pending (x : XPacket) : (s.xsendLast x).pending = s.pending := by
  unfold State.xsendLast
  split
  · rfl
  · split <;> simp

@[simp] theorem State.xfail_pending (x : XPacket) (cause : Nat) : (s.xfail x cause).pending = s.pending := by
  simp [State.xfail]

@[simp] theorem State.xsend_pending (x : XPacket) : (s.xsend x).pending = s.pending := by
  unfold State.xsend
  split
  · rfl
  · split <;> simp

@[simp] theorem State.setWell_pending (f g : Nat) (w : Well) : (s.setWell f g w).pending = s.pending := rfl

@[simp] theorem State.tree_pending (wf : Nat) (b : Payload) : (s.tree wf b).pending = s.pending := by
  unfold State.tree
  split <;> simp

@[simp] theorem State.engineArrival_pending (wf g : Nat) : (s.engineArrival wf g).pending = s.pending := by
  unfold State.engineArrival
  split <;> simp

@[simp] theorem State.wellRelease_pending (wf g : Nat) : (s.wellRelease wf g).pending = s.pending := by
  simp [State.wellRelease]

@[simp] theorem State.rootBroken_pending (job g cause : Nat) : (s.rootBroken job g cause).pending = s.pending := by
  simp [State.rootBroken]

@[simp] theorem State.breakLocal_pending (p g cause : Nat) : (s.breakLocal p g cause).pending = s.pending := by
  unfold State.breakLocal
  split <;> simp

@[simp] theorem State.breakOwn_pending (p g cause : Nat) : (s.breakOwn p g cause).pending = s.pending := by
  simp [State.breakOwn]

/-! ### Counter pairs and wells -/

@[simp] theorem State.setPair_pending (f i : Nat) (x : Pair) : (s.setPair f i x).pending = s.pending := rfl

@[simp] theorem State.answerWaiter_pending (f : Nat) (w : Waiter) (cause p c : Nat) : (s.answerWaiter f w cause p c).pending = s.pending := by
  simp [State.answerWaiter]

@[simp] theorem State.checkWaits_pending (f i : Nat) : (s.checkWaits f i).pending = s.pending := by
  unfold State.checkWaits
  dsimp only
  split
  · split <;> simp
  · split <;> simp

@[simp] theorem State.pairError_pending (f i cause bitNo : Nat) (who : Option (DWord × Nat)) :
    (s.pairError f i cause bitNo who).pending = s.pending := by
  unfold State.pairError
  dsimp only
  split
  · split <;> simp
  · split <;> simp

@[simp] theorem State.pairSat_pending (f i : Nat) : (s.pairSat f i).pending = s.pending := by
  simp [State.pairSat]

@[simp] theorem State.refuseOp_pending (f c : Nat) (p : Packet) (cause : Nat) : (s.refuseOp f c p cause).pending = s.pending := by
  simp [State.refuseOp]

@[simp] theorem State.advancePair_pending (o : PairOp) : (s.advancePair o).pending = s.pending := by
  simp [State.advancePair]

@[simp] theorem State.waitPair_pending (o : PairOp) : (s.waitPair o).pending = s.pending := by
  simp [State.waitPair]

@[simp] theorem State.clearPair_pending (o : PairOp) : (s.clearPair o).pending = s.pending := by
  simp [State.clearPair]

@[simp] theorem State.readPair_pending (o : PairOp) : (s.readPair o).pending = s.pending := by
  simp [State.readPair]

@[simp] theorem State.applyPairOps_pending (l : List PairOp) : (s.applyPairOps l).pending = s.pending := by
  simp [State.applyPairOps]

@[simp] theorem State.takeBoth_pending (k : Nat) (j : Option Nat) : (s.takeBoth k j).pending = s.pending := by
  unfold State.takeBoth
  split <;> simp

@[simp] theorem State.countArrival_pending (wf g : Nat) : (s.countArrival wf g).pending = s.pending := by
  simp [State.countArrival]

@[simp] theorem State.wakeAwait_pending (c cause : Nat) : (s.wakeAwait c cause).pending = s.pending := by
  simp [State.wakeAwait]

@[simp] theorem State.releaseCore_pending (c g : Nat) : (s.releaseCore c g).pending = s.pending := by
  simp [State.releaseCore]

/-! ### The deadlock detector -/

@[simp] theorem State.snapField_pending (p f : Nat) : (s.snapField p f).pending = s.pending := s.modSyn_pending _ _

@[simp] theorem State.dryField_pending (f : Nat) : (s.dryField f).pending = s.pending := by
  simp [State.dryField]

/-! ### Registers reached by fabric accesses -/

@[simp] theorem stepsFrom_pending (i n : Nat) (g : State → Nat → State) (h : ∀ t j, (g t j).pending = t.pending) :
    (stepsFrom s i n g).pending = s.pending := by
  simp [stepsFrom, h]

@[simp] theorem State.fieldCtlWrite_pending (f o v : Nat) : (s.fieldCtlWrite f o v).pending = s.pending := by
  unfold State.fieldCtlWrite
  split_ifs
  · rfl
  · exact stepsFrom_pending _ _ _ _ fun _ _ => rfl
  · rfl
  · split <;> rfl

@[simp] theorem State.writeRoute_pending (e v : Nat) : (s.writeRoute e v).pending = s.pending := by
  simp [State.writeRoute]

@[simp] theorem State.writeCw_pending (g v : Nat) : (s.writeCw g v).1.pending = s.pending := by
  unfold State.writeCw
  split <;> simp

@[simp] theorem State.setLock_pending (p : Nat) (l : FreqLock) : (s.setLock p l).pending = s.pending := rfl

@[simp] theorem State.writeFl_pending (p v : Nat) : (s.writeFl p v).1.pending = s.pending := by
  unfold State.writeFl
  split <;> simp

@[simp] theorem State.sensorsOn_pending (d : Nat) : (s.sensorsOn d).pending = s.pending := rfl
@[simp] theorem State.hostWrite_pending (p a : Nat) (data : List Byte) : (s.hostWrite p a data).pending = s.pending := rfl

@[simp] theorem State.dropTrace_pending (p : Nat) : (s.dropTrace p).pending = s.pending := by
  simp [State.dropTrace]

@[simp] theorem State.traceDisable_pending (p : Nat) : (s.traceDisable p).pending = s.pending := by
  simp [State.traceDisable]

@[simp] theorem State.traceEnable_pending (p : Nat) : (s.traceEnable p).pending = s.pending := by
  simp [State.traceEnable]

@[simp] theorem State.traceWrite_pending (p w v : Nat) : (s.traceWrite p w v).pending = s.pending := by
  unfold State.traceWrite
  split <;> simp

@[simp] theorem State.engineCtlWrite_pending (o v : Nat) : (s.engineCtlWrite o v).1.pending = s.pending := by
  unfold State.engineCtlWrite
  simp only [apply_ite Prod.fst, State.pending_ite, State.writeCw_pending, State.writeFl_pending, State.traceWrite_pending,
    State.modRd_pending, ite_self, foldl_pending _ _ s fun _ _ => State.writeRoute_pending ..]

/-! ### Fabric accesses -/

@[simp] theorem State.countRead_pending (a len : Nat) : (s.countRead a len).pending = s.pending := by
  unfold State.countRead
  split <;> simp

@[simp] theorem writeWords_pending (off : Nat) (data : List Byte) (g : State → Nat → Nat → State) (h : ∀ t o v, (g t o v).pending = t.pending) :
    (writeWords s off data g).pending = s.pending := by
  simp [writeWords, h]

@[simp] theorem State.fabStore_pending (a : Nat) (data : List Byte) : (s.fabStore a data).pending = s.pending := by
  unfold State.fabStore
  split
  · exact State.modCore_pending ..
  · exact State.modCore_pending ..
  · exact writeWords_pending _ _ _ _ fun _ _ _ => rfl
  · exact writeWords_pending _ _ _ _ fun _ _ _ => State.fieldCtlWrite_pending ..
  · rfl

@[simp] theorem State.fabMake_pending (p : Packet) (kind : FabricKind) (a len : Nat) (data : List Byte) :
    (s.fabMake p kind a len data).pending = s.pending := by
  unfold State.fabMake
  split
  · simp
  · split <;> simp

/-! ### The start of a graph -/

@[simp] theorem State.startGraph_pending (p : Nat) : (s.startGraph p).pending = s.pending := by
  unfold State.startGraph
  refine (foldl_pending _ _ _ fun t f => foldl_pending _ _ _ fun u n => ?_).trans (foldl_pending _ _ s fun _ _ => rfl)
  split
  · exact State.fireNode_pending ..
  · rfl

/-! ### Command rings -/

@[simp] theorem State.hostRead_pending (p n : Nat) : (s.hostRead p n).pending = s.pending := rfl
@[simp] theorem State.setCmd_pending (p i : Nat) (c : Cmd) : (s.setCmd p i c).pending = s.pending := rfl

@[simp] theorem State.haltRing_pending (p : Nat) (c : Cmd) : (s.haltRing p c).pending = s.pending := by
  simp [State.haltRing]

@[simp] theorem State.flush_pending (p r : Nat) : (s.flush p r).pending = s.pending := rfl

@[simp] theorem State.finishCmd_pending (p i : Nat) (c : Cmd) : (s.finishCmd p i c).pending = s.pending := by
  simp [State.finishCmd]

@[simp] theorem State.startCmd_pending (p r : Nat) (sel : List Nat → Bool) (eff : State → Ring → Cmd → State × Cmd) (h : ∀ t y c, (eff t y c).1.pending = t.pending) :
    (s.startCmd p r sel eff).pending = s.pending := by
  unfold State.startCmd
  dsimp only
  split
  · rfl
  · split
    · rfl
    · rw [State.modPort_pending]
      split
      · rfl
      · exact h _ _ _

/-! ### Transfers -/

@[simp] theorem State.beginPage_pending (p ctx page : Nat) (c : Cmd) : (s.beginPage p ctx page c).1.pending = s.pending := by
  unfold State.beginPage
  dsimp only
  split
  · split <;> simp
  · split
    · simp
    · split <;> simp

@[simp] theorem State.hostPut_pending (p : Nat) (c : Cmd) (off : Nat) (data : List Byte) : (s.hostPut p c off data).pending = s.pending := by
  unfold State.hostPut
  split
  · rfl
  · exact foldl_pending _ _ _ fun _ _ => rfl

@[simp] theorem State.fabSend_pending (p : Nat) (c : Cmd) (a len : Nat) (kind : FabricKind) (data : List Byte) :
    (s.fabSend p c a len kind data).1.pending = s.pending := by
  unfold State.fabSend
  exact foldl_fst_pending _ _ _ fun t e => by simp

@[simp] theorem State.xcopySend_pending (p : Nat) (c : Cmd) (off : Nat) (data : List Byte) : (s.xcopySend p c off data).1.pending = s.pending := by
  simp [State.xcopySend]

@[simp] theorem State.ectlPut_pending (c : Cmd) (a : Nat) (data : List Byte) : (s.ectlPut c a data).1.pending = s.pending := by
  unfold State.ectlPut
  exact foldl_fst_pending _ _ _ fun _ _ => State.engineCtlWrite_pending ..

@[simp] theorem State.issueCmd_pending (p : Nat) (c : Cmd) : (s.issueCmd p c).1.pending = s.pending := by
  unfold State.issueCmd
  split
  · rfl
  · split
    · dsimp only
      split <;> simp
    · rfl

@[simp] theorem State.beginTransfer_pending (p : Nat) (y : Ring) (c : Cmd) : (s.beginTransfer p y c).1.pending = s.pending := by
  simp only [State.beginTransfer, State.issueCmd_pending]
  refine foldl_fst_pending _ _ _ fun t e => ?_
  split <;> simp

@[simp] theorem State.imageRead_pending (p : Nat) (c : Cmd) : (s.imageRead p c).1.pending = s.pending := by
  unfold State.imageRead
  dsimp only
  split
  · rfl
  · exact foldl_fst_pending _ _ _ fun e c => State.fabSend_pending ..

@[simp] theorem State.dataIn_pending (p : Nat) (c : Cmd) (off : Nat) (data : List Byte) : (s.dataIn p c off data).1.pending = s.pending := by
  unfold State.dataIn
  split
  · dsimp only
    split <;> simp
  · simp
  · simp
  · dsimp only
    split <;> simp

/-! ### Host commands without data -/

@[simp] theorem State.checkGraph_pending (q : Nat) (c : Cmd) : (s.checkGraph q c).1.pending = s.pending := by
  unfold State.checkGraph
  split <;> simp

@[simp] theorem State.invalidate_pending (p : Nat) (c : Cmd) : (s.invalidate p c).1.pending = s.pending := rfl

/-! ### Completion records -/

@[simp] theorem State.putRecord_pending (p r : Nat) (e : Record) : (s.putRecord p r e).pending = s.pending := by
  rw [State.putRecord, State.modPort_pending, State.hostWrite_pending]

@[simp] theorem State.putNote_pending (p r : Nat) (e : Record) : (s.putNote p r e).pending = s.pending := by
  rw [State.putNote, State.modPort_pending, State.putRecord_pending]

@[simp] theorem State.dropMailbox_pending (p : Nat) : (s.dropMailbox p).pending = s.pending := rfl

/-! ### REFCLK periods -/

@[simp] theorem State.tick_pending (adv : Nat) : (s.tick adv).pending = s.pending := by
  simp [State.tick]

/-! ### Sluice ports -/

@[simp] theorem State.portEmpty_pending (p : Nat) (st : PortState) : (s.portEmpty p st).pending = s.pending := by
  simp [State.portEmpty]

@[simp] theorem State.portDown_pending (p : Nat) : (s.portDown p).pending = s.pending := by
  simp [State.portDown]

@[simp] theorem State.sendBare_pending (p ftype ackSeq : Nat) : (s.sendBare p ftype ackSeq).pending = s.pending := rfl

@[simp] theorem State.portTrain_pending (p : Nat) : (s.portTrain p).pending = s.pending := by
  simp [State.portTrain]

@[simp] theorem State.portOff_pending (p : Nat) : (s.portOff p).pending = s.pending := by
  simp [State.portOff]

@[simp] theorem State.freeBuffer_pending (p : Nat) (x : XPacket) : (s.freeBuffer p x).pending = s.pending := by
  simp [State.freeBuffer]

@[simp] theorem State.xreceived_pending (p : Nat) (x : XPacket) : (s.xreceived p x).pending = s.pending := by
  simp [State.xreceived]

@[simp] theorem State.flitIn_pending (p : Nat) (f : Flit) : (s.flitIn p f).pending = s.pending := by
  unfold State.flitIn
  split <;> simp

@[simp] theorem State.frameBad_pending (p : Nat) : (s.frameBad p).pending = s.pending := by
  simp [State.frameBad]

@[simp] theorem State.replayAll_pending (p : Nat) : (s.replayAll p).pending = s.pending := by
  simp [State.replayAll]

@[simp] theorem State.xdiscard_pending (p : Nat) : (s.xdiscard p).pending = s.pending := by
  simp [State.xdiscard]

@[simp] theorem State.groupProgress_pending (job g : Nat) : (s.groupProgress job g).pending = s.pending := by
  unfold State.groupProgress
  split <;> simp

@[simp] theorem State.stopOf_pending (f : Nat) : (s.stopOf f).pending = s.pending := by
  unfold State.stopOf
  split <;> simp

@[simp] theorem State.xeventLost_pending (f tag cause : Nat) : (s.xeventLost f tag cause).pending = s.pending := by
  unfold State.xeventLost
  dsimp only
  split
  · split <;> simp
  · rfl

@[simp] theorem State.tsStep_pending : s.tsStep.pending = s.pending := rfl

@[simp] theorem State.schedule_pending (p f t : Nat) : (s.schedule p f t).pending = s.pending := by
  simp [State.schedule]

/-! ### Power domains and partitions -/

@[simp] theorem State.modClk_pending (f : Nat) (g : FieldClock → FieldClock) : (s.modClk f g).pending = s.pending := s.modField_pending f _

@[simp] theorem State.issuePart_pending (p n t : Nat) : (s.issuePart p n t).pending = s.pending := by
  simp [State.issuePart]

@[simp] theorem State.askPart_pending (p : Nat) : (s.askPart p).pending = s.pending := by
  simp [State.askPart]

@[simp] theorem State.unplanCd_pending (f : Nat) : (s.unplanCd f).pending = s.pending := by
  unfold State.unplanCd
  split <;> simp

@[simp] theorem State.cdOff_pending (f : Nat) : (s.cdOff f).pending = s.pending := by
  simp [State.cdOff]

@[simp] theorem State.cdStart_pending (f : Nat) : (s.cdStart f).pending = s.pending := by
  simp [State.cdStart]

@[simp] theorem State.mdStart_pending (f t tries : Nat) : (s.mdStart f t tries).pending = s.pending := rfl

@[simp] theorem State.startFields_pending : s.startFields.pending = s.pending := by
  unfold State.startFields
  split
  · rfl
  · exact foldl_pending _ _ _ fun _ _ => State.mdStart_pending ..

@[simp] theorem State.warmReset_pending (st : DomState) : (s.warmReset st).pending = s.pending := by
  simp only [State.warmReset]
  rw [foldl_pending _ _ _ fun t p => State.modPort_pending t p _]
  rw [foldl_pending _ _ _ fun t f => State.modField_pending t f _]
  simp only
  rw [foldl_pending _ _ _ State.cdOff_pending, foldl_pending _ _ _ State.idlePart_pending]

@[simp] theorem State.toStep_pending (k : Nat) : (s.toStep k).pending = s.pending := rfl

@[simp] theorem State.startCheck_pending : s.startCheck.pending = s.pending := by
  simp [State.startCheck]

@[simp] theorem State.unbindCmds_pending (q : Nat) : (s.unbindCmds q).pending = s.pending := by
  simp [State.unbindCmds]

@[simp] theorem State.clearPartDict_pending (q : Nat) : (s.clearPartDict q).pending = s.pending := by
  exact foldl_pending _ _ _ fun t i => State.clearDict_pending ..

@[simp] theorem State.forgetPower_pending (q : Nat) : (s.forgetPower q).pending = s.pending := rfl

@[simp] theorem State.disablePart_pending (q : Nat) : (s.disablePart q).pending = s.pending := by
  unfold State.disablePart
  simp [foldl_pending _ _ _ State.cdOff_pending]

@[simp] theorem State.degradedNow_pending (f : Nat) : (s.degradedNow f).pending = s.pending := by
  unfold State.degradedNow
  split <;> simp

@[simp] theorem State.degraded_pending (f : Nat) : (s.degraded f).pending = s.pending := by
  simp [State.degraded]

@[simp] theorem State.settleDegraded_pending : s.settleDegraded.pending = s.pending := by
  simp [State.settleDegraded]

@[simp] theorem State.setRect_pending (q v : Nat) : (s.setRect q v).pending = s.pending := by
  simp [State.setRect]

@[simp] theorem State.rebuildMap_pending (r : FlashRead) : (s.rebuildMap r).pending = s.pending := by
  simp [State.rebuildMap]

/-! ### Starts and warm restarts -/

@[simp] theorem State.coldReset_pending : s.coldReset.pending = s.pending := rfl

@[simp] theorem State.rdStarted_pending : s.rdStarted.pending = s.pending := by
  unfold State.rdStarted
  rw [State.syncRefresh_pending]
  refine (foldl_pending _ _ _ fun t p => ?_).trans ((foldl_pending _ _ _ fun t p => ?_).trans (foldl_pending _ _ _ fun t p => ?_))
  · split
    · exact State.portTrain_pending ..
    · rfl
  · split <;> rfl
  · rw [State.dropMailbox_pending, State.modPort_pending]

@[simp] theorem State.rdStop_pending (st : DomState) : (s.rdStop st).pending = s.pending := by
  exact foldl_pending _ _ _ fun t p => State.modSl_pending ..

@[simp] theorem State.failStart_pending (step cause : Nat) : (s.failStart step cause).pending = s.pending := rfl
@[simp] theorem State.rdStart_pending : s.rdStart.pending = s.pending := rfl

@[simp] theorem State.modWell_pending (w : Nat) (g : Wellhead → Wellhead) : (s.modWell w g).pending = s.pending := by
  simp [State.modWell]

@[simp] theorem State.bootBoth_pending : s.bootBoth.pending = s.pending := rfl
@[simp] theorem State.pmbSend_pending (l : List PmbOut) : (s.pmbSend l).pending = s.pending := rfl

@[simp] theorem State.readFlash_pending (r : FlashRead) : (s.readFlash r).pending = s.pending := by
  simp [State.readFlash]

@[simp] theorem State.bootsDone_pending (r : FlashRead) : (s.bootsDone r).pending = s.pending := by
  simp [State.bootsDone]

@[simp] theorem State.canSend_pending (id : Nat) (data : List Byte) : (s.canSend id data).pending = s.pending := by
  simp [State.canSend]

@[simp] theorem State.nmtBootUp_pending : s.nmtBootUp.pending = s.pending := by
  simp [State.nmtBootUp]

@[simp] theorem State.rdFailed_pending : s.rdFailed.pending = s.pending := by
  simp [State.rdFailed]

@[simp] theorem State.mdFailed_pending (f : Nat) : (s.mdFailed f).pending = s.pending := by
  simp [State.mdFailed]

@[simp] theorem State.releaseCores_pending (f : Nat) : (s.releaseCores f).pending = s.pending := by
  exact foldl_pending _ _ _ fun t li => rfl

@[simp] theorem State.cdDegraded_pending (f : Nat) (failed : Bool) : (s.cdDegraded f failed).pending = s.pending := by
  simp [State.cdDegraded]

@[simp] theorem State.restartFields_pending : s.restartFields.pending = s.pending := by
  unfold State.restartFields
  split <;> simp

@[simp] theorem State.pressEnd_pending (long : Bool) (r : FlashRead) : (s.pressEnd long r).pending = s.pending := by
  simp [State.pressEnd]

@[simp] theorem State.countStored_pending (i sub : Nat) : (s.countStored i sub).pending = s.pending := rfl

/-! ### What a dictionary write does -/

@[simp] theorem State.putSetting_pending (i sub v : Nat) : (s.putSetting i sub v).pending = s.pending := by
  simp [State.putSetting]

@[simp] theorem State.armConsumer_pending (k : Nat) : (s.armConsumer k).pending = s.pending := rfl

@[simp] theorem State.retrainUp_pending : s.retrainUp.pending = s.pending := by
  exact foldl_pending _ _ _ fun t p => by simp

@[simp] theorem State.setPortCtrl_pending (p v : Nat) : (s.setPortCtrl p v).pending = s.pending := by
  simp [State.setPortCtrl]

@[simp] theorem State.takeIds_pending : s.takeIds.pending = s.pending := by
  simp [State.takeIds]

@[simp] theorem State.repairAdd_pending (v : Nat) : (s.repairAdd v).pending = s.pending := by
  simp [State.repairAdd]

@[simp] theorem State.repairRemove_pending (v : Nat) : (s.repairRemove v).pending = s.pending := rfl

@[simp] theorem State.fieldRestart_pending (f : Nat) : (s.fieldRestart f).pending = s.pending := by
  simp [State.fieldRestart]

@[simp] theorem State.setDet_pending (b : Bool) : (s.setDet b).pending = s.pending := rfl

@[simp] theorem State.restoreSefiez_pending : s.restoreSefiez.pending = s.pending := by
  simp [State.restoreSefiez]

@[simp] theorem State.clearFaultLog_pending : s.clearFaultLog.pending = s.pending := rfl

@[simp] theorem State.buttonOverride_pending (r : FlashRead) : (s.buttonOverride r).pending = s.pending := by
  simp [State.buttonOverride]

@[simp] theorem State.setDryWindow_pending (q v : Nat) : (s.setDryWindow q v).pending = s.pending := rfl

@[simp] theorem State.setTraceCtrl_pending (q v : Nat) : (s.setTraceCtrl q v).pending = s.pending := by
  simp [State.setTraceCtrl]

@[simp] theorem State.applyWrite_pending (r : FlashRead) (i sub v : Nat) : (s.applyWrite r i sub v).pending = s.pending := by
  simp [State.applyWrite]

/-! ### Dictionary requests -/

theorem State.tryItems_pending (flash : FlashRead) (items : List (Nat × Nat × List Byte)) (t : State) (h : s.tryItems flash items = .inl t) :
    t.pending = s.pending := by
  induction items generalizing s with
  | nil => cases h; rfl
  | cons e r ih =>
    unfold State.tryItems at h
    split at h
    · cases h
    · rw [ih _ h, State.applyWrite_pending]

@[simp] theorem State.afterQueue_pending : s.afterQueue.pending = s.pending := by
  refine foldl_pending _ _ _ fun t r => ?_
  split
  · rfl
  · split
    · next h => exact State.tryItems_pending _ _ _ _ h
    · rfl

@[simp] theorem State.noteRefusal_pending (who : Requester) (cause i sub : Nat) (tko : Bool) :
    (s.noteRefusal who cause i sub tko).pending = s.pending := by
  unfold State.noteRefusal
  split <;> simp

@[simp] theorem State.usdoSend_pending (code i sub : Nat) (data : List Byte) : (s.usdoSend code i sub data).pending = s.pending := by
  simp [State.usdoSend]

@[simp] theorem State.usdoClose_pending : s.usdoClose.pending = s.pending := rfl
@[simp] theorem State.emcy_pending (e : Emcy) : (s.emcy e).pending = s.pending := rfl
@[simp] theorem State.emcyNow_pending (code cause : Nat) : (s.emcyNow code cause).pending = s.pending := rfl

@[simp] theorem State.respond_pending (who : Requester) (head seq abort cause : Nat) (tko : Bool) (data : List Byte) :
    (s.respond who head seq abort cause tko data).pending = s.pending := by
  unfold State.respond
  split <;> simp

@[simp] theorem State.refuse_pending (q : DictReq) (abort cause : Nat) : (s.refuse q abort cause).pending = s.pending := by
  simp [State.refuse]

@[simp] theorem State.enqueue_pending (who : Requester) (role : Role) (seq : Nat) (items : List (Nat × Nat × List Byte)) :
    (s.enqueue who role seq items).pending = s.pending :=
    rfl

@[simp] theorem State.submit_pending (who : Requester) (cls : Nat → Nat → Nat → Bool) : (s.submit who cls).pending = s.pending := by
  unfold State.submit
  split
  · rfl
  · split
    · rfl
    · split
      · rfl
      · split <;> simp

@[simp] theorem State.setHead_pending (r : WriteReq) : (s.setHead r).pending = s.pending := rfl

@[simp] theorem State.applyHead_pending (flash : FlashRead) (sel : List (Nat × Nat × List Byte) → Bool) :
    (s.applyHead flash sel).pending = s.pending := by
  unfold State.applyHead
  split
  · rfl
  · next r rest _ =>
    cases h : s.tryItems flash r.items with
    | inl t => simp [State.tryItems_pending _ _ _ _ h]
    | inr e => simp

@[simp] theorem State.ownWrite_pending (o : OwnRow) (apply : Bool) (who : Requester) (flash : FlashRead) :
    (s.ownWrite o apply who flash).pending = s.pending := by
  simp [State.ownWrite]

/-! ### CAN services -/

@[simp] theorem State.usdoAbort_pending (u : Usdo) (abort cause : Nat) : (s.usdoAbort u abort cause).pending = s.pending := by
  simp [State.usdoAbort]

@[simp] theorem State.usdoOpen_pending (u : Usdo) : (s.usdoOpen u).pending = s.pending := by
  unfold State.usdoOpen
  split <;> simp

@[simp] theorem State.nmtGo_pending (n : Nmt) : (s.nmtGo n).pending = s.pending := by
  simp [State.nmtGo]

@[simp] theorem State.reloadComm_pending : s.reloadComm.pending = s.pending := rfl

@[simp] theorem State.resetComm_pending : s.resetComm.pending = s.pending := by
  simp [State.resetComm]

/-! ### The service-processor pair -/

@[simp] theorem State.dropDrained_pending (l : List (Nat × Nat)) : (s.dropDrained l).pending = s.pending := by
  simp [State.dropDrained]

@[simp] theorem State.commitEpoch_pending (n : Nat) : (s.commitEpoch n).pending = s.pending := rfl

@[simp] theorem State.commitLocal_pending : s.commitLocal.pending = s.pending := by
  simp [State.commitLocal]

@[simp] theorem State.openEpoch_pending : s.openEpoch.pending = s.pending := rfl

@[simp] theorem State.wellFail_pending (w : Nat) : (s.wellFail w).pending = s.pending := by
  simp [State.wellFail]

@[simp] theorem State.standbyFail_pending (w : Nat) : (s.standbyFail w).pending = s.pending := by
  simp [State.standbyFail]

@[simp] theorem State.bothDown_pending : s.bothDown.pending = s.pending := rfl

@[simp] theorem State.moveToken_pending : s.moveToken.pending = s.pending := by
  simp [State.moveToken]

@[simp] theorem State.answerTakeover_pending : s.answerTakeover.pending = s.pending := by
  refine foldl_pending _ _ _ fun t who => ?_
  split <;> simp

@[simp] theorem State.settleLoss_pending : s.settleLoss.pending = s.pending := by
  simp [State.settleLoss]

@[simp] theorem State.drainRec_pending (r : FaultRec) : (s.drainRec r).pending = s.pending := by
  unfold State.drainRec
  split
  · dsimp only
    split <;> simp
  · dsimp only
    split <;> simp

/-! ### The energy estimator and the regulators -/

@[simp] theorem State.addEnergy_pending (f j units : Nat) : (s.addEnergy f j units).pending = s.pending := by
  unfold State.addEnergy
  split
  · rfl
  · split <;> simp

@[simp] theorem State.trimStatic_pending (f : Nat) (sample : Rat) : (s.trimStatic f sample).pending = s.pending := rfl
@[simp] theorem State.eventsTaken_pending : s.eventsTaken.pending = s.pending := rfl

@[simp] theorem State.fieldTick_pending (j : Nat) (acts : List Activity) (sensed : List (Nat × Nat)) (f : Nat) :
    (s.fieldTick j acts sensed f).pending = s.pending := by
  unfold State.fieldTick
  dsimp only
  split <;> simp

@[simp] theorem State.engineTick_pending (added : Tab Nat) : (s.engineTick added).pending = s.pending := rfl
@[simp] theorem State.setRail_pending (r : Nat) (x : Rail) : (s.setRail r x).pending = s.pending := rfl

@[simp] theorem State.readPout_pending (r : Nat) (x : BusRead Nat) : (s.readPout r x).pending = s.pending := by
  unfold State.readPout
  split <;> simp

@[simp] theorem State.readStatus_pending (codes : List Nat) (r : Nat) (x : BusRead RailStatus) : (s.readStatus codes r x).pending = s.pending := by
  unfold State.readStatus
  split <;> simp

@[simp] theorem State.setCtl_pending (f bub duty : Nat) : (s.setCtl f bub duty).pending = s.pending := by
  simp [State.setCtl]

/-! ### The budget controller -/

@[simp] theorem State.periodPart_pending (p : Nat) : (s.periodPart p).pending = s.pending := by
  simp [State.periodPart]

@[simp] theorem State.learn_pending (p c : Nat) : (s.learn p c).pending = s.pending := by
  simp [State.learn]

/-! ### Thermal protection -/

@[simp] theorem State.sensorFault_pending (i cause info : Nat) (sd : Bool) : (s.sensorFault i cause info sd).pending = s.pending := by
  simp [State.sensorFault]

@[simp] theorem State.forceAll_pending : s.forceAll.pending = s.pending := rfl

@[simp] theorem State.enterForced_pending (i : Nat) (t : Int) : (s.enterForced i t).pending = s.pending := by
  simp [State.enterForced]

@[simp] theorem State.trip_pending (i : Nat) (t : Int) : (s.trip i t).pending = s.pending := by
  rw [State.trip, State.sensorFault_pending, State.countStored_pending, State.modSd_pending, State.warmReset_pending]

@[simp] theorem State.trackBelow_pending : s.trackBelow.pending = s.pending := rfl

@[simp] theorem State.failSensor_pending (i : Nat) : (s.failSensor i).pending = s.pending := by
  simp [State.failSensor]

@[simp] theorem State.ageStep_pending (f : Nat) : (s.ageStep f).pending = s.pending := by
  unfold State.ageStep
  split
  · simp
  · dsimp only
    split
    · simp
    · split <;> simp

/-! ### Scrubbing, statistics and traces -/

@[simp] theorem State.scrubRow_pending (c bank : Nat) (found : List (Nat × Bool)) : (s.scrubRow c bank found).pending = s.pending := by
  simp [State.scrubRow]

@[simp] theorem State.scrubNode_pending (f n : Nat) : (s.scrubNode f n).pending = s.pending := by
  simp [State.scrubNode]

@[simp] theorem State.endInterval_pending (p f ts : Nat) (make part : Bool) : (s.endInterval p f ts make part).pending = s.pending := by
  simp [State.endInterval]

@[simp] theorem State.stage_pending (p : Nat) (l : List TraceRec) : (s.stage p l).pending = s.pending := by
  simp [State.stage]

@[simp] theorem State.chain_pending (p f : Nat) : (s.chain p f).pending = s.pending := by
  simp [State.chain]

@[simp] theorem State.writeRecs_pending (p n : Nat) : (s.writeRecs p n).pending = s.pending := by
  induction n generalizing s with
  | zero => rfl
  | succ n ih =>
    unfold State.writeRecs
    dsimp only
    split
    · rfl
    · simp [ih]

end Sys2Proof.Machine
end

section
/-! PROOFS. The outcome of every command keeps the queue (log entry 2): first the guards that commands share, then a lemma for each command that is not covered by its guard alone. -/

namespace Sys2Proof.Machine

/-! ### Outcomes and guards -/

/-- If an outcome goes on, it goes on to a state with the queue of `s`. -/
def KeepsQueue (s : State) (o : Out) : Prop := ∀ t, o = .next t → t.pending = s.pending

@[simp] theorem keepsQueue_next (s t : State) : KeepsQueue s (.next t) ↔ t.pending = s.pending := by
  simp [KeepsQueue]
@[simp] theorem keepsQueue_fault (s : State) (r : Fault) : KeepsQueue s (.fault r) := by
  simp [KeepsQueue]

theorem keepsQueue_if_next {P : Prop} [Decidable P] {s t : State} {r : Fault} (h : t.pending = s.pending) :
    KeepsQueue s (if P then .next t else .fault r) := by
  split <;> simp [h]

theorem keepsQueue_if_fault {P : Prop} [Decidable P] {s t : State} {r : Fault} (h : t.pending = s.pending) :
    KeepsQueue s (if P then .fault r else .next t) := by
  split <;> simp [h]

section
variable {s : State} {g : State → State} (h : (g s).pending = s.pending)
include h

theorem onCore_keepsQueue {c : Nat} : KeepsQueue s (onCore c s g) := keepsQueue_if_next h
theorem onField_keepsQueue {f : Nat} : KeepsQueue s (onField f s g) := keepsQueue_if_next h
theorem onPart_keepsQueue {p : Nat} : KeepsQueue s (onPart p s g) := keepsQueue_if_next h
theorem onPort_keepsQueue {p : Nat} : KeepsQueue s (onPort p s g) := keepsQueue_if_next h
theorem onRing_keepsQueue {p r : Nat} : KeepsQueue s (onRing p r s g) := keepsQueue_if_next h
theorem onSluice_keepsQueue {p : Nat} : KeepsQueue s (onSluice p s g) := keepsQueue_if_next h
theorem onLink_keepsQueue {px py dir : Nat} : KeepsQueue s (onLink px py dir s g) := keepsQueue_if_next h

theorem onWho_keepsQueue {who : Requester} : KeepsQueue s (onWho who s g) := by
  unfold onWho
  split
  · exact keepsQueue_if_next h
  · simp [h]

end

theorem State.xtake_keepsQueue {k ty : Nat} {s : State} {g : State → Nat → XPacket → State} (h : ∀ t p x, (g t p x).pending = t.pending) :
    KeepsQueue s (s.xtake k ty g) := by
  unfold State.xtake
  rw [keepsQueue_next]
  split
  · simp [h]
  · rfl

/-! ### Instructions of a core and operations on a pair -/

theorem issue_keepsQueue (op : CoreOp) (c : Nat) (s : State) (run : State → Core → Nat → Issue) :
    KeepsQueue s (issue op c s run) := by
  refine onCore_keepsQueue ?_
  dsimp only
  split
  · split
    · exact State.trapCore_pending ..
    · split
      · simp
      · split
        · split <;> simp
        · simp
  · rfl

theorem issueBlocking_keepsQueue (op : CoreOp) (c : Nat) (s : State) (check : Core → Nat → Option Nat) (names : Nat → List Nat)
    (mk : Nat → BlockOp) : KeepsQueue s (issueBlocking op c s check names mk) := by
  unfold issueBlocking
  split
  · next h => simp [issue_keepsQueue _ _ _ _ _ h]
  · exact issue_keepsQueue _ _ _ _

theorem pairStep_keepsQueue (op : SyncKind) (side : Bool → Bool) (k : Nat) (other : Option Nat) (s : State) :
    KeepsQueue s (pairStep op side k other s) := by
  unfold pairStep
  rw [keepsQueue_next]
  split
  · rfl
  · split
    · rfl
    · split <;> simp

/-! ### Memory events of a core -/

theorem execStoreBufferDrain_keepsQueue (c : Nat) (s : State) : KeepsQueue s (execStoreBufferDrain c s) := by
  refine onCore_keepsQueue ?_
  dsimp only
  split <;> simp

theorem execEccWriteBack_keepsQueue (c bank : Nat) (s : State) : KeepsQueue s (execEccWriteBack c bank s) := by
  refine onCore_keepsQueue ?_
  dsimp only
  split <;> simp

/-! ### Recipes -/

theorem execRecipeRunFault_keepsQueue (c : Nat) (s : State) : KeepsQueue s (execRecipeRunFault c s) := by
  refine onCore_keepsQueue ?_
  dsimp only
  split
  · rfl
  · split <;> simp

theorem execRecipeArrivalSlice_keepsQueue (c : Nat) (s : State) : KeepsQueue s (execRecipeArrivalSlice c s) := by
  refine onCore_keepsQueue ?_
  dsimp only
  split
  · rfl
  · split
    · rfl
    · split <;> simp

theorem execFinishSend_keepsQueue (c : Nat) (s : State) : KeepsQueue s (execFinishSend c s) := by
  refine onCore_keepsQueue ?_
  dsimp only
  split <;> simp

theorem execRecipeFinish_keepsQueue (c : Nat) (s : State) : KeepsQueue s (execRecipeFinish c s) := by
  refine onCore_keepsQueue ?_
  dsimp only
  split <;> simp

/-! ### Pair, barrier and event operations of a core -/

theorem execOutboundEntryLeave_keepsQueue (c : Nat) (s : State) : KeepsQueue s (execOutboundEntryLeave c s) := by
  refine onCore_keepsQueue ?_
  dsimp only
  split
  · rfl
  · split
    · rfl
    · split <;> simp

theorem execSyncAnswer_keepsQueue (i : Nat) (s : State) : KeepsQueue s (execSyncAnswer i s) := by
  unfold execSyncAnswer
  rw [keepsQueue_next]
  split
  · rfl
  · split
    · dsimp only
      split
      · simp
      · split
        · split <;> simp
        · split
          · simp
          · split <;> simp
    · rfl

theorem execRefusalDelivery_keepsQueue (c : Nat) (s : State) : KeepsQueue s (execRefusalDelivery c s) := by
  refine onCore_keepsQueue ?_
  dsimp only
  split
  · rfl
  · split
    · rfl
    · split <;> simp

theorem execCoreWake_keepsQueue (c : Nat) (s : State) : KeepsQueue s (execCoreWake c s) := by
  refine onCore_keepsQueue ?_
  dsimp only
  split
  · rfl
  · split
    · split
      · split <;> simp
      · rfl
    · split
      · split <;> simp
      · rfl
    · simp
    · simp
    · rfl

theorem execTaskStart_keepsQueue (c : Nat) (s : State) : KeepsQueue s (execTaskStart c s) := by
  refine onCore_keepsQueue ?_
  dsimp only
  split
  · rfl
  · split
    · rfl
    · rw [State.inject_pending, foldl_pending _ _ _ fun t i => State.setArrival_pending t c i _, State.setCore_pending]

theorem execEndCompletionSend_keepsQueue (c : Nat) (s : State) : KeepsQueue s (execEndCompletionSend c s) := by
  refine onCore_keepsQueue ?_
  simp

theorem execWithdrawRequest_keepsQueue (i : Nat) (s : State) : KeepsQueue s (execWithdrawRequest i s) := by
  unfold execWithdrawRequest
  rw [keepsQueue_next]
  split
  · rfl
  · split <;> simp

theorem execAbortRequest_keepsQueue (i : Nat) (s : State) : KeepsQueue s (execAbortRequest i s) := by
  unfold execAbortRequest
  rw [keepsQueue_next]
  split
  · rfl
  · split <;> simp

/-! ### Losses on the mesh -/

theorem execMessageAccept_keepsQueue (k : Nat) (s : State) : KeepsQueue s (execMessageAccept k s) := by
  unfold execMessageAccept
  rw [keepsQueue_next]
  split
  · rfl
  · split <;> simp

theorem execAck_keepsQueue (k : Nat) (s : State) : KeepsQueue s (execAck k s) := by
  unfold execAck
  rw [keepsQueue_next]
  split
  · rfl
  · split
    · dsimp only
      split
      · simp
      · split <;> simp
    · simp
    · rfl

theorem execCreditReq_keepsQueue (k : Nat) (s : State) : KeepsQueue s (execCreditReq k s) := by
  unfold execCreditReq
  rw [keepsQueue_next]
  split
  · rfl
  · split
    · split
      · rfl
      · dsimp only
        split <;> simp
    · rfl

theorem execCreditGrant_keepsQueue (k : Nat) (s : State) : KeepsQueue s (execCreditGrant k s) := by
  unfold execCreditGrant
  rw [keepsQueue_next]
  split
  · rfl
  · split
    · split
      · dsimp only
        split
        · simp
        · split <;> simp
      · dsimp only
        split
        · simp
        · split <;> simp
    · rfl

theorem execCreditReturn_keepsQueue (k : Nat) (s : State) : KeepsQueue s (execCreditReturn k s) := by
  unfold execCreditReturn
  rw [keepsQueue_next]
  split
  · rfl
  · split <;> simp

theorem execCreditEntryIdleTimeout_keepsQueue (c i : Nat) (s : State) : KeepsQueue s (execCreditEntryIdleTimeout c i s) := by
  refine onCore_keepsQueue ?_
  dsimp only
  split <;> simp

theorem execCreditBusyRetry_keepsQueue (c i : Nat) (s : State) : KeepsQueue s (execCreditBusyRetry c i s) := by
  refine onCore_keepsQueue ?_
  dsimp only
  split
  · rfl
  · split <;> simp

theorem execLostCoreCreditReturn_keepsQueue (c : Nat) (s : State) : KeepsQueue s (execLostCoreCreditReturn c s) := by
  refine onCore_keepsQueue ?_
  simp

theorem execLost_keepsQueue (k : Nat) (s : State) : KeepsQueue s (execLost k s) := by
  unfold execLost
  rw [keepsQueue_next]
  split
  · rfl
  · split <;> simp

theorem execMsgUnreachable_keepsQueue (k : Nat) (s : State) : KeepsQueue s (execMsgUnreachable k s) := by
  unfold execMsgUnreachable
  rw [keepsQueue_next]
  split
  · rfl
  · split
    · split
      · rfl
      · split <;> simp
    · rfl

theorem execMsgAckTimeout_keepsQueue (c i : Nat) (s : State) : KeepsQueue s (execMsgAckTimeout c i s) := by
  refine onCore_keepsQueue ?_
  dsimp only
  split <;> simp

theorem execPacketReservedDiscard_keepsQueue (f : Nat) (h : HeaderWords) (s : State) : KeepsQueue s (execPacketReservedDiscard f h s) := by
  refine onField_keepsQueue ?_
  simp

theorem execLinkFlitError_keepsQueue (px py dir : Nat) (s : State) : KeepsQueue s (execLinkFlitError px py dir s) := by
  refine onLink_keepsQueue ?_
  simp

theorem execLinkResendRequest_keepsQueue (px py dir : Nat) (s : State) : KeepsQueue s (execLinkResendRequest px py dir s) := by
  refine onLink_keepsQueue ?_
  simp

theorem execMeshLinkDown_keepsQueue (px py dir : Nat) (held : List Nat) (s : State) : KeepsQueue s (execMeshLinkDown px py dir held s) := by
  refine onLink_keepsQueue ?_
  dsimp only
  split
  · rfl
  · split <;> simp

theorem execDownLinkPacketLost_keepsQueue (px py dir k : Nat) (s : State) : KeepsQueue s (execDownLinkPacketLost px py dir k s) := by
  refine onLink_keepsQueue ?_
  split <;> simp

/-! ### The task-graph scheduler -/

theorem execCisternEventAccept_keepsQueue (f k : Nat) (s : State) : KeepsQueue s (execCisternEventAccept f k s) := by
  refine onField_keepsQueue ?_
  simp

theorem execOverflowChainAdvance_keepsQueue (f : Nat) (s : State) : KeepsQueue s (execOverflowChainAdvance f s) := by
  refine onField_keepsQueue ?_
  dsimp only
  split <;> simp

theorem execTaskAssign_keepsQueue (f n : Nat) (x : AssignAt) (s : State) : KeepsQueue s (execTaskAssign f n x s) := by
  refine onField_keepsQueue ?_
  split
  · dsimp only
    split
    · rfl
    · split <;> simp
  · dsimp only
    split
    · rfl
    · split <;> simp

theorem execStartReport_keepsQueue (k : Nat) (s : State) : KeepsQueue s (execStartReport k s) := by
  unfold execStartReport
  rw [keepsQueue_next]
  split <;> simp

theorem execOutputRecordReadEnd_keepsQueue (f n : Nat) (s : State) : KeepsQueue s (execOutputRecordReadEnd f n s) := by
  refine onField_keepsQueue ?_
  split
  · rfl
  · dsimp only
    split
    · simp
    · split
      · split <;> simp
      · rfl

theorem execCompletionReport_keepsQueue (k : Nat) (s : State) : KeepsQueue s (execCompletionReport k s) := by
  unfold execCompletionReport
  rw [keepsQueue_next]
  split
  · dsimp only
    split <;> simp
  · rfl

theorem execFailureReport_keepsQueue (k : Nat) (s : State) : KeepsQueue s (execFailureReport k s) := by
  unfold execFailureReport
  rw [keepsQueue_next]
  split
  · dsimp only
    split <;> simp
  · rfl

theorem execOutputRecordEmit_keepsQueue (f : Nat) (mesh : Option Nat) (s : State) : KeepsQueue s (execOutputRecordEmit f mesh s) := by
  refine onField_keepsQueue ?_
  split
  · rfl
  · split
    · rfl
    · split <;> simp

theorem execWithdrawAnswer_keepsQueue (k : Nat) (s : State) : KeepsQueue s (execWithdrawAnswer k s) := by
  unfold execWithdrawAnswer
  rw [keepsQueue_next]
  split <;> simp

theorem execAbortReport_keepsQueue (k : Nat) (s : State) : KeepsQueue s (execAbortReport k s) := by
  unfold execAbortReport
  rw [keepsQueue_next]
  split <;> simp

theorem execTaskWatchdog_keepsQueue (f n : Nat) (s : State) : KeepsQueue s (execTaskWatchdog f n s) := by
  refine onField_keepsQueue ?_
  dsimp only
  split <;> simp

theorem execAbortNoAnswer_keepsQueue (f li : Nat) (s : State) : KeepsQueue s (execAbortNoAnswer f li s) := by
  refine onField_keepsQueue ?_
  split <;> simp

theorem execCoreLost_keepsQueue (c reason : Nat) (s : State) : KeepsQueue s (execCoreLost c reason s) := by
  refine onCore_keepsQueue ?_
  simp

theorem execCommitNotice_keepsQueue (k : Nat) (s : State) : KeepsQueue s (execCommitNotice k s) := by
  unfold execCommitNotice
  rw [keepsQueue_next]
  split <;> simp

theorem execPostReceive_keepsQueue (k : Nat) (mesh : Option Nat) (s : State) : KeepsQueue s (execPostReceive k mesh s) := by
  unfold execPostReceive
  rw [keepsQueue_next]
  split
  · dsimp only
    split
    · simp
    · split <;> simp
  · rfl

theorem execEventLost_keepsQueue (k : Nat) (s : State) : KeepsQueue s (execEventLost k s) := by
  unfold execEventLost
  rw [keepsQueue_next]
  split
  · split <;> simp
  · rfl

theorem execCsErrClear_keepsQueue (f v : Nat) (s : State) : KeepsQueue s (execCsErrClear f v s) := by
  refine onField_keepsQueue ?_
  simp

/-! ### Counter pairs and wells -/

theorem execSxErrClear_keepsQueue (f v : Nat) (s : State) : KeepsQueue s (execSxErrClear f v s) := by
  refine onField_keepsQueue ?_
  simp

theorem execWellArrival_keepsQueue (k : Nat) (s : State) : KeepsQueue s (execWellArrival k s) := by
  unfold execWellArrival
  rw [keepsQueue_next]
  split <;> simp

theorem execReleaseTreeArrival_keepsQueue (k : Nat) (s : State) : KeepsQueue s (execReleaseTreeArrival k s) := by
  unfold execReleaseTreeArrival
  rw [keepsQueue_next]
  split
  · split
    · simp
    · rfl
  · rfl

theorem execWellTimeout_keepsQueue (f g : Nat) (s : State) : KeepsQueue s (execWellTimeout f g s) := by
  refine onField_keepsQueue ?_
  dsimp only
  split <;> simp

theorem execBrokenReleaseArrival_keepsQueue (k : Nat) (s : State) : KeepsQueue s (execBrokenReleaseArrival k s) := by
  unfold execBrokenReleaseArrival
  rw [keepsQueue_next]
  split
  · split <;> simp
  · rfl

/-! ### The deadlock detector -/

theorem execDryWellDeclare_keepsQueue (p : Nat) (s : State) : KeepsQueue s (execDryWellDeclare p s) := by
  refine onPart_keepsQueue ?_
  split
  · rfl
  · simp

theorem execDryWellSnapshotCommit_keepsQueue (p : Nat) (s : State) : KeepsQueue s (execDryWellSnapshotCommit p s) := by
  refine onPart_keepsQueue ?_
  dsimp only
  split
  · rfl
  · simp

/-! ### Registers reached by fabric accesses -/

theorem execRouteWrite_keepsQueue (e v : Nat) (s : State) : KeepsQueue s (execRouteWrite e v s) := by
  unfold execRouteWrite
  rw [keepsQueue_next]
  simp

theorem execCwDescWrite_keepsQueue (g v : Nat) (s : State) : KeepsQueue s (execCwDescWrite g v s) := by
  unfold execCwDescWrite
  rw [keepsQueue_next]
  simp

theorem execFlDescWrite_keepsQueue (p v : Nat) (s : State) : KeepsQueue s (execFlDescWrite p v s) := by
  refine onPart_keepsQueue ?_
  simp

theorem execTrEnable_keepsQueue (p base : Nat) (s : State) : KeepsQueue s (execTrEnable p base s) := by
  refine onPart_keepsQueue ?_
  simp

theorem execTrDisable_keepsQueue (p : Nat) (s : State) : KeepsQueue s (execTrDisable p s) := by
  refine onPart_keepsQueue ?_
  simp

/-! ### Fabric accesses -/

theorem execFabricAccess_keepsQueue (k : Nat) (s : State) : KeepsQueue s (execFabricAccess k s) := by
  unfold execFabricAccess
  rw [keepsQueue_next]
  split
  · split
    · split <;> simp
    · rfl
  · rfl

theorem execFabricAccessRelease_keepsQueue (k : Nat) (s : State) : KeepsQueue s (execFabricAccessRelease k s) := by
  unfold execFabricAccessRelease
  rw [keepsQueue_next]
  split
  · split
    · split <;> simp
    · rfl
  · rfl

/-! ### Command rings -/

theorem execSqTail_keepsQueue (p r v : Nat) (s : State) : KeepsQueue s (execSqTail p r v s) := by
  refine onRing_keepsQueue ?_
  simp

theorem execCqHead_keepsQueue (p r v : Nat) (s : State) : KeepsQueue s (execCqHead p r v s) := by
  refine onRing_keepsQueue ?_
  simp

theorem execCommandFetch_keepsQueue (p r : Nat) (data : ReadFail ⊕ List (List Nat)) (s : State) : KeepsQueue s (execCommandFetch p r data s) := by
  refine onRing_keepsQueue ?_
  split
  · rfl
  · split <;> simp

/-! ### Transfers -/

theorem execWalkReadResponse_keepsQueue (p ci wi : Nat) (entry : ReadFail ⊕ Nat) (s : State) :
    KeepsQueue s (execWalkReadResponse p ci wi entry s) := by
  refine onPort_keepsQueue ?_
  split
  · dsimp only
    split
    · rfl
    · split <;> simp
  · dsimp only
    split
    · rfl
    · split <;> simp

theorem execHostDataReadResponse_keepsQueue (p ci ri : Nat) (data : ReadFail ⊕ List Byte) (s : State) :
    KeepsQueue s (execHostDataReadResponse p ci ri data s) := by
  refine onPort_keepsQueue ?_
  split
  · rfl
  · split
    · rfl
    · split
      · rfl
      · split <;> simp

theorem execFabricRsp_keepsQueue (k : Nat) (s : State) : KeepsQueue s (execFabricRsp k s) := by
  unfold execFabricRsp
  rw [keepsQueue_next]
  split
  · split
    · split
      · dsimp only
        split <;> simp
      · dsimp only
        split <;> simp
    · rfl
  · rfl

/-! ### Host commands without data -/

theorem execNop_keepsQueue (p r : Nat) (s : State) : KeepsQueue s (execNop p r s) :=
  onRing_keepsQueue (State.startCmd_pending _ _ _ _ _ fun _ _ _ => rfl)

theorem execStartGraph_keepsQueue (p r : Nat) (s : State) : KeepsQueue s (execStartGraph p r s) := by
  refine onRing_keepsQueue (State.startCmd_pending _ _ _ _ _ fun t y c => ?_)
  split
  · rfl
  · exact State.checkGraph_pending ..

theorem execStartGraphDeferredCheck_keepsQueue (p ci : Nat) (s : State) : KeepsQueue s (execStartGraphDeferredCheck p ci s) := by
  refine onPort_keepsQueue ?_
  split <;> simp

theorem execStopGraph_keepsQueue (p r : Nat) (s : State) : KeepsQueue s (execStopGraph p r s) := by
  refine onRing_keepsQueue (State.startCmd_pending _ _ _ _ _ fun t y c => ?_)
  split
  · rfl
  · exact State.stopPartition_pending ..

theorem execPostEvent_keepsQueue (p r : Nat) (s : State) : KeepsQueue s (execPostEvent p r s) :=
  onRing_keepsQueue (State.startCmd_pending _ _ _ _ _ fun _ _ _ => rfl)

theorem execHintPhaseBegin_keepsQueue (p r : Nat) (s : State) : KeepsQueue s (execHintPhaseBegin p r s) := by
  refine onRing_keepsQueue ?_
  simp

theorem execHintPhaseEnd_keepsQueue (p r : Nat) (s : State) : KeepsQueue s (execHintPhaseEnd p r s) := by
  refine onRing_keepsQueue ?_
  simp

theorem execEnergyMarkOpen_keepsQueue (p r : Nat) (s : State) : KeepsQueue s (execEnergyMarkOpen p r s) :=
  onRing_keepsQueue (State.startCmd_pending _ _ _ _ _ fun _ _ _ => rfl)

theorem execEnergyMarkClose_keepsQueue (p r : Nat) (s : State) : KeepsQueue s (execEnergyMarkClose p r s) :=
  onRing_keepsQueue (State.startCmd_pending _ _ _ _ _ fun _ _ _ => rfl)

/-! ### Completion records -/

theorem execCommandCompletion_keepsQueue (p ci : Nat) (s : State) : KeepsQueue s (execCommandCompletion p ci s) := by
  refine onPort_keepsQueue ?_
  split
  · rfl
  · split <;> simp

theorem execCmdTimeout_keepsQueue (p i : Nat) (s : State) : KeepsQueue s (execCmdTimeout p i s) := by
  refine onPort_keepsQueue ?_
  split <;> simp

theorem execCompletionRecordWrite_keepsQueue (p r : Nat) (s : State) : KeepsQueue s (execCompletionRecordWrite p r s) := by
  refine onRing_keepsQueue ?_
  dsimp only
  split
  · rfl
  · split
    · simp
    · split <;> simp

theorem execMsixSignal_keepsQueue (p v : Nat) (s : State) : KeepsQueue s (execMsixSignal p v s) := by
  refine onPort_keepsQueue ?_
  simp

theorem execHostNotification_keepsQueue (k : Nat) (s : State) : KeepsQueue s (execHostNotification k s) := by
  unfold execHostNotification
  rw [keepsQueue_next]
  split
  · split <;> simp
  · rfl

theorem execRingEnable_keepsQueue (p r v : Nat) (s : State) : KeepsQueue s (execRingEnable p r v s) := by
  refine onRing_keepsQueue ?_
  simp

theorem execRingDisable_keepsQueue (p r : Nat) (s : State) : KeepsQueue s (execRingDisable p r s) := by
  refine onRing_keepsQueue ?_
  simp

theorem execRingResume_keepsQueue (p r : Nat) (s : State) : KeepsQueue s (execRingResume p r s) := by
  refine onRing_keepsQueue ?_
  dsimp only
  split <;> simp

theorem execRingResumeRedo_keepsQueue (p r : Nat) (s : State) : KeepsQueue s (execRingResumeRedo p r s) := by
  refine onRing_keepsQueue ?_
  dsimp only
  split <;> simp

theorem execCtxRootWrite_keepsQueue (p c v : Nat) (s : State) : KeepsQueue s (execCtxRootWrite p c v s) := by
  refine onPort_keepsQueue ?_
  simp

theorem execDevwinWrite_keepsQueue (p w : Nat) (limit : Bool) (v : Nat) (s : State) : KeepsQueue s (execDevwinWrite p w limit v s) := by
  refine onPort_keepsQueue ?_
  simp

theorem execRegisterWrite_keepsQueue (p o v : Nat) (s : State) : KeepsQueue s (execRegisterWrite p o v s) := by
  refine onPort_keepsQueue ?_
  simp

theorem execDeviceControl2Write_keepsQueue (p v : Nat) (s : State) : KeepsQueue s (execDeviceControl2Write p v s) := by
  refine onPort_keepsQueue ?_
  simp

theorem execFunctionLevelReset_keepsQueue (p : Nat) (s : State) : KeepsQueue s (execFunctionLevelReset p s) := by
  refine onPort_keepsQueue ?_
  simp

theorem execPerstN_keepsQueue (p : Nat) (s : State) : KeepsQueue s (execPerstN p s) := by
  refine onPort_keepsQueue ?_
  simp

theorem execPerstNRise_keepsQueue (p width rate : Nat) (s : State) : KeepsQueue s (execPerstNRise p width rate s) := by
  refine onPort_keepsQueue ?_
  simp

/-! ### Sluice ports -/

theorem execTrainComplete_keepsQueue (p width engine port : Nat) (s : State) : KeepsQueue s (execTrainComplete p width engine port s) := by
  refine onSluice_keepsQueue ?_
  simp

theorem execTrainTimeout_keepsQueue (p : Nat) (s : State) : KeepsQueue s (execTrainTimeout p s) := by
  refine onSluice_keepsQueue ?_
  simp

theorem execAutoRetrain_keepsQueue (p : Nat) (s : State) : KeepsQueue s (execAutoRetrain p s) := by
  refine onSluice_keepsQueue ?_
  simp

theorem execSluicePortDown_keepsQueue (p : Nat) (fec : Bool) (s : State) : KeepsQueue s (execSluicePortDown p fec s) := by
  refine onSluice_keepsQueue ?_
  simp

theorem execFrameReceive_keepsQueue (p : Nat) (f : Frame) (s : State) : KeepsQueue s (execFrameReceive p f s) := by
  refine onSluice_keepsQueue ?_
  split
  · simp
  · split
    · simp
    · split
      · simp
      · split
        · simp
        · split
          · split <;> simp
          · simp

theorem execNak_keepsQueue (p named : Nat) (s : State) : KeepsQueue s (execNak p named s) := by
  refine onSluice_keepsQueue ?_
  simp

theorem execReplayTimeout_keepsQueue (p : Nat) (s : State) : KeepsQueue s (execReplayTimeout p s) := by
  refine onSluice_keepsQueue ?_
  dsimp only
  split <;> simp

theorem execLinkDelayMeasure_keepsQueue (p trip : Nat) (s : State) : KeepsQueue s (execLinkDelayMeasure p trip s) := by
  refine onSluice_keepsQueue ?_
  simp

theorem execCrossEngineTransit_keepsQueue (fromMesh : Bool) (k : Nat) (s : State) : KeepsQueue s (execCrossEngineTransit fromMesh k s) := by
  unfold execCrossEngineTransit
  rw [keepsQueue_next]
  split
  · split
    · split <;> simp
    · rfl
  · split <;> simp

theorem execXevent_keepsQueue (k : Nat) (s : State) : KeepsQueue s (execXevent k s) := by
  refine State.xtake_keepsQueue fun t p x => ?_
  split <;> simp

theorem execXarrive_keepsQueue (k : Nat) (s : State) : KeepsQueue s (execXarrive k s) := by
  refine State.xtake_keepsQueue fun t p x => ?_
  simp

theorem execXrelease_keepsQueue (k : Nat) (s : State) : KeepsQueue s (execXrelease k s) := by
  refine State.xtake_keepsQueue fun t p x => ?_
  split
  · rfl
  · split
    · simp
    · dsimp only
      split <;> simp

theorem execXbreak_keepsQueue (k : Nat) (s : State) : KeepsQueue s (execXbreak k s) := by
  refine State.xtake_keepsQueue fun t p x => ?_
  split <;> simp

theorem execXlost_keepsQueue (k : Nat) (s : State) : KeepsQueue s (execXlost k s) := by
  refine State.xtake_keepsQueue fun t p x => ?_
  split
  · simp
  · split <;> simp
  · split <;> simp
  · simp
  · simp

theorem execXcopy_keepsQueue (k : Nat) (s : State) : KeepsQueue s (execXcopy k s) := by
  unfold execXcopy
  split
  · rw [keepsQueue_next]
  · dsimp only
    split <;> split
    · rw [keepsQueue_next]
    · exact State.xtake_keepsQueue fun t p x => by simp
    · rw [keepsQueue_next]
    · exact State.xtake_keepsQueue fun t p x => by simp

theorem execXack_keepsQueue (k : Nat) (s : State) : KeepsQueue s (execXack k s) := by
  refine State.xtake_keepsQueue fun t p x => ?_
  simp

theorem execTsSyncSend_keepsQueue (s : State) : KeepsQueue s (execTsSyncSend s) := by
  unfold execTsSyncSend
  rw [keepsQueue_next]
  simp

theorem execTsSync_keepsQueue (k : Nat) (s : State) : KeepsQueue s (execTsSync k s) := by
  refine State.xtake_keepsQueue fun t p x => ?_
  simp

theorem execTstampSlew_keepsQueue (s : State) : KeepsQueue s (execTstampSlew s) := by
  unfold execTstampSlew
  rw [keepsQueue_next]
  simp

theorem execHoldoverTimeout_keepsQueue (s : State) : KeepsQueue s (execHoldoverTimeout s) := by
  unfold execHoldoverTimeout
  rw [keepsQueue_next]
  simp

theorem execCsyncInEdge_keepsQueue (s : State) : KeepsQueue s (execCsyncInEdge s) := by
  unfold execCsyncInEdge
  rw [keepsQueue_next]
  simp

theorem execCsyncOutPulse_keepsQueue (s : State) : KeepsQueue s (execCsyncOutPulse s) := by
  unfold execCsyncOutPulse
  rw [keepsQueue_next]
  simp

theorem execFlPropose_keepsQueue (p : Nat) (s : State) : KeepsQueue s (execFlPropose p s) := by
  refine onPart_keepsQueue ?_
  simp

theorem execFlProposeReceive_keepsQueue (k : Nat) (s : State) : KeepsQueue s (execFlProposeReceive k s) := by
  refine State.xtake_keepsQueue fun t p x => ?_
  split <;> simp

theorem execFlDecide_keepsQueue (p : Nat) (s : State) : KeepsQueue s (execFlDecide p s) := by
  refine onPart_keepsQueue ?_
  simp

theorem execFlCommand_keepsQueue (k : Nat) (s : State) : KeepsQueue s (execFlCommand k s) := by
  refine State.xtake_keepsQueue fun t p x => ?_
  split <;> simp

theorem execFlockLost_keepsQueue (p : Nat) (s : State) : KeepsQueue s (execFlockLost p s) := by
  refine onPart_keepsQueue ?_
  simp

/-! ### Power domains and partitions -/

theorem execFstateChangeBegin_keepsQueue (s : State) : KeepsQueue s (execFstateChangeBegin s) := by
  simp [execFstateChangeBegin]

theorem execFstateChangeComplete_keepsQueue (s : State) : KeepsQueue s (execFstateChangeComplete s) := by
  simp [execFstateChangeComplete]

/-! ### Starts and warm restarts -/

theorem execPorNRise_keepsQueue (s : State) : KeepsQueue s (execPorNRise s) := by
  unfold execPorNRise
  rw [keepsQueue_next]
  simp

theorem execPorNFall_keepsQueue (s : State) : KeepsQueue s (execPorNFall s) := by
  unfold execPorNFall
  rw [keepsQueue_next]
  simp

theorem execInputPowerLoss_keepsQueue (s : State) : KeepsQueue s (execInputPowerLoss s) := by
  unfold execInputPowerLoss
  rw [keepsQueue_next]
  simp

theorem execStrapSample_keepsQueue (raw : Nat) (s : State) : KeepsQueue s (execStrapSample raw s) := by
  unfold execStrapSample
  rw [keepsQueue_next]
  simp

theorem execWellheadBootComplete_keepsQueue (w : Nat) (code : List Byte) (crc : Nat) (flash : FlashRead) (s : State) :
    KeepsQueue s (execWellheadBootComplete w code crc flash s) := by
  refine keepsQueue_if_fault ?_
  split <;> simp

theorem execPmbusScanComplete_keepsQueue (devs : List VrDevice) (missing : Bool) (s : State) :
    KeepsQueue s (execPmbusScanComplete devs missing s) := by
  refine keepsQueue_if_fault ?_
  simp

theorem execRdStartComplete_keepsQueue (ok : Bool) (s : State) : KeepsQueue s (execRdStartComplete ok s) := by
  unfold execRdStartComplete
  rw [keepsQueue_next]
  simp

theorem execMdStartComplete_keepsQueue (f : Nat) (ok : Bool) (s : State) : KeepsQueue s (execMdStartComplete f ok s) := by
  refine onField_keepsQueue ?_
  simp

theorem execCdStartComplete_keepsQueue (f : Nat) (s : State) : KeepsQueue s (execCdStartComplete f s) := by
  have joined (t : State) : (match s.partOf f with
      | some q => if t.forced then t else t.modClk f (fun k => k.ask (t.joinFstate q f) (t.tstamp + 100))
      | none => t.cdOff f).pending = t.pending := by
    split
    · simp
    · exact State.cdOff_pending ..
  refine onField_keepsQueue ?_
  dsimp only
  split
  · rfl
  · split
    · rfl
    · split
      · exact State.cdDegraded_pending ..
      · rw [State.startCheck_pending]
        generalize hu : State.releaseCores _ f = u
        have kept : u.pending = s.pending := by rw [← hu, State.releaseCores_pending, State.modField_pending, State.modClk_pending]
        exact (joined _).trans ((State.sensorsOn_pending ..).trans kept)

theorem execCdStartTimeout_keepsQueue (f : Nat) (s : State) : KeepsQueue s (execCdStartTimeout f s) := by
  refine onField_keepsQueue ?_
  split <;> simp

theorem execStartStepTimeout_keepsQueue (x : StepOverrun) (s : State) : KeepsQueue s (execStartStepTimeout x s) := by
  unfold execStartStepTimeout
  rw [keepsQueue_next]
  dsimp only
  simp only [State.pending_ite, State.bootsDone_pending, State.rdFailed_pending, State.toStep_pending, State.modSd_pending, State.nmtBootUp_pending, State.engineFault_pending, State.failStart_pending, ite_self]
  rw [foldl_pending]
  · simp only [ite_self]
  · intro t f
    rw [State.pending_ite, State.mdFailed_pending, ite_self]

theorem execRstBtnPressBegin_keepsQueue (s : State) : KeepsQueue s (execRstBtnPressBegin s) := by
  unfold execRstBtnPressBegin
  rw [keepsQueue_next]
  simp

theorem execRstBtnPressEnd_keepsQueue (flash : FlashRead) (s : State) : KeepsQueue s (execRstBtnPressEnd flash s) := by
  unfold execRstBtnPressEnd
  rw [keepsQueue_next]
  simp

theorem execButtonStuck_keepsQueue (s : State) : KeepsQueue s (execButtonStuck s) := by
  unfold execButtonStuck
  rw [keepsQueue_next]
  simp

theorem execFlowLossDeclare_keepsQueue (s : State) : KeepsQueue s (execFlowLossDeclare s) := by
  unfold execFlowLossDeclare
  rw [keepsQueue_next]
  simp

theorem execCoolantBackupTimeout_keepsQueue (s : State) : KeepsQueue s (execCoolantBackupTimeout s) := by
  unfold execCoolantBackupTimeout
  rw [keepsQueue_next]
  split <;> simp

theorem execFlowRestoreDeclare_keepsQueue (s : State) : KeepsQueue s (execFlowRestoreDeclare s) := by
  unfold execFlowRestoreDeclare
  rw [keepsQueue_next]
  simp

theorem execCoolantRestart_keepsQueue (s : State) : KeepsQueue s (execCoolantRestart s) := by
  unfold execCoolantRestart
  rw [keepsQueue_next]
  simp

theorem execRefclkLost_keepsQueue (s : State) : KeepsQueue s (execRefclkLost s) := by
  simp [execRefclkLost]

theorem execRefclkRestore_keepsQueue (s : State) : KeepsQueue s (execRefclkRestore s) := by
  unfold execRefclkRestore
  rw [keepsQueue_next]
  split
  · rfl
  · split <;> simp

theorem execPllUnlock_keepsQueue (f : Nat) (s : State) : KeepsQueue s (execPllUnlock f s) := by
  refine onField_keepsQueue ?_
  split <;> simp

/-! ### Dictionary requests -/

theorem execMbDoorbell_keepsQueue (p c : Nat) (s : State) : KeepsQueue s (execMbDoorbell p c s) := by
  refine onPort_keepsQueue ?_
  simp

theorem execDictRead_keepsQueue (who : Requester) (s : State) : KeepsQueue s (execDictRead who s) := by
  refine onWho_keepsQueue ?_
  split
  · rfl
  · split
    · rfl
    · split
      · rfl
      · split <;> simp

theorem execDictWrite_keepsQueue (who : Requester) (s : State) : KeepsQueue s (execDictWrite who s) :=
  onWho_keepsQueue (State.submit_pending ..)

theorem execDictWriteApply_keepsQueue (s : State) : KeepsQueue s (execDictWriteApply s) := by
  unfold execDictWriteApply
  rw [keepsQueue_next]
  simp

theorem execDictWriteAnswer_keepsQueue (s : State) : KeepsQueue s (execDictWriteAnswer s) := by
  unfold execDictWriteAnswer
  rw [keepsQueue_next]
  split
  · rfl
  · split <;> simp

/-! ### CAN services -/

theorem execUsdoInitiateDownload_keepsQueue (index sub size : Nat) (data : List Byte) (s : State) :
    KeepsQueue s (execUsdoInitiateDownload index sub size data s) := by
  unfold execUsdoInitiateDownload
  rw [keepsQueue_next]
  simp

theorem execUsdoInitiateUpload_keepsQueue (index sub : Nat) (s : State) : KeepsQueue s (execUsdoInitiateUpload index sub s) := by
  unfold execUsdoInitiateUpload
  rw [keepsQueue_next]
  simp

theorem execUsdoSegment_keepsQueue (data : List Byte) (last : Bool) (s : State) : KeepsQueue s (execUsdoSegment data last s) := by
  unfold execUsdoSegment
  rw [keepsQueue_next]
  split
  · rfl
  · split <;> simp

theorem execDictSegTimeout_keepsQueue (s : State) : KeepsQueue s (execDictSegTimeout s) := by
  unfold execDictSegTimeout
  rw [keepsQueue_next]
  split <;> simp

theorem execNmtResetCommunication_keepsQueue (s : State) : KeepsQueue s (execNmtResetCommunication s) := by
  unfold execNmtResetCommunication
  rw [keepsQueue_next]
  simp

theorem execNmtResetNode_keepsQueue (s : State) : KeepsQueue s (execNmtResetNode s) := by
  unfold execNmtResetNode
  rw [keepsQueue_next]
  simp

theorem execHeartbeatSend_keepsQueue (s : State) : KeepsQueue s (execHeartbeatSend s) := by
  unfold execHeartbeatSend
  rw [keepsQueue_next]
  simp

theorem execHeartbeatReceive_keepsQueue (node : Nat) (s : State) : KeepsQueue s (execHeartbeatReceive node s) := by
  unfold execHeartbeatReceive
  rw [keepsQueue_next]
  simp

theorem execCanHbTimeout_keepsQueue (k : Nat) (s : State) : KeepsQueue s (execCanHbTimeout k s) := by
  unfold execCanHbTimeout
  rw [keepsQueue_next]
  simp

theorem execEmcySend_keepsQueue (s : State) : KeepsQueue s (execEmcySend s) := by
  unfold execEmcySend
  rw [keepsQueue_next]
  split <;> simp

theorem execCanBusOff_keepsQueue (s : State) : KeepsQueue s (execCanBusOff s) := by
  unfold execCanBusOff
  rw [keepsQueue_next]
  simp

theorem execCanOverrun_keepsQueue (s : State) : KeepsQueue s (execCanOverrun s) := by
  unfold execCanOverrun
  rw [keepsQueue_next]
  simp

theorem execRpdoReceive_keepsQueue (r : Nat) (data : List Byte) (s : State) : KeepsQueue s (execRpdoReceive r data s) := by
  unfold execRpdoReceive
  rw [keepsQueue_next]
  split
  · rfl
  · split
    · dsimp only
      split
      · simp
      · split
        · simp
        · split <;> simp
    · dsimp only
      split
      · simp
      · split
        · simp
        · split <;> simp

theorem execTpdoSend_keepsQueue (t : Nat) (s : State) : KeepsQueue s (execTpdoSend t s) := by
  unfold execTpdoSend
  rw [keepsQueue_next]
  simp

/-! ### The service-processor pair -/

theorem execEpochClose_keepsQueue (s : State) : KeepsQueue s (execEpochClose s) := by
  unfold execEpochClose
  rw [keepsQueue_next]
  simp

theorem execEpochReceive_keepsQueue (x : EpochWords) (s : State) : KeepsQueue s (execEpochReceive x s) := by
  unfold execEpochReceive
  rw [keepsQueue_next]
  split <;> simp

theorem execEpochAck_keepsQueue (s : State) : KeepsQueue s (execEpochAck s) := by
  unfold execEpochAck
  rw [keepsQueue_next]
  split <;> simp

theorem execHeartbeatLossTimeout_keepsQueue (s : State) : KeepsQueue s (execHeartbeatLossTimeout s) := by
  unfold execHeartbeatLossTimeout
  rw [keepsQueue_next]
  simp

theorem execWellheadWatchdogExpiry_keepsQueue (s : State) : KeepsQueue s (execWellheadWatchdogExpiry s) := by
  unfold execWellheadWatchdogExpiry
  rw [keepsQueue_next]
  simp

theorem execWellheadMemoryError_keepsQueue (s : State) : KeepsQueue s (execWellheadMemoryError s) := by
  unfold execWellheadMemoryError
  rw [keepsQueue_next]
  simp

theorem execWellheadHeartbeat_keepsQueue (w : Nat) (s : State) : KeepsQueue s (execWellheadHeartbeat w s) := by
  refine keepsQueue_if_fault ?_
  split <;> simp

theorem execWellheadTakeover_keepsQueue (s : State) : KeepsQueue s (execWellheadTakeover s) := by
  unfold execWellheadTakeover
  rw [keepsQueue_next]
  split <;> simp

theorem execStandbyLost_keepsQueue (s : State) : KeepsQueue s (execStandbyLost s) := by
  unfold execStandbyLost
  rw [keepsQueue_next]
  simp

theorem execWellheadRestartBoot_keepsQueue (w : Nat) (image : Image) (s : State) : KeepsQueue s (execWellheadRestartBoot w image s) := by
  refine keepsQueue_if_fault ?_
  simp

theorem execStandbyResyncComplete_keepsQueue (x : EpochWords) (s : State) : KeepsQueue s (execStandbyResyncComplete x s) := by
  unfold execStandbyResyncComplete
  rw [keepsQueue_next]
  simp

theorem execWellheadBootRetry_keepsQueue (s : State) : KeepsQueue s (execWellheadBootRetry s) := by
  unfold execWellheadBootRetry
  rw [keepsQueue_next]
  split <;> simp

theorem execWellheadPairLost_keepsQueue (w : Nat) (image : Image) (flash : FlashRead) (s : State) :
    KeepsQueue s (execWellheadPairLost w image flash s) := by
  refine keepsQueue_if_fault ?_
  simp

theorem execFaultQueueDrain_keepsQueue (s : State) : KeepsQueue s (execFaultQueueDrain s) := by
  unfold execFaultQueueDrain
  rw [keepsQueue_next]
  simp

theorem execRepairAutoAddEntry_keepsQueue (c : Nat) (s : State) : KeepsQueue s (execRepairAutoAddEntry c s) := by
  refine onCore_keepsQueue ?_
  dsimp only
  split <;> simp

/-! ### The energy estimator and the regulators -/

theorem execEstimatorTick_keepsQueue (acts : List Activity) (sensed : List (Nat × Nat)) (s : State) :
    KeepsQueue s (execEstimatorTick acts sensed s) := by
  unfold execEstimatorTick
  rw [keepsQueue_next]
  simp

theorem execCalibration_keepsQueue (s : State) : KeepsQueue s (execCalibration s) := by
  unfold execCalibration
  rw [keepsQueue_next]
  split <;> simp

theorem execQuietWindowForce_keepsQueue (f : Nat) (s : State) : KeepsQueue s (execQuietWindowForce f s) := by
  refine onField_keepsQueue ?_
  simp

theorem execPmbusPoll_keepsQueue (l : List RailRead) (s : State) : KeepsQueue s (execPmbusPoll l s) := by
  refine keepsQueue_if_next ?_
  simp

theorem execPmbAlert_keepsQueue (l : List (Nat × BusRead RailStatus)) (s : State) : KeepsQueue s (execPmbAlert l s) := by
  refine keepsQueue_if_next ?_
  simp

theorem execVrDerateClear_keepsQueue (s : State) : KeepsQueue s (execVrDerateClear s) := by
  unfold execVrDerateClear
  rw [keepsQueue_next]
  split <;> simp

theorem execCeilingGuardEngage_keepsQueue (s : State) : KeepsQueue s (execCeilingGuardEngage s) := by
  simp [execCeilingGuardEngage]

theorem execCeilingGuardRelease_keepsQueue (s : State) : KeepsQueue s (execCeilingGuardRelease s) := by
  unfold execCeilingGuardRelease
  rw [keepsQueue_next]
  split
  · rfl
  · simp

theorem execDroopStretchBegin_keepsQueue (f : Nat) (s : State) : KeepsQueue s (execDroopStretchBegin f s) := by
  refine onField_keepsQueue ?_
  simp

theorem execDroopStretchEnd_keepsQueue (f : Nat) (s : State) : KeepsQueue s (execDroopStretchEnd f s) := by
  refine onField_keepsQueue ?_
  simp

theorem execDroopSevere_keepsQueue (f : Nat) (s : State) : KeepsQueue s (execDroopSevere f s) := by
  refine onField_keepsQueue ?_
  dsimp only
  split <;> simp

theorem execFillerEnter_keepsQueue (c : Nat) (s : State) : KeepsQueue s (execFillerEnter c s) := by
  refine onCore_keepsQueue ?_
  simp

theorem execFillerDutyDecay_keepsQueue (c : Nat) (s : State) : KeepsQueue s (execFillerDutyDecay c s) := by
  refine onCore_keepsQueue ?_
  simp

theorem execHintExpiry_keepsQueue (p pclass : Nat) (s : State) : KeepsQueue s (execHintExpiry p pclass s) := by
  refine onPart_keepsQueue ?_
  simp

/-! ### The budget controller -/

theorem execControllerPeriod_keepsQueue (s : State) : KeepsQueue s (execControllerPeriod s) := by
  unfold execControllerPeriod
  rw [keepsQueue_next]
  simp

theorem execControllerEpoch_keepsQueue (s : State) : KeepsQueue s (execControllerEpoch s) := by
  unfold execControllerEpoch
  rw [keepsQueue_next]
  simp

/-! ### Thermal protection -/

theorem execSensorConversion_keepsQueue (i : Nat) (t : Int) (s : State) : KeepsQueue s (execSensorConversion i t s) := by
  refine keepsQueue_if_fault ?_
  simp

theorem execSensorFault_keepsQueue (i : Nat) (s : State) : KeepsQueue s (execSensorFault i s) := by
  refine keepsQueue_if_fault ?_
  simp

theorem execThermWarnClear_keepsQueue (s : State) : KeepsQueue s (execThermWarnClear s) := by
  unfold execThermWarnClear
  rw [keepsQueue_next]
  simp

theorem execThermForcedClear_keepsQueue (s : State) : KeepsQueue s (execThermForcedClear s) := by
  unfold execThermForcedClear
  rw [keepsQueue_next]
  simp

theorem execDerateStep_keepsQueue (s : State) : KeepsQueue s (execDerateStep s) := by
  unfold execDerateStep
  rw [keepsQueue_next]
  split <;> simp

theorem execSlackCheck_keepsQueue (f slack : Nat) (s : State) : KeepsQueue s (execSlackCheck f slack s) := by
  refine onField_keepsQueue ?_
  simp

/-! ### Scrubbing, statistics and traces -/

theorem execSramScrubRow_keepsQueue (c bank : Nat) (found : List (Nat × Bool)) (s : State) : KeepsQueue s (execSramScrubRow c bank found s) := by
  refine onCore_keepsQueue ?_
  simp

theorem execForcedScrubCycle_keepsQueue (c bank : Nat) (found : List (Nat × Bool)) (s : State) :
    KeepsQueue s (execForcedScrubCycle c bank found s) := by
  refine onCore_keepsQueue ?_
  simp

theorem execTableScrubSlot_keepsQueue (f : Nat) (found : List (Nat × Bool)) (s : State) : KeepsQueue s (execTableScrubSlot f found s) := by
  refine onField_keepsQueue ?_
  simp

theorem execStatsIntervalEnd_keepsQueue (p : Nat) (s : State) : KeepsQueue s (execStatsIntervalEnd p s) := by
  refine onPart_keepsQueue ?_
  simp

theorem execStatsEmissionWindowEnd_keepsQueue (f : Nat) (s : State) : KeepsQueue s (execStatsEmissionWindowEnd f s) := by
  refine onField_keepsQueue ?_
  split <;> simp

theorem execTraceRecordWrite_keepsQueue (p : Nat) (s : State) : KeepsQueue s (execTraceRecordWrite p s) := by
  refine onPart_keepsQueue ?_
  simp

theorem execTraceProdWrite_keepsQueue (p : Nat) (s : State) : KeepsQueue s (execTraceProdWrite p s) := by
  refine onPart_keepsQueue ?_
  simp

theorem execTraceConsRead_keepsQueue (p : Nat) (value : ReadFail ⊕ Nat) (s : State) : KeepsQueue s (execTraceConsRead p value s) := by
  refine onPart_keepsQueue ?_
  split <;> simp

theorem execTraceDrop_keepsQueue (p stage : Nat) (s : State) : KeepsQueue s (execTraceDrop p stage s) := by
  refine onPart_keepsQueue ?_
  simp

/-! ### Every command and every step -/

/-- No command changes the queue: each arm is an instruction of a core, a write of the dictionary, an operation on a pair, a transfer, or the command's own lemma. -/
theorem exec_keepsQueue (i : Instr) (s : State) : KeepsQueue s (exec i s) := by
  unfold exec
  cases i with
  | add | sub | and | or | xor | sll | srl | sra | slt | sltu | minMax | mul | mulh | mulhu | divRem | clz | popc | addi | andi | ori | xori | shi
  | slti | sltiu | lui | jal | jalr | beq | bne | blt | bge | bltu | bgeu | lb | lbu | lh | lhu | lw | ld | lq | sb | sh | sw | sd | sq | csrr | csrw
  | vaddf | vsubf | vmulf | vfmaf | vminf | vmaxf | vcmpeqf | vcmpltf | vcmplef | vrcpf | vrsqf | vexp2f | vlog2f | vdivf | vsqrtf | vaddi | vsubi
  | vmuli | vand | vor | vxor | vsll | vsrl | vsra | vmini | vmaxi | vcmpeqi | vcmplti | vsel | vbcast | vext | vins | vperm | vmov | vrsumf | vrmaxf
  | vrminf | vrsumi | vcvt | vld | vst | tdesc | mma | ast | ald | azero | axv | avx | rlaunch | send | recv | rpeek | sadv | warr | post | endTask
  | fail =>
    dsimp only
    exact issue_keepsQueue _ _ _ _
  | swait | sread | sclr | wawt | waa =>
    exact issueBlocking_keepsQueue _ _ _ _ _ _
  | portEnable | portDisable | repairAdd | repairRemove | repairReload | fieldRestart | partitionRect | partJob | engineId | timeMaster | powerCap
  | detMode | cmdTimeoutWrite | drywellWindow | restoreSefiez | restoreComm | buttonOverride | faultLogClear | errorHistoryClear =>
    exact onWho_keepsQueue (State.ownWrite_pending ..)
  | producerAdvance | consumerAdvance | pairWait | pairRead | pairClear =>
    exact pairStep_keepsQueue _ _ _ _ _
  | writeData | readData | loadImage | writeTable | remoteWrite =>
    exact onRing_keepsQueue (State.startCmd_pending _ _ _ _ _ fun _ _ _ => State.beginTransfer_pending ..)
  | invalidatePort | invalidateContext | invalidateRange =>
    exact onRing_keepsQueue (State.startCmd_pending _ _ _ _ _ fun _ _ _ => State.invalidate_pending ..)
  | nmtStart | nmtStop | nmtEnterPreOperational =>
    exact (keepsQueue_next _ _).mpr (State.nmtGo_pending ..)
  | sqTail p r v => exact execSqTail_keepsQueue p r v s
  | cqHead p r v => exact execCqHead_keepsQueue p r v s
  | commandFetch p r data => exact execCommandFetch_keepsQueue p r data s
  | nop p r => exact execNop_keepsQueue p r s
  | startGraph p r => exact execStartGraph_keepsQueue p r s
  | startGraphDeferredCheck p ci => exact execStartGraphDeferredCheck_keepsQueue p ci s
  | stopGraph p r => exact execStopGraph_keepsQueue p r s
  | postEvent p r => exact execPostEvent_keepsQueue p r s
  | hintPhaseBegin p r => exact execHintPhaseBegin_keepsQueue p r s
  | hintPhaseEnd p r => exact execHintPhaseEnd_keepsQueue p r s
  | energyMarkOpen p r => exact execEnergyMarkOpen_keepsQueue p r s
  | energyMarkClose p r => exact execEnergyMarkClose_keepsQueue p r s
  | walkReadResponse p ci wi entry => exact execWalkReadResponse_keepsQueue p ci wi entry s
  | hostDataReadResponse p ci ri data => exact execHostDataReadResponse_keepsQueue p ci ri data s
  | fabricAccess k => exact execFabricAccess_keepsQueue k s
  | fabricAccessRelease k => exact execFabricAccessRelease_keepsQueue k s
  | fabricRsp k => exact execFabricRsp_keepsQueue k s
  | commandCompletion p ci => exact execCommandCompletion_keepsQueue p ci s
  | completionRecordWrite p r => exact execCompletionRecordWrite_keepsQueue p r s
  | msixSignal p v => exact execMsixSignal_keepsQueue p v s
  | hostNotification k => exact execHostNotification_keepsQueue k s
  | cmdTimeout p j => exact execCmdTimeout_keepsQueue p j s
  | ringEnable p r v => exact execRingEnable_keepsQueue p r v s
  | ringDisable p r => exact execRingDisable_keepsQueue p r s
  | ringResume p r => exact execRingResume_keepsQueue p r s
  | ringResumeRedo p r => exact execRingResumeRedo_keepsQueue p r s
  | ctxRootWrite p c v => exact execCtxRootWrite_keepsQueue p c v s
  | devwinWrite p w limit v => exact execDevwinWrite_keepsQueue p w limit v s
  | functionLevelReset p => exact execFunctionLevelReset_keepsQueue p s
  | perstN p => exact execPerstN_keepsQueue p s
  | registerWrite p o v => exact execRegisterWrite_keepsQueue p o v s
  | cisternEventAccept f k => exact execCisternEventAccept_keepsQueue f k s
  | overflowChainAdvance f => exact execOverflowChainAdvance_keepsQueue f s
  | taskAssign f n at' => exact execTaskAssign_keepsQueue f n at' s
  | taskStart c => exact execTaskStart_keepsQueue c s
  | startReport k => exact execStartReport_keepsQueue k s
  | completionReport k => exact execCompletionReport_keepsQueue k s
  | outputRecordReadEnd f n => exact execOutputRecordReadEnd_keepsQueue f n s
  | outputRecordEmit f mesh => exact execOutputRecordEmit_keepsQueue f mesh s
  | failureReport k => exact execFailureReport_keepsQueue k s
  | withdrawRequest j => exact execWithdrawRequest_keepsQueue j s
  | withdrawAnswer k => exact execWithdrawAnswer_keepsQueue k s
  | abortRequest j => exact execAbortRequest_keepsQueue j s
  | abortReport k => exact execAbortReport_keepsQueue k s
  | taskWatchdog f n => exact execTaskWatchdog_keepsQueue f n s
  | abortNoAnswer f li => exact execAbortNoAnswer_keepsQueue f li s
  | coreLost c reason => exact execCoreLost_keepsQueue c reason s
  | repairAutoAddEntry c => exact execRepairAutoAddEntry_keepsQueue c s
  | commitNotice k => exact execCommitNotice_keepsQueue k s
  | postReceive k mesh => exact execPostReceive_keepsQueue k mesh s
  | eventLost k => exact execEventLost_keepsQueue k s
  | csErrClear f v => exact execCsErrClear_keepsQueue f v s
  | syncAnswer j => exact execSyncAnswer_keepsQueue j s
  | sxErrClear f v => exact execSxErrClear_keepsQueue f v s
  | wellArrival k => exact execWellArrival_keepsQueue k s
  | releaseTreeArrival k => exact execReleaseTreeArrival_keepsQueue k s
  | wellTimeout f g => exact execWellTimeout_keepsQueue f g s
  | brokenReleaseArrival k => exact execBrokenReleaseArrival_keepsQueue k s
  | dryWellDeclare p => exact execDryWellDeclare_keepsQueue p s
  | dryWellSnapshotCommit p => exact execDryWellSnapshotCommit_keepsQueue p s
  | recipeArrivalSlice c => exact execRecipeArrivalSlice_keepsQueue c s
  | finishSend c => exact execFinishSend_keepsQueue c s
  | recipeFinish c => exact execRecipeFinish_keepsQueue c s
  | recipeRunFault c => exact execRecipeRunFault_keepsQueue c s
  | endCompletionSend c => exact execEndCompletionSend_keepsQueue c s
  | outboundEntryLeave c => exact execOutboundEntryLeave_keepsQueue c s
  | refusalDelivery c => exact execRefusalDelivery_keepsQueue c s
  | coreWake c => exact execCoreWake_keepsQueue c s
  | fillerEnter c => exact execFillerEnter_keepsQueue c s
  | fillerDutyDecay c => exact execFillerDutyDecay_keepsQueue c s
  | storeBufferDrain c => exact execStoreBufferDrain_keepsQueue c s
  | eccWriteBack c bank => exact execEccWriteBack_keepsQueue c bank s
  | messageAccept k => exact execMessageAccept_keepsQueue k s
  | ack k => exact execAck_keepsQueue k s
  | msgUnreachable k => exact execMsgUnreachable_keepsQueue k s
  | packetReservedDiscard f h => exact execPacketReservedDiscard_keepsQueue f h s
  | creditReq k => exact execCreditReq_keepsQueue k s
  | creditGrant k => exact execCreditGrant_keepsQueue k s
  | creditReturn k => exact execCreditReturn_keepsQueue k s
  | creditEntryIdleTimeout c j => exact execCreditEntryIdleTimeout_keepsQueue c j s
  | creditBusyRetry c j => exact execCreditBusyRetry_keepsQueue c j s
  | lost k => exact execLost_keepsQueue k s
  | msgAckTimeout c j => exact execMsgAckTimeout_keepsQueue c j s
  | lostCoreCreditReturn c => exact execLostCoreCreditReturn_keepsQueue c s
  | linkFlitError px py dir => exact execLinkFlitError_keepsQueue px py dir s
  | linkResendRequest px py dir => exact execLinkResendRequest_keepsQueue px py dir s
  | meshLinkDown px py dir held => exact execMeshLinkDown_keepsQueue px py dir held s
  | trainComplete p width engine port => exact execTrainComplete_keepsQueue p width engine port s
  | trainTimeout p => exact execTrainTimeout_keepsQueue p s
  | autoRetrain p => exact execAutoRetrain_keepsQueue p s
  | frameReceive p f => exact execFrameReceive_keepsQueue p f s
  | nak p named => exact execNak_keepsQueue p named s
  | replayTimeout p => exact execReplayTimeout_keepsQueue p s
  | sluicePortDown p fec => exact execSluicePortDown_keepsQueue p fec s
  | linkDelayMeasure p trip => exact execLinkDelayMeasure_keepsQueue p trip s
  | crossEngineTransit fromMesh k => exact execCrossEngineTransit_keepsQueue fromMesh k s
  | xevent k => exact execXevent_keepsQueue k s
  | xarrive k => exact execXarrive_keepsQueue k s
  | xrelease k => exact execXrelease_keepsQueue k s
  | xbreak k => exact execXbreak_keepsQueue k s
  | xlost k => exact execXlost_keepsQueue k s
  | xcopy k => exact execXcopy_keepsQueue k s
  | xack k => exact execXack_keepsQueue k s
  | tsSyncSend => exact execTsSyncSend_keepsQueue s
  | tsSync k => exact execTsSync_keepsQueue k s
  | tstampSlew => exact execTstampSlew_keepsQueue s
  | holdoverTimeout => exact execHoldoverTimeout_keepsQueue s
  | csyncInEdge => exact execCsyncInEdge_keepsQueue s
  | csyncOutPulse => exact execCsyncOutPulse_keepsQueue s
  | flPropose p => exact execFlPropose_keepsQueue p s
  | flProposeReceive k => exact execFlProposeReceive_keepsQueue k s
  | flDecide p => exact execFlDecide_keepsQueue p s
  | flCommand k => exact execFlCommand_keepsQueue k s
  | flockLost p => exact execFlockLost_keepsQueue p s
  | routeWrite e v => exact execRouteWrite_keepsQueue e v s
  | cwDescWrite g v => exact execCwDescWrite_keepsQueue g v s
  | flDescWrite p v => exact execFlDescWrite_keepsQueue p v s
  | usdoInitiateDownload index sub size data => exact execUsdoInitiateDownload_keepsQueue index sub size data s
  | usdoInitiateUpload index sub => exact execUsdoInitiateUpload_keepsQueue index sub s
  | usdoSegment data last => exact execUsdoSegment_keepsQueue data last s
  | dictSegTimeout => exact execDictSegTimeout_keepsQueue s
  | mbDoorbell p c => exact execMbDoorbell_keepsQueue p c s
  | dictRead who => exact execDictRead_keepsQueue who s
  | dictWrite who => exact execDictWrite_keepsQueue who s
  | dictWriteApply => exact execDictWriteApply_keepsQueue s
  | dictWriteAnswer => exact execDictWriteAnswer_keepsQueue s
  | nmtResetNode => exact execNmtResetNode_keepsQueue s
  | nmtResetCommunication => exact execNmtResetCommunication_keepsQueue s
  | heartbeatSend => exact execHeartbeatSend_keepsQueue s
  | heartbeatReceive node => exact execHeartbeatReceive_keepsQueue node s
  | canHbTimeout k => exact execCanHbTimeout_keepsQueue k s
  | emcySend => exact execEmcySend_keepsQueue s
  | rpdoReceive r data => exact execRpdoReceive_keepsQueue r data s
  | tpdoSend t => exact execTpdoSend_keepsQueue t s
  | canBusOff => exact execCanBusOff_keepsQueue s
  | canOverrun => exact execCanOverrun_keepsQueue s
  | epochClose => exact execEpochClose_keepsQueue s
  | epochReceive x => exact execEpochReceive_keepsQueue x s
  | epochAck => exact execEpochAck_keepsQueue s
  | heartbeatLossTimeout => exact execHeartbeatLossTimeout_keepsQueue s
  | wellheadWatchdogExpiry => exact execWellheadWatchdogExpiry_keepsQueue s
  | wellheadMemoryError => exact execWellheadMemoryError_keepsQueue s
  | wellheadTakeover => exact execWellheadTakeover_keepsQueue s
  | standbyLost => exact execStandbyLost_keepsQueue s
  | standbyResyncComplete x => exact execStandbyResyncComplete_keepsQueue x s
  | wellheadPairLost w image flash => exact execWellheadPairLost_keepsQueue w image flash s
  | wellheadBootRetry => exact execWellheadBootRetry_keepsQueue s
  | faultQueueDrain => exact execFaultQueueDrain_keepsQueue s
  | porNRise => exact execPorNRise_keepsQueue s
  | porNFall => exact execPorNFall_keepsQueue s
  | strapSample raw => exact execStrapSample_keepsQueue raw s
  | wellheadBootComplete w code crc flash => exact execWellheadBootComplete_keepsQueue w code crc flash s
  | pmbusScanComplete devs missing => exact execPmbusScanComplete_keepsQueue devs missing s
  | rdStartComplete ok => exact execRdStartComplete_keepsQueue ok s
  | mdStartComplete f ok => exact execMdStartComplete_keepsQueue f ok s
  | cdStartComplete f => exact execCdStartComplete_keepsQueue f s
  | cdStartTimeout f => exact execCdStartTimeout_keepsQueue f s
  | startStepTimeout x => exact execStartStepTimeout_keepsQueue x s
  | rstBtnPressBegin => exact execRstBtnPressBegin_keepsQueue s
  | rstBtnPressEnd flash => exact execRstBtnPressEnd_keepsQueue flash s
  | buttonStuck => exact execButtonStuck_keepsQueue s
  | flowLossDeclare => exact execFlowLossDeclare_keepsQueue s
  | coolantBackupTimeout => exact execCoolantBackupTimeout_keepsQueue s
  | flowRestoreDeclare => exact execFlowRestoreDeclare_keepsQueue s
  | coolantRestart => exact execCoolantRestart_keepsQueue s
  | refclkLost => exact execRefclkLost_keepsQueue s
  | refclkRestore => exact execRefclkRestore_keepsQueue s
  | pllUnlock f => exact execPllUnlock_keepsQueue f s
  | fstateChangeBegin => exact execFstateChangeBegin_keepsQueue s
  | fstateChangeComplete => exact execFstateChangeComplete_keepsQueue s
  | sensorConversion j t => exact execSensorConversion_keepsQueue j t s
  | thermWarnClear => exact execThermWarnClear_keepsQueue s
  | thermForcedClear => exact execThermForcedClear_keepsQueue s
  | derateStep => exact execDerateStep_keepsQueue s
  | sensorFault j => exact execSensorFault_keepsQueue j s
  | slackCheck f slack => exact execSlackCheck_keepsQueue f slack s
  | pmbAlert l => exact execPmbAlert_keepsQueue l s
  | pmbusPoll l => exact execPmbusPoll_keepsQueue l s
  | vrDerateClear => exact execVrDerateClear_keepsQueue s
  | estimatorTick acts sensed => exact execEstimatorTick_keepsQueue acts sensed s
  | controllerPeriod => exact execControllerPeriod_keepsQueue s
  | controllerEpoch => exact execControllerEpoch_keepsQueue s
  | calibration => exact execCalibration_keepsQueue s
  | quietWindowForce f => exact execQuietWindowForce_keepsQueue f s
  | ceilingGuardEngage => exact execCeilingGuardEngage_keepsQueue s
  | ceilingGuardRelease => exact execCeilingGuardRelease_keepsQueue s
  | droopStretchBegin f => exact execDroopStretchBegin_keepsQueue f s
  | droopStretchEnd f => exact execDroopStretchEnd_keepsQueue f s
  | droopSevere f => exact execDroopSevere_keepsQueue f s
  | hintExpiry p pclass => exact execHintExpiry_keepsQueue p pclass s
  | sramScrubRow c bank found => exact execSramScrubRow_keepsQueue c bank found s
  | forcedScrubCycle c bank found => exact execForcedScrubCycle_keepsQueue c bank found s
  | tableScrubSlot f found => exact execTableScrubSlot_keepsQueue f found s
  | statsIntervalEnd p => exact execStatsIntervalEnd_keepsQueue p s
  | traceRecordWrite p => exact execTraceRecordWrite_keepsQueue p s
  | traceProdWrite p => exact execTraceProdWrite_keepsQueue p s
  | traceConsRead p value => exact execTraceConsRead_keepsQueue p value s
  | traceDrop p stage => exact execTraceDrop_keepsQueue p stage s
  | trEnable p base => exact execTrEnable_keepsQueue p base s
  | trDisable p => exact execTrDisable_keepsQueue p s
  | deviceControl2Write p v => exact execDeviceControl2Write_keepsQueue p v s
  | perstNRise p width rate => exact execPerstNRise_keepsQueue p width rate s
  | inputPowerLoss => exact execInputPowerLoss_keepsQueue s
  | downLinkPacketLost px py dir k => exact execDownLinkPacketLost_keepsQueue px py dir k s
  | statsEmissionWindowEnd f => exact execStatsEmissionWindowEnd_keepsQueue f s
  | wellheadHeartbeat w => exact execWellheadHeartbeat_keepsQueue w s
  | wellheadRestartBoot w image => exact execWellheadRestartBoot_keepsQueue w image s

/-- Settles O55: `step` is the two cases of the queue. -/
theorem stepRunsFrontCommand : Obligations.StepRunsFrontCommand := by
  unfold Obligations.StepRunsFrontCommand Claims.StepRunsFrontCommand
  constructor
  · intro s c rest h
    rw [step, h]
  · intro s h
    rw [step, h]

/-- Settles O56: no command changes the queue, so a step takes its front away and nothing else. -/
theorem queueIsFirstInFirstOut : Obligations.QueueIsFirstInFirstOut := by
  obtain ⟨front, tick⟩ := stepRunsFrontCommand
  refine ⟨fun c s t h => exec_keepsQueue c s t h, fun s t h => ?_⟩
  cases hq : s.pending with
  | nil =>
    rw [tick s hq] at h
    injection h with h
    rw [← h, State.tick_pending, hq]
    rfl
  | cons c rest =>
    rw [front s c rest hq] at h
    exact exec_keepsQueue c _ t h

end Sys2Proof.Machine
end

section
/-! PROOFS. Port registers, function-level reset and PERST_N (R8, R294 to R297, R318, R349, R394). -/

namespace Sys2Proof.Machine

/-! ### Dropped translations and settled commands -/

@[simp] theorem Port.dropPages_cache (x : Port) (hit : Nat → Nat → Bool) :
    (x.dropPages hit).cache = x.cache.filter (fun e => !hit e.ctx e.page) := rfl
@[simp] theorem Port.dropPages_ctxRoot (x : Port) (hit : Nat → Nat → Bool) : (x.dropPages hit).ctxRoot = x.ctxRoot := rfl
@[simp] theorem Port.dropPages_devBase (x : Port) (hit : Nat → Nat → Bool) : (x.dropPages hit).devBase = x.devBase := rfl
@[simp] theorem Port.dropPages_devLimit (x : Port) (hit : Nat → Nat → Bool) : (x.dropPages hit).devLimit = x.devLimit := rfl

@[simp] theorem Cmd.settle_silent (c : Cmd) : c.settle.silent = c.silent := by
  unfold Cmd.settle
  split
  · rfl
  · split
    · rfl
    · split <;> rfl

/-- A command without host reads open has none once it settles. -/
theorem Cmd.settle_reads {c : Cmd} (h : c.reads = []) : c.settle.reads = [] := by
  unfold Cmd.settle
  split
  · exact h
  · split
    · exact h
    · split
      · rfl
      · exact h

/-! ### Commands that a reset leaves in execution -/

/-- Of the commands in execution a function reset leaves those that will not report, none of them a START_GRAPH that has still to check. -/
theorem Port.functionReset_cmds (x : Port) {c : Cmd} (h : c ∈ x.functionReset.cmds) : c.silent = true ∧ c.wait ≠ .cds := by
  simp only [Port.functionReset, List.mem_map, List.mem_filter, Bool.and_eq_true, Bool.not_eq_true', decide_eq_false_iff_not] at h
  obtain ⟨d, ⟨-, -, hd⟩, rfl⟩ := h
  exact ⟨rfl, hd⟩

/-- Of those, the loss of the link leaves no host read open. -/
theorem Port.linkLost_cmds (x : Port) (hs : ∀ c ∈ x.cmds, c.silent = true) {c : Cmd} (h : c ∈ x.linkLost.cmds) :
    c.silent = true ∧ c.reads = [] := by
  simp only [Port.linkLost, List.mem_map, List.mem_filter] at h
  obtain ⟨d, ⟨hd, -⟩, rfl⟩ := h
  exact ⟨(Cmd.settle_silent _).trans (hs d hd), Cmd.settle_reads rfl⟩

/-! ### Ports after the mailbox requests of one are dropped -/

@[simp] theorem State.port_dropMailbox (s : State) (p q : Nat) : (s.dropMailbox p).port q = s.port q := rfl

/-! ### The commands -/

@[simp] theorem mem_upTo {n i : Nat} : i ∈ upTo n ↔ i < n := List.mem_range

variable {s : State} {p : Nat}

theorem exec_ctxRootWrite {c v : Nat} (hp : p < 4) (hup : s.portUp p = true) (hc : c < 16)
    (free : ∀ r, r < 16 → ((s.port p).ring r).en = true → ((s.port p).ring r).ctx ≠ c) :
    exec (.ctxRootWrite p c v) s = .next (s.setPort p
      ({ s.port p with ctxRoot := Tab.write (s.port p).ctxRoot 0 c (v &&& 0xFFFFFFFFFF001) }.dropPages (fun ctx _ => decide (ctx = c)))) := by
  have unused : (upTo 16).any (fun r => ((s.port p).ring r).en && decide (((s.port p).ring r).ctx = c)) = false := by
    simp only [List.any_eq_false, Bool.and_eq_true, decide_eq_true_eq, not_and, mem_upTo]
    exact free
  simp [exec, execCtxRootWrite, onPort, hp, hup, hc, unused]

theorem exec_devwinWrite {w v : Nat} (limit : Bool) (hp : p < 4) (hup : s.portUp p = true) (hw : w < 8) :
    exec (.devwinWrite p w limit v) s = .next (s.setPort p
      ((if limit then { s.port p with devLimit := Tab.write (s.port p).devLimit 0 w (v &&& 0xFFFFFFFFFF000) }
        else { s.port p with devBase := Tab.write (s.port p).devBase 0 w (v &&& 0xFFFFFFFFFF001) }).dropPages (fun _ _ => true))) := by
  simp [exec, execDevwinWrite, onPort, hp, hup, hw]

theorem exec_registerWrite_bar {v : Nat} (hp : p < 4) (hup : s.portUp p = true) (hc : s.configRetry p = false) :
    exec (.registerWrite p 0x100010 v) s = .next (s.setPort p { s.port p with bar := some (v / 0x100000 * 0x100000) }) := by
  simp [exec, execRegisterWrite, onPort, hp, hup, hc, State.modPort, Port.configWrite]

theorem exec_registerWrite_bar0 {o v : Nat} (hp : p < 4) (hup : s.portUp p = true) (ho : o < 0x100000) :
    exec (.registerWrite p o v) s = .next (s.setPort p ((s.port p).writeReg o v)) := by
  simp [exec, execRegisterWrite, onPort, hp, hup, Nat.not_le.mpr ho, State.modPort]

theorem exec_deviceControl2Write {v : Nat} (hp : p < 4) (hc : s.configRetry p = false)
    (hv : v % 16 = 1 ∨ v % 16 = 2 ∨ v % 16 = 5 ∨ v % 16 = 6) :
    exec (.deviceControl2Write p v) s = .next (s.setPort p { s.port p with cplRange := v % 16 }) := by
  have listed : [0, 1, 2, 5, 6].contains (v % 16) = true := by
    rcases hv with h | h | h | h <;> rw [h] <;> rfl
  simp only [exec, execDeviceControl2Write, onPort, hp, hc, listed, State.modPort, if_true, Bool.not_false, and_self]

theorem exec_functionLevelReset (hp : p < 4) (hup : s.portUp p = true) :
    exec (.functionLevelReset p) s = .next ((s.setPort p (s.port p).functionReset).dropMailbox p) := by
  simp [exec, execFunctionLevelReset, onPort, hp, hup, State.modPort]

theorem exec_perstN (hp : p < 4) :
    exec (.perstN p) s = .next ((s.setPort p { (s.port p).functionReset.linkLost with
      linkUp := false, perst := false, width := 0, rate := 0, cplRange := 0, bar := none, mps := 0, mrrs := 2,
      msixEn := false, msixMask := false, aer := 0 }).dropMailbox p) := by
  simp [exec, execPerstN, onPort, hp, State.modPort]

theorem exec_perstNRise {width rate : Nat} (hp : p < 4) (low : (s.port p).perst = false) :
    exec (.perstNRise p width rate) s = .next (s.setPort p { s.port p with
      perst := true, perstAt := s.tstamp, width := min width 4, rate := max 1 (min rate 5), linkUp := decide (s.rd.state = .on) }) := by
  simp [exec, execPerstNRise, onPort, hp, State.modPort, low]

/-- Settles O33: each command is a write of one port, read back field by field. -/
theorem portRegistersAndResets : Obligations.PortRegistersAndResets := by
  unfold Obligations.PortRegistersAndResets Claims.PortRegistersAndResets
  intro s p hp
  refine ⟨fun hup => ⟨?ctx, ?devwin, ?bar, ?reg, ?cpl, ?flr⟩, ?perst, ?rise⟩
  case ctx =>
    intro c v hc free
    exact ⟨_, exec_ctxRootWrite hp hup hc free, rfl, fun d => by simp, by simp⟩
  case devwin =>
    intro w v hw
    exact ⟨⟨_, exec_devwinWrite false hp hup hw, rfl, by simp, by simp, by simp⟩, _, exec_devwinWrite true hp hup hw, rfl, by simp, by simp, by simp⟩
  case bar => exact fun v hc => exec_registerWrite_bar hp hup hc
  case reg => exact fun o v ho => exec_registerWrite_bar0 hp hup ho
  case cpl => exact fun v hc hv => exec_deviceControl2Write hp hc hv
  case flr =>
    refine ⟨_, exec_functionLevelReset hp hup, fun q hq => by simp [hq], rfl, ?_⟩
    rw [State.port_dropMailbox, State.port_setPort, if_pos rfl]
    exact ⟨rfl, fun c hc => Port.functionReset_cmds _ hc, rfl, rfl, rfl, rfl, rfl⟩
  case perst =>
    refine ⟨_, exec_perstN hp, rfl, ?_⟩
    rw [State.port_dropMailbox, State.port_setPort, if_pos rfl]
    exact ⟨rfl, fun c hc => Port.linkLost_cmds _ (fun d hd => (Port.functionReset_cmds _ hd).1) hc, rfl, rfl, rfl, rfl, rfl⟩
  case rise =>
    intro width rate low
    refine ⟨_, exec_perstNRise hp low, ?_⟩
    rw [State.port_setPort, if_pos rfl]
    exact ⟨rfl, rfl, rfl, rfl⟩

end Sys2Proof.Machine
end

section
/-! PROOFS. Frames of a Sluice port: taken in sequence, acknowledged, refused and sent again (R257 to R259, R264, R267). -/

namespace Sys2Proof.Machine

/-! ### Reading a port after an update -/

@[simp] theorem State.sl_modSl (s : State) (p q : Nat) (g : Sluice → Sluice) :
    (s.modSl p g).sl q = if q = p then g (s.sl p) else s.sl q := Tab.read_write s.sluice Sluice.reset (g (s.sl p)) p q
@[simp] theorem State.sl_xlocal (s : State) (p q : Nat) (x : XPacket) : (s.xlocal p x).sl q = s.sl q := rfl
@[simp] theorem State.xlocal_xin (s : State) (p : Nat) (x : XPacket) : (s.xlocal p x).rd.xin = s.rd.xin ++ [(p, x)] := rfl
@[simp] theorem State.xlocal_linkOut (s : State) (p : Nat) (x : XPacket) : (s.xlocal p x).linkOut = s.linkOut := rfl

@[simp] theorem State.sl_sendBare (s : State) (p q ty ack : Nat) :
    (s.sendBare p ty ack).sl q = if q = p then { (s.sl p).count 0 1 with owed := [0, 0, 0] } else s.sl q :=
  State.sl_modSl s p q (fun y => { y.count 0 1 with owed := [0, 0, 0] })
@[simp] theorem State.sendBare_rd (s : State) (p ty ack : Nat) : (s.sendBare p ty ack).rd = s.rd := rfl
@[simp] theorem State.sendBare_linkOut (s : State) (p ty ack : Nat) :
    (s.sendBare p ty ack).linkOut = s.linkOut ++ [frameOut p (s.sl p).txSeq ack ty none (s.sl p).owed] := rfl

/-- With no flit waiting a port sends nothing more. -/
theorem State.pumpAll_idle {s : State} {p : Nat} (h : (s.sl p).txq = []) : s.pumpAll p = s := by
  rw [State.pumpAll, h]
  rfl

/-! ### Counting, credit and acknowledgement at a port -/

section
variable (y : Sluice)

@[simp] theorem Sluice.count_txSeq (off n : Nat) : (y.count off n).txSeq = y.txSeq := rfl
@[simp] theorem Sluice.count_rxSeq (off n : Nat) : (y.count off n).rxSeq = y.rxSeq := rfl
@[simp] theorem Sluice.count_discarding (off n : Nat) : (y.count off n).discarding = y.discarding := rfl
@[simp] theorem Sluice.count_replay (off n : Nat) : (y.count off n).replay = y.replay := rfl
@[simp] theorem Sluice.count_txq (off n : Nat) : (y.count off n).txq = y.txq := rfl
@[simp] theorem Sluice.count_owed (off n : Nat) : (y.count off n).owed = y.owed := rfl
@[simp] theorem Sluice.count_counters (off n k : Nat) :
    Tab.read (y.count off n).counters 0 k = if k = off then (Tab.read y.counters 0 off + n) % 2 ^ 64 else Tab.read y.counters 0 k :=
  Tab.read_write y.counters 0 _ off k

@[simp] theorem Sluice.addCredit_txSeq (l : List Nat) : (y.addCredit l).txSeq = y.txSeq := rfl
@[simp] theorem Sluice.addCredit_rxSeq (l : List Nat) : (y.addCredit l).rxSeq = y.rxSeq := rfl
@[simp] theorem Sluice.addCredit_replay (l : List Nat) : (y.addCredit l).replay = y.replay := rfl
@[simp] theorem Sluice.addCredit_txq (l : List Nat) : (y.addCredit l).txq = y.txq := rfl
@[simp] theorem Sluice.addCredit_owed (l : List Nat) : (y.addCredit l).owed = y.owed := rfl
@[simp] theorem Sluice.addCredit_counters (l : List Nat) : (y.addCredit l).counters = y.counters := rfl

@[simp] theorem Sluice.owe_rxSeq (c n : Nat) : (y.owe c n).rxSeq = y.rxSeq := rfl
@[simp] theorem Sluice.owe_txq (c n : Nat) : (y.owe c n).txq = y.txq := rfl
@[simp] theorem Sluice.owe_counters (c n : Nat) : (y.owe c n).counters = y.counters := rfl

/-- An acknowledgement changes the frames held and the replay count of the oldest, nothing else. -/
theorem Sluice.acked_frame (seq : Nat) : y.acked seq = { y with replay := (y.acked seq).replay, replays := (y.acked seq).replays } := by
  unfold Sluice.acked
  split <;> rfl

@[simp] theorem Sluice.acked_txSeq (seq : Nat) : (y.acked seq).txSeq = y.txSeq := by rw [Sluice.acked_frame]
@[simp] theorem Sluice.acked_rxSeq (seq : Nat) : (y.acked seq).rxSeq = y.rxSeq := by rw [Sluice.acked_frame]
@[simp] theorem Sluice.acked_txq (seq : Nat) : (y.acked seq).txq = y.txq := by rw [Sluice.acked_frame]
@[simp] theorem Sluice.acked_owed (seq : Nat) : (y.acked seq).owed = y.owed := by rw [Sluice.acked_frame]
@[simp] theorem Sluice.acked_counters (seq : Nat) : (y.acked seq).counters = y.counters := by rw [Sluice.acked_frame]

variable {y}

/-- The frames up to the one acknowledged are released. -/
theorem Sluice.acked_replay {seq : Nat} {l m : List (Nat × Nat × Flit)} {e : Nat × Nat × Flit} (h : y.replay = l ++ e :: m) (he : e.1 = seq)
    (hl : ∀ d ∈ l, d.1 ≠ seq) : (y.acked seq).replay = m := by
  have held : y.replay.any (fun e => decide (e.1 = seq)) = true :=
    List.any_eq_true.mpr ⟨e, by simp [h], by simpa using he⟩
  have older : (l ++ e :: m).dropWhile (fun e => !decide (e.1 = seq)) = e :: m := by
    rw [List.dropWhile_append_of_pos (by simpa using hl)]
    simp [he]
  rw [Sluice.acked, if_pos held, h, older]
  rfl

/-- A sequence number of no frame held acknowledges nothing. -/
theorem Sluice.acked_of_not_held {seq : Nat} (h : ∀ d ∈ y.replay, d.1 ≠ seq) : y.acked seq = y := by
  refine if_neg fun held => ?_
  obtain ⟨d, hd, he⟩ := List.any_eq_true.mp held
  exact h d hd (of_decide_eq_true he)

end

/-! ### A frame that is not taken -/

/-- A frame discarded leaves what was received and sent as it is; the first one is answered by a NAK naming the frame expected. -/
theorem State.frameBad_spec (s : State) (p : Nat) :
    (s.frameBad p).rd = s.rd ∧ ((s.frameBad p).sl p).rxSeq = (s.sl p).rxSeq ∧ ((s.frameBad p).sl p).replay = (s.sl p).replay ∧
      ((s.frameBad p).sl p).discarding = true ∧
      (s.frameBad p).linkOut = s.linkOut ++ if (s.sl p).discarding then [] else [frameOut p (s.sl p).txSeq (s.sl p).rxSeq 2 none (s.sl p).owed] := by
  unfold State.frameBad
  split
  · next h => simp [h]
  · next h => simp

/-! ### What a port does with a frame -/

/-- The port with the FEC counters of a frame received advanced. -/
def State.fecCounted (s : State) (p : Nat) (f : Frame) : State := s.modSl p (fun y => (y.count 0x28 f.corr).count 0x30 (b2n !f.fecOk))

/-- The port with a frame in sequence taken: what it acknowledges is released, the credit it returns is added (R257, R264). -/
def State.frameTaken (s : State) (p : Nat) (f : Frame) : State :=
  (s.fecCounted p f).modSl p (fun y => { (((y.acked f.ackSeq).addCredit f.credit).count 0x08 1) with discarding := false })

/-- The port with a DATA frame in sequence taken and acknowledged, its flit not yet looked at (R258). -/
def State.dataTaken (s : State) (p : Nat) (f : Frame) : State :=
  ((s.frameTaken p f).modSl p (fun y => { y with rxSeq := (y.rxSeq + 1) % 4096 })).sendBare p 1 f.seq

section
variable {s : State} {p : Nat} {f : Frame} (hp : p < 12) (up : (s.sl p).state = .up)
include hp up

theorem exec_frameReceive_uncorrected (fec : f.fecOk = false) :
    exec (.frameReceive p f) s = .next ((s.fecCounted p f).frameBad p) := by
  simp [exec, execFrameReceive, onSluice, State.fecCounted, hp, up, fec]

theorem exec_frameReceive_crcDiffers (fec : f.fecOk = true) (crc : ¬ Claims.crcGood f) :
    exec (.frameReceive p f) s = .next (((s.fecCounted p f).modSl p (fun y => y.count 0x20 1)).frameBad p) := by
  unfold Claims.crcGood at crc
  simp [exec, execFrameReceive, onSluice, State.fecCounted, hp, up, fec, crc]

theorem exec_frameReceive_outOfSequence (fec : f.fecOk = true) (crc : Claims.crcGood f) (ty : f.ftype = 0 ∨ f.ftype = 1 ∨ f.ftype = 4)
    (resv : f.resv = 0) (seq : f.seq ≠ (s.sl p).rxSeq) : exec (.frameReceive p f) s = .next ((s.fecCounted p f).frameBad p) := by
  have listed : ¬ 5 ≤ f.ftype ∧ ¬ f.ftype = 2 ∧ ¬ f.ftype = 3 := by omega
  simp only [Claims.crcGood, resv] at crc
  simp [exec, execFrameReceive, onSluice, State.fecCounted, hp, up, fec, crc, listed, resv, seq]

theorem exec_frameReceive_data {fl : Flit} (fec : f.fecOk = true) (crc : Claims.crcGood f) (ty : f.ftype = 0) (resv : f.resv = 0)
    (seq : f.seq = (s.sl p).rxSeq) (flit : f.flit = some fl) :
    exec (.frameReceive p f) s = .next (((s.dataTaken p f).flitIn p fl).pumpAll p) := by
  simp only [Claims.crcGood, resv, ty, flit] at crc
  simp [exec, execFrameReceive, onSluice, State.dataTaken, State.frameTaken, State.fecCounted, hp, up, fec, crc, ty, resv, seq, flit]

theorem exec_frameReceive_ack (fec : f.fecOk = true) (crc : Claims.crcGood f) (ty : f.ftype = 1) (resv : f.resv = 0)
    (seq : f.seq = (s.sl p).rxSeq) : exec (.frameReceive p f) s = .next ((s.frameTaken p f).pumpAll p) := by
  simp only [Claims.crcGood, resv, ty] at crc
  simp [exec, execFrameReceive, onSluice, State.frameTaken, State.fecCounted, hp, up, fec, crc, ty, resv, seq]

end

/-! ### The port after a frame is taken -/

section
variable (s : State) (p q : Nat) (f : Frame)

@[simp] theorem State.fecCounted_rd : (s.fecCounted p f).rd = s.rd := rfl
@[simp] theorem State.fecCounted_linkOut : (s.fecCounted p f).linkOut = s.linkOut := rfl
@[simp] theorem State.sl_fecCounted :
    (s.fecCounted p f).sl q = if q = p then ((s.sl p).count 0x28 f.corr).count 0x30 (b2n !f.fecOk) else s.sl q := State.sl_modSl s p q _

@[simp] theorem State.frameTaken_rd : (s.frameTaken p f).rd = s.rd := rfl
@[simp] theorem State.frameTaken_linkOut : (s.frameTaken p f).linkOut = s.linkOut := rfl
@[simp] theorem State.frameTaken_txq : ((s.frameTaken p f).sl p).txq = (s.sl p).txq := by simp [State.frameTaken]
@[simp] theorem State.frameTaken_rxSeq : ((s.frameTaken p f).sl p).rxSeq = (s.sl p).rxSeq := by simp [State.frameTaken]

@[simp] theorem State.dataTaken_rd : (s.dataTaken p f).rd = s.rd := by simp [State.dataTaken]
@[simp] theorem State.dataTaken_linkOut :
    (s.dataTaken p f).linkOut = s.linkOut ++ [frameOut p (s.sl p).txSeq f.seq 1 none (s.sl p).owed] := by
  simp [State.dataTaken, State.frameTaken]
@[simp] theorem State.dataTaken_txq : ((s.dataTaken p f).sl p).txq = (s.sl p).txq := by simp [State.dataTaken]
@[simp] theorem State.dataTaken_rxSeq : ((s.dataTaken p f).sl p).rxSeq = ((s.sl p).rxSeq + 1) % 4096 := by simp [State.dataTaken]
@[simp] theorem State.dataTaken_discarding : ((s.dataTaken p f).sl p).discarding = false := by simp [State.dataTaken, State.frameTaken]
@[simp] theorem State.dataTaken_discards : Tab.read ((s.dataTaken p f).sl p).counters 0 0x40 = Tab.read (s.sl p).counters 0 0x40 := by
  simp [State.dataTaken, State.frameTaken]

variable {s p q f}

theorem State.dataTaken_others (h : q ≠ p) : (s.dataTaken p f).sl q = s.sl q := by simp [State.dataTaken, State.frameTaken, h]

/-- An acknowledgement in sequence releases the frames up to the one it names. -/
theorem State.frameTaken_replay {l m : List (Nat × Nat × Flit)} {e : Nat × Nat × Flit} (h : (s.sl p).replay = l ++ e :: m) (he : e.1 = f.ackSeq)
    (hl : ∀ d ∈ l, d.1 ≠ f.ackSeq) : ((s.frameTaken p f).sl p).replay = m := by
  simp only [State.frameTaken, State.sl_modSl, State.sl_fecCounted, if_true, Sluice.count_replay, Sluice.addCredit_replay]
  exact Sluice.acked_replay h he hl

end

/-! ### The packet of a header flit -/

section
variable {s : State} {p : Nat} {x : XPacket}

/-- A header that no payload follows is a whole packet. -/
theorem State.flitIn_head (h : x.xtype ≠ 10) : s.flitIn p (.head x) = s.xreceived p x := by
  simp [State.flitIn, h]

theorem State.xreceived_good (ty : ¬ (x.xtype = 0 ∨ x.xtype = 9 ∨ 12 ≤ x.xtype)) (resv : x.resv = 0) : s.xreceived p x = s.xlocal p x := by
  refine if_neg ?_
  omega

/-- A packet of a reserved type or with a reserved bit set is counted, and its buffer given back. -/
theorem State.xreceived_reserved (h : x.xtype = 0 ∨ x.xtype = 9 ∨ 12 ≤ x.xtype ∨ x.resv ≠ 0) (hp : p < 12) :
    s.xreceived p x = (s.modSl p (fun y => y.count 0x40 1)).modSl p (fun y => y.owe (xclass x.xtype) x.flits.length) := by
  rw [State.xreceived, if_pos h, State.freeBuffer, if_pos hp]

end

/-! ### Sending again -/

/-- The port `y` with every frame it holds sent again at `now` (R259). -/
def Sluice.resent (y : Sluice) (now : Nat) : Sluice :=
  (({ y with replays := y.replays + 1, firstReplay := if y.replays = 0 then now else y.firstReplay,
             replay := y.replay.map (fun d => (d.1, now, d.2.2)) } : Sluice).count 0x10 y.replay.length).count 0 y.replay.length

/-- A port that is not at its last replay sends every frame held again, oldest first. -/
theorem State.replayAll_resent {s : State} {p : Nat} (held : (s.sl p).replay ≠ []) (again : (s.sl p).replays < 8) :
    s.replayAll p = { s.modSl p (fun _ => (s.sl p).resent s.tstamp) with
      linkOut := s.linkOut ++ (s.sl p).replay.map (fun d => frameOut p d.1 (s.sl p).ackSeq 0 (some d.2.2) [0, 0, 0]) } := by
  unfold State.replayAll
  rw [if_neg (by simpa using held), if_neg (by omega)]
  rfl

theorem State.sl_replayAll {s : State} {p : Nat} (q : Nat) (held : (s.sl p).replay ≠ []) (again : (s.sl p).replays < 8) :
    (s.replayAll p).sl q = if q = p then (s.sl p).resent s.tstamp else s.sl q := by
  rw [State.replayAll_resent held again]
  exact State.sl_modSl s p q (fun _ => (s.sl p).resent s.tstamp)

@[simp] theorem Sluice.resent_txq (y : Sluice) (now : Nat) : (y.resent now).txq = y.txq := rfl

section
variable {s u : State} {p : Nat} {e : Nat × Nat × Flit} {l : List (Nat × Nat × Flit)}

/-- What sending again does, from a state `u` that differs from `s` at most in how its ports are listed. -/
theorem State.replayAll_spec (hu : u = { s with sluice := u.sluice }) (same : ∀ q, u.sl q = s.sl q) (held : (s.sl p).replay = e :: l)
    (again : (s.sl p).replays < 8) :
    (u.replayAll p).rd = s.rd ∧ u.replayAll p = { s with sluice := (u.replayAll p).sluice, linkOut := (u.replayAll p).linkOut } ∧
      (∀ q, q ≠ p → (u.replayAll p).sl q = s.sl q) ∧ ((u.replayAll p).sl p).replay = (e :: l).map (fun d => (d.1, s.tstamp, d.2.2)) ∧
      ((u.replayAll p).sl p).replays = (s.sl p).replays + 1 ∧
      (u.replayAll p).linkOut = s.linkOut ++ (e :: l).map (fun d => frameOut p d.1 (s.sl p).ackSeq 0 (some d.2.2) [0, 0, 0]) := by
  have uheld : (u.sl p).replay ≠ [] := by simp [same, held]
  have uagain : (u.sl p).replays < 8 := by rwa [same]
  have now : u.tstamp = s.tstamp := by rw [hu]
  have sent : u.linkOut = s.linkOut := by rw [hu]
  have port (q : Nat) : (u.replayAll p).sl q = if q = p then (s.sl p).resent s.tstamp else s.sl q := by
    rw [State.sl_replayAll q uheld uagain, same, same, now]
  have out : (u.replayAll p).linkOut = s.linkOut ++ (e :: l).map (fun d => frameOut p d.1 (s.sl p).ackSeq 0 (some d.2.2) [0, 0, 0]) := by
    rw [State.replayAll_resent uheld uagain, same, held, sent]
  have frame : u.replayAll p = { s with sluice := (u.replayAll p).sluice, linkOut := (u.replayAll p).linkOut } := by
    rw [State.replayAll_resent uheld uagain, hu]
    rfl
  refine ⟨by rw [frame], frame, fun q hq => by rw [port, if_neg hq], ?_, ?_, out⟩
  · rw [port, if_pos rfl, ← held]
    rfl
  · rw [port, if_pos rfl]
    rfl

theorem exec_replayTimeout (hp : p < 12) (up : (s.sl p).state = .up) (held : (s.sl p).replay = e :: l) (old : e.2.1 + 40 ≤ s.tstamp) :
    exec (.replayTimeout p) s = .next (s.replayAll p) := by
  simp [exec, execReplayTimeout, onSluice, hp, up, held, old]

/-- A NAK of the oldest frame releases none: the port is written back as it was, and all is sent again. -/
theorem exec_nak_oldest (hp : p < 12) (up : (s.sl p).state = .up) (idle : (s.sl p).txq = []) (held : (s.sl p).replay = e :: l)
    (again : (s.sl p).replays < 8) (oldest : ∀ d ∈ e :: l, d.1 ≠ (e.1 + 4095) % 4096) :
    exec (.nak p e.1) s = .next ((s.modSl p (fun _ => s.sl p)).replayAll p) := by
  have kept : s.modSl p (fun y => if y.txSeq = e.1 ∧ !y.replay.any (fun d => decide (d.1 = e.1)) then { y with replay := [], replays := 0 }
      else y.acked ((e.1 + 4095) % 4096)) = s.modSl p (fun _ => s.sl p) := by
    have none : (s.sl p).acked ((e.1 + 4095) % 4096) = s.sl p := Sluice.acked_of_not_held (by rwa [held])
    simp [State.modSl, held, none]
  have quiet : (((s.modSl p (fun _ => s.sl p)).replayAll p).sl p).txq = [] := by
    rw [State.sl_replayAll p (by simp [held]) (by simpa using again)]
    simp [idle]
  simp only [exec, execNak, onSluice, hp, if_true, up, ne_eq, not_true, if_false, kept, State.pumpAll_idle quiet]

end

/-- Settles O35. Each kind of frame is first carried out (`exec_frameReceive_…`), then its port read back. -/
theorem framesInSequence : Obligations.FramesInSequence := by
  unfold Obligations.FramesInSequence Claims.FramesInSequence
  intro s p f hp up idle
  refine ⟨?packet, ?reserved, ?bad, ?ack, ?again⟩
  case packet =>
    intro x fec crc ty resv seq flit lo hi h9 h10 hr
    have taken : (s.dataTaken p f).flitIn p (.head x) = (s.dataTaken p f).xlocal p x := by
      rw [State.flitIn_head h10, State.xreceived_good (by omega) hr]
    refine ⟨_, exec_frameReceive_data hp up fec crc ty resv seq flit, ?_⟩
    rw [taken, State.pumpAll_idle (by simp [idle])]
    exact ⟨by simp, by simp, fun q hq => by rw [State.sl_xlocal, State.dataTaken_others hq], by simp, by simp⟩
  case reserved =>
    intro x fec crc ty resv seq flit hx
    have taken : (s.dataTaken p f).flitIn p (.head x) =
        ((s.dataTaken p f).modSl p (fun y => y.count 0x40 1)).modSl p (fun y => y.owe (xclass x.xtype) x.flits.length) := by
      rw [State.flitIn_head (by omega), State.xreceived_reserved (by omega) hp]
    refine ⟨_, exec_frameReceive_data hp up fec crc ty resv seq flit, ?_⟩
    rw [taken, State.pumpAll_idle (by simp [idle])]
    exact ⟨by simp, by simp, by simp⟩
  case bad =>
    intro bad
    by_cases fec : f.fecOk = true
    · by_cases crc : Claims.crcGood f
      · obtain ⟨ty, resv, seq⟩ := (bad.resolve_left (by simp [fec])).resolve_left (not_not_intro crc)
        refine ⟨_, exec_frameReceive_outOfSequence hp up fec crc ty resv seq, ?_⟩
        simpa using State.frameBad_spec (s.fecCounted p f) p
      · refine ⟨_, exec_frameReceive_crcDiffers hp up fec crc, ?_⟩
        simpa using State.frameBad_spec ((s.fecCounted p f).modSl p (fun y => y.count 0x20 1)) p
    · refine ⟨_, exec_frameReceive_uncorrected hp up (Bool.eq_false_iff.mpr fec), ?_⟩
      simpa using State.frameBad_spec (s.fecCounted p f) p
  case ack =>
    intro l m e fec crc ty resv seq held he hl
    refine ⟨_, exec_frameReceive_ack hp up fec crc ty resv seq, ?_⟩
    rw [State.pumpAll_idle (by simp [idle])]
    exact ⟨by simp, by simp, State.frameTaken_replay held he hl, by simp⟩
  case again =>
    rintro e l r held again oldest (rfl | ⟨rfl, old⟩)
    · exact ⟨_, exec_nak_oldest hp up idle held again oldest, State.replayAll_spec rfl (fun q => by by_cases h : q = p <;> simp [h]) held again⟩
    · exact ⟨_, exec_replayTimeout hp up held old, State.replayAll_spec rfl (fun _ => rfl) held again⟩

end Sys2Proof.Machine
end

section
/-! PROOFS. Lost messages and the links of the mesh (R141, R145, R179, R235, R238, R239, R250 to R253, R493). -/

namespace Sys2Proof.Machine

/-! ### A core whose message is lost -/

/-- A refusal stands unless an error of an earlier instruction does (R145, R179). -/
theorem Core.refuse_eq (k : Core) (cause : Nat) :
    k.refuse cause = { k with
      asyncErr := if k.asyncErr = none ∨ k.counter 6 < k.errAt then some (cause, none, 0) else k.asyncErr,
      errAt := if k.asyncErr = none ∨ k.counter 6 < k.errAt then k.counter 6 else k.errAt } := by
  unfold Core.refuse Core.pend
  split
  next h => simp only [h, true_or, if_true]
  next e h =>
    split
    next hlt => simp only [hlt, or_true, if_true]
    next hlt => simp only [h, hlt, reduceCtorEq, or_self, if_false]; rw [← h]

/-- The core without the message of a tag in its table of unacknowledged messages. -/
def Core.dropUnacked (k : Core) (tag : Nat) : Core :=
  { k with nif := { k.nif with unacked := k.nif.unacked.filter (fun u => !decide (u.tag = tag)) } }

/-- The core once the message of a tag is gone with the posted operations that follow it. -/
def Core.forgetMessage (k : Core) (tag : Nat) : Core :=
  match (k.nif.unacked.find? (fun u => decide (u.tag = tag))).map (fun u => u.seq) with
  | some n => (k.dropUnacked tag).loseFrom n
  | none => k.dropUnacked tag

theorem Core.forgetMessage_eq (k : Core) (tag : Nat) :
    k.forgetMessage tag = { k.dropUnacked tag with
      outq := (k.forgetMessage tag).outq, lostSeq := (k.forgetMessage tag).lostSeq } := by
  unfold Core.forgetMessage
  split <;> rfl

theorem Core.forgetMessage_found {k : Core} {tag : Nat} {x : Unacked}
    (h : k.nif.unacked.find? (fun u => decide (u.tag = tag)) = some x) :
    k.forgetMessage tag = (k.dropUnacked tag).loseFrom x.seq := by
  simp only [Core.forgetMessage, h, Option.map_some]

/-- The core of a running task after the loss of the message of a tag. -/
def Core.messageLost (k : Core) (tag cause : Nat) : Core := (k.forgetMessage tag).refuse cause

/-- The loss changes the table, the outbound queue and the error to be delivered. -/
theorem Core.messageLost_eq (k : Core) (tag cause : Nat) :
    k.messageLost tag cause = { k with
      nif := { k.nif with unacked := k.nif.unacked.filter (fun u => !decide (u.tag = tag)) },
      outq := (k.messageLost tag cause).outq, lostSeq := (k.messageLost tag cause).lostSeq,
      asyncErr := if k.asyncErr = none ∨ k.counter 6 < k.errAt then some (cause, none, 0) else k.asyncErr,
      errAt := if k.asyncErr = none ∨ k.counter 6 < k.errAt then k.counter 6 else k.errAt } := by
  unfold Core.messageLost
  rw [Core.refuse_eq, Core.forgetMessage_eq]
  rfl

theorem Core.messageLost_outq {k : Core} {tag cause : Nat} {x : Unacked}
    (h : k.nif.unacked.find? (fun u => decide (u.tag = tag)) = some x) :
    (k.messageLost tag cause).outq = k.outq.filter (fun e => decide (e.after ≤ x.seq)) := by
  rw [Core.messageLost, Core.refuse_eq, Core.forgetMessage_found h]
  rfl

theorem Core.messageLost_lostSeq {k : Core} {tag cause : Nat} {x : Unacked}
    (h : k.nif.unacked.find? (fun u => decide (u.tag = tag)) = some x) :
    (k.messageLost tag cause).lostSeq = some (k.lostSeq.elim x.seq (fun m => min m x.seq)) := by
  rw [Core.messageLost, Core.refuse_eq, Core.forgetMessage_found h]
  show some (match k.lostSeq with | some m => min m x.seq | none => x.seq) = _
  cases k.lostSeq <;> rfl

/-! ### The source acts on the loss (R252, R253) -/

@[simp] theorem State.core_addFieldCtr (s : State) (f off n c : Nat) : (s.addFieldCtr f off n).core c = s.core c := rfl

/-- A task that goes on, or has ended without a failure, has no failure report to send. -/
theorem State.finishFail_none {s : State} {c : Nat} (h : (s.core c).ending = .none) : s.finishFail c = s := by
  simp only [State.finishFail, h]

theorem Core.messageLost_ending (k : Core) (tag cause : Nat) : (k.messageLost tag cause).ending = k.ending := by
  rw [Core.messageLost_eq]

/-- Putting the core back after a loss changes that core only. -/
theorem State.setCore_messageLost (s : State) (c tag cause : Nat) :
    s.setCore c ((s.core c).messageLost tag cause) =
      { s with cores := Tab.write s.cores Core.reset c ((s.core c).messageLost tag cause) } := by
  rw [Core.messageLost_eq]
  exact State.setCore_quiet s c _ rfl rfl rfl rfl rfl

/-- The loss of a message of the task a core runs counts for its field and refuses the task. -/
theorem State.lostMessage_running {s : State} {c tag dst vc cause : Nat} {task : DWord} (runs : (s.core c).runsTask task = true)
    (here : (s.core c).lost = false) (going : (s.core c).ending = .none) :
    s.lostMessage c tag task dst vc cause true =
      { s.addFieldCtr (fieldOf c) 0x20 1 with
        cores := Tab.write s.cores Core.reset c ((s.core c).messageLost tag cause) } := by
  have holds : (s.core c).holdsTask task = true := by
    simp only [Core.runsTask, Bool.and_eq_true] at runs
    exact runs.1
  have put := State.setCore_messageLost (s.addFieldCtr (fieldOf c) 0x20 1) c tag cause
  have still : (((s.addFieldCtr (fieldOf c) 0x20 1).setCore c ((s.core c).messageLost tag cause)).core c).ending = .none := by
    rw [State.core_addFieldCtr] at put
    rw [put]
    show (Tab.read (Tab.write s.cores Core.reset c _) Core.reset c).ending = _
    rw [Tab.read_write, if_pos rfl, Core.messageLost_ending, going]
  have step : s.lostMessage c tag task dst vc cause true =
      ((s.addFieldCtr (fieldOf c) 0x20 1).setCore c ((s.core c).messageLost tag cause)).finishFail c := by
    have holds' : ((s.core c).dropUnacked tag).holdsTask task = true := holds
    have runs' : ((s.core c).dropUnacked tag).runsTask task = true := runs
    have here' : ((s.core c).dropUnacked tag).lost = false := here
    show (if ((s.core c).dropUnacked tag).holdsTask task ∧ !((s.core c).dropUnacked tag).lost then _ else _) = _
    rw [if_pos ⟨holds', by rw [here']; rfl⟩]
    exact if_pos runs'
  rw [step, State.finishFail_none still]
  exact put

/-- The core that ran the task has lost the message, every other core is as it was. -/
theorem State.core_lostMessage_running {s : State} {c tag dst vc cause : Nat} {task : DWord}
    (runs : (s.core c).runsTask task = true) (here : (s.core c).lost = false) (going : (s.core c).ending = .none) (c' : Nat) :
    (s.lostMessage c tag task dst vc cause true).core c' = if c' = c then (s.core c).messageLost tag cause else s.core c' := by
  rw [State.lostMessage_running runs here going]
  exact Tab.read_write s.cores Core.reset _ c c'

section
variable {s : State} {k c : Nat} {p : Packet}

theorem exec_msgUnreachable {d : Nat} {data : List Byte} (arr : s.arriving k = some p) (hdst : p.dst = .core d) (hbody : p.body = .msg data)
    (far : s.reachable d = false) (mesh : p.bus = false) :
    exec (.msgUnreachable k) s = .next ((s.take k).inject [lostReport (s.refuser p d) p 0x3144]) := by
  simp [exec, execMsgUnreachable, arr, hdst, hbody, far, mesh]

theorem exec_lost {cause d : Nat} {data : List Byte} (arr : s.arriving k = some p) (hdst : p.dst = .core c)
    (hbody : p.body = .lost cause (.core d) (.msg data)) :
    exec (.lost k) s = .next ((s.take k).lostMessage c p.tag p.task d p.vc cause true) := by
  simp [exec, execLost, State.actLost, arr, hdst, hbody]

theorem exec_msgAckTimeout {i : Nat} {u : Unacked} (hc : c < nCores) (hu : (s.core c).nif.unacked[i]? = some u)
    (late : u.at' + 10000 ≤ s.tstamp) :
    exec (.msgAckTimeout c i) s = .next (s.lostMessage c u.tag u.task u.dst u.vc 0x3143 true) := by
  simp [exec, execMsgAckTimeout, onCore, hc, hu, Nat.not_lt.mpr late]

end

theorem messageLoss : Claims.MessageLoss := by
  intro s k c d p data
  refine ⟨?unreachable, ?loss⟩
  case unreachable =>
    intro arr hdst hbody far mesh
    refine ⟨_, exec_msgUnreachable arr hdst hbody far mesh, ?_⟩
    simp only [State.inject, State.take, lostReport, hdst, hbody, List.map_cons, List.map_nil]
  case loss =>
    intro cause tag task r i u hc by' runs here going
    have acted : ∃ n dst vc, exec r s = .next (({ s with net := n } : State).lostMessage c tag task dst vc cause true) := by
      rcases by' with ⟨rfl, arr, hdst, hbody, rfl, rfl⟩ | ⟨rfl, hu, late, rfl, rfl, rfl⟩
      · exact ⟨_, _, _, exec_lost arr hdst hbody⟩
      · exact ⟨s.net, _, _, exec_msgAckTimeout hc hu late⟩
    obtain ⟨n, dst, vc, ht⟩ := acted
    have read := State.core_lostMessage_running (s := { s with net := n }) (tag := tag) (dst := dst) (vc := vc) (cause := cause) runs here going
    have mine := (read c).trans (if_pos rfl)
    refine ⟨_, ht, fun c' hc' => (read c').trans (if_neg hc'), ?_, fun x hx => ?_, ?_⟩
    · rw [mine]
      exact Core.messageLost_eq _ _ _
    · rw [mine]
      exact ⟨Core.messageLost_outq hx, Core.messageLost_lostSeq hx⟩
    · rw [State.lostMessage_running (s := { s with net := n }) runs here going]
      rfl

/-! ### Headers that are refused (R9, R238, R239) -/

theorem exec_packetReservedDiscard {s : State} {g h0 h1 : Nat} (hg : g < 72) (on : (s.field g).clk.md = .on) (bad : headerBad h0 h1 = true) :
    exec (.packetReservedDiscard g { h0 := h0, h1 := h1 }) s = .next (s.addFieldCtr g 0x18 1) := by
  simp [exec, execPacketReservedDiscard, onField, nFields, hg, on, bad]

theorem headerBad_of {h0 h1 : Nat}
    (h : 11 ≤ bits h0 63 60 ∨ bits h0 57 52 + 1 ≠ (16 + 8 * bits h0 15 7 + 63) / 64 ∨ bits h0 6 0 ≠ 0 ∨ bits h1 58 48 ≠ 0) :
    headerBad h0 h1 = true := by
  simp only [headerBad, Bool.or_eq_true, decide_eq_true_eq]
  tauto

/-! ### Links (R250, R251, R493) -/

theorem linkOwner_lt {px py dir : Nat} (hx : px < 297) (hy : py < 320) : linkOwner px py dir < 72 := by
  have here : fieldAt px py < 72 := by unfold fieldAt; omega
  unfold linkOwner
  split
  · exact lt_of_le_of_lt (Nat.min_le_left _ _) here
  · exact here

/-- An entry that reads as other than the default is listed. -/
theorem Tab.mem_of_read_ne {α : Type} {t : Tab α} {d : α} {k : Nat} (h : Tab.read t d k ≠ d) : (k, Tab.read t d k) ∈ t := by
  induction t with
  | nil => exact absurd rfl h
  | cons e r ih =>
    obtain ⟨i, v⟩ := e
    simp only [Tab.read] at h ⊢
    split
    next hi => exact hi ▸ List.mem_cons_self
    next hi =>
      rw [if_neg hi] at h
      exact List.mem_cons_of_mem _ (ih h)

/-- Where a route runs rests on the row maps of the fields. -/
theorem State.crosses_congr {s t : State} (h : ∀ f, (t.field f).clk = (s.field f).clk) (p : Packet) (px py dir : Nat) :
    t.crosses p px py dir = s.crosses p px py dir := by
  have pos : ∀ a, t.pos a = s.pos a := by
    intro a
    cases a with
    | core c => simp only [State.pos, State.physCol, h]
    | _ => rfl
  simp only [State.crosses, pos]

/-- A packet sent after a link of its route stopped for a resend does not arrive. -/
theorem State.arriving_none_of_retry {t : State} {f px py dir k : Nat} {p : Packet} (hp : t.net[k]? = some p) (hdir : dir < 4)
    (waits : (px, py, dir) ∈ (t.field f).retries) (later : Tab.read (t.field f).linkAt 0 (linkKey px py dir) < p.at')
    (on : t.crosses p px py dir = true) : t.arriving k = none := by
  have listed : (f, t.field f) ∈ t.fields := by
    refine Tab.mem_of_read_ne fun h => ?_
    have none : (t.field f).retries = [] := congrArg Field.retries h
    rw [none] at waits
    exact absurd waits List.not_mem_nil
  have cut : t.cutOff p = true := by
    simp only [State.cutOff, List.any_eq_true, Bool.and_eq_true, decide_eq_true_eq]
    exact ⟨_, listed, _, List.mem_append_right _ waits, ⟨hdir, later⟩, on⟩
  simp only [State.arriving, hp, cut, Bool.or_true, if_true]

/-- Both ends' partitions are those of the rectangles. -/
theorem State.linkPartition_congr {s t : State} (h : ∀ q, t.part q = s.part q) (px py dir : Nat) :
    t.linkPartition px py dir = s.linkPartition px py dir := by
  have partOf : t.partOf = s.partOf := funext fun f => by simp only [State.partOf, h]
  unfold State.linkPartition
  rw [partOf]

@[simp] theorem State.inject_nil (s : State) : s.inject [] = s := by
  simp only [State.inject, List.map_nil, List.append_nil]

/-- A report of a field changes no field but in its queue of records. -/
theorem State.field_report {s : State} {q : Nat} (hq : q < 72) (r : FaultRec) :
    (s.report q r).field q = { s.field q with faults :=
      if (s.field q).faults.recs.length < 64 then
        { recs := (s.field q).faults.recs ++ [{ r with queue := q, ts := s.tstamp, seq := (s.field q).faults.seq }],
          seq := ((s.field q).faults.seq + 1) % 16384 }
      else (s.field q).faults } := by
  have not_rd : q ≠ 72 := by omega
  have not_sd : q ≠ 73 := by omega
  simp only [State.report, not_rd, not_sd, if_false]
  exact (State.field_modField _ q q _).trans (if_pos rfl)

theorem State.addFieldCtr_retries (s : State) (f off n g : Nat) : ((s.addFieldCtr f off n).field g).retries = (s.field g).retries := by
  unfold State.addFieldCtr
  rw [State.field_modField]
  split
  next h => rw [h]
  next => rfl

theorem State.addFieldCtr_counter (s : State) (f off n : Nat) :
    Tab.read ((s.addFieldCtr f off n).field f).obs.counters 0 off = (Tab.read (s.field f).obs.counters 0 off + n) % 2 ^ 64 := by
  unfold State.addFieldCtr
  rw [State.field_modField, if_pos rfl]
  exact (Tab.read_write _ _ _ _ _).trans (if_pos rfl)

/-- A field in which a link's flit has failed: the link's resend is armed. -/
def Field.armRetry (x : Field) (px py dir now : Nat) : Field :=
  { x with retries := (x.retries.filter (fun l => !decide (l = (px, py, dir) ∨ l = (px, py, dir + 4)))) ++ [(px, py, dir)],
           linkAt := Tab.write x.linkAt 0 (linkKey px py dir) now }

/-- A field whose link resends: the next error takes it down. -/
def Field.resend (x : Field) (px py dir : Nat) : Field :=
  { x with retries := (x.retries.filter (fun l => !decide (l = (px, py, dir)))) ++ [(px, py, dir + 4)] }

/-- A field that owns a link that has gone down. -/
def Field.takeDown (x : Field) (px py dir now : Nat) : Field :=
  { x with retries := x.retries.filter (fun l => !decide (l = (px, py, dir + 4))), downLinks := x.downLinks ++ [(px, py, dir)],
           linkAt := Tab.write x.linkAt 0 (linkKey px py dir) now }

theorem Field.mem_armRetry (x : Field) (px py dir now : Nat) : (px, py, dir) ∈ (x.armRetry px py dir now).retries := by
  simp [Field.armRetry]
theorem Field.notMem_armRetry (x : Field) (px py dir now : Nat) : (px, py, dir + 4) ∉ (x.armRetry px py dir now).retries := by
  simp [Field.armRetry]
theorem Field.mem_resend (x : Field) (px py dir : Nat) : (px, py, dir + 4) ∈ (x.resend px py dir).retries := by
  simp [Field.resend]
theorem Field.notMem_resend (x : Field) (px py dir : Nat) : (px, py, dir) ∉ (x.resend px py dir).retries := by
  simp [Field.resend]
theorem Field.notMem_takeDown (x : Field) (px py dir now : Nat) : (px, py, dir + 4) ∉ (x.takeDown px py dir now).retries := by
  simp [Field.takeDown]

/-- A link that held no packet has gone down: its owner marks it and reports once. -/
def State.linkWentDown (s : State) (px py dir : Nat) : State :=
  (s.modField (linkOwner px py dir) (fun x => x.takeDown px py dir s.tstamp)).fieldFault (linkOwner px py dir) 0x3148 (linkKey px py dir)

theorem State.field_linkWentDown {s : State} {px py dir : Nat} (hx : px < 297) (hy : py < 320) :
    (s.linkWentDown px py dir).field (linkOwner px py dir) =
      { (s.field (linkOwner px py dir)).takeDown px py dir s.tstamp with faults :=
        if (s.field (linkOwner px py dir)).faults.recs.length < 64 then
          { recs := (s.field (linkOwner px py dir)).faults.recs ++
              [{ plainFault 0x3148 2 (linkOwner px py dir) (linkKey px py dir) with
                 queue := linkOwner px py dir, ts := s.tstamp, seq := (s.field (linkOwner px py dir)).faults.seq }],
            seq := ((s.field (linkOwner px py dir)).faults.seq + 1) % 16384 }
        else (s.field (linkOwner px py dir)).faults } := by
  rw [State.linkWentDown, State.fieldFault, State.field_report (linkOwner_lt hx hy), State.field_modField, if_pos rfl]
  rfl

section
variable {s : State} {px py dir : Nat} (hx : px < 297) (hy : py < 320) (hd : dir < 4) (he : (linkEnd px py dir).isSome = true)
include hx hy hd he

theorem onLink_next (g : State → State) : onLink px py dir s g = .next (g s) := if_pos ⟨hx, hy, hd, he⟩

theorem exec_linkFlitError (up : s.linkDown px py dir = false) :
    exec (.linkFlitError px py dir) s =
      .next (s.setField (linkOwner px py dir) ((s.field (linkOwner px py dir)).armRetry px py dir s.tstamp)) := by
  simp only [exec, execLinkFlitError, onLink_next hx hy hd he, up, Bool.false_eq_true, if_false]
  rfl

theorem exec_linkResendRequest (armed : (px, py, dir) ∈ (s.field (linkOwner px py dir)).retries) :
    exec (.linkResendRequest px py dir) s =
      .next ((s.modField (linkOwner px py dir) (fun x => x.resend px py dir)).addFieldCtr (fieldAt px py) 0x10 1) := by
  have listed := List.contains_iff_mem.mpr armed
  simp only [exec, execLinkResendRequest, onLink_next hx hy hd he, listed, if_true]
  rfl

/-- With no packet held and no partition at both ends, the command does that alone. -/
theorem exec_meshLinkDown (resent : (px, py, dir + 4) ∈ (s.field (linkOwner px py dir)).retries) (alone : s.linkPartition px py dir = none) :
    exec (.meshLinkDown px py dir []) s = .next (s.linkWentDown px py dir) := by
  have listed := List.contains_iff_mem.mpr resent
  have still : (s.linkWentDown px py dir).linkPartition px py dir = none :=
    (State.linkPartition_congr (fun q => State.part_report _ _ q _) px py dir).trans alone
  simp only [exec, execMeshLinkDown, onLink_next hx hy hd he, listed, Bool.not_true, Bool.false_eq_true, if_false, List.contains_nil,
    Bool.false_and, Bool.not_false, List.filter_true, List.filter_false, List.map_nil, List.filter_nil, State.inject_nil, List.zipIdx_map_fst]
  change Host.Outcome.next (match (s.linkWentDown px py dir).linkPartition px py dir with
    | some q => (s.linkWentDown px py dir).stopPartition q
    | none => s.linkWentDown px py dir) = _
  rw [still]

theorem exec_downLinkPacketLost {k : Nat} {p : Packet} (hp : s.net[k]? = some p) (down : s.linkDown px py dir = true)
    (on : s.crosses p px py dir = true) : exec (.downLinkPacketLost px py dir k) s = .next (s.loseAt k px py p) := by
  simp only [exec, execDownLinkPacketLost, onLink_next hx hy hd he, hp, down, on, and_self, if_true]

/-- A failed flit arms the resend, and holds up what is sent over the link from then on. -/
theorem linkErrors_flit (up : s.linkDown px py dir = false) :
    ∃ t, exec (.linkFlitError px py dir) s = .next t ∧ (px, py, dir) ∈ (t.field (linkOwner px py dir)).retries ∧
      (px, py, dir + 4) ∉ (t.field (linkOwner px py dir)).retries ∧
      t = s.setField (linkOwner px py dir) { s.field (linkOwner px py dir) with
        retries := (t.field (linkOwner px py dir)).retries, linkAt := (t.field (linkOwner px py dir)).linkAt } ∧
      (∀ k p, t.net[k]? = some p → s.tstamp < p.at' → s.crosses p px py dir = true → t.arriving k = none) := by
  have own : ∀ x : Field, (s.setField (linkOwner px py dir) x).field (linkOwner px py dir) = x :=
    fun x => (State.field_setField _ _ _ _).trans (if_pos rfl)
  refine ⟨_, exec_linkFlitError hx hy hd he up, ?_, ?_, ?_, fun k p hp later on => State.arriving_none_of_retry
    (f := linkOwner px py dir) hp hd ?_ ?_ ((State.crosses_congr (fun g => ?_) p px py dir).trans on)⟩
  · rw [own]; exact Field.mem_armRetry _ _ _ _ _
  · rw [own]; exact Field.notMem_armRetry _ _ _ _ _
  · rw [own]; rfl
  · rw [own]; exact Field.mem_armRetry _ _ _ _ _
  · rw [own]
    exact lt_of_eq_of_lt ((Tab.read_write _ _ _ _ _).trans (if_pos rfl)) later
  · rw [State.field_setField]
    split
    next h => rw [h]; rfl
    next => rfl

theorem linkErrors_resend (armed : (px, py, dir) ∈ (s.field (linkOwner px py dir)).retries) :
    ∃ t, exec (.linkResendRequest px py dir) s = .next t ∧ (px, py, dir + 4) ∈ (t.field (linkOwner px py dir)).retries ∧
      (px, py, dir) ∉ (t.field (linkOwner px py dir)).retries ∧
      Tab.read (t.field (fieldAt px py)).obs.counters 0 0x10 = (Tab.read (s.field (fieldAt px py)).obs.counters 0 0x10 + 1) % 2 ^ 64 ∧
      t = { s with fields := t.fields } := by
  refine ⟨_, exec_linkResendRequest hx hy hd he armed, ?_, ?_, ?_, rfl⟩
  · rw [State.addFieldCtr_retries, State.field_modField, if_pos rfl]; exact Field.mem_resend _ _ _ _
  · rw [State.addFieldCtr_retries, State.field_modField, if_pos rfl]; exact Field.notMem_resend _ _ _ _
  · have same : ((s.modField (linkOwner px py dir) (fun x => x.resend px py dir)).field (fieldAt px py)).obs = (s.field (fieldAt px py)).obs := by
      rw [State.field_modField]
      split
      next h => rw [h]; rfl
      next => rfl
    rw [State.addFieldCtr_counter, same]

theorem linkErrors_down (resent : (px, py, dir + 4) ∈ (s.field (linkOwner px py dir)).retries) (alone : s.linkPartition px py dir = none) :
    ∃ t, exec (.meshLinkDown px py dir []) s = .next t ∧ t.linkDown px py dir = true ∧
      (px, py, dir + 4) ∉ (t.field (linkOwner px py dir)).retries ∧ t.net = s.net ∧ t.faultCount = (s.faultCount + 1) % 2 ^ 32 ∧
      ((s.field (linkOwner px py dir)).faults.recs.length < 64 →
        ∃ r, (t.field (linkOwner px py dir)).faults.recs = (s.field (linkOwner px py dir)).faults.recs ++ [r] ∧ r.cause = 0x3148 ∧ r.scope = 2 ∧
          r.id = linkOwner px py dir ∧ r.info = px * 2 ^ 18 + py * 2 ^ 9 + dir ∧ r.ts = s.tstamp) := by
  refine ⟨_, exec_meshLinkDown hx hy hd he resent alone, ?_, ?_, ?_, State.report_faultCount _ _ _, fun room => ?_⟩
  · simp [State.linkDown, State.field_linkWentDown hx hy, Field.takeDown]
  · rw [State.field_linkWentDown hx hy]
    exact Field.notMem_takeDown _ _ _ _ s.tstamp
  · rw [State.linkWentDown, State.fieldFault, State.report_frame]
    rfl
  · rw [State.field_linkWentDown hx hy]
    refine ⟨_, congrArg FaultQueue.recs (if_pos room), rfl, rfl, rfl, ?_, rfl⟩
    simp only [plainFault, linkKey, Nat.shiftLeft_eq]

end

theorem linkErrors : Claims.LinkErrors := by
  rintro s px py dir f hx hy hd he rfl
  refine ⟨fun g h0 h1 hg on bad => exec_packetReservedDiscard hg on (headerBad_of bad), linkErrors_flit hx hy hd he,
    linkErrors_resend hx hy hd he, linkErrors_down hx hy hd he, fun k p hp down on => ⟨fun quiet => ?_, fun loud => ?_⟩⟩
  · rw [exec_downLinkPacketLost hx hy hd he hp down on, State.loseAt, if_pos quiet]
    rfl
  · rw [exec_downLinkPacketLost hx hy hd he hp down on, State.loseAt, loud]
    rfl

/-- Settles O19: a lost message changes one core through `Core.messageLost`; a link's errors change the field that owns it. -/
theorem messageLossAndLinks : Obligations.MessageLossAndLinks := by
  unfold Obligations.MessageLossAndLinks
  exact ⟨messageLoss, linkErrors⟩

end Sys2Proof.Machine
end

section
/-! PROOFS. The state after reset (R15, R54, R299, R393, R416). -/

namespace Sys2Proof.Machine

/-- Nothing is held at reset, so the memories are canonical and every queue and buffer is within its bound. -/
theorem withinBounds_reset : Claims.WithinBounds State.reset where
  sram _ := rfl
  istore _ := rfl
  cistern _ := rfl
  pool _ := Nat.zero_le _
  faults _ := Nat.zero_le _
  rdFaults := Nat.zero_le _
  sdFaults := Nat.zero_le _
  trace _ := Nat.zero_le _
  staging _ := Nat.zero_le _
  notes _ := Nat.zero_le _

@[simp] theorem State.core_reset (c : Nat) : State.reset.core c = Core.reset := rfl
@[simp] theorem State.field_reset (f : Nat) : State.reset.field f = Field.reset := rfl
@[simp] theorem State.part_reset (p : Nat) : State.reset.part p = Part.reset := rfl
@[simp] theorem State.port_reset (p : Nat) : State.reset.port p = Port.reset := rfl
@[simp] theorem Port.ring_reset (r : Nat) : Port.reset.ring r = Ring.reset := rfl

/-- A core at reset holds zero in every scalar register. -/
theorem Core.sreg_reset (n : Nat) : Core.reset.sreg n = 0 := by
  unfold Core.sreg
  split
  · rfl
  · rfl

/-- Settles O57: every table is empty at reset, so each unit reads as its own reset. -/
theorem resetState : Obligations.ResetState := by
  unfold Obligations.ResetState Claims.ResetState
  simp only [State.field_reset, State.part_reset, State.port_reset, Port.ring_reset, State.core_reset]
  refine ⟨withinBounds_reset, rfl, rfl, rfl, ?rd, fun f => ⟨?cd, ?md⟩, fun p => ⟨rfl, rfl, rfl⟩, fun p r => ⟨rfl, rfl⟩,
    rfl, rfl, rfl, fun f => rfl, rfl, rfl, fun c => Core.sreg_reset⟩
  case rd => exact DomState.noConfusion
  case cd => exact DomState.noConfusion
  case md => exact DomState.noConfusion

end Sys2Proof.Machine
end

section
/-! PROOFS. The service-processor pair: the token, takeovers and restarts (R14, R355, R357, R422, R423, R509 to R514). -/

namespace Sys2Proof.Machine

/-! ### The two Wellheads -/

/-- A change of a Wellhead's record changes that record alone. -/
theorem State.modWell_eq (s : State) (w : Nat) (g : Wellhead → Wellhead) :
    s.modWell w g = { s with wh := { s.wh with
      a := if w = 0 then g s.wh.a else s.wh.a, b := if w = 0 then s.wh.b else g s.wh.b } } := by
  unfold State.modWell
  split <;> rfl

@[simp] theorem State.wellhead_modWell (s : State) (w : Nat) (g : Wellhead → Wellhead) :
    (s.modWell w g).wellhead w = g (s.wellhead w) := by
  unfold State.modWell State.wellhead
  split
  · rfl
  · rfl

/-- The Wellhead `x` restarted at `now` of compute time after a failure (R513). -/
def Wellhead.restarted (x : Wellhead) (now : Nat) : Wellhead :=
  let l := (x.failures.filter (fun t => decide (now < t + 360000000000))) ++ [now]
  let off := x.heldOff || decide (3 ≤ l.length)
  { x with up := false, failures := l, heldOff := off, booting := !off }

theorem State.wellFail_eq (s : State) (w : Nat) : s.wellFail w = s.modWell w (fun x => x.restarted s.sd.compTime) := rfl

/-- A first failure within the hour restarts the Wellhead. -/
theorem Wellhead.restarted_first {x : Wellhead} {now : Nat} (first : x.failures = []) (held : x.heldOff = false) :
    x.restarted now = { x with up := false, failures := [now], heldOff := false, booting := true } := by
  simp [Wellhead.restarted, first, held]

/-! ### Records of the SD -/

/-- A fault queue that a record of queue `q` is put into at TSTAMP `now`, if it has room (R491). -/
def FaultQueue.offered (x : FaultQueue) (q now : Nat) (r : FaultRec) : FaultQueue :=
  if x.recs.length < 64 then
    { recs := x.recs ++ [{ r with queue := q, ts := now, seq := x.seq }], seq := (x.seq + 1) % 16384 }
  else x

/-- A report of the SD changes the count of faults and the SD's queue. -/
theorem State.report_sd (s : State) (r : FaultRec) :
    s.report 73 r = { s with faultCount := (s.faultCount + 1) % 2 ^ 32, sdFaults := s.sdFaults.offered 73 s.tstamp r } := rfl

theorem FaultQueue.offered_recs {x : FaultQueue} (room : x.recs.length < 64) (q now : Nat) (r : FaultRec) :
    ∃ e, (x.offered q now r).recs = x.recs ++ [e] ∧ e.cause = r.cause := by
  rw [FaultQueue.offered, if_pos room]
  exact ⟨_, rfl, rfl⟩

/-! ### The move of the token (R14, R509, R510, R512) -/

@[simp] theorem State.dropDrained_nil (s : State) : s.dropDrained [] = s := rfl

/-- With a standby in step the token moves to it; it goes on from its mirror, and the values that the writes of the queue had before stay with them. -/
theorem State.moveToken_spec {s : State} (standby : s.wh.standbyOk = true) (drained : s.wh.mirror.drained = []) :
    s.moveToken.wh.active = s.wh.other ∧ s.moveToken.wh.takeover = some s.sd.vtime ∧ s.moveToken.wh.standbyOk = false ∧
      (s.moveToken.wellhead s.wh.active).up = false ∧
      s.moveToken.fw = { s.wh.mirror with
        kstep := s.fw.kstep, wanted := s.fw.wanted, gdyn := s.fw.gdyn, dict := s.flash.kept s.wh.mirror.dict, wq := s.moveToken.fw.wq } ∧
      s.moveToken.fw.wq.length = s.wh.mirror.wq.length ∧
      (∀ (i : Nat) (r : WriteReq), s.wh.mirror.wq[i]? = some r → ∃ l, s.moveToken.fw.wq[i]? = some { r with old := l }) ∧
      s.moveToken.fields = s.fields ∧ s.moveToken.cores = s.cores ∧ s.moveToken.net = s.net ∧ s.moveToken.parts = s.parts := by
  simp only [State.moveToken, standby, Bool.not_true, Bool.false_eq_true, if_false, State.wellFail_eq, State.modWell_eq, drained, State.dropDrained_nil]
  refine ⟨rfl, rfl, rfl, ?down, rfl, List.length_map _, ?writes, rfl, rfl, rfl, rfl⟩
  case down =>
    simp only [State.wellhead, State.modWh]
    split
    · rfl
    · rfl
  case writes =>
    intro i r hr
    simp only [State.modWh, List.getElem?_map, hr, Option.map_some]
    split
    · exact ⟨_, rfl⟩
    · exact ⟨r.old, rfl⟩

/-- Without one both Wellheads are down, and compute goes on. -/
theorem State.moveToken_alone {s : State} (alone : s.wh.standbyOk = false) : s.moveToken = s.bothDown := by
  rw [State.moveToken, alone]
  rfl

theorem exec_heartbeatLossTimeout {s : State} (standby : s.wh.standbyOk = true) (settled : s.wh.takeover = none)
    (unseen : (s.wellhead s.wh.active).lastBeat + 250000 ≤ s.sd.vtime) : exec .heartbeatLossTimeout s = .next s.moveToken := by
  simp only [exec, execHeartbeatLossTimeout, standby, settled, unseen, Option.isNone_none, and_self, if_true]

theorem exec_activeFails {s : State} {cmd : Instr} (h : cmd = .wellheadWatchdogExpiry ∨ cmd = .wellheadMemoryError) (up : s.activeUp = true) :
    exec cmd s = .next s.moveToken := by
  rcases h with rfl | rfl
  · simp only [exec, execWellheadWatchdogExpiry, up, if_true]
  · simp only [exec, execWellheadMemoryError, up, if_true]

/-! ### Answers to the channels that wait (R357) -/

@[simp] theorem Port.chan_setChan (x : Port) (c d : Nat) (y : Channel) :
    (x.setChan c y).chan d = if d = c then y else x.chan d := Tab.read_write x.chans Channel.reset y c d

/-- A requester whose request is in no committed epoch is answered with DICT_TAKEOVER. -/
def State.answerOne (s : State) (who : Requester) : State :=
  match s.request who with
  | some q => (s.noteRefusal who 0x5235 q.index q.sub true).respond who q.head q.seq 0x08000000 0x5235 true []
  | none => s

theorem State.answerTakeover_eq (s : State) :
    s.answerTakeover = ((upTo 16).map (fun k => Requester.mailbox (k / 4) (k % 4))).foldl State.answerOne s := by
  unfold State.answerTakeover
  refine List.foldl_ext _ _ s fun t who _ => ?_
  unfold State.answerOne
  rfl

theorem State.noteRefusal_frame (s : State) (who : Requester) (cause i sub : Nat) (tko : Bool) : ∃ l b,
    s.noteRefusal who cause i sub tko = { s with fw := { s.fw with refusals := l }, wh := { s.wh with changed := b } } := by
  unfold State.noteRefusal
  split
  · exact ⟨_, _, rfl⟩
  · exact ⟨_, _, rfl⟩

theorem State.respond_mailbox_frame (s : State) (p c head seq abort cause : Nat) (tko : Bool) (data : List Byte) : ∃ x,
    s.respond (.mailbox p c) head seq abort cause tko data = { s with ports := x } := ⟨_, rfl⟩

/-- An answer to a channel changes ports, the record of refusals, and that the state has changed. -/
theorem State.answerOne_frame (s : State) (p c : Nat) : ∃ l b x,
    s.answerOne (.mailbox p c) = { s with fw := { s.fw with refusals := l }, wh := { s.wh with changed := b }, ports := x } := by
  unfold State.answerOne
  split
  next q _ =>
    obtain ⟨l, b, noted⟩ := s.noteRefusal_frame (.mailbox p c) 0x5235 q.index q.sub true
    obtain ⟨x, answered⟩ := State.respond_mailbox_frame (s.noteRefusal (.mailbox p c) 0x5235 q.index q.sub true) p c q.head q.seq 0x08000000 0x5235 true []
    rw [answered, noted]
    exact ⟨l, b, x, rfl⟩
  next => exact ⟨_, _, _, rfl⟩

theorem State.answerTakeover_frame (s : State) : ∃ l b x,
    s.answerTakeover = { s with fw := { s.fw with refusals := l }, wh := { s.wh with changed := b }, ports := x } := by
  rw [State.answerTakeover_eq]
  generalize upTo 16 = ks
  induction ks generalizing s with
  | nil => exact ⟨_, _, _, rfl⟩
  | cons k ks ih =>
    obtain ⟨l, b, x, one⟩ := s.answerOne_frame (k / 4) (k % 4)
    obtain ⟨l', b', x', rest⟩ := ih (s.answerOne (.mailbox (k / 4) (k % 4)))
    refine ⟨l', b', x', ?_⟩
    rw [List.map_cons, List.foldl_cons, rest, one]

/-- An answer leaves every other channel as it is, and a BUSY one DONE. -/
theorem State.chan_respond (s : State) (p' c' head seq abort cause : Nat) (tko : Bool) (data : List Byte) (p c : Nat) :
    (((s.respond (.mailbox p' c') head seq abort cause tko data).port p).chan c).state =
      if (p' = p ∧ c' = c) ∧ ((s.port p).chan c).state = 1 then 2 else ((s.port p).chan c).state := by
  simp only [State.respond, State.port_modPort]
  by_cases hp : p = p'
  · subst hp
    by_cases busy : ((s.port p).chan c').state = 1
    · by_cases hc : c = c'
      · subst hc
        simp [busy]
      · simp [busy, hc, Ne.symm hc]
    · simp only [if_true, busy, if_false, true_and]
      rw [if_neg]
      rintro ⟨rfl, h⟩
      exact busy h
  · simp [hp, Ne.symm hp]

@[simp] theorem State.port_noteRefusal (s : State) (who : Requester) (cause i sub : Nat) (tko : Bool) (p : Nat) :
    (s.noteRefusal who cause i sub tko).port p = s.port p := by
  unfold State.noteRefusal State.port
  split
  · dsimp only
  · rfl

/-- A channel with a write in the queue, or that is not BUSY, has no request to be answered. -/
theorem State.request_mailbox {s : State} {p c : Nat} (hp : p < 4) (hc : c < 4) (free : ∀ r ∈ s.fw.wq, r.who ≠ .mailbox p c) :
    (s.request (.mailbox p c)).isSome = decide (((s.port p).chan c).state = 1) := by
  have none : s.fw.wq.any (fun r => decide (r.who = .mailbox p c)) = false := by simpa using free
  by_cases busy : ((s.port p).chan c).state = 1
  · simp [State.request, none, hp, hc, busy]
  · simp [State.request, none, busy]

/-- A BUSY channel with no write in the queue is answered in its turn; other turns leave it as it is. -/
theorem State.chan_answerOne {s : State} {p c : Nat} (hp : p < 4) (hc : c < 4) (free : ∀ r ∈ s.fw.wq, r.who ≠ .mailbox p c) (p' c' : Nat) :
    (((s.answerOne (.mailbox p' c')).port p).chan c).state =
      if (p' = p ∧ c' = c) ∧ ((s.port p).chan c).state = 1 then 2 else ((s.port p).chan c).state := by
  unfold State.answerOne
  split
  next => rw [State.chan_respond, State.port_noteRefusal]
  next none =>
    rw [if_neg]
    rintro ⟨⟨rfl, rfl⟩, busy⟩
    have some := State.request_mailbox hp hc free
    rw [none, busy] at some
    exact absurd some Bool.false_ne_true

/-- A BUSY channel with no write in the queue is answered if one of the turns is its own. -/
theorem State.chan_answerTurns {p c : Nat} (hp : p < 4) (hc : c < 4) (ks : List Nat) (s : State) (free : ∀ r ∈ s.fw.wq, r.who ≠ .mailbox p c) :
    ((((ks.map (fun k => Requester.mailbox (k / 4) (k % 4))).foldl State.answerOne s).port p).chan c).state =
      if (∃ k ∈ ks, k / 4 = p ∧ k % 4 = c) ∧ ((s.port p).chan c).state = 1 then 2 else ((s.port p).chan c).state := by
  induction ks generalizing s with
  | nil => simp
  | cons k ks ih =>
    have one := State.chan_answerOne hp hc free (k / 4) (k % 4)
    obtain ⟨l, b, x, frame⟩ := s.answerOne_frame (k / 4) (k % 4)
    rw [List.map_cons, List.foldl_cons, ih _ (by rw [frame]; exact free), one]
    by_cases here : k / 4 = p ∧ k % 4 = c
    · by_cases busy : ((s.port p).chan c).state = 1
      · simp [here, busy]
      · simp [busy]
    · simp [here]

/-- A BUSY channel with no write in the queue is answered. -/
theorem State.chan_answerTakeover {s : State} {p c : Nat} (hp : p < 4) (hc : c < 4) (busy : ((s.port p).chan c).state = 1)
    (free : ∀ r ∈ s.fw.wq, r.who ≠ .mailbox p c) : ((s.answerTakeover.port p).chan c).state = 2 := by
  have turn : ∃ k ∈ upTo 16, k / 4 = p ∧ k % 4 = c := ⟨4 * p + c, mem_upTo.mpr (by omega), by omega, by omega⟩
  rw [State.answerTakeover_eq, State.chan_answerTurns hp hc _ s free, if_pos ⟨turn, busy⟩]

/-! ### The takeover (R357, R510, R511) -/

/-- With no coolant loss to record, none is. -/
theorem State.settleLoss_none {s : State} (h : s.sd.lossOwed = false) : s.settleLoss = s := by
  rw [State.settleLoss, h]
  rfl

theorem State.settleDegraded_nil {s : State} (h : s.sd.degrOwed = []) : s.settleDegraded = s := by
  rw [State.settleDegraded, h, List.foldl_nil, ← h]

@[simp] theorem WriteReq.takeOver_who (r : WriteReq) : r.takeOver.who = r.who := by
  unfold WriteReq.takeOver
  split <;> rfl

/-- The writes that a takeover keeps: those in a committed epoch and not answered (R357). -/
def State.takenOver (s : State) : List WriteReq :=
  (s.fw.wq.filter (fun r => !decide (r.step = .queued) && decide (s.wh.answered < r.id))).map WriteReq.takeOver

/-- The takeovers of the engine, this one counted (R511). -/
def State.takeovers (s : State) : Nat := (Tab.read s.flash.stored 0 (objKey 0x2010 4) + 1) % 2 ^ 32

/-- The machine with the takeover recorded and counted, before the channels that wait are answered. -/
def State.takeoverCounted (s : State) : State :=
  { s with
    faultCount := (s.faultCount + 1) % 2 ^ 32
    sdFaults := s.sdFaults.offered 73 s.tstamp (plainFault 0x52A0 4 s.wh.other 0)
    flash := s.flash.writeObjs (Tab.insert s.flash.stored (objKey 0x2010 4) s.takeovers)
    fw := { s.fw with
      usdo := none, wq := s.takenOver, dict := Tab.insert (Tab.insert s.fw.dict (objKey 0x2010 4) s.takeovers) (objKey 0x2010 5) s.tstamp }
    wh := { s.wh with takeover := none, changed := true, lastAck := s.sd.vtime }
    power := { s.power with lastCal := none, cal := { s.power.cal with skip := true } } }

@[simp] theorem State.takeoverCounted_wq (s : State) : s.takeoverCounted.fw.wq = s.takenOver := rfl
@[simp] theorem State.port_takeoverCounted (s : State) (p : Nat) : s.takeoverCounted.port p = s.port p := rfl

/-- A write kept is one of the queue's, in a committed epoch and not answered. -/
theorem State.mem_takenOver {s : State} {r : WriteReq} (h : r ∈ s.takenOver) :
    ∃ e ∈ s.fw.wq, e.step ≠ .queued ∧ s.wh.answered < e.id ∧ r.who = e.who := by
  obtain ⟨e, he, rfl⟩ := List.mem_map.mp h
  obtain ⟨listed, kept⟩ := List.mem_filter.mp he
  exact ⟨e, listed, by simpa using kept⟩

theorem exec_wellheadTakeover {s : State} {m : Nat} (under : s.wh.takeover = some m) (held : (s.wellhead s.wh.other).heldOff = false)
    (loss : s.sd.lossOwed = false) (degr : s.sd.degrOwed = []) :
    exec .wellheadTakeover s = .next s.takeoverCounted.answerTakeover := by
  have go : exec .wellheadTakeover s = .next s.takeoverCounted.answerTakeover.settleLoss.settleDegraded := by
    simp only [exec, execWellheadTakeover, under, held, Bool.false_eq_true, if_false]
    simp only [State.report_sd, State.modWh, State.modFw, State.countStored, State.setDict, State.takeoverCounted, State.takenOver, State.takeovers]
  obtain ⟨l, b, x, frame⟩ := s.takeoverCounted.answerTakeover_frame
  rw [go, State.settleLoss_none (by rw [frame]; exact loss), State.settleDegraded_nil (by rw [frame]; exact degr)]

/-- A BUSY channel none of whose writes is kept is answered. -/
theorem State.chan_takeover {s : State} {p c : Nat} (hp : p < 4) (hc : c < 4) (busy : ((s.port p).chan c).state = 1)
    (old : ∀ r ∈ s.fw.wq, r.who = .mailbox p c → r.step = .queued ∨ r.id ≤ s.wh.answered) :
    ((s.takeoverCounted.answerTakeover.port p).chan c).state = 2 := by
  refine State.chan_answerTakeover hp hc busy fun r hr mine => ?_
  obtain ⟨e, listed, committed, unanswered, who⟩ := State.mem_takenOver hr
  rcases old e listed (who.symm.trans mine) with queued | answered
  · exact committed queued
  · omega

/-- The takeover's count and its TSTAMP are read back. -/
theorem State.takeoverCounted_settings (s : State) :
    s.takeoverCounted.setting 0x2010 4 = s.takeovers ∧ s.takeoverCounted.setting 0x2010 5 = s.tstamp := by
  simp only [State.takeoverCounted, State.setting, Tab.read_insert, objKey]
  exact ⟨rfl, rfl⟩

/-! ### Heartbeats, and the standby's loss and return (R509, R513) -/

section
variable {s : State} {w : Nat}

theorem exec_wellheadHeartbeat (hw : w < 2) (up : (s.wellhead w).up = true) :
    exec (.wellheadHeartbeat w) s = .next (s.modWell w (fun x => { x with lastBeat := s.sd.vtime })) := by
  simp only [exec, execWellheadHeartbeat, Nat.not_le.mpr hw, up, if_true, if_false]

/-- The machine with the standby's loss recorded and the standby restarted, before the epoch commits without it. -/
def State.standbyDropped (s : State) : State :=
  ({ s with
    faultCount := (s.faultCount + 1) % 2 ^ 32, sdFaults := s.sdFaults.offered 73 s.tstamp (plainFault 0x52A1 4 s.wh.other 0),
    wh := { s.wh with standbyOk := false } } : State).modWell s.wh.other (fun x => x.restarted s.sd.compTime)

theorem State.wellhead_standbyDropped (s : State) :
    s.standbyDropped.wellhead s.wh.other = (s.wellhead s.wh.other).restarted s.sd.compTime :=
  State.wellhead_modWell _ _ _

theorem exec_standbyLost (standby : s.wh.standbyOk = true) (active : s.activeUp = true) (settled : s.wh.takeover = none)
    (silent : (s.wellhead s.wh.other).lastBeat + 250000 ≤ s.sd.vtime) (unacknowledged : s.wh.lastAck + 250000 ≤ s.sd.vtime)
    (first : (s.wellhead s.wh.other).failures = []) (held : (s.wellhead s.wh.other).heldOff = false) :
    exec .standbyLost s = .next s.standbyDropped.commitLocal := by
  have unseen : max (s.wellhead s.wh.other).lastBeat s.wh.lastAck + 250000 ≤ s.sd.vtime := by omega
  have again : (s.standbyDropped.wellhead s.wh.other).heldOff = false := by
    rw [State.wellhead_standbyDropped, Wellhead.restarted_first first held]
  have restarted : ((s.modWh (fun w => { w with standbyOk := false })).report 73 (plainFault 0x52A1 4 s.wh.other 0)).standbyFail s.wh.other =
      s.standbyDropped := by
    rw [State.report_sd]
    exact if_neg fun h => Bool.false_ne_true (again.symm.trans h.1)
  simp only [exec, execStandbyLost, standby, active, settled, unseen, Option.isNone_none, and_self, if_true, restarted]

/-- A commitment to the active's own RAM leaves the Wellheads, the dictionary and the count of faults as they are. -/
theorem State.commitLocal_frame (s : State) : ∃ fl rd sd wq dr, s.commitLocal = { s with
    fields := fl, rdFaults := rd, sdFaults := sd, fw := { s.fw with wq := wq, drained := dr },
    wh := { s.wh with sent := none, acked := none, committed := s.wh.epoch % 2 ^ 32 } } := by
  unfold State.commitLocal State.dropDrained
  split
  · exact ⟨_, _, _, _, _, rfl⟩
  · exact ⟨_, _, _, _, _, rfl⟩

theorem exec_wellheadRestartBoot {image : Image} (hw : w < 2) (standby : w ≠ s.wh.active) (booting : (s.wellhead w).booting = true)
    (active : s.activeUp = true) (step1 : s.sd.step ≠ .at 1) (step2 : s.sd.step ≠ .at 2) (good : crc32 image.code = image.crc) :
    exec (.wellheadRestartBoot w image) s = .next ((s.modWell w (fun x =>
      { x with up := true, booting := false, failed := false, lastBeat := s.sd.vtime })).modWh (fun p => { p with resync := true })) := by
  simp only [exec, execWellheadRestartBoot, Nat.not_le.mpr hw, step1, step2, standby, booting, active, Image.good, good, Bool.not_true,
    Bool.false_eq_true, or_self, if_false, decide_true, if_true]

theorem exec_standbyResyncComplete {x : EpochWords} (wanted : s.wh.resync = true) (up : (s.wellhead s.wh.other).up = true)
    (active : s.activeUp = true) (settled : s.wh.takeover = none) (good : x.good = true) (next : x.number = (s.wh.epoch + 1) % 2 ^ 32) :
    exec (.standbyResyncComplete x) s = .next (s.openEpoch.commitLocal.modWh (fun w =>
      { w with mirror := { s.openEpoch.commitLocal.fw with drained := [] }, applied := w.epoch, standbyOk := true, resync := false,
               lastAck := s.sd.vtime })) := by
  simp only [exec, execStandbyResyncComplete, wanted, up, active, settled, good, next, Option.isSome_none, Bool.not_true,
    Bool.false_eq_true, or_self, if_false, and_self, if_true]

/-! ### Both down (R422, R514) -/

theorem exec_wellheadBootRetry {m : Nat} (down : s.wh.bothDownAt = some m) (on : s.sd.state = .on) (late : m + 100000000 ≤ s.sd.vtime) :
    exec .wellheadBootRetry s = .next (if s.sd.step = .at 2 then s.bootBoth.toStep 2 else s.bootBoth) := by
  simp only [exec, execWellheadBootRetry, down, on, Nat.not_lt.mpr late, ne_eq, not_true, or_self, if_false]
  rfl

theorem State.wellhead_bootBoth (v : Nat) : s.bootBoth.wellhead v =
    if (s.wellhead v).heldOff then s.wellhead v else { s.wellhead v with up := false, booting := true, failed := false } := by
  unfold State.wellhead
  split
  · rfl
  · rfl

/-- The machine with both Wellheads down, as `w` has booted and taken the token, its state read from the flash `fl`. -/
def State.pairRebuilt (s : State) (w : Nat) (fl : Flash) : State :=
  (({ s with
    flash := fl
    sd := { s.sd with operational := true }
    fw := { Firmware.reset with
      dict := (s.fw.dict.filter (fun e => shownByHardware e.1)).foldl (fun t (e : Nat × Nat) => Tab.insert t e.1 e.2) fl.stored
      kstep := s.fw.kstep, wanted := s.fw.wanted, gdyn := s.fw.gdyn, map := s.fw.map }
    wh := { s.wh with
      active := w, standbyOk := false, resync := false, bothDownAt := none, sent := none, acked := none, takeover := none, changed := true,
      lastAck := s.sd.vtime, answered := 0 } } : State).modWell w
    (fun x => { x with up := true, booting := false, failed := false, lastBeat := s.sd.vtime }))

theorem State.nmtBootUp_frame (s : State) : ∃ can out, s.nmtBootUp = { s with can := can, canOut := out } := by
  unfold State.nmtBootUp State.canSend
  split
  · exact ⟨_, _, rfl⟩
  · split
    · exact ⟨_, _, rfl⟩
    · exact ⟨_, _, rfl⟩

theorem State.nmtBootUp_sd (s : State) : s.nmtBootUp.sd = s.sd := by
  obtain ⟨can, out, frame⟩ := s.nmtBootUp_frame
  rw [frame]

/-- A copy of the stored objects that is good is read without a fault. -/
theorem Flash.readObjs_good {x : Flash} {r : FlashRead} (h : (Claims.objsRead x r).isSome = true) : (x.readObjs r).2 = false := by
  unfold Claims.objsRead at h
  unfold Flash.readObjs
  dsimp only
  split at h
  next good => rw [if_pos good]
  next bad =>
    split at h
    next good => rw [if_neg bad, if_pos good]
    next => exact absurd h Bool.false_ne_true

end

theorem exec_wellheadPairLost {s : State} {w : Nat} {image : Image} {x : FlashRead} (hw : w < 2) (downA : s.wh.a.up = false)
    (downB : s.wh.b.up = false) (booting : (s.wellhead w).booting = true) (complete : s.sd.step = .complete) (step6 : s.sd.step6 = true)
    (loss : s.sd.lossOwed = false) (degr : s.sd.degrOwed = []) (good : crc32 image.code = image.crc)
    (read : (Claims.objsRead s.flash x).isSome = true) :
    exec (.wellheadPairLost w image x) s =
      .next ((s.pairRebuilt w (s.flash.readObjs x).1).nmtBootUp.report 73 (plainFault 0x52A3 0 0 0)) := by
  have go : exec (.wellheadPairLost w image x) s =
      .next (((s.pairRebuilt w (s.flash.readObjs x).1).nmtBootUp.report 73 (plainFault 0x52A3 0 0 0)).settleLoss.settleDegraded) := by
    simp only [exec, execWellheadPairLost, Nat.not_le.mpr hw, complete, downA, downB, booting, Image.good, good, reduceCtorEq, decide_true, Bool.not_true,
      Bool.false_eq_true, or_self, if_false]
    simp only [State.modWell_eq, State.modWh, State.modFw, State.modSd, Flash.readObjs_good read, step6, complete, State.nmtBootUp_sd, reduceCtorEq,
      Bool.false_eq_true, if_true, if_false, State.engineFault, State.pairRebuilt]
  obtain ⟨can, out, frame⟩ := (s.pairRebuilt w (s.flash.readObjs x).1).nmtBootUp_frame
  rw [go, State.settleLoss_none, State.settleDegraded_nil]
  · rw [State.report_sd, frame, State.pairRebuilt, State.modWell_eq]
    exact degr
  · rw [State.report_sd, frame, State.pairRebuilt, State.modWell_eq]
    exact loss

/-- Settles O49: each command is carried out (`exec_…`) to a state whose frame is stated, and the changed records are read back. -/
theorem tokenMoves : Obligations.TokenMoves := by
  unfold Obligations.TokenMoves Claims.TokenMoves
  intro s
  refine ⟨?move, ?alone, ?takeover, ?beat, ?lost, ?boot, ?resync, ?retry, ?rebuilt⟩
  case move =>
    rintro cmd (⟨rfl, settled, unseen⟩ | ⟨fails, up⟩) standby drained
    · exact ⟨_, exec_heartbeatLossTimeout standby settled unseen, State.moveToken_spec standby drained⟩
    · exact ⟨_, exec_activeFails fails up, State.moveToken_spec standby drained⟩
  case alone =>
    intro up alone cmd fails
    refine ⟨_, exec_activeFails fails up, ?_⟩
    rw [State.moveToken_alone alone]
    exact ⟨rfl, rfl, rfl, rfl, rfl, rfl, rfl⟩
  case takeover =>
    intro m under held loss degr
    obtain ⟨count, moment⟩ := s.takeoverCounted_settings
    obtain ⟨l, b, x, frame⟩ := s.takeoverCounted.answerTakeover_frame
    refine ⟨_, exec_wellheadTakeover under held loss degr, ?_⟩
    have waits := fun p c (hp : p < 4) (hc : c < 4) => State.chan_takeover (s := s) hp hc
    rw [frame] at waits ⊢
    exact ⟨rfl, rfl, rfl, rfl, count, moment, waits, fun room => FaultQueue.offered_recs room 73 s.tstamp _⟩
  case beat =>
    intro w hw up
    refine ⟨_, exec_wellheadHeartbeat hw up, ?_, State.wellhead_modWell _ _ _⟩
    rw [State.modWell_eq]
  case lost =>
    intro standby active settled silent unacknowledged first held
    have down := s.wellhead_standbyDropped.trans (Wellhead.restarted_first first held)
    obtain ⟨fl, rd, sd, wq, dr, frame⟩ := s.standbyDropped.commitLocal_frame
    refine ⟨_, exec_standbyLost standby active settled silent unacknowledged first held, ?_⟩
    rw [frame]
    refine ⟨?_, congrArg Wellhead.up down, congrArg Wellhead.booting down, congrArg Wellhead.failures down, ?_, ?_⟩
    · rw [State.standbyDropped, State.modWell_eq]
    · rw [State.standbyDropped, State.modWell_eq]
    · rw [State.standbyDropped, State.modWell_eq]
  case boot =>
    intro w image hw standby booting active step1 step2 good
    refine ⟨_, exec_wellheadRestartBoot hw standby booting active step1 step2 good, ?_⟩
    have now := State.wellhead_modWell s w (fun x => { x with up := true, booting := false, failed := false, lastBeat := s.sd.vtime })
    refine ⟨?_, congrArg Wellhead.up now, congrArg Wellhead.booting now, rfl⟩
    rw [State.modWell_eq]
    rfl
  case resync =>
    intro w wanted up active settled good next
    obtain ⟨fl, rd, sd, wq, dr, frame⟩ := s.openEpoch.commitLocal_frame
    refine ⟨_, exec_standbyResyncComplete wanted up active settled good next, ?_⟩
    rw [frame]
    exact ⟨rfl, rfl, rfl, rfl, rfl, rfl⟩
  case retry =>
    intro m down on late
    refine ⟨_, exec_wellheadBootRetry down on late, ?_⟩
    split
    · exact ⟨rfl, fun w _ => State.wellhead_bootBoth w⟩
    · exact ⟨rfl, fun w _ => State.wellhead_bootBoth w⟩
  case rebuilt =>
    intro w image x hw downA downB booting complete step6 loss degr good read
    obtain ⟨can, out, frame⟩ := (s.pairRebuilt w (s.flash.readObjs x).1).nmtBootUp_frame
    refine ⟨_, exec_wellheadPairLost hw downA downB booting complete step6 loss degr good read, ?_⟩
    rw [State.report_sd, frame, State.pairRebuilt]
    refine ⟨?_, congrArg Wellhead.up (State.wellhead_modWell _ w _), ?_⟩
    · rw [State.modWell_eq]
    · rw [State.modWell_eq]
      exact ⟨rfl, rfl, rfl, rfl, rfl, rfl, fun room => FaultQueue.offered_recs room 73 s.tstamp _⟩

end Sys2Proof.Machine
end

section
/-! PROOFS. The host commands without data (R20, R90, R308, R312, R320, R446, R455). -/

namespace Sys2Proof.Machine

/-! ### A command that begins -/

/-- The machine with the next fetched command of a ring taken up and the turn with it. -/
def State.beginCmd (s : State) (p r : Nat) (rest : List (Nat × List Nat)) : State :=
  s.setPort p ({ s.port p with startTurn := r }.setRing r { (s.port p).ring r with fetched := rest })

/-- A command joins those in execution on a port. -/
def State.withCmd (s : State) (p : Nat) (c : Cmd) : State := s.modPort p (fun x => { x with cmds := x.cmds ++ [c] })

theorem onRing_next {p r : Nat} (hp : p < 4) (hr : r < 16) (s : State) (g : State → State) : onRing p r s g = .next (g s) := if_pos ⟨hp, hr⟩

section
variable {s : State} {p r idx : Nat} {w : List Nat} {rest : List (Nat × List Nat)}

/-- A command that may begin and passes its checks has its effect. -/
theorem State.startCmd_begins {sel : List Nat → Bool} {eff : State → Ring → Cmd → State × Cmd} {t : State} {c : Cmd}
    (may : Claims.mayBegin s p r idx w rest) (check : s.cmdCheck ((s.port p).ring r) w = none) (taken : sel w = true)
    (does : eff (s.beginCmd p r rest) ((s.port p).ring r) (newCmd ((s.port p).ring r) r idx w s.tstamp) = (t, c)) :
    onRing p r s (fun s => s.startCmd p r sel eff) = .next (t.withCmd p c) := by
  obtain ⟨hp, hr, up, -, -, fetched, -, turn⟩ := may
  rw [onRing_next hp hr]
  simp only [State.startCmd, fetched, up, taken, turn, Bool.not_true, Bool.false_eq_true, ne_eq, not_true, or_self, if_false, check]
  simp only [State.beginCmd] at does
  rw [does]
  rfl

@[simp] theorem State.port_beginCmd (q : Nat) : (s.beginCmd p r rest).port q =
    if q = p then { s.port p with startTurn := r }.setRing r { (s.port p).ring r with fetched := rest } else s.port q := State.port_setPort _ _ _ _

@[simp] theorem State.port_withCmd (c : Cmd) (q : Nat) :
    (s.withCmd p c).port q = if q = p then { s.port p with cmds := (s.port p).cmds ++ [c] } else s.port q := State.port_modPort _ _ _ _

theorem Claims.begun_withCmd (c : Cmd) : Claims.begun s ((s.beginCmd p r rest).withCmd p c) p r rest (s.port p) c := by
  refine ⟨rfl, ?_, fun q hq => ?_⟩
  · rw [State.port_withCmd, if_pos rfl, State.port_beginCmd, if_pos rfl]
    rfl
  · rw [State.port_withCmd, if_neg hq, State.port_beginCmd, if_neg hq]

end

/-! ### The graph stops (R20) -/

/-- A field that stops changes its own Cistern and sends requests to its cores. -/
theorem State.stopField_frame (s : State) (f : Nat) : ∃ fl nt, s.stopField f = { s with fields := fl, net := nt } := by
  unfold State.stopField
  refine List.foldlRecOn (motive := fun (t : State) => ∃ fl nt, t = { s with fields := fl, net := nt }) _ _ ⟨s.fields, s.net, rfl⟩ fun t ht e _ => ?_
  obtain ⟨fl, nt, rfl⟩ := ht
  dsimp only
  split
  · split
    · exact ⟨_, _, rfl⟩
    · exact ⟨_, _, rfl⟩
  · split
    · exact ⟨_, _, rfl⟩
    · exact ⟨_, _, rfl⟩

theorem State.stopFields_frame (s : State) (l : List Nat) : ∃ fl nt, l.foldl State.stopField s = { s with fields := fl, net := nt } := by
  refine List.foldlRecOn (motive := fun (t : State) => ∃ fl nt, t = { s with fields := fl, net := nt }) _ _ ⟨s.fields, s.net, rfl⟩ fun t ht f _ => ?_
  obtain ⟨fl, nt, rfl⟩ := ht
  obtain ⟨fl', nt', frame⟩ := State.stopField_frame { s with fields := fl, net := nt } f
  exact ⟨fl', nt', frame⟩

/-- The STOP_GRAPH commands that end change ports alone, and stay in execution. -/
theorem State.endStops_frame (s : State) (q : Nat) :
    ∃ x, s.endStops q = { s with ports := x } ∧ ∀ i, ((s.endStops q).port i).cmds.length = (s.port i).cmds.length := by
  unfold State.endStops
  refine List.foldlRecOn (motive := fun (t : State) => ∃ x, t = { s with ports := x } ∧ ∀ i, (t.port i).cmds.length = (s.port i).cmds.length) _ _
    ⟨s.ports, rfl, fun _ => rfl⟩ fun t ht i _ => ?_
  obtain ⟨x, rfl, same⟩ := ht
  refine ⟨_, rfl, fun j => ?_⟩
  rw [State.port_modPort]
  split
  next h => rw [← same j, h, Port.endStops, List.length_map]
  next => exact same j

theorem State.part_modPart_same (s : State) (q : Nat) (g : Part → Part) : (s.modPart q g).part q = g (s.part q) :=
  (State.part_modPart s q q g).trans (if_pos rfl)

/-- A partition whose graph is IDLE, its claims released. -/
def Part.idled (x : Part) : Part := { x with graph := .idle, claims := [], det := { x.det with openAt := none } }

theorem State.idlePart_eq (s : State) (q : Nat) : s.idlePart q = (s.modPart q Part.idled).endStops q := rfl

/-- The check whether a graph reaches IDLE leaves cores as they are, each port with as many commands, and the graph as it was or IDLE. -/
theorem State.idleCheck_spec (s : State) (q : Nat) :
    (s.idleCheck q).cores = s.cores ∧ (∀ i, ((s.idleCheck q).port i).cmds.length = (s.port i).cmds.length) ∧
      (((s.idleCheck q).part q).graph = (s.part q).graph ∨ ((s.idleCheck q).part q).graph = .idle) := by
  unfold State.idleCheck
  split
  · obtain ⟨x, frame, same⟩ := (s.modPart q Part.idled).endStops_frame q
    have idle := congrArg Part.graph (s.part_modPart_same q Part.idled)
    rw [State.idlePart_eq]
    rw [frame] at same ⊢
    exact ⟨rfl, same, .inr idle⟩
  · exact ⟨rfl, fun _ => rfl, .inl rfl⟩

/-- A partition whose graph has begun to stop. -/
def Part.stopped (x : Part) : Part := { x with graph := .stopping, det := { x.det with openAt := none } }

theorem State.stopPartition_running {s : State} {q : Nat} (runs : (s.part q).graph = .running) :
    s.stopPartition q = (((s.modPart q Part.stopped).partFields q).foldl State.stopField (s.modPart q Part.stopped)).idleCheck q := if_pos runs

theorem State.stopPartition_spec {s : State} {q : Nat} (runs : (s.part q).graph = .running) :
    (((s.stopPartition q).part q).graph = .stopping ∨ ((s.stopPartition q).part q).graph = .idle) ∧ (s.stopPartition q).cores = s.cores ∧
      ∀ i, ((s.stopPartition q).port i).cmds.length = (s.port i).cmds.length := by
  have stops := congrArg Part.graph (s.part_modPart_same q Part.stopped)
  obtain ⟨fl, nt, frame⟩ := (s.modPart q Part.stopped).stopFields_frame ((s.modPart q Part.stopped).partFields q)
  rw [State.stopPartition_running runs, frame]
  obtain ⟨cores, cmds, graph⟩ := State.idleCheck_spec { s.modPart q Part.stopped with fields := fl, net := nt } q
  exact ⟨graph.imp_left fun h => h.trans stops, cores, cmds⟩

/-! ### The commands without data (R20, R90, R308, R312, R320, R446, R455) -/

/-- The command that a ring of a state takes up at an index. -/
abbrev State.taken (s : State) (p r idx : Nat) (w : List Nat) : Cmd := newCmd ((s.port p).ring r) r idx w s.tstamp

theorem Ring.part_of_bound {y : Ring} {q : Nat} (h : y.bound = some q) : y.part = q := congrArg (Option.getD · 0) h

section
variable {s : State} {p r idx q : Nat} {w : List Nat} {rest : List (Nat × List Nat)} (may : Claims.mayBegin s p r idx w rest)
  (check : s.cmdCheck ((s.port p).ring r) w = none)
include may check

theorem exec_nop (taken : selOpc 1 w = true) :
    exec (.nop p r) s = .next ((s.beginCmd p r rest).withCmd p { s.taken p r idx w with ended := true }) :=
  State.startCmd_begins may check taken rfl

theorem exec_invalidate {e : (Nat → Nat → Instr) × Nat}
    (he : e ∈ [(Instr.invalidatePort, 0), (.invalidateContext, 1), (.invalidateRange, 2)]) (taken : selInval e.2 w = true) :
    exec (e.1 p r) s = .next (((s.beginCmd p r rest).modPort p (fun x => x.dropPages (inScope w))).withCmd p
      { s.taken p r idx w with wait := .close }) := by
  simp only [List.mem_cons, List.not_mem_nil, or_false] at he
  rcases he with rfl | rfl | rfl
  · exact State.startCmd_begins may check taken rfl
  · exact State.startCmd_begins may check taken rfl
  · exact State.startCmd_begins may check taken rfl

variable (bound : ((s.port p).ring r).bound = some q)
include bound

theorem exec_startGraph_waits (taken : selOpc 6 w = true) (starting : s.cdStarting q = true) :
    exec (.startGraph p r) s = .next ((s.beginCmd p r rest).withCmd p { s.taken p r idx w with wait := .cds }) := by
  refine State.startCmd_begins may check taken ?_
  rw [Ring.part_of_bound bound]
  exact if_pos starting

theorem exec_stopGraph_idle (taken : selOpc 7 w = true) (idle : (s.part q).graph = .idle) :
    exec (.stopGraph p r) s = .next ((s.beginCmd p r rest).withCmd p { s.taken p r idx w with ended := true }) := by
  refine State.startCmd_begins may check taken ?_
  rw [Ring.part_of_bound bound]
  exact if_pos idle

theorem exec_stopGraph_runs (taken : selOpc 7 w = true) (runs : (s.part q).graph = .running) :
    exec (.stopGraph p r) s = .next (((s.beginCmd p r rest).stopPartition q).withCmd p { s.taken p r idx w with wait := .idle }) := by
  refine State.startCmd_begins may check taken ?_
  rw [Ring.part_of_bound bound]
  exact if_neg fun idle => GraphState.noConfusion (idle.symm.trans runs)

theorem exec_postEvent (taken : selOpc 8 w = true) :
    exec (.postEvent p r) s = .next ((((s.beginCmd p r rest).modPort p (fun x => { x with nextTag := x.nextTag + 1 })).inject
        [ctlPacket (.ingress p) (.field (bits (wordAt w 1) 54 48)) 3 (some q) 0 (65536 + (s.port p).nextTag)
          (.event (BitVec.ofNat 64 (bits (wordAt w 1) 47 32 * 2 ^ 32 + bits (wordAt w 1) 31 0)))]).withCmd p
      { s.taken p r idx w with issued := true, accs := [{ tag := 65536 + (s.port p).nextTag, addr := 0, len := 0 }] }) := by
  have tag : ((s.beginCmd p r rest).port p).nextTag = (s.port p).nextTag := by
    rw [State.port_beginCmd, if_pos rfl]
    rfl
  refine State.startCmd_begins may check taken ?_
  simp only [tag, Ring.part_of_bound bound, Nat.shiftLeft_eq]
  rfl

theorem exec_hintPhaseBegin (taken : selHint false w = true) (allowed : s.setting 0x2401 3 = 1) :
    exec (.hintPhaseBegin p r) s = .next (((s.beginCmd p r rest).modPart q (fun x =>
        { x with hints := x.hints.filter (fun h => !decide (h.pclass = bits (wordAt w 1) 3 0)) ++
          [{ pclass := bits (wordAt w 1) 3 0, level := bits (wordAt w 1) 23 16 * s.partCores q / 255,
             expiry := if bits (wordAt w 2) 31 0 = 0 then 0 else s.tstamp + 100 * bits (wordAt w 2) 31 0 }] })).withCmd p
      { s.taken p r idx w with ended := true }) := by
  have still : (s.beginCmd p r rest).setting 0x2401 3 = 1 := allowed
  refine State.startCmd_begins may check taken ?_
  simp only [Ring.part_of_bound bound, still, if_true]
  rfl

theorem exec_hintPhaseEnd (taken : selHint true w = true) (allowed : s.setting 0x2401 3 = 1) :
    exec (.hintPhaseEnd p r) s = .next (((s.beginCmd p r rest).modPart q (fun x =>
        { x with hints := x.hints.filter (fun h => !decide (h.pclass = bits (wordAt w 1) 3 0)) })).withCmd p
      { s.taken p r idx w with ended := true }) := by
  have still : (s.beginCmd p r rest).setting 0x2401 3 = 1 := allowed
  refine State.startCmd_begins may check taken ?_
  simp only [Ring.part_of_bound bound, still, if_true]
  rfl

theorem exec_energyMarkOpen (taken : selMark false w = true) :
    exec (.energyMarkOpen p r) s = .next (((s.beginCmd p r rest).modPart q (fun x =>
        { x with marks := x.marks ++
          [{ tag := bits (wordAt w 1) 31 16, ts := s.tstamp, closed := false,
             shares := (s.partFields q).map (fun f => { field := f, since := s.tstamp, base := none, till := none, last := none }) }] })).withCmd p
      { s.taken p r idx w with ended := true, info1 := s.tstamp }) := by
  refine State.startCmd_begins may check taken ?_
  simp only [Ring.part_of_bound bound]
  rfl

theorem exec_energyMarkClose (taken : selMark true w = true) :
    exec (.energyMarkClose p r) s = .next (((s.beginCmd p r rest).modPart q (fun x =>
        { x with marks := x.marks.map (fun m => if m.tag = bits (wordAt w 1) 31 16 then m.closeAt s.tstamp else m) })).withCmd p
      { s.taken p r idx w with wait := .close }) := by
  refine State.startCmd_begins may check taken ?_
  simp only [Ring.part_of_bound bound]
  rfl

end

section
variable {s : State} {p r : Nat} {rest : List (Nat × List Nat)}

@[simp] theorem State.cmds_beginCmd : ((s.beginCmd p r rest).port p).cmds = (s.port p).cmds := by
  rw [State.port_beginCmd, if_pos rfl]
  rfl

@[simp] theorem State.port_inject (t : State) (ps : List Packet) (q : Nat) : (t.inject ps).port q = t.port q := rfl

@[simp] theorem State.cmds_withCmd (t : State) (c : Cmd) : ((t.withCmd p c).port p).cmds = (t.port p).cmds ++ [c] := by
  rw [State.port_withCmd, if_pos rfl]

/-- A command that changes a partition as it begins joins those in execution. -/
theorem State.cmds_modPart_withCmd (q : Nat) (g : Part → Part) (c : Cmd) :
    ((((s.beginCmd p r rest).modPart q g).withCmd p c).port p).cmds = (s.port p).cmds ++ [c] :=
  (State.cmds_withCmd _ c).trans (congrArg (· ++ [c]) State.cmds_beginCmd)

theorem State.part_modPart_withCmd (q : Nat) (g : Part → Part) (c : Cmd) :
    (((s.beginCmd p r rest).modPart q g).withCmd p c).part q = g (s.part q) := State.part_modPart_same (s.beginCmd p r rest) q g

end

theorem hostCommandEffects : Claims.HostCommandEffects := by
  rintro s p r idx q w rest c may check rfl
  refine ⟨fun taken => ⟨_, exec_nop may check taken, Claims.begun_withCmd _⟩,
    fun bound => ⟨?cds, ?idle, ?runs, ?post, ?hint, ?unhint, ?mark, ?close⟩, ?drop⟩
  case cds =>
    intro taken starting
    exact ⟨_, exec_startGraph_waits may check bound taken starting, Claims.begun_withCmd _⟩
  case idle =>
    intro taken idle
    exact ⟨_, exec_stopGraph_idle may check bound taken idle, Claims.begun_withCmd _⟩
  case runs =>
    intro taken runs
    obtain ⟨graph, cores, cmds⟩ := State.stopPartition_spec (s := s.beginCmd p r rest) runs
    exact ⟨_, exec_stopGraph_runs may check bound taken runs, graph, cores, _, State.cmds_withCmd _ _,
      (cmds p).trans (congrArg List.length State.cmds_beginCmd)⟩
  case post =>
    intro taken
    refine ⟨_, 65536 + (s.port p).nextTag, exec_postEvent may check bound taken, ?_, ?_, rfl, ?_, ?_, ?_⟩
    · simp only [State.withCmd, State.beginCmd, State.inject_fields, State.modPort, State.setPort_fields]
    · simp only [State.withCmd, State.beginCmd, State.inject_cores, State.modPort, State.setPort_cores]
    · rw [State.port_withCmd, if_pos rfl, State.port_inject, State.port_modPort, if_pos rfl, State.port_beginCmd, if_pos rfl]
      rfl
    · rw [State.cmds_withCmd, State.port_inject, State.port_modPort, if_pos rfl, State.cmds_beginCmd]
    · rfl
  case hint =>
    intro taken allowed
    exact ⟨_, exec_hintPhaseBegin may check bound taken allowed, State.cmds_modPart_withCmd _ _ _, rfl, State.part_modPart_withCmd _ _ _⟩
  case unhint =>
    intro taken allowed
    exact ⟨_, exec_hintPhaseEnd may check bound taken allowed, State.cmds_modPart_withCmd _ _ _, rfl, State.part_modPart_withCmd _ _ _⟩
  case mark =>
    intro taken
    exact ⟨_, exec_energyMarkOpen may check bound taken, State.cmds_modPart_withCmd _ _ _, State.part_modPart_withCmd _ _ _⟩
  case close =>
    intro taken
    exact ⟨_, exec_energyMarkClose may check bound taken, State.cmds_modPart_withCmd _ _ _, State.part_modPart_withCmd _ _ _⟩
  case drop =>
    intro e he taken
    refine ⟨_, exec_invalidate may check he taken, ?_, ?_, _, State.cmds_withCmd _ _, ?_⟩
    · simp only [State.withCmd, State.beginCmd, State.modPort, State.setPort]
    · rw [State.port_withCmd, if_pos rfl, State.port_modPort, if_pos rfl, State.port_beginCmd, if_pos rfl]
      rfl
    · rw [State.port_modPort, if_pos rfl]
      exact (List.length_map _).trans (congrArg List.length State.cmds_beginCmd)

end Sys2Proof.Machine
end

section
/-! PROOFS. The start of a graph (R15, R18, R89, R90, R107). -/

namespace Sys2Proof.Machine

/-! ### Nodes of a graph that starts (R18, R61, R89) -/

/-- A node that waits for its first firing, or has fired once and not returned to WAITING. -/
def NodeRun.atStart (r : NodeRun) : Prop := r.state = .waiting ∧ r.firing = 0 ∨ r.firing = 1 ∧ r.state ≠ .waiting

theorem Cistern.node_setNode (c : Cistern) (n m : Nat) (r : NodeRun) : (c.setNode n r).node m = if m = n then r else c.node m :=
  Tab.read_write c.nodes NodeRun.reset r n m

/-- Every node of a Cistern whose run state is reset waits. -/
theorem Cistern.startReset_atStart (c : Cistern) (n : Nat) : (c.startReset.node n).atStart := by
  have waits : ∀ r : NodeRun, r.state = .waiting → r.firing = 0 → r.atStart := fun r h0 h1 => .inl ⟨h0, h1⟩
  have all : ∀ m, (Tab.read (c.startReset.nodes) NodeRun.reset m).atStart := by
    refine List.foldlRecOn (motive := fun (t : Tab NodeRun) => ∀ m, (Tab.read t NodeRun.reset m).atStart) _ _ (fun m => waits _ rfl rfl)
      fun t ht k _ m => ?_
    rw [Tab.read_write]
    split
    · exact waits _ rfl rfl
    · exact ht m
  exact all n

/-- A node that enters the pool or the chain is no longer WAITING; the others stay as they are. -/
theorem Cistern.node_enter (c : Cistern) (n : Nat) (r : NodeRun) :
    ∃ x : NodeRun, x.state ≠ .waiting ∧ x.firing = r.firing ∧ ∀ m, (c.enter n r).node m = if m = n then x else c.node m := by
  unfold Cistern.enter
  split
  · exact ⟨{ r with state := .ready }, NodeState.noConfusion, rfl, fun m => c.node_setNode n m _⟩
  · exact ⟨{ r with state := .pending, chained := true }, NodeState.noConfusion, rfl, fun m => c.node_setNode n m _⟩

theorem Cistern.enter_mem (c : Cistern) (n : Nat) (r : NodeRun) : (c.enter n r).mem = c.mem := by
  unfold Cistern.enter
  split <;> rfl

theorem Cistern.enter_emit (c : Cistern) (n : Nat) (r : NodeRun) : (c.enter n r).emit = c.emit := by
  unfold Cistern.enter
  split <;> rfl

/-- The field `y` is `x` with nodes fired: what a firing does not write stays, and no node has fired a second time. -/
structure Field.FiredFrom (x y : Field) : Prop where
  syn : y.syn = x.syn
  mem : y.cis.mem = x.cis.mem
  emit : y.cis.emit = x.cis.emit
  nodes : ∀ n, (x.cis.node n).atStart → (y.cis.node n).atStart

theorem Field.FiredFrom.refl (x : Field) : Field.FiredFrom x x := ⟨rfl, rfl, rfl, fun _ => id⟩

theorem Field.FiredFrom.trans {x y z : Field} (h : Field.FiredFrom x y) (k : Field.FiredFrom y z) : Field.FiredFrom x z :=
  ⟨k.syn.trans h.syn, k.mem.trans h.mem, k.emit.trans h.emit, fun n hn => k.nodes n (h.nodes n hn)⟩

/-- `t` is `s` with nodes fired in the fields `fs` of partition `q`: beside the trace records dropped, no partition changes, and no other field does. -/
structure State.FiredFrom (q : Nat) (fs : List Nat) (s t : State) : Prop where
  part : t.part q = { s.part q with traceDropped := (t.part q).traceDropped }
  parts : ∀ q', q' ≠ q → t.part q' = s.part q'
  others : ∀ f, f ∉ fs → t.field f = s.field f
  fields : ∀ f, Field.FiredFrom (s.field f) (t.field f)

namespace State.FiredFrom
variable {q : Nat} {fs : List Nat} {s t u : State}

theorem refl (s : State) : State.FiredFrom q fs s s := ⟨rfl, fun _ _ => rfl, fun _ _ => rfl, fun f => Field.FiredFrom.refl (s.field f)⟩

theorem trans (h : State.FiredFrom q fs s t) (k : State.FiredFrom q fs t u) : State.FiredFrom q fs s u where
  part := by rw [k.part, h.part]
  parts q' hq := (k.parts q' hq).trans (h.parts q' hq)
  others f hf := (k.others f hf).trans (h.others f hf)
  fields f := (h.fields f).trans (k.fields f)

theorem rect (h : State.FiredFrom q fs s t) (p : Nat) : (t.part p).rect = (s.part p).rect := by
  by_cases hp : p = q
  · rw [hp, h.part]
  · rw [h.parts p hp]

theorem partOf (h : State.FiredFrom q fs s t) (f : Nat) : t.partOf f = s.partOf f := by
  simp only [State.partOf, Part.enabled, h.rect]

/-- Steps from one list of nodes or fields, each of which fires nodes of the partition, together do. -/
theorem foldl {l : List Nat} {step : State → Nat → State} (fires : ∀ t, State.FiredFrom q fs s t → ∀ a ∈ l, State.FiredFrom q fs t (step t a)) :
    State.FiredFrom q fs s (l.foldl step s) :=
  List.foldlRecOn l step (refl s) fun t ht a ha => ht.trans (fires t ht a ha)

/-- A change of a field of the partition. -/
theorem modField {f : Nat} {g : Field → Field} (hf : f ∈ fs) (fired : Field.FiredFrom (s.field f) (g (s.field f))) :
    State.FiredFrom q fs s (s.modField f g) where
  part := rfl
  parts _ _ := rfl
  others e he := (State.field_modField s f e g).trans (if_neg (ne_of_mem_of_not_mem hf he).symm)
  fields e := by
    rw [State.field_modField]
    split
    next h => rwa [h]
    next => exact Field.FiredFrom.refl (s.field e)

/-- A change of a field's counters and trace buffer. -/
theorem modObs {f : Nat} (hf : f ∈ fs) (g : Field → FieldObs) : State.FiredFrom q fs s (s.modField f (fun x => { x with obs := g x })) :=
  modField hf ⟨rfl, rfl, rfl, fun _ => id⟩

theorem addFieldCtr {f : Nat} (hf : f ∈ fs) (off n : Nat) : State.FiredFrom q fs s (s.addFieldCtr f off n) := modObs hf _

theorem addRdCtr (off n : Nat) : State.FiredFrom q fs s (s.addRdCtr off n) :=
  ⟨rfl, fun _ _ => rfl, fun _ _ => rfl, fun f => Field.FiredFrom.refl (s.field f)⟩

/-- A change of the partition's count of trace records dropped. -/
theorem dropped (n : Nat) : State.FiredFrom q fs s (s.modPart q (fun x => { x with traceDropped := n })) where
  part := by rw [State.part_modPart_same]
  parts q' hq := (State.part_modPart s q q' _).trans (if_neg hq)
  others _ _ := rfl
  fields f := Field.FiredFrom.refl (s.field f)

/-- A record dropped is counted in the field, in the RD and in the partition. -/
theorem fieldDropped {f : Nat} (hf : f ∈ fs) (n : Nat) : State.FiredFrom q fs s (s.fieldDropped f q n) :=
  (((addFieldCtr hf 0x70 n).trans (addRdCtr 0x18 n)).trans (modObs hf fun x => { x.obs with dropped := x.obs.dropped + n })).trans (dropped _)

theorem traceMake {f : Nat} (hf : f ∈ fs) (mine : s.partOf f = some q) (kind layer oper : Nat) (task : DWord) (ts w3 : Nat) :
    State.FiredFrom q fs s (s.traceMake f kind layer oper task ts w3) := by
  unfold State.traceMake
  rw [mine]
  dsimp only
  split
  · split
    · exact (addFieldCtr hf 0x68 1).trans (modObs hf _)
    · exact (addFieldCtr hf 0x68 1).trans (fieldDropped hf 1)
  · exact refl s

theorem traceNode {f : Nat} (hf : f ∈ fs) (mine : s.partOf f = some q) (n kind w3 : Nat) : State.FiredFrom q fs s (s.traceNode f n kind w3) := by
  unfold State.traceNode State.traceAt
  dsimp only
  split
  · exact traceMake hf mine _ _ _ _ _ _
  · exact refl s

/-- A WAITING node enters the pool or the chain with its first firing. -/
theorem enter {f n : Nat} (hf : f ∈ fs) {r : NodeRun} (waits : ((s.field f).cis.node n).state = .waiting)
    (fires : r.firing = (((s.field f).cis.node n).firing + 1) % 2 ^ 32) : State.FiredFrom q fs s (s.modCis f (fun c => c.enter n r)) := by
  refine modField hf ⟨rfl, Cistern.enter_mem _ _ _, Cistern.enter_emit _ _ _, fun m hm => ?_⟩
  obtain ⟨x, left, firing, node⟩ := (s.field f).cis.node_enter n r
  rw [node]
  split
  next h =>
    rw [h] at hm
    obtain ⟨-, first⟩ | ⟨-, gone⟩ := hm
    · exact .inr ⟨by rw [firing, fires, first]; rfl, left⟩
    · exact absurd waits gone
  next => exact hm

theorem fireNode {f : Nat} (hf : f ∈ fs) (mine : s.partOf f = some q) (n src : Nat) : State.FiredFrom q fs s (s.fireNode f n src) := by
  unfold State.fireNode
  dsimp only
  split
  next h =>
    obtain ⟨-, -, waits, -⟩ := h
    refine ((enter hf waits ?_).trans (addFieldCtr hf 0x50 1)).trans (traceNode hf ?_ _ _ _)
    · rfl
    · exact mine
  next => exact refl s

end State.FiredFrom

/-! ### The start of a graph (R18, R89, R107) -/

/-- A field with its run state reset. -/
def Field.startReset (x : Field) : Field := { x with cis := x.cis.startReset, syn := x.syn.startReset }

/-- The machine with the run state of the fields reset. -/
def State.resetFields (s : State) (fs : List Nat) : State :=
  fs.foldl (fun s f => (s.modCis f Cistern.startReset).modSyn f SyncUnit.startReset) s

theorem State.resetFields_parts (s : State) (fs : List Nat) : (s.resetFields fs).parts = s.parts :=
  List.foldlRecOn (motive := fun (t : State) => t.parts = s.parts) fs _ rfl fun _ ht _ _ => ht

theorem State.field_resetFields (s : State) {fs : List Nat} (once : fs.Nodup) (f : Nat) :
    (s.resetFields fs).field f = if f ∈ fs then (s.field f).startReset else s.field f := by
  induction fs generalizing s with
  | nil => rfl
  | cons e fs ih =>
    obtain ⟨fresh, once⟩ := List.nodup_cons.mp once
    have one : (((s.modCis e Cistern.startReset).modSyn e SyncUnit.startReset).field f) =
        if f = e then (s.field e).startReset else s.field f := by
      simp only [State.modSyn, State.modCis, State.field_modField]
      split
      next => rfl
      next => rfl
    refine (ih ((s.modCis e Cistern.startReset).modSyn e SyncUnit.startReset) once).trans ?_
    rw [one]
    by_cases h : f = e
    · rw [h, if_neg fresh, if_pos rfl, if_pos List.mem_cons_self]
    · simp only [List.mem_cons, h, false_or, if_false]

/-- A partition whose graph runs from TSTAMP `now` with its groups claimed. -/
def Part.started (x : Part) (claims : List Nat) (now : Nat) : Part :=
  { x with graph := .running, claims := claims, completed := 0, det := { last := now, armed := true, openAt := none, progAt := [] } }

/-- The machine with a partition's run state reset, the locks of its cores' queues released and its graph RUNNING, no node fired yet. -/
def State.graphReset (s : State) (q : Nat) : State :=
  let s1 := s.resetFields (s.partFields q)
  { s1 with cores := s1.cores.map (fun (e : Nat × Core) =>
    if (s.partFields q).contains (fieldOf e.1) then (e.1, { e.2 with inq := e.2.inq.map (fun (x : Nat × InQueue) => (x.1, { x.2 with lock := none })) })
    else e) : State }.modPart q (fun x => x.started (s.groupsOf q) s.tstamp)

/-- The nodes of a field with mask 0 fire. -/
def State.fireReady (s : State) (f : Nat) : State :=
  (s.field f).cis.nodeList.foldl (fun s n => if (s.field f).cis.mask n = 0 then s.fireNode f n 0 else s) s

theorem State.startGraph_eq (s : State) (q : Nat) : s.startGraph q = (s.partFields q).foldl State.fireReady (s.graphReset q) := by
  rfl

theorem State.partFields_nodup (s : State) (q : Nat) : (s.partFields q).Nodup := List.nodup_range.filter _

theorem State.field_graphReset (s : State) (q f : Nat) :
    (s.graphReset q).field f = if f ∈ s.partFields q then (s.field f).startReset else s.field f :=
  s.field_resetFields (s.partFields_nodup q) f

theorem State.part_graphReset (s : State) (q p : Nat) :
    (s.graphReset q).part p = if p = q then (s.part q).started (s.groupsOf q) s.tstamp else s.part p := by
  have kept : ∀ e, (s.resetFields (s.partFields q)).part e = s.part e := fun e => by
    rw [State.part, State.resetFields_parts, State.part]
  refine (State.part_modPart _ q p _).trans (if_congr Iff.rfl ?_ (kept p))
  exact congrArg (fun x => x.started (s.groupsOf q) s.tstamp) (kept q)

theorem State.partOf_graphReset (s : State) (q f : Nat) : (s.graphReset q).partOf f = s.partOf f := by
  have rect : ∀ p, ((s.graphReset q).part p).rect = (s.part p).rect := fun p => by
    rw [State.part_graphReset]
    split
    next h => rw [h]; rfl
    next => rfl
  simp only [State.partOf, Part.enabled, rect]

/-- A graph that has been reset fires nodes of its own fields alone. -/
theorem State.startGraph_fires {s : State} {q : Nat} (mine : ∀ f ∈ s.partFields q, s.partOf f = some q) :
    State.FiredFrom q (s.partFields q) (s.graphReset q) (s.startGraph q) := by
  rw [State.startGraph_eq]
  refine State.FiredFrom.foldl fun t ht f hf => State.FiredFrom.foldl fun u hu n _ => ?_
  split
  · exact State.FiredFrom.fireNode hf ((hu.partOf f).trans ((ht.partOf f).trans ((s.partOf_graphReset q f).trans (mine f hf)))) n 0
  · exact State.FiredFrom.refl u

/-- What an accepted START_GRAPH leaves of partition `q` and its fields (R15, R18, R89, R107). -/
structure State.GraphStarted (q : Nat) (s t : State) : Prop where
  graph : (t.part q).graph = .running
  claims : (t.part q).claims = s.groupsOf q
  armed : (t.part q).det.armed = true
  parts : ∀ q', q' ≠ q → t.part q' = s.part q'
  others : ∀ f, f ∉ s.partFields q → t.field f = s.field f
  fields : ∀ f, f ∈ s.partFields q → (∀ i, t.pair f i = Pair.reset) ∧ (∀ g, t.well f g = Well.reset) ∧
    (t.field f).syn.decls = (s.field f).syn.decls ∧ (t.field f).cis.mem = (s.field f).cis.mem ∧ (t.field f).cis.emit = (s.field f).cis.emit ∧
    ∀ n, ((t.field f).cis.node n).state = .waiting ∨ ((t.field f).cis.node n).firing = 1

theorem State.startGraph_started {s : State} {q : Nat} (mine : ∀ f ∈ s.partFields q, s.partOf f = some q) :
    State.GraphStarted q s (s.startGraph q) := by
  have fired := State.startGraph_fires mine
  have part := fired.part
  rw [State.part_graphReset, if_pos rfl] at part
  have field : ∀ f ∈ s.partFields q, (s.graphReset q).field f = (s.field f).startReset := fun f hf => by
    rw [State.field_graphReset, if_pos hf]
  refine ⟨by rw [part]; rfl, by rw [part]; rfl, by rw [part]; rfl, fun q' hq => ?_, fun f hf => ?_, fun f hf => ?_⟩
  · rw [fired.parts q' hq, State.part_graphReset, if_neg hq]
  · rw [fired.others f hf, State.field_graphReset, if_neg hf]
  · obtain ⟨syn, mem, emit, nodes⟩ := fired.fields f
    rw [field f hf] at syn mem emit nodes
    refine ⟨fun i => ?_, fun g => ?_, by rw [syn]; rfl, mem, emit, fun n => ?_⟩
    · rw [State.pair, syn]
      rfl
    · rw [State.well, syn]
      rfl
    · exact (nodes n ((s.field f).cis.startReset_atStart n)).imp And.left And.left

/-! ### The commands that start one (R90, R421) -/

theorem State.graphCheck_setPort (s : State) (p : Nat) (x : Port) (q : Nat) : (s.setPort p x).graphCheck q = s.graphCheck q := rfl

theorem State.checkGraph_good {s : State} {q : Nat} (good : s.graphCheck q = none) (c : Cmd) : s.checkGraph q c = (s.startGraph q, c.done) := by
  rw [State.checkGraph, good]

/-- What a port does besides is no part of a graph's start. -/
theorem State.GraphStarted.modPort {q : Nat} {s t : State} (h : State.GraphStarted q s t) (p : Nat) (g : Port → Port) :
    State.GraphStarted q s (t.modPort p g) := ⟨h.graph, h.claims, h.armed, h.parts, h.others, h.fields⟩

theorem State.GraphStarted.of_setPort {q p : Nat} {s t : State} {x : Port} (h : State.GraphStarted q (s.setPort p x) t) :
    State.GraphStarted q s t := ⟨h.graph, h.claims, h.armed, h.parts, h.others, h.fields⟩

section
variable {s : State} {p r idx q : Nat} {w : List Nat} {rest : List (Nat × List Nat)} (good : s.graphCheck q = none) (on : s.cdStarting q = false)
include good on

theorem exec_startGraph (may : Claims.mayBegin s p r idx w rest) (check : s.cmdCheck ((s.port p).ring r) w = none) (taken : selOpc 6 w = true)
    (bound : ((s.port p).ring r).bound = some q) :
    exec (.startGraph p r) s = .next (((s.beginCmd p r rest).startGraph q).withCmd p (s.taken p r idx w).done) := by
  have still : (s.beginCmd p r rest).cdStarting q = false := on
  refine State.startCmd_begins may check taken ?_
  rw [Ring.part_of_bound bound, if_neg (Bool.not_eq_true _ ▸ still)]
  exact State.checkGraph_good ((s.graphCheck_setPort p _ q).trans good) _

theorem exec_startGraphDeferredCheck {i : Nat} {c : Cmd} (enabled : (s.part q).enabled = true) (hp : p < 4)
    (listed : (s.port p).cmds[i]? = some c) (waits : c.wait = .cds) (running : c.ended = false) (bound : c.bound = some q) :
    exec (.startGraphDeferredCheck p i) s =
      .next ((s.startGraph q).setCmd p i ({ c with wait := .none, start := s.tstamp } : Cmd).done) := by
  have part : c.part = q := congrArg (Option.getD · 0) bound
  simp only [exec, execStartGraphDeferredCheck, onPort, if_pos hp, listed, part, waits, running, on, enabled, State.checkGraph_good good, ne_eq, not_true,
    Bool.false_eq_true, or_self, Bool.not_true, if_false]

end

theorem graphStarts : Claims.GraphStarts := by
  intro s p r idx q w rest good on enabled mine bound cmd i c h
  obtain ⟨t, ht, g⟩ : ∃ t, exec cmd s = .next t ∧ State.GraphStarted q s t := by
    rcases h with ⟨rfl, may, check, taken⟩ | ⟨rfl, hp, listed, waits, running, own⟩
    · exact ⟨_, exec_startGraph good on may check taken bound,
        (State.startGraph_started (s := s.beginCmd p r rest) mine).of_setPort.modPort p _⟩
    · exact ⟨_, exec_startGraphDeferredCheck good on enabled hp listed waits running own,
        (State.startGraph_started mine).modPort p _⟩
  exact ⟨t, ht, g.graph, g.claims, g.armed, g.parts, g.others, g.fields⟩

/-- Settles O29: each command is carried out (`exec_…`) to a state of which the changed units are read back; a graph that starts is reset field by
field, and its first firings keep what a reset has set (`State.FiredFrom`). -/
theorem hostCommandsAndGraphs : Obligations.HostCommandsAndGraphs := by
  unfold Obligations.HostCommandsAndGraphs
  exact ⟨hostCommandEffects, graphStarts⟩

end Sys2Proof.Machine
end

section
/-! PROOFS. What an instruction of a core may touch (R13, R32, R149, R228, R533): its own core, its own field's units, the counts of faults and refusals, and the packets that it
or its field's agent sends. -/

namespace Sys2Proof.Machine

theorem fieldOf_lt {c : Nat} (hc : c < nCores) : fieldOf c < nFields := by
  unfold nCores at hc
  unfold fieldOf nFields
  omega

/-- A packet of the core `c` or of its field's agent. -/
def Packet.FromHome (c : Nat) (p : Packet) : Prop := p.src = .core c ∨ p.src = .field (fieldOf c)

/-- `t` is `s` but for core `c`, the units of its field, the counts of faults and refusals, and packets sent by the core or its field's agent. -/
structure State.Home (c : Nat) (s t : State) : Prop where
  rest : t = { s with cores := t.cores, fields := t.fields, net := t.net, totals := t.totals, faultCount := t.faultCount,
                      detRefusals := t.detRefusals }
  cores : ∀ c', c' ≠ c → t.core c' = s.core c'
  fields : ∀ f, f ≠ fieldOf c → t.field f = s.field f
  net : ∃ l, t.net = s.net ++ l ∧ ∀ p ∈ l, Packet.FromHome c p

namespace State.Home
variable {c : Nat} {s t u : State}

theorem refl (c : Nat) (s : State) : State.Home c s s :=
  ⟨rfl, fun _ _ => rfl, fun _ _ => rfl, [], (List.append_nil _).symm, fun _ h => absurd h List.not_mem_nil⟩

theorem trans (h : State.Home c s t) (k : State.Home c t u) : State.Home c s u where
  rest := by rw [k.rest, h.rest]
  cores c' hc := (k.cores c' hc).trans (h.cores c' hc)
  fields f hf := (k.fields f hf).trans (h.fields f hf)
  net := by
    obtain ⟨l, hl, srcs⟩ := h.net
    obtain ⟨m, hm, srcs'⟩ := k.net
    exact ⟨l ++ m, by rw [hm, hl, List.append_assoc], fun p hp => (List.mem_append.mp hp).elim (srcs p) (srcs' p)⟩

/-- A state that differs in the counts alone. -/
theorem counts (c : Nat) (s : State) (tot : Tab Nat) (d n : Nat) :
    State.Home c s { s with totals := tot, detRefusals := d, faultCount := n } :=
  ⟨rfl, fun _ _ => rfl, fun _ _ => rfl, (refl c s).net⟩

theorem addTotal (k n : Nat) : State.Home c s (s.addTotal k n) := counts c s _ _ _

theorem modField (g : Field → Field) : State.Home c s (s.modField (fieldOf c) g) where
  rest := rfl
  cores _ _ := rfl
  fields f hf := (State.field_modField s _ f g).trans (if_neg hf)
  net := (refl c s).net

theorem inject {l : List Packet} (h : ∀ p ∈ l, Packet.FromHome c p) : State.Home c s (s.inject l) where
  rest := rfl
  cores _ _ := rfl
  fields _ _ := rfl
  net := by
    refine ⟨_, rfl, fun p hp => ?_⟩
    obtain ⟨q, hq, rfl⟩ := List.mem_map.mp hp
    exact h q hq

/-- A core writes to its own entry of the table. -/
theorem writeCore (k : Core) : State.Home c s { s with cores := Tab.write s.cores Core.reset c k } where
  rest := rfl
  cores c' hc := (Tab.read_write s.cores Core.reset k c c').trans (if_neg hc)
  fields _ _ := rfl
  net := (refl c s).net

/-- A report in the queue of the core's own field. -/
theorem report (hc : c < nCores) (r : FaultRec) : State.Home c s (s.report (fieldOf c) r) := by
  have hf := fieldOf_lt hc
  unfold nFields at hf
  have not_rd : fieldOf c ≠ 72 := by omega
  have not_sd : fieldOf c ≠ 73 := by omega
  simp only [State.report, not_rd, not_sd, if_false]
  exact (counts c s s.totals s.detRefusals _).trans (modField _)

theorem ite {P : Prop} [Decidable P] (ht : State.Home c s t) (hu : State.Home c s u) : State.Home c s (if P then t else u) := by
  split
  · exact ht
  · exact hu

/-! ### Putting the core back -/

theorem countUe (hc : c < nCores) (sp : UeSpace) (unit w : Nat) (task : Option DWord) :
    State.Home c s (s.countUe (fieldOf c) sp unit w task) := by
  have counted : ∀ sp : UeSpace, State.Home c s (match sp with
      | .sram => s.addTotal 2 1
      | .istore => s.addTotal 2 1
      | .cistern => s.addTotal 4 1) := fun sp => by
    cases sp with
    | sram => exact addTotal 2 1
    | istore => exact addTotal 2 1
    | cistern => exact addTotal 4 1
  unfold State.countUe
  refine ite (refl c s) (ite ?_ (counted sp))
  exact ((counted sp).trans (modField _)).trans (report hc _)

theorem countFound (hc : c < nCores) (l : List (UeSpace × Nat)) : State.Home c s (s.countFound (fieldOf c) c l) :=
  List.foldlRecOn (motive := State.Home c s) l _ (refl c s) fun _ ht _ _ => ht.trans (countUe hc _ _ _ _)

theorem forgetUe (old new : Core) : State.Home c s (s.forgetUe (fieldOf c) c old new) := by
  unfold State.forgetUe
  exact ite (refl c s) (modField _)

theorem setCore (hc : c < nCores) (k : Core) : State.Home c s (s.setCore c k) := by
  unfold State.setCore
  exact (((ite (refl c s) (addTotal 1 _)).trans (countFound hc _)).trans (forgetUe _ _)).trans (writeCore _)

/-! ### Traps and write-backs (R131, R141) -/

theorem finishFail (hc : c < nCores) : State.Home c s (s.finishFail c) := by
  unfold State.finishFail
  dsimp only
  split
  · refine ite ((setCore hc _).trans (inject fun p hp => ?_)) (refl c s)
    rw [List.mem_singleton.mp hp]
    exact .inl rfl
  · exact refl c s

theorem trapCore (hc : c < nCores) (cause pc addr : Nat) (k : Core) : State.Home c s (s.trapCore c cause pc addr k) := by
  unfold State.trapCore
  exact ((ite (counts c s s.totals _ s.faultCount) (refl c s)).trans (setCore hc _)).trans (finishFail hc)

theorem meetIce (hc : c < nCores) (w : Nat) : State.Home c s (s.meetIce c w) := by
  unfold State.meetIce
  exact ite ((addTotal 1 1).trans (setCore hc _)) (refl c s)

end State.Home

/-! ### What issuing comes to -/

/-- The packets that an issued instruction sends are the core's own. -/
def Issue.FromCore (c : Nat) (r : Issue) : Prop :=
  match r with
  | .stall => True
  | .done _ out => ∀ p ∈ out, p.src = .core c
  | .sleep _ out => ∀ p ∈ out, p.src = .core c
  | .trap _ _ _ => True

theorem Issue.FromCore.ite {c : Nat} {P : Prop} [Decidable P] {r r' : Issue} (h : r.FromCore c) (h' : r'.FromCore c) :
    (if P then r else r').FromCore c := by
  split
  · exact h
  · exact h'

theorem Issue.fromCore_nil (c : Nat) (k : Core) : (Issue.done k []).FromCore c := fun _ h => absurd h List.not_mem_nil

theorem Issue.fromCore_whenFree {c : Nat} {k : Core} {rs : List Nat} {r : Issue} (h : r.FromCore c) : (whenFree k rs r).FromCore c := by
  unfold whenFree
  exact .ite h trivial

theorem State.Home.applyIssue {c : Nat} (hc : c < nCores) {s : State} {r : Issue} (h : r.FromCore c) : State.Home c s (s.applyIssue c r) := by
  cases r with
  | stall => exact .refl c s
  | done k out => exact (State.Home.setCore hc _).trans (.inject fun p hp => .inl (h p hp))
  | sleep k out => exact (State.Home.setCore hc _).trans (.inject fun p hp => .inl (h p hp))
  | trap k cause addr => exact .trapCore hc cause _ addr k

/-- Whatever comes of an instruction that sends only the core's own packets stays at home. -/
theorem issue_home {op : CoreOp} {c : Nat} {run : State → Core → Nat → Issue} (own : ∀ s k w, (run s k w).FromCore c)
    (s t : State) (h : issue op c s run = .next t) : State.Home c s t := by
  unfold issue onCore at h
  split at h
  next hc =>
    injection h with h
    rw [← h]
    refine .ite ?_ (.refl c s)
    dsimp only
    split
    · exact .trapCore hc _ _ _ _
    · refine (State.Home.meetIce hc (((s.core c).pc - istoreBase) / 8)).trans ?_
      split
      · exact .trapCore hc _ _ _ _
      next w _ _ _ _ =>
        refine .ite ?_ (.refl c _)
        have sent := own (s.meetIce c (((s.core c).pc - istoreBase) / 8)) ((s.meetIce c (((s.core c).pc - istoreBase) / 8)).core c) w
        split
        next => exact .refl c _
        next k out does => exact .applyIssue hc (r := .done k out) (does ▸ sent)
        next k out does => exact .applyIssue hc (r := .sleep k out) (does ▸ sent)
        next => exact .trapCore hc _ _ _ _
  next => cases h

/-! ### Blocking operations (R176, R178) -/

namespace State.Home
variable {c : Nat} {s : State}

theorem modSyn (g : SyncUnit → SyncUnit) : State.Home c s (s.modSyn (fieldOf c) g) := by
  unfold State.modSyn
  exact modField _

theorem setArrival (i : Nat) (a : Arrival) : State.Home c s (s.setArrival c i a) := by
  unfold State.setArrival
  exact modSyn _

theorem syncFault (hc : c < nCores) (bitNo cause index : Nat) (group : Bool) (who : Option (DWord × Nat)) :
    State.Home c s (s.syncFault (fieldOf c) bitNo cause index group who) := by
  unfold State.syncFault
  exact (modSyn _).trans (report hc _)

theorem answerCore (tag : Nat) (task : DWord) (b : Payload) : State.Home c s (s.answerCore (fieldOf c) c tag task b) := by
  unfold State.answerCore
  rw [if_pos rfl]
  exact inject fun p hp => .inr (by rw [List.mem_singleton.mp hp]; rfl)

/-- A packet of the core to a field's agent. -/
theorem injectSync (t : State) (f tag : Nat) (task : DWord) (b : Payload) : State.Home c s (s.inject [syncPacket t c f tag task b]) := by
  refine inject fun p hp => .inl ?_
  rw [List.mem_singleton.mp hp]
  unfold syncPacket
  split
  · rfl
  · rfl

theorem arrive (hc : c < nCores) (i tag : Nat) (task : DWord) : State.Home c s (s.arrive c i tag task).1 := by
  unfold State.arrive
  dsimp only
  split
  · exact answerCore _ _ _
  · split
    · exact (syncFault hc _ _ _ _ _).trans (answerCore _ _ _)
    · exact (setArrival _ _).trans (injectSync _ _ _ _ _)

theorem await (hc : c < nCores) (i tag : Nat) (task : DWord) : State.Home c s (s.await c i tag task) := by
  unfold State.await
  dsimp only
  refine ite (answerCore _ _ _) ?_
  split
  · exact (syncFault hc _ _ _ _ _).trans (answerCore _ _ _)
  · exact (setArrival _ _).trans (answerCore _ _ _)
  · exact refl c s

end State.Home

theorem Core.commitFirst_fromCore (k : Core) (c : Nat) : ∀ p ∈ (k.commitFirst c).2, p.src = .core c := by
  unfold Core.commitFirst
  split
  · exact fun _ h => absurd h List.not_mem_nil
  · exact fun p hp => by rw [List.mem_singleton.mp hp]; rfl

namespace State.Home
variable {c : Nat} {s : State}

theorem commit (hc : c < nCores) : State.Home c s (s.commit c) :=
  (setCore hc _).trans (inject fun p hp => .inl (Core.commitFirst_fromCore _ c p hp))

theorem commitArrive (hc : c < nCores) (k : Core) (i tag : Nat) (task : DWord) :
    State.Home c s (((s.setCore c k).commit c).arrive c i tag task).1 :=
  ((setCore hc k).trans (commit hc)).trans (arrive hc i tag task)

theorem leaveBlocking (hc : c < nCores) : State.Home c s (s.leaveBlocking c) := by
  unfold State.leaveBlocking
  dsimp only
  split
  · exact refl c s
  · refine ite (refl c s) ?_
    split
    · exact (setCore hc _).trans (injectSync _ _ _ _ _)
    · exact (setCore hc _).trans (injectSync _ _ _ _ _)
    · exact ((setCore hc _).trans (commit hc)).trans (injectSync _ _ _ _ _)
    · exact (setCore hc _).trans (await hc _ _ _)
    · exact ite ((commitArrive hc _ _ _ _).trans (await hc _ _ _)) (commitArrive hc _ _ _ _)

end State.Home

theorem issueBlocking_home {op : CoreOp} {c : Nat} {check : Core → Nat → Option Nat} {names : Nat → List Nat} {mk : Nat → BlockOp}
    (s t : State) (h : issueBlocking op c s check names mk = .next t) : State.Home c s t := by
  have own : ∀ (k : Core) (w : Nat), (match check k w with
      | some cause => Issue.trap k cause 0
      | none => whenFree k (names w) (.sleep { k.addCounter 6 1 with
          run := .sleepSync, blocked := some { op := mk w, bind := syBind w, left := false, answer := none } } [])).FromCore c := fun k w => by
    split
    · exact trivial
    · exact Issue.fromCore_whenFree fun _ h => absurd h List.not_mem_nil
  unfold issueBlocking at h
  split at h
  next u hu =>
    have hc : c < nCores := by
      by_contra far
      rw [issue, onCore, if_neg far] at hu
      cases hu
    injection h with h
    rw [← h]
    have issued := issue_home (fun _ k w => own k w) s u hu
    exact .ite (issued.trans (.leaveBlocking hc)) issued
  next hn => exact absurd h (hn t)

/-! ### The packets of each kind of instruction -/

section
variable {c : Nat} (s : State) (k : Core) (w : Nat)

theorem Core.enqueue_fromCore (q : QOp) : (k.enqueue q).FromCore c := by
  unfold Core.enqueue
  exact .ite trivial (Issue.fromCore_nil c _)

theorem rrOp_fromCore (f : Nat → Nat → Nat) : (rrOp f s k w).FromCore c := Issue.fromCore_whenFree (Issue.fromCore_nil c _)
theorem riOp_fromCore (f : Nat → Nat → Nat) : (riOp f s k w).FromCore c := Issue.fromCore_whenFree (Issue.fromCore_nil c _)

theorem brOp_fromCore (f : Nat → Nat → Bool) : (brOp f s k w).FromCore c :=
  Issue.fromCore_whenFree (.ite (Issue.fromCore_nil c _) (Issue.fromCore_nil c _))

theorem loadOp_fromCore (n : Nat) (put : Core → Nat → Nat → Core) : (loadOp n put s k w).FromCore c := by
  refine Issue.fromCore_whenFree ?_
  split
  · exact trivial
  · refine .ite trivial ?_
    dsimp only
    split
    · exact trivial
    · exact Issue.fromCore_nil c _

theorem storeOp_fromCore (n : Nat) (get : Core → Nat → Nat) : (storeOp n get s k w).FromCore c := by
  refine Issue.fromCore_whenFree ?_
  split
  · exact trivial
  · exact .ite trivial (Issue.fromCore_nil c _)

theorem vectorOp_fromCore (draws : Bool) : (vectorOp draws s k w).FromCore c := .ite trivial (Core.enqueue_fromCore _ _)
theorem vectorScalarOp_fromCore : (vectorScalarOp s k w).FromCore c := Issue.fromCore_whenFree (Core.enqueue_fromCore _ _)

theorem vectorMemOp_fromCore : (vectorMemOp s k w).FromCore c := by
  refine Issue.fromCore_whenFree ?_
  split
  · exact trivial
  · exact Core.enqueue_fromCore _ _

theorem mixerOp_fromCore : (mixerOp s k w).FromCore c := .ite trivial (Core.enqueue_fromCore _ _)

theorem postOp_fromCore (op : PostedOp) : (postOp k op).FromCore c := .ite trivial (Issue.fromCore_nil c _)

/-! ### Messages (R173 to R175, R241, R242) -/

theorem Core.sendCredit_fromCore (dst vc n : Nat) (recipe : Bool) : ∀ p ∈ (k.sendCredit s c dst vc n recipe).2.2, p.src = .core c := by
  have none : ∀ p ∈ ([] : List Packet), p.src = .core c := fun _ h => absurd h List.not_mem_nil
  have one : ∀ p : Packet, p.src = .core c → ∀ q ∈ [p], q.src = .core c := fun p hp q hq => by rw [List.mem_singleton.mp hq, hp]
  unfold Core.sendCredit
  dsimp only
  split
  · split
    · exact none
    · split
      · exact none
      · split
        · exact none
        · exact one _ rfl
  · split
    · split
      · refine List.forall_mem_append.mpr ⟨?_, one _ rfl⟩
        split
        · exact none
        · exact one _ rfl
      · exact one _ rfl
    · exact one _ rfl

theorem Core.handOver_fromCore (dst vc : Nat) (data : List Byte) (bind : Option (Nat × Nat × Nat)) :
    ∀ p ∈ (k.handOver s c dst vc data bind).2, p.src = .core c :=
  List.forall_mem_append.mpr ⟨Core.commitFirst_fromCore k c, fun p hp => by rw [List.mem_singleton.mp hp]; rfl⟩

theorem takeRequest_fromCore {vc : Nat} {q q' : InQueue} {r : CreditWait} {p : Packet} (h : takeRequest s c vc q r = some (q', p)) :
    p.src = .core c := by
  unfold takeRequest at h
  dsimp only at h
  split at h
  · injection h with h
    rw [← (Prod.mk.inj h).2]
    rfl
  · split at h
    · injection h with h
      rw [← (Prod.mk.inj h).2]
      rfl
    · cases h

theorem grantWaiting_fromCore (vc : Nat) (q : InQueue) (waiting : List CreditWait) :
    ∀ p ∈ (grantWaiting s c vc q waiting).2, p.src = .core c := by
  induction waiting generalizing q with
  | nil => exact fun _ h => absurd h List.not_mem_nil
  | cons r rest ih =>
    unfold grantWaiting
    split
    next q1 p taken => exact List.forall_mem_cons.mpr ⟨takeRequest_fromCore s taken, ih q1⟩
    next => exact fun _ h => absurd h List.not_mem_nil

theorem Core.popMsg_fromCore {k k' : Core} {vc : Nat} {m : Msg} {out : List Packet} (h : k.popMsg s c vc = some (m, k', out)) :
    ∀ p ∈ out, p.src = .core c := by
  unfold Core.popMsg at h
  dsimp only at h
  split at h
  · cases h
  · injection h with h
    rw [← (Prod.mk.inj (Prod.mk.inj h).2).2]
    exact grantWaiting_fromCore s vc _ _

theorem sendBody_fromCore : (sendBody c s k w).FromCore c := by
  unfold sendBody
  refine .ite trivial (.ite trivial (.ite trivial (.ite trivial (.ite (fun _ h => absurd h List.not_mem_nil) ?_))))
  refine .ite ?_ (Core.sendCredit_fromCore s k _ _ _ _)
  dsimp only
  split
  · exact Issue.fromCore_nil c _
  · exact Core.handOver_fromCore s _ _ _ _ _

theorem recvBody_fromCore : (recvBody c s k w).FromCore c := by
  unfold recvBody
  refine .ite trivial (.ite trivial (.ite trivial ?_))
  split
  · exact fun _ h => absurd h List.not_mem_nil
  · next popped => exact .ite trivial (.ite trivial (Core.popMsg_fromCore s popped))

/-! ### Control registers, tiles and recipes -/

theorem csrr_home : ∀ s t, execCsrr c s = .next t → State.Home c s t := issue_home fun s k w => by
  refine .ite trivial (.ite trivial (Issue.fromCore_whenFree ?_))
  split
  · exact Issue.fromCore_nil c _
  · exact Issue.fromCore_nil c _

theorem csrw_home : ∀ s t, execCsrw c s = .next t → State.Home c s t := issue_home fun s k w => by
  refine .ite trivial (.ite trivial (Issue.fromCore_whenFree ?_))
  split
  · exact Issue.fromCore_nil c _
  · exact Issue.fromCore_nil c _

theorem tdesc_home : ∀ s t, execTdesc c s = .next t → State.Home c s t := issue_home fun s k w => by
  refine .ite trivial (Issue.fromCore_whenFree ?_)
  -- Only the verdict of the check matters: it is held as a variable, so that nothing evaluates it.
  obtain ⟨check, held⟩ : ∃ check, tdescFault = check := ⟨_, rfl⟩
  rw [held]
  dsimp only
  split
  · exact trivial
  · exact Core.enqueue_fromCore _ _

theorem jal_home : ∀ s t, execJal c s = .next t → State.Home c s t :=
  issue_home fun _ _ _ => Issue.fromCore_whenFree (Issue.fromCore_nil c _)
theorem jalr_home : ∀ s t, execJalr c s = .next t → State.Home c s t :=
  issue_home fun _ _ _ => Issue.fromCore_whenFree (Issue.fromCore_nil c _)
theorem mma_home : ∀ s t, execMma c s = .next t → State.Home c s t :=
  issue_home fun _ _ _ => .ite trivial (.ite trivial (Core.enqueue_fromCore _ _))
theorem ast_home : ∀ s t, execAst c s = .next t → State.Home c s t :=
  issue_home fun _ _ _ => .ite trivial (.ite trivial (Core.enqueue_fromCore _ _))
theorem ald_home : ∀ s t, execAld c s = .next t → State.Home c s t :=
  issue_home fun _ _ _ => .ite trivial (.ite trivial (Core.enqueue_fromCore _ _))
theorem send_home : ∀ s t, execSend c s = .next t → State.Home c s t :=
  issue_home fun s k w => Issue.fromCore_whenFree (sendBody_fromCore s k w)
theorem recv_home : ∀ s t, execRecv c s = .next t → State.Home c s t :=
  issue_home fun s k w => Issue.fromCore_whenFree (recvBody_fromCore s k w)
theorem rpeek_home : ∀ s t, execRpeek c s = .next t → State.Home c s t :=
  issue_home fun _ _ _ => .ite trivial (.ite trivial (Issue.fromCore_whenFree (Issue.fromCore_nil c _)))
theorem sadv_home : ∀ s t, execSadv c s = .next t → State.Home c s t :=
  issue_home fun _ k _ => .ite (postOp_fromCore k _) trivial
theorem warr_home : ∀ s t, execWarr c s = .next t → State.Home c s t :=
  issue_home fun _ k _ => .ite (postOp_fromCore k _) trivial
theorem post_home : ∀ s t, execPost c s = .next t → State.Home c s t :=
  issue_home fun _ k _ => Issue.fromCore_whenFree (.ite trivial (.ite trivial (postOp_fromCore k _)))
theorem endTask_home : ∀ s t, execEnd c s = .next t → State.Home c s t :=
  issue_home fun _ _ _ => Issue.fromCore_nil c _
theorem fail_home : ∀ s t, execFail c s = .next t → State.Home c s t :=
  issue_home fun _ _ _ => trivial
theorem minMax_home : ∀ s t, execMinMax c s = .next t → State.Home c s t :=
  issue_home fun s k w => rrOp_fromCore s k w _
theorem divRem_home : ∀ s t, execDivRem c s = .next t → State.Home c s t :=
  issue_home fun s k w => rrOp_fromCore s k w _
theorem vext_home : ∀ s t, execVext c s = .next t → State.Home c s t :=
  issue_home fun s k w => Issue.fromCore_whenFree (vectorOp_fromCore s k w _)
theorem vcvt_home : ∀ s t, execVcvt c s = .next t → State.Home c s t :=
  issue_home fun s k w => vectorOp_fromCore s k w _

theorem rlaunch_home : ∀ s t, execRlaunch c s = .next t → State.Home c s t := issue_home fun s k w => by
  refine Issue.fromCore_whenFree (.ite trivial ?_)
  dsimp only
  split
  · exact trivial
  · exact Issue.fromCore_nil c _

end

/-! ### Every instruction of a core -/

/-- An instruction of a core stays at home, whatever comes of it. -/
theorem coreInstruction_home (i : Instr) : (Claims.coreOf i).elim True (fun c => ∀ s t, exec i s = .next t → State.Home c s t) := by
  cases i with
  | add | sub | and | or | xor | sll | srl | sra | slt | sltu | mul | mulh | mulhu | clz | popc =>
    exact issue_home fun s k w => rrOp_fromCore s k w _
  | minMax => exact minMax_home
  | divRem => exact divRem_home
  | addi | andi | ori | xori | shi | slti | sltiu | lui =>
    exact issue_home fun s k w => riOp_fromCore s k w _
  | jal => exact jal_home
  | jalr => exact jalr_home
  | beq | bne | blt | bge | bltu | bgeu => exact issue_home fun s k w => brOp_fromCore s k w _
  | lb | lbu | lh | lhu | lw | ld | lq => exact issue_home fun s k w => loadOp_fromCore s k w _ _
  | sb | sh | sw | sd | sq => exact issue_home fun s k w => storeOp_fromCore s k w _ _
  | csrr => exact csrr_home
  | csrw => exact csrw_home
  | vaddf | vsubf | vmulf | vfmaf | vminf | vmaxf | vcmpeqf | vcmpltf | vcmplef | vrcpf | vrsqf | vexp2f | vlog2f | vdivf | vsqrtf | vaddi |
  vsubi | vmuli | vand | vor | vxor | vsll | vsrl | vsra | vmini | vmaxi | vcmpeqi | vcmplti | vsel | vperm | vmov | vrsumf | vrmaxf |
  vrminf | vrsumi =>
    exact issue_home fun s k w => vectorOp_fromCore s k w _
  | vbcast | vins => exact issue_home fun s k w => vectorScalarOp_fromCore s k w
  | vext => exact vext_home
  | vcvt => exact vcvt_home
  | vld | vst => exact issue_home fun s k w => vectorMemOp_fromCore s k w
  | tdesc => exact tdesc_home
  | mma => exact mma_home
  | ast => exact ast_home
  | ald => exact ald_home
  | azero | axv | avx => exact issue_home fun s k w => mixerOp_fromCore s k w
  | rlaunch => exact rlaunch_home
  | send => exact send_home
  | recv => exact recv_home
  | rpeek => exact rpeek_home
  | sadv => exact sadv_home
  | swait | sread | sclr | wawt | waa => exact issueBlocking_home
  | warr => exact warr_home
  | post => exact post_home
  | endTask => exact endTask_home
  | fail => exact fail_home
  | _ => trivial

/-- Settles O60: issuing writes the core back and sends its packets (`issue_home`), a blocking operation leaves for the core's own field (`issueBlocking_home`), and every
instruction of a core is one of the two. -/
theorem coreInstructionsStayHome : Obligations.CoreInstructionsStayHome := by
  unfold Obligations.CoreInstructionsStayHome
  intro i c s t own ht
  have home := coreInstruction_home i
  rw [own] at home
  obtain ⟨rest, cores, fields, net⟩ := home s t ht
  exact ⟨rest, cores, fields, net⟩

end Sys2Proof.Machine
end

section
/-! PROOFS. Fields and their cores by number (R30 to R32). -/

namespace Sys2Proof.Machine

section
variable {x y : Nat} (hx : x < 288)
include hx

/-- A core ID gives its column and row back. -/
theorem coreId_column : (y * 288 + x) % 288 = x := by omega
theorem coreId_row : (y * 288 + x) / 288 = y := by omega

theorem fieldOf_coordinates : fieldOf (y * 288 + x) = y / 40 * 9 + x / 32 := by
  rw [fieldOf, coreId_column hx, coreId_row hx]

theorem localOf_coordinates : localOf (y * 288 + x) = y % 40 * 32 + x % 32 := by
  rw [localOf, coreId_column hx, coreId_row hx]

/-- The core ID is found again from the field ID and the local index. -/
theorem coreId_fieldOf_localOf : coreId (fieldOf (y * 288 + x)) (localOf (y * 288 + x)) = y * 288 + x := by
  have column : (y / 40 * 9 + x / 32) % 9 = x / 32 := by omega
  have row : (y / 40 * 9 + x / 32) / 9 = y / 40 := by omega
  have localRow : (y % 40 * 32 + x % 32) / 32 = y % 40 := by omega
  have localColumn : (y % 40 * 32 + x % 32) % 32 = x % 32 := by omega
  rw [fieldOf_coordinates hx, localOf_coordinates hx, coreId, column, row, localRow, localColumn]
  omega

end

/-- Settles O54: column and row are read off the core ID, and the field's and the core's place in it off those. -/
theorem fieldsHoldCores : Obligations.FieldsHoldCores := by
  unfold Obligations.FieldsHoldCores Claims.FieldsHoldCores
  intro x y fx fy hx hy hfx hfy
  have back := coreId_fieldOf_localOf (y := y) hx
  rw [fieldOf_coordinates hx, localOf_coordinates hx] at back ⊢
  refine ⟨?_, ?_, ?_, ?_, back⟩
  · omega
  · omega
  · omega
  · omega

end Sys2Proof.Machine
end

section
/-! PROOFS. Which commands complete (log entry 6): a guard of the units a command names lets it complete or faults, and nothing else faults. -/

namespace Sys2Proof.Machine

/-- An outcome completes where the units named exist, and is the fault of a missing unit where they do not. -/
def NamesUnits (named : Bool) (o : Out) : Prop := (named = true → ∃ t, o = .next t) ∧ (named = false → o = .fault .noSuchUnit)

theorem namesUnits_next (t : State) : NamesUnits true (.next t) := ⟨fun _ => ⟨t, rfl⟩, fun h => Bool.noConfusion h⟩

/-- To which state a command completes is no matter. -/
theorem NamesUnits.of_next {named : Bool} {t : State} (h : NamesUnits named (.next t)) (u : State) : NamesUnits named (.next u) :=
  ⟨fun _ => ⟨u, rfl⟩, fun n => nomatch h.2 n⟩

theorem namesUnits_fault : NamesUnits false (.fault .noSuchUnit) := ⟨fun h => Bool.noConfusion h, fun _ => rfl⟩

theorem NamesUnits.ite {P : Prop} [Decidable P] {named : Bool} {o o' : Out} (h : NamesUnits named o) (h' : NamesUnits named o') :
    NamesUnits named (if P then o else o') := by
  split
  · exact h
  · exact h'

/-! ### Guards -/

/-- A guard that lets a command through where what it names exists. -/
theorem namesUnits_if {P : Prop} [Decidable P] {t : State} {named : Bool} (h : P ↔ named = true) :
    NamesUnits named (if P then .next t else .fault .noSuchUnit) := by
  cases named with
  | true => rw [if_pos (h.mpr rfl)]; exact namesUnits_next t
  | false => rw [if_neg fun p => Bool.noConfusion (h.mp p)]; exact namesUnits_fault

/-- A guard that stops a command where what it names does not exist. -/
theorem namesUnits_unless {P : Prop} [Decidable P] {t : State} {named : Bool} (h : P ↔ named = false) :
    NamesUnits named (if P then .fault .noSuchUnit else .next t) := by
  cases named with
  | true => rw [if_neg fun p => Bool.noConfusion (h.mp p)]; exact namesUnits_next t
  | false => rw [if_pos (h.mpr rfl)]; exact namesUnits_fault

section
variable {s : State} {g : State → State}

theorem onCore_namesUnits {c : Nat} : NamesUnits (coreExists c) (onCore c s g) := namesUnits_if decide_eq_true_iff.symm
theorem onField_namesUnits {f : Nat} : NamesUnits (fieldExists f) (onField f s g) := namesUnits_if decide_eq_true_iff.symm
theorem onPart_namesUnits {p : Nat} : NamesUnits (partExists p) (onPart p s g) := namesUnits_if decide_eq_true_iff.symm
theorem onPort_namesUnits {p : Nat} : NamesUnits (portExists p) (onPort p s g) := namesUnits_if decide_eq_true_iff.symm
theorem onSluice_namesUnits {p : Nat} : NamesUnits (sluiceExists p) (onSluice p s g) := namesUnits_if decide_eq_true_iff.symm

theorem onRing_namesUnits {p r : Nat} : NamesUnits (ringExists p r) (onRing p r s g) :=
  namesUnits_if (by rw [ringExists, Bool.and_eq_true, decide_eq_true_iff, decide_eq_true_iff])

/-- A direction's link ends at a router of the wafer. -/
theorem linkExists_iff (px py dir : Nat) :
    (px < 297 ∧ py < 320 ∧ dir < 4 ∧ (linkEnd px py dir).isSome) ↔ linkExists px py dir = true := by
  unfold linkExists linkEnd
  match dir with
  | 0 => simp [and_assoc, Nat.pos_iff_ne_zero]
  | 1 => simp [and_assoc]
  | 2 => simp [and_assoc]
  | 3 => simp [and_assoc, Nat.pos_iff_ne_zero]
  | n + 4 => simp

theorem onLink_namesUnits {px py dir : Nat} : NamesUnits (linkExists px py dir) (onLink px py dir s g) := namesUnits_if (linkExists_iff px py dir)

theorem onWho_namesUnits {who : Requester} : NamesUnits (requesterExists who) (onWho who s g) := by
  cases who with
  | mailbox p c => exact namesUnits_if (by rw [requesterExists, Bool.and_eq_true, decide_eq_true_iff, decide_eq_true_iff])
  | _ => exact namesUnits_next _

theorem issue_namesUnits {op : CoreOp} {c : Nat} {run : State → Core → Nat → Issue} : NamesUnits (coreExists c) (issue op c s run) :=
  onCore_namesUnits

theorem issueBlocking_namesUnits {op : CoreOp} {c : Nat} {check : Core → Nat → Option Nat} {names : Nat → List Nat} {mk : Nat → BlockOp} :
    NamesUnits (coreExists c) (issueBlocking op c s check names mk) := by
  unfold issueBlocking
  split
  · next t issued => exact (issued ▸ issue_namesUnits : NamesUnits (coreExists c) (.next t)).of_next _
  · exact issue_namesUnits

end

/-! ### Commands with a guard of their own -/

/-- A number below the count of its units. -/
theorem namesUnits_below {n i : Nat} {t : State} : NamesUnits (decide (i < n)) (if n ≤ i then .fault .noSuchUnit else .next t) :=
  namesUnits_unless (by rw [decide_eq_false_iff_not, Nat.not_lt])

theorem railsExist_map {α : Type} (l : List α) (rail : α → Nat) :
    railsExist (l.map rail) = true ↔ l.all (fun x => decide (rail x < 64)) = true := by
  rw [railsExist, List.all_map]
  rfl

theorem execPmbusScanComplete_namesUnits (devs : List VrDevice) (missing : Bool) (s : State) :
    NamesUnits (devs.all (fun d => decide (d.dev < 32))) (execPmbusScanComplete devs missing s) := by
  refine namesUnits_unless ?_
  rw [List.any_eq_true, List.all_eq_false]
  simp only [decide_eq_true_eq, Nat.not_lt]

theorem execXcopy_namesUnits (k : Nat) (s : State) : NamesUnits true (execXcopy k s) := by
  unfold execXcopy
  split
  · exact namesUnits_next _
  · exact .ite (namesUnits_next _) (namesUnits_next _)

/-! ### Every command -/

theorem exec_namesUnits (i : Instr) (s : State) : NamesUnits i.wellFormed (exec i s) := by
  cases i with
  | sqTail | cqHead | commandFetch | nop | writeData | readData | loadImage | writeTable | startGraph | stopGraph | postEvent | hintPhaseBegin |
  hintPhaseEnd | energyMarkOpen | energyMarkClose | invalidatePort | invalidateContext | invalidateRange | remoteWrite | completionRecordWrite |
  ringEnable | ringDisable | ringResume | ringResumeRedo =>
    unfold exec
    exact onRing_namesUnits
  | startGraphDeferredCheck | walkReadResponse | hostDataReadResponse | commandCompletion | msixSignal | cmdTimeout | ctxRootWrite | devwinWrite |
  functionLevelReset | perstN | registerWrite | mbDoorbell | deviceControl2Write | perstNRise =>
    unfold exec
    exact onPort_namesUnits
  | fabricAccess | fabricAccessRelease | fabricRsp | hostNotification | startReport | completionReport | failureReport | withdrawRequest |
  withdrawAnswer | abortRequest | abortReport | commitNotice | postReceive | eventLost | producerAdvance | consumerAdvance | pairWait | pairRead |
  pairClear | syncAnswer | wellArrival | releaseTreeArrival | brokenReleaseArrival | messageAccept | ack | msgUnreachable | creditReq | creditGrant |
  creditReturn | lost | crossEngineTransit | xevent | xarrive | xrelease | xbreak | xlost | xack | tsSyncSend | tsSync | tstampSlew | holdoverTimeout
  | csyncInEdge | csyncOutPulse | flProposeReceive | flCommand | routeWrite | cwDescWrite | usdoInitiateDownload | usdoInitiateUpload | usdoSegment |
  dictSegTimeout | dictWriteApply | dictWriteAnswer | nmtStart | nmtStop | nmtEnterPreOperational | nmtResetNode | nmtResetCommunication |
  heartbeatSend | heartbeatReceive | canHbTimeout | emcySend | rpdoReceive | tpdoSend | canBusOff | canOverrun | epochClose | epochReceive | epochAck
  | heartbeatLossTimeout | wellheadWatchdogExpiry | wellheadMemoryError | wellheadTakeover | standbyLost | standbyResyncComplete | wellheadBootRetry |
  faultQueueDrain | porNRise | porNFall | strapSample | rdStartComplete | startStepTimeout | rstBtnPressBegin | rstBtnPressEnd | buttonStuck |
  flowLossDeclare | coolantBackupTimeout | flowRestoreDeclare | coolantRestart | refclkLost | refclkRestore | fstateChangeBegin | thermWarnClear |
  thermForcedClear | derateStep | vrDerateClear | estimatorTick | controllerPeriod | controllerEpoch | calibration | ceilingGuardEngage |
  ceilingGuardRelease | inputPowerLoss | fstateChangeComplete =>
    unfold exec
    exact namesUnits_next _
  | cisternEventAccept | overflowChainAdvance | taskAssign | outputRecordReadEnd | outputRecordEmit | taskWatchdog | abortNoAnswer | csErrClear |
  sxErrClear | wellTimeout | packetReservedDiscard | mdStartComplete | cdStartComplete | cdStartTimeout | pllUnlock | slackCheck | quietWindowForce |
  droopStretchBegin | droopStretchEnd | droopSevere | tableScrubSlot | statsEmissionWindowEnd =>
    unfold exec
    exact onField_namesUnits
  | taskStart | coreLost | repairAutoAddEntry | recipeArrivalSlice | finishSend | recipeFinish | recipeRunFault | endCompletionSend |
  outboundEntryLeave | refusalDelivery | coreWake | fillerEnter | fillerDutyDecay | storeBufferDrain | eccWriteBack | creditEntryIdleTimeout |
  creditBusyRetry | msgAckTimeout | lostCoreCreditReturn | sramScrubRow | forcedScrubCycle =>
    unfold exec
    exact onCore_namesUnits
  | dryWellDeclare | dryWellSnapshotCommit | flPropose | flDecide | flockLost | flDescWrite | hintExpiry | statsIntervalEnd | traceRecordWrite |
  traceProdWrite | traceConsRead | traceDrop | trEnable | trDisable =>
    unfold exec
    exact onPart_namesUnits
  | add | sub | and | or | xor | sll | srl | sra | slt | sltu | minMax | mul | mulh | mulhu | divRem | clz | popc | addi | andi | ori | xori | shi |
  slti | sltiu | lui | jal | jalr | beq | bne | blt | bge | bltu | bgeu | lb | lbu | lh | lhu | lw | ld | lq | sb | sh | sw | sd | sq | csrr | csrw |
  vaddf | vsubf | vmulf | vfmaf | vminf | vmaxf | vcmpeqf | vcmpltf | vcmplef | vrcpf | vrsqf | vexp2f | vlog2f | vdivf | vsqrtf | vaddi | vsubi |
  vmuli | vand | vor | vxor | vsll | vsrl | vsra | vmini | vmaxi | vcmpeqi | vcmplti | vsel | vbcast | vext | vins | vperm | vmov | vrsumf | vrmaxf |
  vrminf | vrsumi | vcvt | vld | vst | tdesc | mma | ast | ald | azero | axv | avx | rlaunch | send | recv | rpeek | sadv | warr | post | endTask |
  fail =>
    unfold exec
    exact issue_namesUnits
  | swait | sread | sclr | wawt | waa =>
    unfold exec
    exact issueBlocking_namesUnits
  | linkFlitError | linkResendRequest | meshLinkDown | downLinkPacketLost =>
    unfold exec
    exact onLink_namesUnits
  | portEnable | portDisable | dictRead | dictWrite | repairAdd | repairRemove | repairReload | fieldRestart | partitionRect | partJob | engineId |
  timeMaster | powerCap | detMode | cmdTimeoutWrite | drywellWindow | restoreSefiez | restoreComm | buttonOverride | faultLogClear | errorHistoryClear =>
    unfold exec
    exact onWho_namesUnits
  | trainComplete | trainTimeout | autoRetrain | frameReceive | nak | replayTimeout | sluicePortDown | linkDelayMeasure =>
    unfold exec
    exact onSluice_namesUnits
  | wellheadPairLost | wellheadBootComplete | wellheadHeartbeat | wellheadRestartBoot | sensorConversion | sensorFault =>
    unfold exec
    exact namesUnits_below
  | xcopy k => exact execXcopy_namesUnits k s
  | pmbusScanComplete devs missing => exact execPmbusScanComplete_namesUnits devs missing s
  | pmbAlert l => exact namesUnits_if (railsExist_map l Prod.fst)
  | pmbusPoll l => exact namesUnits_if (railsExist_map l RailRead.rail)

/-- Settles O59: every command is under a guard of the units it names, or under none. -/
theorem commandsNameUnits : Obligations.CommandsNameUnits := by
  unfold Obligations.CommandsNameUnits
  exact exec_namesUnits

end Sys2Proof.Machine
end

section
/-! PROOFS. Fabric packets at their targets and the answers to them (R50 to R52, R310, R312 to R314, R321, R322, R326). -/

namespace Sys2Proof.Machine

/-! ### Packets taken off the mesh -/

@[simp] theorem State.core_take (s : State) (k c : Nat) : (s.take k).core c = s.core c := rfl
@[simp] theorem State.field_take (s : State) (k f : Nat) : (s.take k).field f = s.field f := rfl
@[simp] theorem State.fabDegraded_take (s : State) (k a : Nat) : (s.take k).fabDegraded a = s.fabDegraded a := rfl

/-- The answer to a FABRIC packet as it stands on the mesh. -/
def fabAnswer (s : State) (p : Packet) (cause : Nat) (bad : List Nat) (data : List Byte) : Packet :=
  { fabReply p cause bad data with at' := s.tstamp }


/-- Answering a packet adds that answer alone to the mesh. -/
theorem State.inject_fabReply (s : State) (p : Packet) (cause : Nat) (bad : List Nat) (data : List Byte) :
    s.inject [fabReply p cause bad data] = { s with net := s.net ++ [fabAnswer s p cause bad data] } := rfl

/-! ### Counting errors sends no packet -/

@[simp] theorem State.countUe_net (s : State) (f : Nat) (sp : UeSpace) (u w : Nat) (t : Option DWord) : (s.countUe f sp u w t).net = s.net := by
  unfold State.countUe
  simp only
  split
  · rfl
  · split
    · cases sp <;> rw [State.report_frame] <;> rfl
    · cases sp <;> rfl

@[simp] theorem State.countFound_net (s : State) (f c : Nat) (l : List (UeSpace × Nat)) : (s.countFound f c l).net = s.net := by
  unfold State.countFound
  exact List.foldlRecOn (motive := fun t : State => t.net = s.net) l _ rfl fun t held x _ => (t.countUe_net f _ c _ _).trans held

@[simp] theorem State.forgetUe_net (s : State) (f c : Nat) (a b : Core) : (s.forgetUe f c a b).net = s.net := by
  unfold State.forgetUe; split <;> rfl

@[simp] theorem State.setCore_net (s : State) (c : Nat) (k : Core) : (s.setCore c k).net = s.net := by
  have counted : ∀ n, (if n = 0 then s else s.addTotal 1 n).net = s.net := by intro n; split <;> rfl
  simp [State.setCore, counted]

/-- Putting a core back changes no memory of it. -/
@[simp] theorem State.stored_sram (s : State) (c : Nat) (k : Core) : (s.stored c k).sram = k.sram := by
  simp only [State.stored]
  split
  · rfl
  · split <;> rfl

/-- Reading words with correctable errors changes no byte (R131). -/
@[simp] theorem Core.readCe_sram (k : Core) (ws : List Nat) : (k.readCe ws).sram = k.sram := by
  unfold Core.readCe
  refine List.foldlRecOn (motive := fun k' : Core => k'.sram = k.sram) ws _ rfl fun k' held w _ => ?_
  split
  · dsimp only
    split <;> exact held
  · exact held

/-- The words of a list that are not of another list stay. -/
theorem filter_not_contains_of_disjoint {ws l : List Nat} (apart : ∀ x ∈ ws, x ∉ l) : l.filter (fun w => !ws.contains w) = l :=
  List.filter_eq_self.mpr fun w old => by simpa using fun new => apart w new old

/-- What counting a read of core SRAM leaves unchanged: every other core, the bytes of this one, and the packets on their way. -/
theorem State.countRead_spec (s : State) {a : Nat} (len : Nat) (space : fabSpace a = 0) :
    (s.countRead a len).net = s.net ∧ (∀ c, c ≠ fabUnit a → (s.countRead a len).core c = s.core c) ∧
      ((s.countRead a len).core (fabUnit a)).sram = (s.core (fabUnit a)).sram := by
  have counted : (s.countRead a len).net = s.net ∧ ∀ c, (s.countRead a len).core c =
      (s.modCore (fabUnit a) (fun k => k.readCe (wordsOf (fabOff a) len))).core c := by
    unfold State.countRead
    simp only [space]
    refine List.foldlRecOn (motive := fun t : State => t.net = s.net ∧ ∀ c, t.core c =
      (s.modCore (fabUnit a) (fun k => k.readCe (wordsOf (fabOff a) len))).core c) _ _ ⟨State.setCore_net .., fun _ => rfl⟩
      fun t held w _ => ⟨(t.countUe_net ..).trans held.1, fun c => ?_⟩
    rw [← held.2 c]
    simp [State.core]
  obtain ⟨net, cores⟩ := counted
  refine ⟨net, fun c other => ?_, ?_⟩
  · rw [cores, State.modCore, State.core_setCore, if_neg other]
  · rw [cores, State.modCore, State.core_setCore, if_pos rfl]
    simp

/-! ### A FABRIC packet at its target (R52, R321, R421) -/

section
variable {s : State} {k a len : Nat} {pk : Packet} {kind : FabricKind} {data : List Byte} {held : Bool}

/-- The command that makes an access of a packet: at its arrival, or once it was held. -/
def fabCommand (k : Nat) (held : Bool) : Instr := if held then .fabricAccessRelease k else .fabricAccess k

variable (arr : s.arriving k = some pk) (body : pk.body = .fabric kind a len data held)
include arr body

/-- While its domain starts an access is held. -/
theorem exec_fabric_starting (starts : s.fabDomain a = .starting) (fresh : held = false) :
    exec (fabCommand k held) s = .next { s with net := setAt s.net k { pk with body := .fabric kind a len data true } } := by
  subst fresh
  simp [fabCommand, exec, execFabricAccess, arr, body, starts]

/-- In a running domain an access is made where its core can be reached. -/
theorem exec_fabric_on (on : s.fabDomain a = .on) (reach : fabSpace a < 2 → s.reachable (fabUnit a) = true) :
    exec (fabCommand k held) s = .next ((s.take k).fabMake pk kind a len data) := by
  cases held with
  | false =>
    have may : ¬ (fabSpace a < 2 ∧ (!s.reachable (fabUnit a)) = true) := fun ⟨core, far⟩ => by simp [reach core] at far
    simp only [fabCommand, Bool.false_eq_true, if_false, exec, execFabricAccess, arr, body, on, if_neg may]
  | true => simp [fabCommand, exec, execFabricAccessRelease, arr, body, on]

end

/-! ### What an access makes (R50, R321, R322, R421) -/

section
variable {s : State} {a : Nat} (whole : s.fabDegraded a = false) (p : Packet) (data : List Byte) (len : Nat)

/-- A DEGRADED target refuses. -/
theorem State.fabMake_degraded {s : State} {a : Nat} (degraded : s.fabDegraded a = true) (p : Packet) (kind : FabricKind) (len : Nat) (data : List Byte) :
    s.fabMake p kind a len data = { s with net := s.net ++ [fabAnswer s p 0x5213 [] []] } := by
  unfold State.fabMake
  rw [if_pos degraded, State.inject_fabReply]

include whole

/-- A write of data SRAM changes that core alone. -/
theorem State.fabMake_writeData (space : fabSpace a = 0) (good : ∀ x ∈ wordsOf (fabOff a) data.length, x ∉ (s.core (fabUnit a)).ue) :
    s.fabMake p .writeData a len data = { s with
      cores := Tab.write s.cores Core.reset (fabUnit a) ((s.core (fabUnit a)).fabWrite (fabOff a) data),
      net := s.net ++ [fabAnswer s p 0 [] []] } := by
  have kept : ((s.core (fabUnit a)).fabWrite (fabOff a) data).ue = (s.core (fabUnit a)).ue := filter_not_contains_of_disjoint good
  simp only [State.fabMake, whole, Bool.false_eq_true, if_false, State.fabStore, space, State.modCore]
  rw [s.setCore_quiet _ ((s.core (fabUnit a)).fabWrite (fabOff a) data) rfl rfl rfl kept rfl, State.inject_fabReply]
  rfl

/-- A write of an instruction store changes that core alone. -/
theorem State.fabMake_loadImage (space : fabSpace a = 1) (good : ∀ x ∈ wordsOf (fabOff a) data.length, x ∉ (s.core (fabUnit a)).iue) :
    s.fabMake p .loadImage a len data = { s with
      cores := Tab.write s.cores Core.reset (fabUnit a) ((s.core (fabUnit a)).imageWrite (fabOff a) data),
      net := s.net ++ [fabAnswer s p 0 [] []] } := by
  have kept : ((s.core (fabUnit a)).imageWrite (fabOff a) data).iue = (s.core (fabUnit a)).iue := filter_not_contains_of_disjoint good
  simp only [State.fabMake, whole, Bool.false_eq_true, if_false, State.fabStore, space, State.modCore]
  rw [s.setCore_quiet _ ((s.core (fabUnit a)).imageWrite (fabOff a) data) rfl rfl rfl rfl kept, State.inject_fabReply]
  rfl

/-- A read of data SRAM counts the errors it meets and is answered with the bytes. -/
theorem State.fabMake_readData (space : fabSpace a = 0) :
    s.fabMake p .readData a len data = { s.countRead a len with net := (s.countRead a len).net ++
      [fabAnswer (s.countRead a len) p (if s.badWords a len = [] then 0 else 0x3112) (s.badWords a len)
        (Memory.bytes (s.core (fabUnit a)).sram (fabOff a) len)] } := by
  simp only [State.fabMake, whole, Bool.false_eq_true, if_false, State.inject_fabReply, State.fabBytes, space, List.isEmpty_iff]

end

/-- What a core reads after it alone was written. -/
theorem State.core_writeCores (s : State) (c c' : Nat) (k : Core) (net : List Packet) :
    ({ s with cores := Tab.write s.cores Core.reset c k, net := net } : State).core c' = if c' = c then k else s.core c' :=
  Tab.read_write ..

/-- Settles the first part of O31: the packet at a starting, a DEGRADED and a running target. -/
theorem fabricAccesses_claim : Claims.FabricAccesses := by
  intro s k a len pk kind data held cmd arr body is
  replace is : cmd = fabCommand k held := is
  subst is
  refine ⟨exec_fabric_starting arr body, fun on reach degraded => ?degraded, fun on reach whole => ?made⟩
  case degraded =>
    exact ⟨fabAnswer s pk 0x5213 [] [], (exec_fabric_on arr body on reach).trans (by rw [State.fabMake_degraded ((s.fabDegraded_take k a).trans degraded)]; rfl),
      rfl, rfl, rfl, rfl⟩
  case made =>
    replace whole : (s.take k).fabDegraded a = false := by simpa using whole
    refine ⟨?write, ?image, ?read⟩
    case write =>
      rintro rfl space good
      refine ⟨_, fabAnswer s pk 0 [] [], (exec_fabric_on arr body on reach).trans (congrArg _ (State.fabMake_writeData whole pk data len space good)),
        rfl, rfl, rfl, rfl, fun c other => ?_, ?_⟩
      · rw [State.core_writeCores, if_neg other, State.core_take]
      · rw [State.core_writeCores, if_pos rfl, State.core_take]
        exact ⟨rfl, rfl, rfl, fun b => Memory.byte_setBytes ..⟩
    case image =>
      rintro rfl space good
      refine ⟨_, fabAnswer s pk 0 [] [], (exec_fabric_on arr body on reach).trans (congrArg _ (State.fabMake_loadImage whole pk data len space good)),
        rfl, rfl, rfl, rfl, fun c other => ?_, ?_⟩
      · rw [State.core_writeCores, if_neg other, State.core_take]
      · rw [State.core_writeCores, if_pos rfl, State.core_take]
        exact ⟨rfl, fun b => Memory.byte_setBytes ..⟩
    case read =>
      rintro rfl space
      obtain ⟨net, cores, sram⟩ := (s.take k).countRead_spec len space
      refine ⟨_, fabAnswer ((s.take k).countRead a len) pk _ _ _, (exec_fabric_on arr body on reach).trans (congrArg _ (State.fabMake_readData whole pk data len space)),
        congrArg (· ++ _) net, rfl, rfl, rfl, fun c other => (cores c other).trans rfl, sram.trans rfl⟩

/-! ### Answers to commands (R310, R312 to R314, R326) -/

/-- A command whose access of a tag was answered. -/
def Cmd.answered (c : Cmd) (tag : Nat) : Cmd := { c with accs := c.accs.filter (fun b => !decide (b.tag = tag)) }

/-- A command ends with its last access (R312): with the cause that access was blamed for, at its own address, or with none. -/
theorem Cmd.settle_blame {c : Cmd} {a : FabAcc} (opc : c.opc = 2) (running : c.ended = false) (issued : c.issued = true) (reads : c.reads = [])
    (wait : c.wait = .none) (fine : c.cause = 0) (accs : c.accs = []) (bad : c.bad = none) (cause : Nat) :
    (if cause = 0 then c else c.blame a.addr cause).settle =
      if cause = 0 then { c with ended := true } else { c with ended := true, bad := some (a.addr, cause), cause := cause, info0 := a.addr, info1 := 0, halts := false } := by
  by_cases good : cause = 0
  · simp [good, Cmd.settle, running, issued, reads, wait, fine, accs, bad]
  · simp [good, Cmd.blame, Cmd.settle, Cmd.endWith, running, issued, reads, wait, fine, accs, bad]
    exact fun eight => absurd (opc.symm.trans eight) (by decide)

/-- An answer no command waits for is dropped (R326). -/
theorem exec_fabricRsp_unknown {s : State} {k p cause : Nat} {pk : Packet} {bad : List Nat} {data : List Byte} (arr : s.arriving k = some pk)
    (dst : pk.dst = .ingress p) (body : pk.body = .fabricRsp cause bad data) (unknown : (s.port p).cmdOf pk.tag = none) :
    exec (.fabricRsp k) s = .next (s.take k) := by
  have unknown' : ((s.take k).port p).cmdOf pk.tag = none := unknown
  simp [exec, execFabricRsp, arr, dst, body, unknown']

/-- The port of a command whose access of a tag was answered with a cause. -/
def Port.answered (x : Port) (i tag cause : Nat) (c : Cmd) (a : FabAcc) : Port :=
  { x with cmds := setAt x.cmds i (if cause = 0 then c.answered tag else (c.answered tag).blame a.addr cause).settle }

/-- An answer takes its access off the command that waits for it. -/
theorem State.answerCmd_known {s : State} {p tag i : Nat} {c : Cmd} {a : FabAcc} (known : (s.port p).cmdOf tag = some (i, c, a)) (opc : c.opc = 2)
    (cause : Nat) : s.answerCmd p tag cause none = s.setPort p ((s.port p).answered i tag cause c a) := by
  have blamed : (cause = 0 ∨ (c.answered tag).opc = 12 ∧ (c.answered tag).bad.isSome = true) ↔ cause = 0 :=
    or_iff_left fun ⟨remote, _⟩ => absurd (opc.symm.trans remote) (by decide)
  unfold State.answerCmd Port.answered
  simp only [known]
  change s.setPort p { s.port p with cmds := setAt (s.port p).cmds i (if cause = 0 ∨ (c.answered tag).opc = 12 ∧ (c.answered tag).bad.isSome = true
    then c.answered tag else (c.answered tag).blame a.addr cause).settle } = _
  simp only [blamed]

/-- An answer without data to a WRITE_BUFFER's access. -/
theorem exec_fabricRsp_known {s : State} {k p cause i : Nat} {pk : Packet} {c : Cmd} {a : FabAcc} (arr : s.arriving k = some pk)
    (dst : pk.dst = .ingress p) (body : pk.body = .fabricRsp cause [] []) (known : (s.port p).cmdOf pk.tag = some (i, c, a)) (opc : c.opc = 2) :
    exec (.fabricRsp k) s = .next ((s.take k).setPort p ((s.port p).answered i pk.tag cause c a)) := by
  have known' : ((s.take k).port p).cmdOf pk.tag = some (i, c, a) := known
  simp only [exec, execFabricRsp, arr, dst, body, known', opc]
  rw [if_pos (Or.inr (by decide))]
  exact congrArg _ (State.answerCmd_known known' opc cause)

/-- Settles the second part of O31: the answers. -/
theorem answersReachCommands_claim : Claims.AnswersReachCommands := by
  intro s k p i cause pk c a bad arr dst body
  refine ⟨exec_fabricRsp_unknown arr dst body, fun known opc running issued reads wait fine last good none => ?_⟩
  subst none
  rw [exec_fabricRsp_known arr dst body known opc, Port.answered, Cmd.settle_blame (c := c.answered pk.tag) opc running issued reads wait fine last good]
  refine ⟨_, rfl, rfl, fun q other => ?_, _, by rw [State.port_setPort, if_pos rfl], ?_⟩
  · rw [State.port_setPort, if_neg other]
    rfl
  · by_cases ok : cause = 0 <;> simp [ok, Cmd.answered, last, fine]

/-- Settles O31: a packet at its running target makes its access on that unit alone and is answered, and an answer takes its access off the command
that waits for it, whose last access ends it. -/
theorem fabricAccesses : Obligations.FabricAccesses := ⟨fabricAccesses_claim, answersReachCommands_claim⟩

end Sys2Proof.Machine
end

section
/-! PROOFS. What the Sluice ports, the flash copies, the settings and the domains keep and change: facts the writes of the dictionary and the starts share. -/

namespace Sys2Proof.Machine

/-! ### Training and emptying Sluice ports (R257 to R275, R286) -/

/-- Frames and packets went over the Sluice ports from `s` to `t`: ports, RD, its faults and the frames sent apart all is as it was; the RD keeps its IDs, and the
ports' states in `t` are given. -/
structure State.OverLinks (ports : Nat → PortState) (s t : State) : Prop where
  frame : t = { s with sluice := t.sluice, rd := t.rd, rdFaults := t.rdFaults, faultCount := t.faultCount, linkOut := t.linkOut }
  ownId : t.rd.ownId = s.rd.ownId
  master : t.rd.master = s.rd.master
  rdState : t.rd.state = s.rd.state
  state : ∀ q, (t.sl q).state = ports q

/-- The states of the ports. -/
def State.portStates (s : State) (q : Nat) : PortState := (s.sl q).state

/-- The ports' states with one of them changed. -/
def State.withPort (s : State) (p : Nat) (x : PortState) (q : Nat) : PortState := if q = p then x else s.portStates q

namespace State.OverLinks

variable {s t u : State} {a b : Nat → PortState}

theorem refl (s : State) : OverLinks s.portStates s s := ⟨rfl, rfl, rfl, rfl, fun _ => rfl⟩

theorem trans (h : OverLinks a s t) (k : OverLinks b t u) : OverLinks b s u where
  frame := by rw [k.frame, h.frame]
  ownId := k.ownId.trans h.ownId
  master := k.master.trans h.master
  rdState := k.rdState.trans h.rdState
  state := k.state

/-- Where the ports' states are as they were in between, they are as in the first state. -/
theorem transKeep (h : OverLinks a s t) (k : OverLinks t.portStates t u) : OverLinks a s u :=
  { h.trans k with state := fun q => (k.state q).trans (h.state q) }

/-- A port is changed, into state `x`. -/
theorem modSl (s : State) (p : Nat) {x : PortState} (g : Sluice → Sluice) (becomes : (g (s.sl p)).state = x) :
    OverLinks (s.withPort p x) s (s.modSl p g) where
  frame := rfl
  ownId := rfl
  master := rfl
  rdState := rfl
  state q := by
    rw [State.sl_modSl, State.withPort, apply_ite Sluice.state, becomes]
    rfl

/-- A port is changed but for its state. -/
theorem modSlKeep (s : State) (p : Nat) (g : Sluice → Sluice) (same : (g (s.sl p)).state = (s.sl p).state) : OverLinks s.portStates s (s.modSl p g) :=
  { modSl s p g same with
    state := fun q => ((modSl s p g same).state q).trans (by
      unfold State.withPort
      split
      · next here => rw [here, State.portStates]
      · rfl) }

theorem modRd (s : State) (g : RingDomain → RingDomain) (ownId : (g s.rd).ownId = s.rd.ownId) (master : (g s.rd).master = s.rd.master)
    (rdState : (g s.rd).state = s.rd.state) : OverLinks s.portStates s (s.modRd g) := ⟨rfl, ownId, master, rdState, fun _ => rfl⟩

theorem linkOut (s : State) (l : List FrameOut) : OverLinks s.portStates s { s with linkOut := l } := ⟨rfl, rfl, rfl, rfl, fun _ => rfl⟩

theorem report (s : State) (r : FaultRec) : OverLinks s.portStates s (s.report 72 r) := ⟨rfl, rfl, rfl, rfl, fun _ => rfl⟩

theorem pump (fuel : Nat) (s : State) (p : Nat) : OverLinks s.portStates s (s.pump fuel p) := by
  induction fuel generalizing s with
  | zero => exact refl s
  | succ n ih =>
    unfold State.pump
    dsimp only
    split
    · exact refl s
    · split
      · exact refl s
      · exact ((modSlKeep s p _ rfl).transKeep (linkOut _ _)).transKeep (ih _)

theorem xput (s : State) (p : Nat) (x : XPacket) : OverLinks s.portStates s (s.xput p x) :=
  (modSlKeep s p _ rfl).transKeep (pump _ _ p)

theorem xsendLast (s : State) (x : XPacket) : OverLinks s.portStates s (s.xsendLast x) := by
  unfold State.xsendLast
  split
  · exact modRd s _ rfl rfl rfl
  · split
    · exact xput s _ x
    · exact refl s

theorem xfail (s : State) (x : XPacket) (cause : Nat) : OverLinks s.portStates s (s.xfail x cause) := by
  unfold State.xfail
  split
  · exact refl s
  · refine transKeep ?_ (xsendLast _ _)
    split
    · exact (report s _).transKeep (modRd _ _ rfl rfl rfl)
    · exact report s _

theorem xfailAll (s : State) (l : List XPacket) (cause : Nat) : OverLinks s.portStates s (l.foldl (fun s x => s.xfail x cause) s) :=
  List.foldlRecOn (motive := OverLinks s.portStates s) l _ (refl s) fun t held x _ => held.transKeep (xfail t x cause)

theorem portEmpty (s : State) (p : Nat) (x : PortState) : OverLinks (s.withPort p x) s (s.portEmpty p x) := by
  unfold State.portEmpty
  exact transKeep (modSl s p _ rfl : OverLinks (s.withPort p x) s (s.modSl p _)) (xfailAll _ _ _)

theorem sendBare (s : State) (p ftype ackSeq : Nat) : OverLinks s.portStates s (s.sendBare p ftype ackSeq) :=
  (modSlKeep s p _ rfl).transKeep (linkOut _ _)

/-- A port enters TRAIN; the others stay in their states (R262). -/
theorem portTrain (s : State) (p : Nat) : OverLinks (s.withPort p .train) s (s.portTrain p) := by
  unfold State.portTrain
  refine transKeep (transKeep ?_ (modSlKeep _ p _ rfl)) (sendBare _ p 3 0)
  split
  · exact portEmpty s p .train
  · exact modSl s p _ rfl

/-- Ports that meet a condition are trained one after another. -/
theorem trainIf (C : State → Nat → Prop) [∀ s p, Decidable (C s p)] (l : List Nat) (s : State) :
    ∃ ports, OverLinks ports s (l.foldl (fun s p => if C s p then s.portTrain p else s) s) :=
  List.foldlRecOn (motive := fun t => ∃ ports, OverLinks ports s t) l _ ⟨_, refl s⟩ fun t ⟨_, held⟩ p _ => by
    split
    · exact ⟨_, held.trans (portTrain t p)⟩
    · exact ⟨_, held.transKeep (refl t)⟩

/-- Every UP port among some enters TRAIN (R291). -/
theorem retrain (l : List Nat) (s : State) : OverLinks (fun q => if q ∈ l ∧ s.portStates q = .up then .train else s.portStates q) s
    (l.foldl (fun s p => if (s.sl p).state = .up then s.portTrain p else s) s) := by
  induction l generalizing s with
  | nil => simpa using refl s
  | cons p l ih =>
    rw [List.foldl_cons]
    split
    · next up =>
      have first := portTrain s p
      refine ⟨(first.trans (ih _)).frame, (first.trans (ih _)).ownId, (first.trans (ih _)).master, (first.trans (ih _)).rdState, fun q => ?_⟩
      rw [(ih _).state, State.portStates, first.state]
      by_cases here : q = p
      · subst here
        simp [State.withPort, State.portStates, up]
      · simp [State.withPort, here]
    · next down =>
      refine { ih s with state := fun q => ((ih s).state q).trans ?_ }
      by_cases here : q = p
      · subst here
        simp [State.portStates, down]
      · simp [here]

theorem retrainUp (s : State) : OverLinks (fun q => if q < 12 ∧ s.portStates q = .up then .train else s.portStates q) s s.retrainUp := by
  have all := retrain (upTo 12) s
  simp only [mem_upTo] at all
  exact all

theorem syncRefresh (s : State) : OverLinks s.portStates s s.syncRefresh := by
  unfold State.syncRefresh
  dsimp only
  split
  · exact modRd s _ rfl rfl rfl
  · split
    · exact modRd s _ rfl rfl rfl
    · exact refl s

/-! What the frame says of each part of the state. -/

theorem fw (h : OverLinks a s t) : t.fw = s.fw := by rw [h.frame]
theorem sd (h : OverLinks a s t) : t.sd = s.sd := by rw [h.frame]
theorem fields (h : OverLinks a s t) : t.fields = s.fields := by rw [h.frame]
theorem parts (h : OverLinks a s t) : t.parts = s.parts := by rw [h.frame]
theorem tstamp (h : OverLinks a s t) : t.tstamp = s.tstamp := by rw [h.frame]
theorem ports (h : OverLinks a s t) : t.ports = s.ports := by rw [h.frame]
theorem wh (h : OverLinks a s t) : t.wh = s.wh := by rw [h.frame]

end State.OverLinks

end Sys2Proof.Machine
end

section
/-! PROOFS. An applied write of the dictionary takes effect and leaves its outcome for the next epoch (R41, R42, R45, R46, R270, R327, R339, R346, R354, R355, R364, R372, R380,
R384, R438, R481). -/

namespace Sys2Proof.Machine

/-! ### The copies in service flash (R41, R42, R364) -/

@[simp] theorem ObjsCopy.good_of (l : Tab Nat) : (ObjsCopy.of l).good = true := decide_eq_true rfl
@[simp] theorem RepairCopy.good_of (l : List Word) : (RepairCopy.of l).good = true := decide_eq_true rfl

/-- A write of the stored objects closes both copies over them. -/
theorem Flash.writeObjs_eq (x : Flash) (l : Tab Nat) : x.writeObjs l = { x with objs := ObjsCopy.of l, objs2 := ObjsCopy.of l } := by
  simp [Flash.writeObjs]

/-- A write of the runtime list closes both copies over it. -/
theorem Flash.writeRepair_eq (x : Flash) (l : List Word) : x.writeRepair l = Claims.withList x l := by
  simp [Flash.writeRepair, Claims.withList]

/-- A reading of the runtime list returns that of the first good copy, else an empty one with both failed, and leaves the stored objects. -/
theorem Flash.readRepair_spec (x : Flash) (r : FlashRead) :
    (x.readRepair r).1.list = (Claims.listRead x r).getD [] ∧ (x.readRepair r).1.objs = x.objs ∧
      ((x.readRepair r).2 = true ↔ Claims.listRead x r = none) := by
  unfold Flash.readRepair Claims.listRead
  by_cases first : (r.repair.getD x.repair).good
  · simp [first, Flash.list]
  · by_cases second : (r.repair2.getD x.repair2).good
    · simp [first, second, Flash.list]
    · simp [first, second, Flash.list, Flash.writeRepair_eq, Claims.withList, RepairCopy.of]

/-- The map is rebuilt from the list read; with none the fault of it is counted (R42). -/
theorem State.rebuildMap_spec (s : State) (r : FlashRead) : ∃ n q, s.rebuildMap r = { s with
      flash := (s.flash.readRepair r).1, faultCount := n, sdFaults := q,
      fw := { s.fw with map := ((Claims.listRead s.flash r).getD []).foldl mapAdd [] }, wh := { s.wh with changed := true } } ∧
    n = if Claims.listRead s.flash r = none then (s.faultCount + 1) % 2 ^ 32 else s.faultCount := by
  obtain ⟨list, -, failed⟩ := s.flash.readRepair_spec r
  rw [← list]
  unfold State.rebuildMap
  by_cases none : Claims.listRead s.flash r = none
  · simp only [failed.mpr none, none, if_true, State.engineFault, State.report_sd]
    exact ⟨_, _, rfl, rfl⟩
  · simp only [mt failed.mp none, none, if_false]
    exact ⟨_, _, rfl, rfl⟩

/-! ### Settings (R328, R364) -/

/-- A setting written is read back, and every other reads as it did. -/
theorem State.setting_setDict (s : State) (i sub v j k : Nat) :
    (s.setDict i sub v).setting j k = if objKey j k = objKey i sub then v else s.setting j k := Tab.read_insert ..

/-- A setting cleared reads as its default, and every other as it did. -/
theorem State.setting_clearDict (s : State) (i sub j k : Nat) :
    (s.clearDict i sub).setting j k = if objKey j k = objKey i sub then objDefault s.sd.nodeId j k else s.setting j k := Tab.read_erase ..

/-- Objects of different index or subindex have different keys. -/
theorem objKey_inj {i sub j k : Nat} (hsub : sub < 256) (hk : k < 256) : objKey i sub = objKey j k ↔ (i, sub) = (j, k) := by
  simp only [objKey, Prod.mk.injEq]
  omega

/-- A setting is written to the dictionary, and to flash where it is stored. -/
theorem State.putSetting_spec (s : State) (i sub v : Nat) : ∃ x, s.putSetting i sub v = { s.setDict i sub v with flash := x } := by
  unfold State.putSetting
  dsimp only
  generalize (decide (i < 0x2000) || _) = stored
  cases stored <;> exact ⟨_, rfl⟩

theorem State.setting_putSetting (s : State) (i sub v j k : Nat) :
    (s.putSetting i sub v).setting j k = if objKey j k = objKey i sub then v else s.setting j k := by
  obtain ⟨x, is⟩ := s.putSetting_spec i sub v
  rw [is]
  exact s.setting_setDict i sub v j k

/-! ### The oldest write, committed (R354, R355) -/

@[simp] theorem State.part_setHead (s : State) (r : WriteReq) (p : Nat) : (s.setHead r).part p = s.part p := rfl
@[simp] theorem State.core_setHead (s : State) (r : WriteReq) (c : Nat) : (s.setHead r).core c = s.core c := rfl
@[simp] theorem State.field_setHead (s : State) (r : WriteReq) (f : Nat) : (s.setHead r).field f = s.field f := rfl
@[simp] theorem State.sl_setHead (s : State) (r : WriteReq) (p : Nat) : (s.setHead r).sl p = s.sl p := rfl
@[simp] theorem State.setting_setHead (s : State) (r : WriteReq) (i sub : Nat) : (s.setHead r).setting i sub = s.setting i sub := rfl

/-- The write of an object once it has been applied: its outcome waits for the next epoch. -/
def State.appliedWrite (s : State) (r : WriteReq) (i sub : Nat) : WriteReq :=
  { r with answer := some (0, 0), step := .outcome (s.wh.epoch + 1), old := (affected i sub).map (fun e => (e.1, e.2, s.objBytes e.1 e.2)) }

section
variable {s u : State} {r : WriteReq} {i sub v : Nat} {cmd : Instr} {flash : FlashRead} {sel : List (Nat × Nat × List Byte) → Bool}

/-- The oldest write, committed, takes effect on the state, and it alone of the queue changes. -/
theorem State.applyHead_committed (done : Claims.committed s r i sub v) (own : ∀ b, ofBytes b = v → sel [(i, sub, b)] = true) :
    s.applyHead flash sel = (s.applyWrite flash i sub v).setHead (s.appliedWrite r i sub) := by
  obtain ⟨serving, queue, step, answer, role, void, old, ⟨b, items, value⟩, rule⟩ := done
  have selected := own b value
  unfold State.applyHead
  simp [queue, serving, step, answer, selected, role, void, items, State.tryItems, value, rule, old, State.appliedWrite]

/-- What a command makes so that applies the oldest write. -/
theorem exec_applied (run : exec cmd s = .next (s.applyHead flash sel)) (done : Claims.committed s r i sub v)
    (own : ∀ b, ofBytes b = v → sel [(i, sub, b)] = true) (wrote : s.applyWrite flash i sub v = u) (queue : u.fw.wq.length = s.fw.wq.length)
    {P : State → Prop} (also : P (u.setHead (s.appliedWrite r i sub))) : ∃ t, exec cmd s = .next t ∧ Claims.applied s t r i sub ∧ P t := by
  have one : s.fw.wq = [r] := done.2.1
  refine ⟨_, run, ?_, by rw [State.applyHead_committed done own, wrote]; exact also⟩
  rw [State.applyHead_committed done own, wrote]
  have rest : u.fw.wq.drop 1 = [] := List.drop_eq_nil_of_le (by rw [queue, one]; rfl)
  exact ⟨congrArg (_ :: ·) rest, rfl⟩

/-- A single write of a row's own object belongs to that row. -/
theorem selOwn_of_ownRow {o : OwnRow} (row : ownRow i sub v = some o) (b : List Byte) (value : ofBytes b = v) : selOwn o [(i, sub, b)] = true :=
  decide_eq_true (value ▸ row)

end


/-! ### Cores under a new DET (R481) -/

/-- A table whose entries are mapped, their keys kept, reads the mapped entry where there is one. -/
theorem Tab.read_map {α : Type} (t : Tab α) (d : α) (g : Nat → α → α) (k : Nat) :
    Tab.read (t.map (fun e => (e.1, g e.1 e.2))) d k = (if k ∈ t.map Prod.fst then g k (Tab.read t d k) else d) := by
  induction t with
  | nil => rfl
  | cons e l ih =>
    by_cases here : e.1 = k
    · simp [Tab.read, here]
    · rw [List.map_cons, Tab.read, if_neg here, ih, List.map_cons, Tab.read, if_neg here]
      simp only [List.mem_cons, Ne.symm here, false_or]

/-- A table reads its default at a key it has no entry of. -/
theorem Tab.read_of_not_mem {α : Type} {t : Tab α} {d : α} {k : Nat} (none : k ∉ t.map Prod.fst) : Tab.read t d k = d := by
  by_contra other
  exact none (List.mem_map.mpr ⟨_, Tab.mem_of_read_ne other, rfl⟩)

/-- The DET of a core under a new mode bit (R481). -/
def State.detOf (s : State) (b : Bool) (c : Nat) : Bool :=
  if c ∈ s.cores.map Prod.fst ∧ (s.field (fieldOf c)).clk.cd = .on then b else (s.core c).csr.det

/-- A core's entry with the mode bit a write gives the cores of ON domains. -/
def State.putDet (s : State) (b : Bool) (c : Nat) (k : Core) : Core :=
  if (s.field (fieldOf c)).clk.cd = .on then { k with csr := { k.csr with det := b } } else k

/-- A new mode bit changes the DET of the cores of ON domains, and nothing else of any core. -/
theorem State.core_setDet (s : State) (b : Bool) (c : Nat) :
    (s.setDet b).core c = { s.core c with csr := { (s.core c).csr with det := s.detOf b c } } := by
  have mapped : (s.setDet b).cores = s.cores.map (fun e => (e.1, s.putDet b e.1 e.2)) :=
    List.map_congr_left fun e _ => by unfold State.putDet; split <;> rfl
  rw [State.core, mapped, Tab.read_map]
  unfold State.detOf State.core
  by_cases there : c ∈ s.cores.map Prod.fst
  · by_cases on : (s.field (fieldOf c)).clk.cd = .on <;> simp only [there, on, State.putDet, if_true, if_false, and_self, and_false]
  · simp only [there, if_false, false_and, Tab.read_of_not_mem there]

/-! ### The objects restored (R372) -/

/-- An object returns to its default, in flash too. -/
def State.cleared (s : State) (e : Nat × Nat) : State :=
  { s.clearDict e.1 e.2 with flash := s.flash.writeObjs (Tab.erase s.flash.stored (objKey e.1 e.2)) }

theorem State.setting_cleared (s : State) (e : Nat × Nat) (j k : Nat) :
    (s.cleared e).setting j k = if objKey j k = objKey e.1 e.2 then objDefault s.sd.nodeId j k else s.setting j k := s.setting_clearDict e.1 e.2 j k

/-- Objects cleared one after another read as their defaults, and every other as it did; the rest of the state but flash is as it was. -/
theorem State.clearedAll_spec (l : List (Nat × Nat)) (s : State) : (∃ x d b, l.foldl State.cleared s = { s with
      flash := x, fw := { s.fw with dict := d }, wh := { s.wh with changed := b } }) ∧
    ∀ j k, (l.foldl State.cleared s).setting j k = if objKey j k ∈ l.map (fun e => objKey e.1 e.2) then objDefault s.sd.nodeId j k else s.setting j k := by
  induction l generalizing s with
  | nil => exact ⟨⟨_, _, _, rfl⟩, fun _ _ => rfl⟩
  | cons e l ih =>
    obtain ⟨⟨x, d, b, frame⟩, reads⟩ := ih (s.cleared e)
    have node : (s.cleared e).sd.nodeId = s.sd.nodeId := rfl
    refine ⟨⟨x, d, b, by rw [List.foldl_cons, frame]; rfl⟩, fun j k => ?_⟩
    rw [List.foldl_cons, reads, State.setting_cleared, node]
    by_cases here : objKey j k = objKey e.1 e.2 <;> simp only [List.map_cons, List.mem_cons, here, if_true, if_false, true_or, false_or, ite_self]

/-! ### IDs taken up (R286, R291) -/

/-- The RD with the IDs of the settings. -/
def State.withIds (s : State) : State := s.modRd (fun r => { r with ownId := s.setting 0x2601 1, master := s.setting 0x2601 2 })

/-- An ON RD takes up its IDs, and where its own changes its UP ports train again. -/
theorem State.takeIds_on {s : State} (on : s.rd.state = .on) :
    s.takeIds = if s.rd.ownId = s.setting 0x2601 1 then s.withIds.syncRefresh else s.withIds.retrainUp.syncRefresh := by
  unfold State.takeIds
  simp only [on, ne_eq, not_true_eq_false, if_false]
  rfl

/-- Only ports, the RD and what they report and send change as IDs are taken up. -/
theorem State.takeIds_kept (s : State) : ∃ rd, ∃ ports, State.OverLinks ports { s with rd := rd } s.takeIds := by
  by_cases on : s.rd.state = .on
  · rw [State.takeIds_on on]
    refine ⟨s.withIds.rd, ?_⟩
    split
    · exact ⟨_, .syncRefresh _⟩
    · exact ⟨_, (State.OverLinks.retrainUp _).transKeep (.syncRefresh _)⟩
  · exact ⟨s.rd, _, by rw [State.takeIds, if_pos on]; exact .refl s⟩

/-- What RESTORE_SEFIEZ leaves: the objects it restores at their defaults; fields and the write queue are as they were. -/
theorem State.restoreSefiez_spec (s : State) : s.restoreSefiez.fields = s.fields ∧ s.restoreSefiez.fw.wq = s.fw.wq ∧
    ∀ j k, s.restoreSefiez.setting j k = if objKey j k ∈ restoreKeys.map (fun e => objKey e.1 e.2) then objDefault s.sd.nodeId j k else s.setting j k := by
  obtain ⟨⟨x, d, b, frame⟩, reads⟩ := State.clearedAll_spec restoreKeys s
  obtain ⟨rd, ports, ids⟩ := (restoreKeys.foldl State.cleared s).takeIds_kept
  have all : ∃ ports, State.OverLinks ports { restoreKeys.foldl State.cleared s with rd := rd } s.restoreSefiez := by
    rw [State.restoreSefiez]
    split
    · obtain ⟨_, trained⟩ := State.OverLinks.trainIf (fun s p => bit (s.portCtrl p) 0 ∧ (s.sl p).state = .off) (upTo 12)
        (restoreKeys.foldl State.cleared s).takeIds
      exact ⟨_, ids.trans trained⟩
    · exact ⟨_, ids⟩
  obtain ⟨_, links⟩ := all
  refine ⟨links.fields.trans (by rw [frame]), by rw [links.fw, frame], fun j k => ?_⟩
  rw [← reads j k, State.setting, links.fw, links.sd]
  rfl

/-! ### The writes to objects kept by firmware -/

/-- Settles O41: each write takes effect as its object's rule says, in `applyWrite`'s branch of it. -/
theorem writesToFirmwareApply : Obligations.WritesToFirmwareApply := by
  unfold Obligations.WritesToFirmwareApply Claims.WritesToFirmwareApply
  intro s r v
  refine ⟨?add, ?remove, ?reload, ?job, ?plain, ?det, ?window, ?sefiez, ?comm, ?log, ?history, ?setting⟩
  case add =>
    intro done
    refine exec_applied rfl done (selOwn_of_ownRow rfl) (u := s.repairAdd v) rfl ?_ ?_
    all_goals
      unfold State.repairAdd
      split
    · rfl
    · rfl
    · exact ⟨rfl, rfl, rfl⟩
    · exact ⟨rfl, rfl, Flash.writeRepair_eq ..⟩
  case remove =>
    intro done
    exact exec_applied rfl done (selOwn_of_ownRow rfl) (u := s.repairRemove v) rfl rfl ⟨rfl, rfl, Flash.writeRepair_eq ..⟩
  case reload =>
    intro x done
    obtain ⟨list, objs, -⟩ := s.flash.readRepair_spec x
    obtain ⟨n, q, is, count⟩ := s.rebuildMap_spec x
    exact exec_applied rfl done (selOwn_of_ownRow rfl) (u := s.rebuildMap x) rfl (by rw [is])
      ⟨by rw [is]; rfl, by rw [is]; exact list, by rw [is]; exact objs, by rw [is, ← list]; rfl, by rw [is]; exact count⟩
  case job =>
    intro q hq done
    refine exec_applied rfl done (selOwn_of_ownRow rfl) (u := s.modPart q (fun x => { x with job := v })) rfl rfl ⟨?_, fun p other => ?_⟩
    · rw [State.part_setHead, State.part_modPart, if_pos rfl]
    · rw [State.part_setHead, State.part_modPart, if_neg other]
  case plain =>
    intro cmd o is done
    have main : ∃ w, exec cmd s = .next (s.applyHead .asWritten (selOwn w)) ∧ ownRow o 1 v = some w ∧ s.applyWrite .asWritten o 1 v = s.putSetting o 1 v := by
      obtain ⟨rfl, rfl⟩ | ⟨rfl, rfl⟩ := is
      · exact ⟨.powerCap, rfl, rfl, rfl⟩
      · exact ⟨.cmdTimeout, rfl, rfl, rfl⟩
    obtain ⟨w, run, row, wrote⟩ := main
    obtain ⟨x, put⟩ := s.putSetting_spec o 1 v
    refine exec_applied run done (selOwn_of_ownRow row) wrote (by rw [put]; rfl) ⟨?_, by rw [put]; rfl, by rw [put]; rfl, fun i sub small other => ?_⟩
    · rw [State.setting_setHead, State.setting_putSetting, if_pos rfl]
    · rw [State.setting_setHead, State.setting_putSetting, if_neg (mt (objKey_inj small (by decide)).mp other)]
  case det =>
    intro done
    refine exec_applied rfl done (selOwn_of_ownRow rfl) (u := s.setDet (decide (v ≠ 0))) rfl rfl ⟨rfl, rfl, fun c k there => ?_, fun c => ?_⟩
    · rw [State.core_setHead, State.core_setDet]
      simp only [State.detOf, List.mem_map_of_mem (f := Prod.fst) there, true_and]
    · rw [State.core_setHead, State.core_setDet]
  case window =>
    intro q hq done
    refine exec_applied rfl done (selOwn_of_ownRow rfl) (u := s.setDryWindow q v) rfl rfl ⟨?_, ?_⟩
    · exact (s.setting_setDict 0x2580 (q + 1) v 0x2580 (q + 1)).trans (if_pos rfl)
    · rw [State.part_setHead, State.setDryWindow, State.part_modPart, if_pos rfl]
      rfl
  case sefiez =>
    intro done
    obtain ⟨fields, queue, reads⟩ := s.restoreSefiez_spec
    refine exec_applied rfl done (selOwn_of_ownRow rfl) (u := s.restoreSefiez) rfl (by rw [queue]) ⟨?_, fields, fun e restored => ?_⟩
    · exact (reads 0x1017 0).trans (if_neg (by decide))
    · refine (reads e.1 e.2).trans (if_pos ?_)
      revert e
      decide
  case comm =>
    intro done
    exact exec_applied rfl done (selOwn_of_ownRow rfl) rfl rfl ⟨rfl, rfl, Flash.writeObjs_eq ..⟩
  case log =>
    intro done
    exact exec_applied rfl done (selOwn_of_ownRow rfl) rfl rfl ⟨rfl, rfl, rfl, rfl⟩
  case history =>
    intro done
    exact exec_applied rfl done (selOwn_of_ownRow rfl) rfl rfl ⟨rfl, rfl⟩
  case setting =>
    intro sub is done
    have wrote : s.applyWrite .asWritten 0x2401 sub v = s.putSetting 0x2401 sub v ∧ ownRow 0x2401 sub v = none ∧ s.putSetting 0x2401 sub v = s.setDict 0x2401 sub v := by
      obtain rfl | rfl := is <;> exact ⟨rfl, rfl, rfl⟩
    obtain ⟨wrote, row, put⟩ := wrote
    exact exec_applied rfl done (fun b value => Option.isNone_iff_eq_none.mpr (value ▸ row)) (wrote.trans put) rfl
      ⟨(s.setting_setDict 0x2401 sub v 0x2401 sub).trans (if_pos rfl), rfl, rfl⟩

end Sys2Proof.Machine
end

section
/-! PROOFS. Writes that act on partitions, fields and ports (R54, R55, R262, R286, R291, R388, R405 to R407, R417, R419, R420). -/

namespace Sys2Proof.Machine

/-! ### A CD that starts or goes OFF (R417, R419, R420) -/

@[simp] theorem State.field_modClk (s : State) (f g : Nat) (h : FieldClock → FieldClock) :
    (s.modClk f h).field g = if g = f then { s.field f with clk := h (s.field f).clk } else s.field g := State.field_modField ..

/-- With its MD ON, the start of an OFF CD begins at its place in the plan of ramps. -/
theorem State.cdStart_off {s : State} {f : Nat} (md : (s.field f).clk.md = .on) (cd : (s.field f).clk.cd = .off) :
    ∃ t, ((s.cdStart f).field f).clk = { (s.field f).clk with cd := .starting, cdAt := some t } := by
  refine ⟨rampAt (recentRamps s.sd.cdRamps s.tstamp) s.tstamp, ?_⟩
  unfold State.cdStart
  dsimp only
  rw [if_pos ⟨md, cd⟩, State.field_modClk, if_pos rfl]
  rfl

/-- A CD start plans a ramp and changes the clocks of its field. -/
theorem State.cdStart_frame (s : State) (f : Nat) : ∃ l fl, s.cdStart f = { s with sd := { s.sd with cdRamps := l }, fields := fl } := by
  unfold State.cdStart
  dsimp only
  split <;> exact ⟨_, _, rfl⟩

theorem State.field_cdStart_of_ne {s : State} {f g : Nat} (other : g ≠ f) : (s.cdStart f).field g = s.field g := by
  unfold State.cdStart
  dsimp only
  split
  · rw [State.field_modClk, if_neg other]
    rfl
  · rfl

/-- The start of an OFF CD whose MD is ON begins; a CD in any other state stays in it. -/
theorem State.cdStart_clk (s : State) (f g : Nat) : ((s.cdStart f).field g).clk.md = (s.field g).clk.md ∧
    ((s.cdStart f).field g).clk.cd = if g = f ∧ (s.field g).clk.md = .on ∧ (s.field g).clk.cd = .off then .starting else (s.field g).clk.cd := by
  by_cases here : g = f
  · subst here
    by_cases may : (s.field g).clk.md = .on ∧ (s.field g).clk.cd = .off
    · obtain ⟨t, is⟩ := State.cdStart_off may.1 may.2
      rw [is, if_pos ⟨rfl, may⟩]
      exact ⟨rfl, rfl⟩
    · rw [if_neg (not_and_of_not_right _ may), State.cdStart, if_neg may]
      exact ⟨rfl, rfl⟩
  · rw [if_neg (not_and_of_not_left _ here), State.field_cdStart_of_ne here]
    exact ⟨rfl, rfl⟩

/-- The CDs of some fields start: apart from their clocks and the plan of ramps all is as it was. -/
theorem State.cdStarts_frame (l : List Nat) (s : State) : ∃ r fl, l.foldl State.cdStart s = { s with sd := { s.sd with cdRamps := r }, fields := fl } :=
  List.foldlRecOn (motive := fun t => ∃ r fl, t = { s with sd := { s.sd with cdRamps := r }, fields := fl }) l _ ⟨_, _, rfl⟩ fun t ⟨_, _, held⟩ f _ => by
    obtain ⟨r, fl, is⟩ := t.cdStart_frame f
    exact ⟨r, fl, by rw [is, held]⟩

theorem State.field_cdStarts_of_not_mem {l : List Nat} {s : State} {g : Nat} (other : g ∉ l) : (l.foldl State.cdStart s).field g = s.field g :=
  List.foldlRecOn (motive := fun t : State => t.field g = s.field g) l _ rfl fun _ held _ mem =>
    (State.field_cdStart_of_ne (ne_of_mem_of_not_mem mem other).symm).trans held

theorem State.cdStarts_clk (l : List Nat) (s : State) (g : Nat) : ((l.foldl State.cdStart s).field g).clk.md = (s.field g).clk.md ∧
    ((l.foldl State.cdStart s).field g).clk.cd =
      if g ∈ l ∧ (s.field g).clk.md = .on ∧ (s.field g).clk.cd = .off then .starting else (s.field g).clk.cd := by
  induction l generalizing s with
  | nil => simp
  | cons f l ih =>
    obtain ⟨md, cd⟩ := s.cdStart_clk f g
    obtain ⟨md', cd'⟩ := ih (s.cdStart f)
    refine ⟨md'.trans md, cd'.trans ?_⟩
    rw [md, cd]
    by_cases may : (s.field g).clk.md = .on ∧ (s.field g).clk.cd = .off
    · by_cases here : g = f
      · subst here
        simp [may]
      · simp [here]
    · simp only [may, and_false, if_false]

/-- A CD that goes OFF takes with it cores, packets and its ramp, and changes its field. -/
theorem State.cdOff_frame (s : State) (f : Nat) : ∃ l c n fl, s.cdOff f = { s with sd := { s.sd with cdRamps := l }, cores := c, net := n, fields := fl } := by
  unfold State.cdOff
  dsimp only
  split
  · exact ⟨_, _, _, _, rfl⟩
  · unfold State.unplanCd
    split
    · split <;> exact ⟨_, _, _, _, rfl⟩
    · exact ⟨_, _, _, _, rfl⟩

@[simp] theorem State.field_unplanCd (s : State) (f g : Nat) : (s.unplanCd f).field g = s.field g := by
  unfold State.unplanCd
  split
  · split <;> rfl
  · rfl

theorem State.field_cdOff_of_ne {s : State} {f g : Nat} (other : g ≠ f) : (s.cdOff f).field g = s.field g := by
  unfold State.cdOff
  dsimp only
  split
  · rfl
  · rw [State.field_modField, if_neg other]
    exact s.field_unplanCd f g

@[simp] theorem FieldClock.ask_md (k : FieldClock) (f t : Nat) : (k.ask f t).md = k.md := by
  unfold FieldClock.ask
  split <;> rfl

/-- The CD is OFF, its MD as it was. -/
theorem State.cdOff_clk (s : State) (f : Nat) : ((s.cdOff f).field f).clk.cd = .off ∧ ((s.cdOff f).field f).clk.md = (s.field f).clk.md := by
  unfold State.cdOff
  dsimp only
  split
  · next off => exact ⟨off, rfl⟩
  · rw [State.field_modField, if_pos rfl]
    refine ⟨rfl, ?_⟩
    change (if ((s.unplanCd f).field f).clk.md = .on then _ else ((s.unplanCd f).field f).clk).md = _
    split
    · exact (FieldClock.ask_md ..).trans (congrArg (fun x : Field => x.clk.md) (s.field_unplanCd f f))
    · exact congrArg (fun x : Field => x.clk.md) (s.field_unplanCd f f)

/-! ### A field's CD started anew (R419) -/

/-- With its MD ON and nothing in the way FIELD_RESTART takes the field's CD OFF and starts it; other fields stay as they are. -/
theorem State.fieldRestart_spec {s : State} {f : Nat} (free : s.startBlocked = false) (md : (s.field f).clk.md = .on) (fine : s.startFailed = false) :
    ((s.fieldRestart f).field f).clk.cd = .starting ∧ ((s.fieldRestart f).field f).clk.restart = true ∧ ((s.fieldRestart f).field f).clk.md = .on ∧
      (∀ g, g ≠ f → (s.fieldRestart f).field g = s.field g) ∧ (s.fieldRestart f).fw = s.fw := by
  let u := (s.cdOff f).modClk f (fun k => { k with restart := true })
  have is : s.fieldRestart f = u.cdStart f := by
    unfold State.fieldRestart
    rw [if_neg (by simp [free, fine]), if_pos md]
  obtain ⟨cd, md'⟩ := s.cdOff_clk f
  have clk : (u.field f).clk = { ((s.cdOff f).field f).clk with restart := true } := by
    simp only [u, State.field_modClk, if_true]
  have others : ∀ g, g ≠ f → u.field g = s.field g := fun g other => by
    simp only [u, State.field_modClk, if_neg other, State.field_cdOff_of_ne other]
  obtain ⟨t, start⟩ := State.cdStart_off (s := u) (f := f) (by rw [clk]; exact md'.trans md) (by rw [clk]; exact cd)
  obtain ⟨_, _, _, _, off⟩ := s.cdOff_frame f
  obtain ⟨_, _, frame⟩ := u.cdStart_frame f
  rw [is, start, clk]
  refine ⟨rfl, rfl, md'.trans md, fun g other => (State.field_cdStart_of_ne other).trans (others g other), ?_⟩
  rw [frame]
  exact (congrArg State.fw off :)

/-! ### A rectangle written or newly enabled (R54, R55) -/

/-- A rectangle written without EN to a partition that is not enabled is stored, its tenant's writes are to be refused. -/
theorem State.setRect_disabled {s : State} {q v : Nat} (was : (s.part q).enabled = false) (en : bit v 31 = false) :
    s.setRect q v = (s.voidTenant q).modPart q (fun x => { x with rect := BitVec.ofNat 32 v }) := by
  simp [State.setRect, was, en]

/-- A partition newly enabled begins at its reset state, with its job; its settings are at their defaults and its trace destination begins anew. -/
def State.newPart (s : State) (q v : Nat) : State :=
  let s1 := (((s.setPart q { Part.reset with rect := BitVec.ofNat 32 v, job := (s.part q).job }).clearDict 0x2902 (q + 1)).clearDict 0x2903 (q + 1)).forgetPower q
  s1.setTraceDest q { s1.traceDest q with newBit := true }

theorem State.part_newPart (s : State) (q v p : Nat) : (s.newPart q v).part p =
    if p = q then { Part.reset with rect := BitVec.ofNat 32 v, job := (s.part q).job } else s.part p :=
  s.part_setPart q p { Part.reset with rect := BitVec.ofNat 32 v, job := (s.part q).job }
@[simp] theorem State.field_newPart (s : State) (q v f : Nat) : (s.newPart q v).field f = s.field f := rfl
@[simp] theorem State.newPart_wq (s : State) (q v : Nat) : (s.newPart q v).fw.wq = s.fw.wq := rfl

/-- Then the CDs of its fields start. -/
theorem State.setRect_enabled {s : State} {q v : Nat} (was : (s.part q).enabled = false) (en : bit v 31 = true) :
    s.setRect q v = (rectFields (BitVec.ofNat 32 v)).foldl State.cdStart (s.newPart q v) := by
  have fields : (s.newPart q v).partFields q = rectFields (BitVec.ofNat 32 v) := by
    rw [State.partFields, State.part_newPart, if_pos rfl]
  rw [← fields]
  simp only [State.setRect, was, en, Bool.not_true, Bool.not_false, Bool.false_eq_true, if_false, if_true]
  rfl

/-! ### Sync state and ports (R262, R286, R291) -/

/-- The engine that is the time master is in MASTER. -/
theorem State.syncRefresh_master {s : State} (own : s.rd.master = s.engineId) : s.syncRefresh.rd.sync = .master ∧ s.syncRefresh.rd.dist = 0 := by
  unfold State.syncRefresh
  dsimp only
  rw [if_pos own]
  exact ⟨rfl, rfl⟩

/-- With no time master the sync state is FREE. -/
theorem State.syncRefresh_free {s : State} (none : s.rd.master = 0xFFFF) (other : s.engineId ≠ 0xFFFF) : s.syncRefresh.rd.sync = .free := by
  unfold State.syncRefresh
  dsimp only
  rw [if_neg (none ▸ other.symm), if_pos (.inl none)]
  rfl

/-- An ON RD with new IDs keeps its ports' states, but that UP ports train again where its own ID is another. -/
theorem State.takeIds_ports {s : State} (on : s.rd.state = .on) : State.OverLinks
    (fun q => if s.rd.ownId ≠ s.setting 0x2601 1 ∧ q < 12 ∧ s.portStates q = .up then .train else s.portStates q) s.withIds s.takeIds := by
  rw [State.takeIds_on on]
  by_cases same : s.rd.ownId = s.setting 0x2601 1
  · simp only [same, ne_eq, not_true_eq_false, false_and, if_false, if_true]
    exact State.OverLinks.syncRefresh s.withIds
  · simp only [same, ne_eq, not_false_eq_true, true_and, if_false]
    exact (State.OverLinks.retrainUp s.withIds).transKeep (.syncRefresh _)

/-- A port that is not UP holds nothing to lose as it enters TRAIN. -/
theorem State.portTrain_down {s : State} {p : Nat} (down : (s.sl p).state ≠ .up) : ((s.portTrain p).sl p).state = .train ∧
    ((s.portTrain p).sl p).since = s.tstamp ∧ (∀ q, q ≠ p → (s.portTrain p).sl q = s.sl q) := by
  unfold State.portTrain
  rw [if_neg down]
  refine ⟨?_, ?_, fun q other => ?_⟩
  · simp [Sluice.count]
  · simp [Sluice.count]
  · simp [other]

/-- A port that holds nothing goes OFF, and nothing else changes. -/
theorem State.portOff_empty {s : State} {p : Nat} (empty : (s.sl p).held = []) : (∃ x, s.portOff p = { s with sluice := x }) ∧
    ((s.portOff p).sl p).state = .off ∧ (∀ q, q ≠ p → (s.portOff p).sl q = s.sl q) := by
  unfold State.portOff
  split
  · next off => exact ⟨⟨_, rfl⟩, off, fun _ _ => rfl⟩
  · unfold State.portEmpty
    rw [empty]
    refine ⟨⟨_, rfl⟩, ?_, fun q other => ?_⟩
    · simp
    · simp [other]

/-! ### ENGINE_ID, TIME_MASTER and PORT_CTRL written (R262, R286, R291) -/

theorem State.putSetting_rd (s : State) (i sub v : Nat) : (s.putSetting i sub v).rd = s.rd := by
  obtain ⟨x, put⟩ := s.putSetting_spec i sub v
  rw [put]
  rfl
theorem State.sl_putSetting (s : State) (i sub v p : Nat) : (s.putSetting i sub v).sl p = s.sl p := by
  obtain ⟨x, put⟩ := s.putSetting_spec i sub v
  rw [put]
  rfl
theorem State.putSetting_wq (s : State) (i sub v : Nat) : (s.putSetting i sub v).fw.wq = s.fw.wq := by
  obtain ⟨x, put⟩ := s.putSetting_spec i sub v
  rw [put]
  rfl
theorem State.putSetting_tstamp (s : State) (i sub v : Nat) : (s.putSetting i sub v).tstamp = s.tstamp := by
  obtain ⟨x, put⟩ := s.putSetting_spec i sub v
  rw [put]
  rfl

/-- A setting reads the same after frames and packets went over the ports. -/
theorem State.OverLinks.setting {ports : Nat → PortState} {s t : State} (h : State.OverLinks ports s t) (i sub : Nat) : t.setting i sub = s.setting i sub := by
  rw [State.setting, h.fw, h.sd]
  rfl

/-- A new ENGINE_ID is the RD's own, and where it is another one every UP port trains again. -/
theorem State.putEngineId_spec {s : State} (on : s.rd.state = .on) (v : Nat) : (s.putSetting 0x2601 1 v).takeIds.fw.wq = s.fw.wq ∧
    (s.putSetting 0x2601 1 v).takeIds.engineId = v ∧
    ∀ p, p < 12 → (s.sl p).state = .up → ((s.putSetting 0x2601 1 v).takeIds.sl p).state = if v = s.engineId then .up else .train := by
  have own : (s.putSetting 0x2601 1 v).setting 0x2601 1 = v := (s.setting_putSetting ..).trans (if_pos rfl)
  have links := State.takeIds_ports (s := s.putSetting 0x2601 1 v) (by rw [State.putSetting_rd, on])
  refine ⟨(congrArg Firmware.wq links.fw).trans (s.putSetting_wq ..), links.ownId.trans own, fun p small up => ?_⟩
  rw [links.state, own, State.putSetting_rd, State.portStates, State.sl_putSetting]
  by_cases same : v = s.engineId
  · simp [same, State.engineId, up]
  · have other : s.rd.ownId ≠ v := fun is => same is.symm
    simp [same, other, small, up]

/-- A new TIME_MASTER sets the sync state, the engine ID being the RD's own already. -/
theorem State.putTimeMaster_spec {s : State} (on : s.rd.state = .on) (own : s.setting 0x2601 1 = s.rd.ownId) (v : Nat) :
    (s.putSetting 0x2601 2 v).takeIds.fw.wq = s.fw.wq ∧ (s.putSetting 0x2601 2 v).takeIds.setting 0x2601 2 = v ∧
    (s.putSetting 0x2601 2 v).takeIds.tstamp = s.tstamp ∧
    (v = s.engineId → (s.putSetting 0x2601 2 v).takeIds.rd.sync = .master ∧ (s.putSetting 0x2601 2 v).takeIds.rd.dist = 0) ∧
    (v = 0xFFFF → s.engineId ≠ 0xFFFF → (s.putSetting 0x2601 2 v).takeIds.rd.sync = .free) := by
  have master : (s.putSetting 0x2601 2 v).setting 0x2601 2 = v := (s.setting_putSetting ..).trans (if_pos rfl)
  have same : (s.putSetting 0x2601 2 v).setting 0x2601 1 = s.rd.ownId := ((s.setting_putSetting ..).trans (if_neg (by decide))).trans own
  have is : (s.putSetting 0x2601 2 v).takeIds = (s.putSetting 0x2601 2 v).withIds.syncRefresh := by
    rw [State.takeIds_on (by rw [State.putSetting_rd, on]), if_pos (by rw [State.putSetting_rd, same])]
  have links := State.OverLinks.syncRefresh (s.putSetting 0x2601 2 v).withIds
  rw [is]
  refine ⟨(congrArg Firmware.wq links.fw).trans (s.putSetting_wq ..), (links.setting ..).trans master, links.tstamp.trans (s.putSetting_tstamp ..),
    fun me => State.syncRefresh_master (master.trans (me.trans same.symm)),
    fun none other => State.syncRefresh_free (master.trans none) (fun e => other (same.symm.trans e))⟩

/-- PORT_CTRL with EN 1 trains an OFF port of an ON RD. -/
theorem State.setPortCtrl_on {s : State} {p v : Nat} (on : s.rd.state = .on) (en : bit v 0 = true) (off : (s.sl p).state = .off) :
    (s.setPortCtrl p v).fw.wq = s.fw.wq ∧ (s.setPortCtrl p v).portCtrl p = v ∧ ((s.setPortCtrl p v).sl p).state = .train ∧
      ((s.setPortCtrl p v).sl p).since = s.tstamp ∧ ∀ q, q ≠ p → (s.setPortCtrl p v).sl q = s.sl q := by
  have is : s.setPortCtrl p v = (s.putSetting 0x2600 (p + 1) v).portTrain p := by
    simp [State.setPortCtrl, on, en, State.sl_putSetting, off]
  obtain ⟨train, since, others⟩ := State.portTrain_down (s := s.putSetting 0x2600 (p + 1) v) (p := p) (by rw [State.sl_putSetting, off]; decide)
  have links := State.OverLinks.portTrain (s.putSetting 0x2600 (p + 1) v) p
  rw [is]
  exact ⟨(congrArg Firmware.wq links.fw).trans (s.putSetting_wq ..), (links.setting ..).trans ((s.setting_putSetting ..).trans (if_pos rfl)), train,
    since.trans (s.putSetting_tstamp ..), fun q other => (others q other).trans (s.sl_putSetting ..)⟩

/-- PORT_CTRL with EN 0 takes a port of an ON RD OFF. -/
theorem State.setPortCtrl_off {s : State} {p v : Nat} (on : s.rd.state = .on) (en : bit v 0 = false) (empty : (s.sl p).held = []) :
    (s.setPortCtrl p v).fw.wq = s.fw.wq ∧ (s.setPortCtrl p v).portCtrl p = v ∧ ((s.setPortCtrl p v).sl p).state = .off ∧
      ∀ q, q ≠ p → (s.setPortCtrl p v).sl q = s.sl q := by
  have is : s.setPortCtrl p v = (s.putSetting 0x2600 (p + 1) v).portOff p := by
    simp [State.setPortCtrl, on, en]
  obtain ⟨⟨y, frame⟩, off, others⟩ := State.portOff_empty (s := s.putSetting 0x2600 (p + 1) v) (p := p) (by rw [State.sl_putSetting, empty])
  rw [is]
  refine ⟨?_, ?_, off, fun q other => (others q other).trans (s.sl_putSetting ..)⟩
  · rw [frame]
    exact s.putSetting_wq ..
  · rw [frame]
    exact (s.setting_putSetting ..).trans (if_pos rfl)

/-! ### Fields that start again (R405, R407, R417, R426) -/

/-- The starts of MDs plan ramps and change the fields. -/
theorem State.startFields_frame (s : State) : ∃ l fl, s.startFields = { s with sd := { s.sd with mdRamps := l }, fields := fl } := by
  unfold State.startFields
  split
  · exact ⟨_, _, rfl⟩
  · refine List.foldlRecOn (motive := fun t : State => ∃ l fl, t = { s with sd := { s.sd with mdRamps := l }, fields := fl }) _ _ ⟨s.sd.mdRamps, s.fields, rfl⟩
      fun t held f _ => ?_
    obtain ⟨_, _, rfl⟩ := held
    exact ⟨_, _, rfl⟩

/-- What a restart of the fields leaves unchanged: the button, the record of the last reset, and firmware's state. -/
theorem State.restartFields_kept (s : State) : s.restartFields.sd.button = s.sd.button ∧ s.restartFields.sd.lastReset = s.sd.lastReset ∧
    s.restartFields.sd.warmCount = s.sd.warmCount ∧ s.restartFields.fw = s.fw := by
  have fields : ∀ u : State, u.startFields.sd.button = u.sd.button ∧ u.startFields.sd.lastReset = u.sd.lastReset ∧
      u.startFields.sd.warmCount = u.sd.warmCount ∧ u.startFields.fw = u.fw := fun u => by
    obtain ⟨_, _, is⟩ := u.startFields_frame
    rw [is]
    exact ⟨rfl, rfl, rfl, rfl⟩
  unfold State.restartFields
  split
  case h_1 | h_2 | h_6 => exact ⟨rfl, rfl, rfl, rfl⟩
  case h_3 => exact fields (s.toStep 8)
  case h_4 =>
    split
    · exact fields (s.toStep 8)
    · exact ⟨rfl, rfl, rfl, rfl⟩
  case h_5 => exact fields s

theorem State.rebuildMap_sd (s : State) (x : FlashRead) : (s.rebuildMap x).sd = s.sd := by
  obtain ⟨_, _, is, -⟩ := s.rebuildMap_spec x
  rw [is]

/-- The end of a long press with no stop standing: the map is rebuilt, the reset is counted and the fields start again. -/
theorem State.pressEnd_long {s : State} (trip : s.sd.tripLatched = false) (flow : s.sd.flowStop = false) (rails : s.sd.vrStop = false) (x : FlashRead) :
    s.pressEnd true x = ((s.rebuildMap x).modSd (fun d => { d with lastReset := 2, warmCount := (d.warmCount + 1) % 2 ^ 32 })).restartFields := by
  unfold State.pressEnd
  simp [State.rebuildMap_sd, trip, flow, rails]

/-- The button's override with no stop standing: state 3, a long reset counted, and the map rebuilt from what flash returns. -/
theorem State.buttonOverride_spec {s : State} (trip : s.sd.tripLatched = false) (flow : s.sd.flowStop = false) (rails : s.sd.vrStop = false) (x : FlashRead) :
    (s.buttonOverride x).sd.button.state = 3 ∧ (s.buttonOverride x).sd.lastReset = 2 ∧ (s.buttonOverride x).sd.warmCount = (s.sd.warmCount + 1) % 2 ^ 32 ∧
      (s.buttonOverride x).fw = { s.fw with map := ((Claims.listRead s.flash x).getD []).foldl mapAdd [] } := by
  let u := s.modSd (fun d => { d with button := { state := 3, since := 0 } })
  have is : s.buttonOverride x = _ := State.pressEnd_long (s := u) trip flow rails x
  obtain ⟨n, q, map, -⟩ := u.rebuildMap_spec x
  obtain ⟨button, last, warm, fw⟩ :=
    ((u.rebuildMap x).modSd (fun d => { d with lastReset := 2, warmCount := (d.warmCount + 1) % 2 ^ 32 })).restartFields_kept
  rw [is, button, last, warm, fw, map]
  exact ⟨rfl, rfl, rfl, rfl⟩

/-! ### The writes that act on units -/

/-- Settles O42: each write acts on its unit as the rule of its object says. -/
theorem writesToUnitsApply : Obligations.WritesToUnitsApply := by
  unfold Obligations.WritesToUnitsApply Claims.WritesToUnitsApply
  intro s r v
  refine ⟨?rect, ?restart, ?engine, ?master, ?port, ?override⟩
  case rect =>
    intro q hq done was
    refine ⟨fun en => ?_, fun en => ?_⟩
    · refine exec_applied rfl done (selOwn_of_ownRow rfl) (State.setRect_disabled (q := q) was en) (List.length_map ..) ⟨?_, rfl, fun p other => ?_⟩
      · rw [State.part_setHead, State.part_modPart, if_pos rfl]
        rfl
      · rw [State.part_setHead, State.part_modPart, if_neg other]
        rfl
    · obtain ⟨l, fl, frame⟩ := State.cdStarts_frame (rectFields (BitVec.ofNat 32 v)) (s.newPart q v)
      have parts : ∀ p, ((rectFields (BitVec.ofNat 32 v)).foldl State.cdStart (s.newPart q v)).part p = (s.newPart q v).part p := fun p => by
        rw [frame]
        rfl
      refine exec_applied rfl done (selOwn_of_ownRow rfl) (State.setRect_enabled (q := q) was en) (by rw [frame]; rfl)
        ⟨?_, fun p other => ?_, fun f mem md cd => ?_, fun f out => ?_⟩
      · rw [State.part_setHead, parts, State.part_newPart, if_pos rfl]
      · rw [State.part_setHead, parts, State.part_newPart, if_neg other]
      · rw [State.field_setHead, (State.cdStarts_clk _ _ f).2, State.field_newPart, if_pos ⟨mem, md, cd⟩]
      · rw [State.field_setHead, State.field_cdStarts_of_not_mem out, State.field_newPart]
  case restart =>
    intro done free md fine
    obtain ⟨cd, restart, md', others, fw⟩ := State.fieldRestart_spec free md fine
    exact exec_applied rfl done (selOwn_of_ownRow rfl) (u := s.fieldRestart v) rfl (by rw [fw]) ⟨cd, restart, md', others⟩
  case engine =>
    intro done on
    obtain ⟨queue, own, states⟩ := State.putEngineId_spec on v
    exact exec_applied rfl done (selOwn_of_ownRow rfl) (u := (s.putSetting 0x2601 1 v).takeIds) rfl (by rw [queue]) ⟨own, states⟩
  case master =>
    intro done on own
    obtain ⟨queue, setting, tstamp, me, none⟩ := State.putTimeMaster_spec on own v
    exact exec_applied rfl done (selOwn_of_ownRow rfl) (u := (s.putSetting 0x2601 2 v).takeIds) rfl (by rw [queue]) ⟨setting, tstamp, me, none⟩
  case port =>
    intro p hp done on
    refine ⟨fun en off => ?_, fun en empty => ?_⟩
    · obtain ⟨queue, ctrl, train⟩ := State.setPortCtrl_on on en off
      exact exec_applied rfl done (selOwn_of_ownRow (by simp [ownRow, en])) (u := s.setPortCtrl p v) rfl (by rw [queue]) ⟨ctrl, train⟩
    · obtain ⟨queue, ctrl, gone⟩ := State.setPortCtrl_off on en empty
      exact exec_applied rfl done (selOwn_of_ownRow (by simp [ownRow, en])) (u := s.setPortCtrl p v) rfl (by rw [queue]) ⟨ctrl, gone⟩
  case override =>
    intro done trip flow rails x
    obtain ⟨state, last, warm, fw⟩ := State.buttonOverride_spec trip flow rails x
    exact exec_applied rfl done (selOwn_of_ownRow rfl) (u := s.buttonOverride x) rfl (by rw [fw]) ⟨state, last, warm, congrArg Firmware.map fw⟩

end Sys2Proof.Machine
end

section
/-! PROOFS. A warm reset: what it leaves of fields, cores, partitions and the mesh (R403, R411, R416, R419). -/

namespace Sys2Proof.Machine

/-! ### Tables whose entries are dropped or replaced in place -/

/-- Entries of other keys may go: a key whose own entries stay reads as before. -/
theorem Tab.read_filterMap_keep {α : Type} {t : Tab α} {g : Nat × α → Option (Nat × α)} {k : Nat} (d : α) (keys : ∀ e e', g e = some e' → e'.1 = e.1)
    (stay : ∀ e, e.1 = k → g e = some e) : Tab.read (t.filterMap g) d k = Tab.read t d k := by
  induction t with
  | nil => rfl
  | cons e l ih =>
    by_cases here : e.1 = k
    · rw [List.filterMap_cons_some (stay e here), Tab.read, Tab.read, if_pos here, if_pos here]
    · rw [Tab.read, if_neg here]
      cases out : g e with
      | none => rw [List.filterMap_cons_none out, ih]
      | some e' => rw [List.filterMap_cons_some out, Tab.read, if_neg (keys e e' out ▸ here), ih]

/-- What holds of the default and of every entry of a key that is left holds of what the key reads. -/
theorem Tab.read_filterMap_of {α : Type} {t : Tab α} {g : Nat × α → Option (Nat × α)} {k : Nat} {d : α} {P : α → Prop}
    (keys : ∀ e e', g e = some e' → e'.1 = e.1) (base : P d) (left : ∀ e e', e.1 = k → g e = some e' → P e'.2) : P (Tab.read (t.filterMap g) d k) := by
  induction t with
  | nil => exact base
  | cons e l ih =>
    cases out : g e with
    | none => rwa [List.filterMap_cons_none out]
    | some e' =>
      rw [List.filterMap_cons_some out, Tab.read]
      by_cases here : e.1 = k
      · rw [if_pos ((keys e e' out).trans here)]
        exact left e e' here out
      · rwa [if_neg (keys e e' out ▸ here)]

/-! ### The cores of a CD that goes OFF (R416, R419) -/

/-- A core is OFF and its memory lost. -/
def Core.Gone (k : Core) : Prop := k.run = .off ∧ k.sram = []

/-- What is left in the table of a core as the CD of a field goes OFF. -/
def offCore (f : Nat) (e : Nat × Core) : Option (Nat × Core) :=
  if fieldOf e.1 ≠ f then some e
  else if e.2.autoAdd.isSome then some (e.1, { Core.reset with lost := e.2.lost, autoAdd := e.2.autoAdd }) else none

theorem offCore_key (f : Nat) (e e' : Nat × Core) (out : offCore f e = some e') : e'.1 = e.1 := by
  unfold offCore at out
  split at out
  · rw [← Option.some.inj out]
  · split at out
    · rw [← Option.some.inj out]
    · cases out

theorem State.cdOff_cores {s : State} {f : Nat} (on : (s.field f).clk.cd ≠ .off) : (s.cdOff f).cores = s.cores.filterMap (offCore f) := by
  unfold State.cdOff
  dsimp only
  rw [if_neg on]
  rfl

theorem State.cdOff_of_off {s : State} {f : Nat} (off : (s.field f).clk.cd = .off) : s.cdOff f = s := if_pos off

/-- The cores of other fields stay as they are. -/
theorem State.core_cdOff_of_ne {s : State} {f c : Nat} (other : fieldOf c ≠ f) : (s.cdOff f).core c = s.core c := by
  by_cases off : (s.field f).clk.cd = .off
  · rw [State.cdOff_of_off off]
  · rw [State.core, State.cdOff_cores off]
    refine Tab.read_filterMap_keep _ (offCore_key f) fun e here => ?_
    rw [offCore, if_pos (by rw [here]; exact other)]

/-- The cores of a CD that was not OFF are gone. -/
theorem State.core_cdOff {s : State} {f c : Nat} (mine : fieldOf c = f) (on : (s.field f).clk.cd ≠ .off) : ((s.cdOff f).core c).Gone := by
  rw [State.core, State.cdOff_cores on]
  refine Tab.read_filterMap_of (offCore_key f) ⟨rfl, rfl⟩ fun e e' here out => ?_
  rw [offCore, if_neg (by rw [here, mine]; exact fun ne => ne rfl)] at out
  split at out
  · rw [← Option.some.inj out]
    exact ⟨rfl, rfl⟩
  · cases out

/-- A core that is gone stays so. -/
theorem State.core_cdOff_gone {s : State} {f c : Nat} (gone : (s.core c).Gone) : ((s.cdOff f).core c).Gone := by
  by_cases mine : fieldOf c = f
  · by_cases off : (s.field f).clk.cd = .off
    · rwa [State.cdOff_of_off off]
    · exact State.core_cdOff mine off
  · rwa [State.core_cdOff_of_ne mine]

/-- As CDs go OFF one after another the cores of each are gone. -/
theorem State.core_cdOffs {l : List Nat} {s : State} {c : Nat} (mem : fieldOf c ∈ l) (on : (s.field (fieldOf c)).clk.cd ≠ .off) :
    ((l.foldl State.cdOff s).core c).Gone := by
  induction l generalizing s with
  | nil => cases mem
  | cons f l ih =>
    rw [List.foldl_cons]
    by_cases mine : fieldOf c = f
    · exact List.foldlRecOn (motive := fun t : State => (t.core c).Gone) l _ (State.core_cdOff mine (mine ▸ on)) fun _ gone _ _ => State.core_cdOff_gone gone
    · exact ih ((List.mem_cons.mp mem).resolve_left mine) (by rwa [State.field_cdOff_of_ne mine])

/-! ### The fields -/

/-- What a CD that goes OFF leaves of each field's MD: its state, its Cistern's memory and its units. -/
theorem State.cdOff_md (s : State) (f g : Nat) : ((s.cdOff f).field g).clk.md = (s.field g).clk.md ∧
    ((s.cdOff f).field g).cis.mem = (s.field g).cis.mem ∧ ((s.cdOff f).field g).syn = (s.field g).syn := by
  by_cases here : g = f
  · subst here
    refine ⟨(s.cdOff_clk g).2, ?_⟩
    unfold State.cdOff
    dsimp only
    split
    · exact ⟨rfl, rfl⟩
    · rw [State.field_modField, if_pos rfl]
      change ((s.unplanCd g).field g).cis.mem = _ ∧ ((s.unplanCd g).field g).syn = _
      rw [State.field_unplanCd]
      exact ⟨rfl, rfl⟩
  · rw [State.field_cdOff_of_ne here]
    exact ⟨rfl, rfl, rfl⟩

theorem State.cdOffs_md (l : List Nat) (s : State) (g : Nat) : ((l.foldl State.cdOff s).field g).clk.md = (s.field g).clk.md ∧
    ((l.foldl State.cdOff s).field g).cis.mem = (s.field g).cis.mem ∧ ((l.foldl State.cdOff s).field g).syn = (s.field g).syn :=
  List.foldlRecOn (motive := fun t : State => (t.field g).clk.md = (s.field g).clk.md ∧ (t.field g).cis.mem = (s.field g).cis.mem ∧
    (t.field g).syn = (s.field g).syn) l _ ⟨rfl, rfl, rfl⟩ fun t ⟨md, mem, syn⟩ f _ =>
      have ⟨md', mem', syn'⟩ := t.cdOff_md f g
      ⟨md'.trans md, mem'.trans mem, syn'.trans syn⟩

theorem State.cdOffs_frame (l : List Nat) (s : State) : ∃ r c n fl, l.foldl State.cdOff s = { s with
    sd := { s.sd with cdRamps := r }, cores := c, net := n, fields := fl } :=
  List.foldlRecOn (motive := fun t : State => ∃ r c n fl, t = { s with sd := { s.sd with cdRamps := r }, cores := c, net := n, fields := fl }) l _
    ⟨s.sd.cdRamps, s.cores, s.net, s.fields, rfl⟩ fun t ⟨_, _, _, _, held⟩ f _ => by
      obtain ⟨r, c, n, fl, is⟩ := t.cdOff_frame f
      exact ⟨r, c, n, fl, by rw [is, held]⟩

/-- Some fields are changed alike, each once. -/
theorem State.field_modFields {l : List Nat} (once : l.Nodup) (s : State) (g : Field → Field) (f : Nat) :
    (l.foldl (fun s i => s.modField i g) s).field f = if f ∈ l then g (s.field f) else s.field f := by
  induction l generalizing s with
  | nil => rfl
  | cons i l ih =>
    obtain ⟨fresh, once⟩ := List.nodup_cons.mp once
    rw [List.foldl_cons, ih once, State.field_modField]
    by_cases here : f = i
    · subst here
      simp [fresh]
    · simp [here]

theorem State.modFields_frame (l : List Nat) (s : State) (g : Field → Field) : ∃ fl, l.foldl (fun s i => s.modField i g) s = { s with fields := fl } :=
  List.foldlRecOn (motive := fun t : State => ∃ fl, t = { s with fields := fl }) l _ ⟨s.fields, rfl⟩ fun t held f _ => by
    obtain ⟨_, rfl⟩ := held
    exact ⟨_, rfl⟩

/-! ### The partitions and the commands -/

theorem State.idlePart_frame (s : State) (p : Nat) : ∃ x, s.idlePart p = { s.modPart p Part.idled with ports := x } := by
  obtain ⟨x, is, -⟩ := (s.modPart p Part.idled).endStops_frame p
  exact ⟨x, is⟩

/-- Graphs become IDLE one after another: of the rest only ports change. -/
theorem State.idleParts_frame (l : List Nat) (s : State) : ∃ ps x, l.foldl State.idlePart s = { s with parts := ps, ports := x } :=
  List.foldlRecOn (motive := fun t : State => ∃ ps x, t = { s with parts := ps, ports := x }) l _ ⟨s.parts, s.ports, rfl⟩ fun t ⟨_, _, held⟩ p _ => by
    obtain ⟨x, is⟩ := t.idlePart_frame p
    exact ⟨_, x, by rw [is, held]; rfl⟩

@[simp] theorem State.part_idlePart (s : State) (p q : Nat) : (s.idlePart p).part q = if q = p then (s.part p).idled else s.part q := by
  obtain ⟨x, is⟩ := s.idlePart_frame p
  rw [is]
  exact s.part_modPart p q Part.idled

theorem State.part_idleParts (l : List Nat) (s : State) (q : Nat) : (l.foldl State.idlePart s).part q = if q ∈ l then (s.part q).idled else s.part q := by
  induction l generalizing s with
  | nil => rfl
  | cons p l ih =>
    rw [List.foldl_cons, ih, State.part_idlePart]
    by_cases here : q = p
    · subst here
      by_cases again : q ∈ l <;> simp [again, Part.idled]
    · simp [here]

/-- The commands of the ports end. -/
theorem State.modPorts_frame (l : List Nat) (s : State) (g : Port → Port) : ∃ x, l.foldl (fun s p => s.modPort p g) s = { s with ports := x } :=
  List.foldlRecOn (motive := fun t : State => ∃ x, t = { s with ports := x }) l _ ⟨s.ports, rfl⟩ fun t held p _ => by
    obtain ⟨_, rfl⟩ := held
    exact ⟨_, rfl⟩

/-! ### A warm reset (R403) -/

section
variable (qs fs ps : List Nat) (s : State) (st : DomState)

/-- The state with the graphs of partitions `qs` IDLE. -/
def State.graphsIdle : State := qs.foldl State.idlePart s

/-- Then with the CDs of fields `fs` OFF, the mesh empty and no ramp to come. -/
def State.cdsOff : State :=
  let s1 := fs.foldl State.cdOff (s.graphsIdle qs)
  { s1 with net := [], sd := { s1.sd with
      cdRamps := s1.sd.cdRamps.filter (fun t => decide (t ≤ s.tstamp)), mdRamps := s1.sd.mdRamps.filter (fun t => decide (t ≤ s.tstamp)) } }

/-- Then with their MDs in state `st`. -/
def State.mdsLeave : State := fs.foldl (fun s f => s.modField f (fun x => x.mdReset st)) (s.cdsOff qs fs)

/-- Then with the commands of ports `ps` ended. -/
def State.resetOver : State := ps.foldl (fun s p => s.modPort p (fun x => { x with cmds := x.cmds.map Cmd.warmReset })) (s.mdsLeave qs fs st)

theorem State.cdsOff_frame : ∃ ps x r m c fl, s.cdsOff qs fs = { s with
    parts := ps, ports := x, sd := { s.sd with cdRamps := r, mdRamps := m }, cores := c, net := [], fields := fl } := by
  obtain ⟨ps, x, idle⟩ := State.idleParts_frame qs s
  obtain ⟨r, c, n, fl, off⟩ := State.cdOffs_frame fs (s.graphsIdle qs)
  exact ⟨ps, x, _, _, c, fl, by rw [State.cdsOff, off, State.graphsIdle, idle]⟩

theorem State.resetOver_frame : ∃ x r m fl, s.resetOver qs fs ps st = { s.cdsOff qs fs with
    ports := x, sd := { s.sd with cdRamps := r, mdRamps := m }, fields := fl } := by
  obtain ⟨_, _, r, m, _, _, off⟩ := s.cdsOff_frame qs fs
  obtain ⟨fl, md⟩ := State.modFields_frame fs (s.cdsOff qs fs) (fun x => x.mdReset st)
  obtain ⟨x, cmds⟩ := State.modPorts_frame ps (s.mdsLeave qs fs st) (fun x => { x with cmds := x.cmds.map Cmd.warmReset })
  exact ⟨x, r, m, fl, by rw [State.resetOver, cmds, State.mdsLeave, md, off]⟩

theorem State.core_resetOver (c : Nat) : (s.resetOver qs fs ps st).core c = (s.cdsOff qs fs).core c := by
  obtain ⟨_, _, _, _, is⟩ := s.resetOver_frame qs fs ps st
  rw [is]
  rfl

theorem State.part_resetOver (p : Nat) : (s.resetOver qs fs ps st).part p = (s.cdsOff qs fs).part p := by
  obtain ⟨_, _, _, _, is⟩ := s.resetOver_frame qs fs ps st
  rw [is]
  rfl

theorem State.field_resetOver {f : Nat} (once : fs.Nodup) (mem : f ∈ fs) : (s.resetOver qs fs ps st).field f = ((s.cdsOff qs fs).field f).mdReset st := by
  obtain ⟨x, cmds⟩ := State.modPorts_frame ps (s.mdsLeave qs fs st) (fun x => { x with cmds := x.cmds.map Cmd.warmReset })
  rw [State.resetOver, cmds]
  exact (State.field_modFields once (s.cdsOff qs fs) _ f).trans (if_pos mem)

/-- Of the fields the CDs that went OFF leave what their MDs hold. -/
theorem State.field_cdsOff (f : Nat) : ((s.cdsOff qs fs).field f).cis.mem = (s.field f).cis.mem ∧ ((s.cdsOff qs fs).field f).syn = (s.field f).syn := by
  obtain ⟨_, _, idle⟩ := State.idleParts_frame qs s
  obtain ⟨-, mem, syn⟩ := State.cdOffs_md fs (s.graphsIdle qs) f
  have same : (s.graphsIdle qs).field f = s.field f := by
    rw [State.graphsIdle, idle]
    rfl
  rw [same] at mem syn
  exact ⟨mem, syn⟩

variable {s fs} in
theorem State.core_cdsOff {c : Nat} (mem : fieldOf c ∈ fs) (on : (s.field (fieldOf c)).clk.cd ≠ .off) : ((s.cdsOff qs fs).core c).Gone := by
  obtain ⟨_, _, idle⟩ := State.idleParts_frame qs s
  refine State.core_cdOffs (s := s.graphsIdle qs) mem ?_
  rw [State.graphsIdle, idle]
  exact on

variable {qs} in
theorem State.part_cdsOff {p : Nat} (mem : p ∈ qs) : (s.cdsOff qs fs).part p = (s.part p).idled := by
  obtain ⟨r, c, n, fl, off⟩ := State.cdOffs_frame fs (s.graphsIdle qs)
  have same : (s.cdsOff qs fs).parts = (s.graphsIdle qs).parts := by rw [State.cdsOff, off]
  rw [State.part, same]
  exact (State.part_idleParts qs s p).trans (if_pos mem)

end

/-- The units up to a number, each once. -/
theorem upTo_nodup (n : Nat) : (upTo n).Nodup := List.nodup_range

theorem State.warmReset_eq (s : State) (st : DomState) : s.warmReset st = s.resetOver (upTo 16) (upTo nFields) (upTo 4) st := by
  simp only [State.warmReset, State.resetOver, State.mdsLeave, State.cdsOff, State.graphsIdle]

/-- A warm reset keeps everything but fields, cores, partitions, ports, the mesh and the ramps planned. -/
theorem State.warmReset_frame (s : State) (st : DomState) : ∃ ps x r m c fl, s.warmReset st = { s with
    parts := ps, ports := x, sd := { s.sd with cdRamps := r, mdRamps := m }, cores := c, net := [], fields := fl } := by
  obtain ⟨ps, _, _, _, c, _, off⟩ := s.cdsOff_frame (upTo 16) (upTo nFields)
  obtain ⟨x, r, m, fl, is⟩ := s.resetOver_frame (upTo 16) (upTo nFields) (upTo 4) st
  exact ⟨ps, x, r, m, c, fl, by rw [State.warmReset_eq, is, off]⟩

/-- What an MD that leaves ON keeps and loses. -/
theorem Field.mdReset_spec (x : Field) (st : DomState) : (x.mdReset st).clk.md = st ∧ (x.mdReset st).clk.cd = .off ∧ (x.mdReset st).clk.change = none ∧
    (x.mdReset st).clk.fstate = 15 ∧ (st = .off → (x.mdReset st).cis = Cistern.reset ∧ (x.mdReset st).syn = SyncUnit.reset) ∧
    (st ≠ .off → (x.mdReset st).cis = x.cis ∧ (x.mdReset st).syn = x.syn) := by
  by_cases off : st = .off
  · subst off
    exact ⟨rfl, rfl, rfl, rfl, fun _ => ⟨rfl, rfl⟩, fun ne => absurd rfl ne⟩
  · have is : x.mdReset st = { x with clk := x.clk.mdReset st } := by rw [Field.mdReset, if_neg off]
    rw [is]
    exact ⟨rfl, rfl, rfl, rfl, fun is => absurd is off, fun _ => ⟨rfl, rfl⟩⟩

/-- A warm reset resets compute (R403, R416). -/
theorem State.warmReset_computeReset (s : State) (st : DomState) : Claims.computeReset s (s.warmReset st) st := by
  obtain ⟨_, _, _, _, _, _, frame⟩ := s.warmReset_frame st
  refine ⟨fun f small => ?_, fun c small on => ?_, by rw [frame], fun p small => ?_, by rw [frame]⟩
  · obtain ⟨md, cd, change, fstate, lost, kept⟩ := ((s.cdsOff (upTo 16) (upTo nFields)).field f).mdReset_spec st
    obtain ⟨mem, syn⟩ := s.field_cdsOff (upTo 16) (upTo nFields) f
    rw [State.warmReset_eq, State.field_resetOver _ _ _ _ _ (upTo_nodup nFields) (mem_upTo.mpr small)]
    exact ⟨md, cd, change, fstate, lost, fun ne => ⟨(congrArg Cistern.mem (kept ne).1).trans mem, (kept ne).2.trans syn⟩⟩
  · rw [State.warmReset_eq, State.core_resetOver]
    exact State.core_cdsOff _ (mem_upTo.mpr small) on
  · rw [State.warmReset_eq, State.part_resetOver, State.part_cdsOff _ _ (mem_upTo.mpr small)]
    exact ⟨rfl, rfl, rfl⟩

end Sys2Proof.Machine
end

section
/-! PROOFS. Power-on, the straps and the steps of a cold start (R41, R42, R364, R393, R397, R402, R415, R422 to R425, R433, R534). -/

namespace Sys2Proof.Machine

/-! ### POR_N and input power (R393, R402, R415, R425) -/

/-- An attempt of the always-on PLL locks within its 1 ms, or not at all. -/
theorem lockMoment_le {now m : Nat} {lock : Option Nat} (locks : lockMoment now lock = some m) : m ≤ now + 100000 := by
  unfold lockMoment at locks
  split at locks
  · split at locks
    · cases locks
      omega
    · cases locks
  · cases locks

/-- The state as a cold start begins: all reset but what survives, the SD ON at step 1, both Wellheads booting. -/
def State.coldStart (s : State) : State :=
  (({ s with free := s.free + 1 } : State).coldReset.modSd (fun _ => { ServiceDomain.reset with
    state := .on, inputPower := true, porLow := false, step := .at 1, lockAt := lockMoment 0 (Config.pllLock s.free), coldCds := true })).bootBoth

/-- Without input power POR_N's rise waits for the power to be back. -/
theorem exec_porNRise {s : State} (low : s.sd.porLow = true) :
    exec .porNRise s = .next (if s.sd.inputPower = false ∧ Config.powerBack s.free = false then { s with free := s.free + 1 } else s.coldStart) := by
  simp [exec, execPorNRise, low, State.coldStart]

theorem exec_porNRise_powered {s : State} (low : s.sd.porLow = true) (power : s.sd.inputPower = true) : exec .porNRise s = .next s.coldStart := by
  rw [exec_porNRise low, if_neg (by simp [power])]

/-- POR_N's fall: compute is reset, the RD stops, every rail is switched off, and the SD is in RESET with both Wellheads. -/
def State.powerDown (s : State) : State :=
  let s1 := ((s.warmReset .off).rdStop .off).pmbSend (s.power.rails.flatMap (fun (e : Nat × Rail) => railOperation e.1 false))
  { s1.modSd (fun d => { d with state := .reset, porLow := true, operational := false, step6 := false, step := .none, lockAt := none,
                                button := { state := 0, since := 0 }, backup := none, degrOwed := [] }) with wh := WellPair.reset }

theorem exec_porNFall {s : State} (high : s.sd.porLow = false) : exec .porNFall s = .next s.powerDown := by
  simp only [exec, execPorNFall, high, Bool.false_eq_true, if_false]
  rfl

/-- The RD's stop changes it and its ports. -/
theorem State.rdStop_frame (s : State) (st : DomState) : ∃ x r, s.rdStop st = { s with sluice := x, rd := r } ∧ r.state = st ∧ r.sync = .free := by
  unfold State.rdStop
  refine List.foldlRecOn (motive := fun t : State => ∃ x r, t = { s with sluice := x, rd := r } ∧ r.state = st ∧ r.sync = .free) _ _
    ⟨s.sluice, _, rfl, rfl, rfl⟩ fun t held p _ => ?_
  obtain ⟨_, r, rfl, state, sync⟩ := held
  exact ⟨_, r, rfl, state, sync⟩

/-! ### The straps (R397) -/

section
variable {s : State} {raw : Nat} (on : s.sd.state = .on) (due : 100000 * (s.sd.samples.length + 1) ≤ s.sd.vtime) (small : raw < 8192)
include on due small

/-- The first seven samples are kept. -/
theorem exec_strapSample_early (early : s.sd.samples.length < 7) :
    exec (.strapSample raw) s = .next { s with sd := { s.sd with samples := s.sd.samples ++ [raw] } } := by
  simp [exec, execStrapSample, on, early, show ¬ 8 ≤ s.sd.samples.length by omega, Nat.mod_eq_of_lt small, State.modSd]
  omega

theorem exec_strapSample_last (last : s.sd.samples.length = 7) : exec (.strapSample raw) s = .next (
    if (s.sd.samples ++ [raw]).all (fun x => decide (x = raw)) then
      s.modSd (fun d => { d with samples := s.sd.samples ++ [raw], strapsRaw := raw, nodeId := raw % 128, slotId := raw / 128 })
    else (s.modSd (fun d => { d with samples := s.sd.samples ++ [raw], strapsRaw := raw, nodeId := 0, slotId := 0 })).engineFault 0x5263 0) := by
  rw [last] at due
  simp [exec, execStrapSample, on, last, Nat.mod_eq_of_lt small]
  omega

end

/-- Settles the first part of O44: POR_N, input power and the straps. -/
theorem powerOnAndStraps_claim : Claims.PowerOnAndStraps := by
  intro s
  refine ⟨fun low => ?rise, fun low power => ?cold, fun high => ?fall, ?loss, fun raw small on due => ⟨fun early => ?early, fun last same => ?same, fun last differ => ?differ⟩⟩
  case rise =>
    refine ⟨_, exec_porNRise low, ?_⟩
    split
    · next without => exact .inl ⟨without.1, rfl⟩
    · exact .inr rfl
  case cold =>
    exact ⟨_, exec_porNRise_powered low power, rfl, rfl, rfl, rfl, rfl, rfl, rfl, rfl, rfl, rfl, rfl, fun m locks => by simpa using lockMoment_le locks, rfl⟩
  case fall =>
    have compute := s.warmReset_computeReset .off
    obtain ⟨_, _, _, _, _, _, reset⟩ := s.warmReset_frame .off
    refine ⟨_, exec_porNFall high, ?_⟩
    unfold State.powerDown
    generalize s.warmReset .off = w at compute reset ⊢
    obtain ⟨x, r, stop, state, -⟩ := w.rdStop_frame .off
    rw [stop]
    exact ⟨compute, state, rfl, rfl, rfl, rfl, by rw [reset]; rfl, by rw [reset]; rfl⟩
  case loss => exact ⟨_, rfl, rfl, rfl, rfl, rfl, rfl, rfl, rfl⟩
  case early => exact exec_strapSample_early on due small early
  case same =>
    rw [exec_strapSample_last on due small last, if_pos (by simpa using same)]
    rfl
  case differ =>
    obtain ⟨x, mem, ne⟩ := differ
    rw [exec_strapSample_last on due small last, if_neg (by simpa using ⟨x, mem, ne⟩)]
    exact ⟨_, rfl, rfl, rfl, fun room => FaultQueue.offered_recs room ..⟩

/-! ### The stored objects as read (R364) -/

/-- A reading of the stored objects returns those of the first good copy, else none, and leaves the runtime list's copies. -/
theorem Flash.readObjs_spec (x : Flash) (r : FlashRead) : (x.readObjs r).1.stored = (Claims.objsRead x r).getD [] ∧
    (x.readObjs r).1.repair = x.repair ∧ (x.readObjs r).1.repair2 = x.repair2 := by
  unfold Flash.readObjs Claims.objsRead
  by_cases first : (r.objs.getD x.objs).good
  · simp [first, Flash.stored]
  · by_cases second : (r.objs2.getD x.objs2).good
    · simp [first, second, Flash.stored]
    · simp [first, second, Flash.stored, Flash.writeObjs_eq, ObjsCopy.of]

/-- The list read does not depend on the copies of the stored objects. -/
theorem Claims.listRead_congr {x y : Flash} (repair : y.repair = x.repair) (repair2 : y.repair2 = x.repair2) (r : FlashRead) :
    Claims.listRead y r = Claims.listRead x r := by
  rw [Claims.listRead, Claims.listRead, repair, repair2]

/-- The state with the stored objects read, before the map is rebuilt. -/
def State.objsTaken (s : State) (r : FlashRead) (n : Nat) (q : FaultQueue) : State :=
  { s with flash := (s.flash.readObjs r).1, faultCount := n, sdFaults := q, fw := { Firmware.reset with dict := (s.flash.readObjs r).1.stored },
           wh := { s.wh with changed := true } }

theorem State.readFlash_eq (s : State) (r : FlashRead) : ∃ n q, s.readFlash r = (s.objsTaken r n q).rebuildMap r ∧
    ((Claims.objsRead s.flash r).isSome = true → n = s.faultCount) := by
  unfold State.readFlash
  cases failed : (s.flash.readObjs r).2 with
  | true =>
    refine ⟨(s.faultCount + 1) % 2 ^ 32, s.sdFaults.offered 73 s.tstamp (plainFault 0x5277 0 0 0), ?_, fun good => ?_⟩
    · simp only [failed, if_true]
      rfl
    · rw [Flash.readObjs_good good] at failed
      cases failed
  | false =>
    refine ⟨s.faultCount, s.sdFaults, ?_, fun _ => rfl⟩
    simp only [failed, Bool.false_eq_true, if_false]
    rfl

/-- Step 4 takes up the stored objects and the map, as the good copies of flash have them. -/
theorem State.readFlash_spec (s : State) (r : FlashRead) : (s.readFlash r).fw.dict = (Claims.objsRead s.flash r).getD [] ∧
    (s.readFlash r).flash.stored = (Claims.objsRead s.flash r).getD [] ∧ (s.readFlash r).flash.list = (Claims.listRead s.flash r).getD [] ∧
    (s.readFlash r).fw.map = (s.readFlash r).flash.list.foldl mapAdd [] ∧ (s.readFlash r).fw.wq = [] ∧ (s.readFlash r).sd = s.sd ∧
    (∃ b, (s.readFlash r).wh = { s.wh with changed := b }) ∧
    ((Claims.objsRead s.flash r).isSome = true → (Claims.listRead s.flash r).isSome = true → (s.readFlash r).faultCount = s.faultCount) := by
  obtain ⟨n, q, taken, count⟩ := s.readFlash_eq r
  obtain ⟨stored, repair, repair2⟩ := s.flash.readObjs_spec r
  have read : Claims.listRead (s.objsTaken r n q).flash r = Claims.listRead s.flash r := Claims.listRead_congr repair repair2 r
  obtain ⟨list, objs, -⟩ := (s.objsTaken r n q).flash.readRepair_spec r
  obtain ⟨n', q', map, count'⟩ := (s.objsTaken r n q).rebuildMap_spec r
  rw [read] at list map count'
  rw [taken, map]
  refine ⟨stored, (congrArg ObjsCopy.objs objs).trans stored, list, congrArg (List.foldl mapAdd []) list.symm, rfl, rfl, ⟨true, rfl⟩, fun good listed => ?_⟩
  rw [if_neg (Option.isSome_iff_ne_none.mp listed)] at count'
  exact count'.trans (count good)

/-! ### The Wellheads' boots (R422, R534) -/

/-- The state with Wellhead A's boot ended. -/
def State.bootedA (s : State) (code : List Byte) (crc : Nat) : State :=
  { s with wh := { s.wh with a := { s.wh.a with
    booting := false, up := decide (crc32 code = crc), failed := !decide (crc32 code = crc), lastBeat := s.sd.vtime } } }

/-- In step 2 a Wellhead that boots is up if its image has the CRC-32 it carries, and has failed otherwise. -/
theorem exec_wellheadBootComplete_a {s : State} (code : List Byte) (crc : Nat) (x : FlashRead) (step : s.sd.step = .at 2) (booting : s.wh.a.booting = true) :
    exec (.wellheadBootComplete 0 code crc x) s = .next ((s.bootedA code crc).bootsDone x) := by
  simp [exec, execWellheadBootComplete, step, State.wellhead, State.modWell, booting, Image.good, State.bootedA]

/-- Step 4 waits for the other Wellhead. -/
theorem State.bootsDone_waits {s : State} (x : FlashRead) (booting : s.wh.b.booting = true) : s.bootsDone x = s := by
  simp [State.bootsDone, booting]

/-- The state with Wellhead A active. -/
def State.aActive (s : State) : State :=
  { s with wh := { s.wh with active := 0, standbyOk := s.wh.b.up, bothDownAt := none, lastAck := s.sd.vtime } }

/-- With Wellhead A up and none failed it is the active one, step 4 reads flash, and step 5 follows. -/
theorem State.bootsDone_up {s : State} (x : FlashRead) (doneA : s.wh.a.booting = false) (doneB : s.wh.b.booting = false) (up : s.wh.a.up = true)
    (fineA : s.wh.a.failed = false) (fineB : s.wh.b.failed = false) : s.bootsDone x = (s.aActive.readFlash x).toStep 5 := by
  simp [State.bootsDone, doneA, doneB, up, State.wellhead, fineA, fineB, State.aActive]

/-! ### The regulators (R422, R424, R433) -/

/-- The engine enters START_FAILED. -/
theorem State.failStart_frame (s : State) (step cause : Nat) : ∃ r fl, s.failStart step cause = { s with
    sd := { s.sd with step := .failed step cause, cdRamps := r }, fields := fl } := ⟨_, _, rfl⟩

/-- A regulator reports a fault, or another format than LINEAR16. -/
def VrDevice.bad (d : VrDevice) : Bool := d.fault || !d.linear

/-- The rails of the regulators found. -/
def railsFound (devs : List VrDevice) (now : Nat) : Tab Rail :=
  (devs.filter VrDevice.linear).foldl (fun t d => d.rails.foldl (fun t r => Tab.insert t r { pout := 0, at' := now, fault := d.fault }) t) []

/-- The state with the regulators identified. -/
def State.scanned (s : State) (devs : List VrDevice) : State :=
  { s with power := { s.power with vrFound := (devs.filter VrDevice.linear).length, rails := railsFound devs s.tstamp },
           pmbOut := s.pmbOut ++ devs.flatMap VrDevice.cmds }

/-- The SD is operational from now on; at the first time NMT boots up. -/
def State.sdUp (s : State) : State :=
  let t := s.modSd (fun d => { d with operational := true, step6 := true })
  if s.sd.operational then t else t.nmtBootUp

theorem State.sdUp_frame (s : State) : ∃ c o, s.sdUp = { s with sd := { s.sd with operational := true, step6 := true }, can := c, canOut := o } := by
  unfold State.sdUp
  dsimp only
  split
  · exact ⟨_, _, rfl⟩
  · obtain ⟨c, o, is⟩ := (s.modSd (fun d => { d with operational := true, step6 := true })).nmtBootUp_frame
    exact ⟨c, o, is⟩

section
variable {s : State} {devs : List VrDevice} (exist : ∀ d ∈ devs, d.dev < 32) (step : s.sd.step = .at 5) (samples : 8 ≤ s.sd.samples.length)
  (runs : s.frozen = false)
include exist step samples runs

/-- Step 5 ends: the RD's start begins, or the start has failed. -/
theorem exec_pmbusScanComplete (missing : Bool) : exec (.pmbusScanComplete devs missing) s = .next (
    if missing || devs.any VrDevice.bad then (((s.scanned devs).engineFault 0x5273 0).sdUp).failStart 5 0x5273 else ((s.scanned devs).sdUp).rdStart) := by
  have named : devs.any (fun d => decide (32 ≤ d.dev)) = false := by simpa using exist
  have begun : ¬ (s.sd.step ≠ .at 5 ∨ s.sd.samples.length < 8 ∨ s.frozen = true) := by simp [step, runs, samples]
  have shown : devs.any VrDevice.bad = devs.any (fun d => d.fault || !d.linear) := rfl
  change execPmbusScanComplete devs missing s = _
  unfold execPmbusScanComplete
  rw [named, if_neg Bool.false_ne_true, if_neg begun, shown]
  cases missing || devs.any (fun d => d.fault || !d.linear) <;> rfl

end

/-! ### Steps that overrun (R422, R424) -/

section
variable {s : State} (x : FlashRead)

/-- The PLL's lock is tried again. -/
theorem exec_overrun_pll (step : s.sd.step = .at 1) (unlocked : s.sd.lockAt = none) (late : s.sd.stepAt + 1000000 ≤ s.sd.vtime) :
    exec (.startStepTimeout { step := 1, flash := x }) s = .next { s with
      sd := { s.sd with step := .at 1, stepAt := s.sd.vtime, lockAt := lockMoment s.sd.vtime (Config.pllLock s.free) }, free := s.free + 1 } := by
  simp [exec, execStartStepTimeout, step, unlocked, late, State.toStep, State.modSd]

/-- The state with both Wellheads' boots failed. -/
def State.bootsFailed (s : State) : State :=
  { s with wh := { s.wh with a := { s.wh.a with booting := false, failed := true }, b := { s.wh.b with booting := false, failed := true } } }

/-- Wellheads that still boot have failed. -/
theorem exec_overrun_boots (step : s.sd.step = .at 2) (late : s.sd.stepAt + 6000000 ≤ s.sd.vtime) (bootA : s.wh.a.booting = true) (bootB : s.wh.b.booting = true) :
    exec (.startStepTimeout { step := 2, flash := x }) s = .next (s.bootsFailed.bootsDone x) := by
  simp [exec, execStartStepTimeout, step, late, bootA, bootB, State.bootsFailed]

/-- With neither Wellhead up both are restarted later. -/
theorem State.bootsDone_down (doneA : s.wh.a.booting = false) (doneB : s.wh.b.booting = false) (downA : s.wh.a.up = false) (downB : s.wh.b.up = false) :
    s.bootsDone x = { s with wh := { s.wh with bothDownAt := some s.sd.vtime } } := by
  simp [State.bootsDone, doneA, doneB, downA, downB]

/-- The regulators count as missing. -/
theorem exec_overrun_scan (step : s.sd.step = .at 5) (late : s.sd.stepAt + 2000000 ≤ s.sd.vtime) (samples : 8 ≤ s.sd.samples.length) (runs : s.frozen = false) :
    exec (.startStepTimeout { step := 5, flash := x }) s = .next (((s.engineFault 0x5273 0).sdUp).failStart 5 0x5273) := by
  simp [exec, execStartStepTimeout, step, late, samples, runs]
  rfl

/-- The RD's start has failed. -/
theorem exec_overrun_rd (starting : s.rd.state = .starting) (late : s.sd.stepAt + 2000000 ≤ s.sd.vtime) :
    exec (.startStepTimeout { step := 7, flash := x }) s = .next s.rdFailed := by
  simp [exec, execStartStepTimeout, starting, late]

theorem exec_rdStartComplete_failed (starting : s.rd.state = .starting) : exec (.rdStartComplete false) s = .next s.rdFailed := by
  simp [exec, execRdStartComplete, starting]

end

/-- Settles the second part of O44: the steps of a cold start. -/
theorem coldStartSteps_claim : Claims.ColdStartSteps := by
  intro s
  refine ⟨fun code crc x step bootA bootB => ?first, fun code crc x step bootA doneB fineB good => ?up, fun devs step samples runs exist => ⟨fun fine => ?scan, fun missing bad => ?noScan⟩,
    fun x step unlocked late => ?pll, fun x step late bootA bootB downA downB => ?boots, fun x step late samples runs => ?overrun, fun starting cmd is => ?rd⟩
  case first =>
    rw [exec_wellheadBootComplete_a code crc x step bootA, State.bootsDone_waits (s := s.bootedA code crc) x bootB]
    rfl
  case up =>
    have fineA : (s.bootedA code crc).wh.a.failed = false := by simp [State.bootedA, good]
    rw [exec_wellheadBootComplete_a code crc x step bootA,
      State.bootsDone_up (s := s.bootedA code crc) x rfl doneB (decide_eq_true good) fineA fineB]
    obtain ⟨dict, stored, list, map, wq, sd, ⟨b, wh⟩, count⟩ := (s.bootedA code crc).aActive.readFlash_spec x
    exact ⟨_, rfl, (congrArg WellPair.active wh :), (congrArg WellPair.standbyOk wh :), dict, stored.trans dict.symm, list, map, wq,
      congrArg (fun d : ServiceDomain => { d with step := .at 5, stepAt := d.vtime }) sd, count⟩
  case scan =>
    have linear : devs.filter VrDevice.linear = devs := List.filter_eq_self.mpr fun d mem => decide_eq_true (fine d mem).2
    have good : (false || devs.any VrDevice.bad) = false := by
      simpa [VrDevice.bad, VrDevice.linear] using fine
    obtain ⟨c, o, up⟩ := (s.scanned devs).sdUp_frame
    refine ⟨_, by rw [exec_pmbusScanComplete exist step samples runs, good], ?_⟩
    rw [if_neg Bool.false_ne_true, up]
    exact ⟨rfl, rfl, congrArg List.length linear, rfl, rfl⟩
  case noScan =>
    have fails : (missing || devs.any VrDevice.bad) = true := by
      simpa [VrDevice.bad, VrDevice.linear] using bad
    obtain ⟨c, o, up⟩ := ((s.scanned devs).engineFault 0x5273 0).sdUp_frame
    refine ⟨_, by rw [exec_pmbusScanComplete exist step samples runs, fails], ?_⟩
    rw [if_pos rfl, up]
    exact ⟨rfl, rfl, rfl⟩
  case pll =>
    exact ⟨_, exec_overrun_pll x step unlocked late, fun m locks => lockMoment_le locks⟩
  case boots =>
    rw [exec_overrun_boots x step late bootA bootB, State.bootsDone_down (s := s.bootsFailed) x rfl rfl downA downB]
    rfl
  case overrun =>
    obtain ⟨c, o, up⟩ := (s.engineFault 0x5273 0).sdUp_frame
    refine ⟨_, exec_overrun_scan x step late samples runs, ?_⟩
    rw [up]
    exact ⟨rfl, rfl⟩
  case rd =>
    have run : exec cmd s = .next s.rdFailed := by
      obtain rfl | ⟨⟨x, rfl⟩, late⟩ := is
      · exact exec_rdStartComplete_failed starting
      · exact exec_overrun_rd x starting late
    rw [run]
    refine ⟨fun first => ?_, fun again => ?_⟩
    · rw [State.rdFailed, if_pos first]
      rfl
    · rw [State.rdFailed, if_neg again]
      exact ⟨_, rfl, rfl, rfl, rfl⟩

/-- Settles O44: power-on and the straps, and the steps of a cold start. -/
theorem coldStart : Obligations.ColdStart := ⟨powerOnAndStraps_claim, coldStartSteps_claim⟩

end Sys2Proof.Machine
end

section
/-! PROOFS. The RD, the MDs and the CDs start, or fail to (R37, R44, R60, R262, R292, R411, R417, R420, R422, R481). -/

namespace Sys2Proof.Machine

/-! ### Sluice ports trained at the RD's start (R262) -/

theorem State.portTrain_frame {s : State} {p : Nat} (down : (s.sl p).state ≠ .up) : ∃ x o, s.portTrain p = { s with sluice := x, linkOut := o } := by
  have bare : ∀ t : State, ∃ x o, t.sendBare p 3 0 = { t with sluice := x, linkOut := o } := fun _ => ⟨_, _, rfl⟩
  unfold State.portTrain
  rw [if_neg down]
  obtain ⟨x, o, is⟩ := bare ((s.modSl p (fun y => { y with state := .train, since := s.tstamp })).modSl p (fun y => { y with txSeq := 0, rxSeq := 0, owed := [0, 0, 0] }))
  exact ⟨x, o, is⟩

/-- Of ports of which none is UP those with EN in PORT_CTRL train; the RD and its peers are as they were. -/
theorem State.trainEnabled_spec (l : List Nat) {s : State} (down : ∀ q, (s.sl q).state ≠ .up) :
    (∃ x o, l.foldl (fun s p => if bit (s.portCtrl p) 0 then s.portTrain p else s) s = { s with sluice := x, linkOut := o }) ∧
    ∀ q, ((l.foldl (fun s p => if bit (s.portCtrl p) 0 then s.portTrain p else s) s).sl q).state =
      if q ∈ l ∧ bit (s.portCtrl q) 0 = true then .train else (s.sl q).state := by
  induction l generalizing s with
  | nil => exact ⟨⟨_, _, rfl⟩, fun q => by simp⟩
  | cons p l ih =>
    rw [List.foldl_cons]
    split
    · next en =>
      obtain ⟨x, o, one⟩ := State.portTrain_frame (down p)
      obtain ⟨train, -, others⟩ := State.portTrain_down (down p)
      have states : ∀ q, ((s.portTrain p).sl q).state = if q = p then .train else (s.sl q).state := fun q => by
        split
        · next here => rw [here, train]
        · next other => rw [others q other]
      have ctrl : ∀ q, (s.portTrain p).portCtrl q = s.portCtrl q := fun q => by
        rw [one]
        rfl
      obtain ⟨⟨x', o', rest⟩, result⟩ := ih (s := s.portTrain p) fun q => by
        rw [states]
        split
        · decide
        · exact down q
      refine ⟨⟨x', o', by rw [rest, one]⟩, fun q => ?_⟩
      rw [result, states, ctrl]
      by_cases here : q = p
      · subst here
        simp [en]
      · simp [here]
    · next en =>
      obtain ⟨frame, result⟩ := ih down
      refine ⟨frame, fun q => (result q).trans ?_⟩
      by_cases here : q = p
      · subst here
        simp [en]
      · simp [here]

/-- The sync state follows without a change to the rest of the RD's registers. -/
theorem State.syncRefresh_frame (s : State) : ∃ r, s.syncRefresh = { s with rd := r } ∧ r.state = s.rd.state ∧ r.route = s.rd.route ∧ r.energy = s.rd.energy := by
  unfold State.syncRefresh
  dsimp only
  split
  · exact ⟨_, rfl, rfl, rfl, rfl⟩
  · split
    · exact ⟨_, rfl, rfl, rfl, rfl⟩
    · exact ⟨_, rfl, rfl, rfl, rfl⟩

/-! ### The RD's start (R262, R292, R432, R446, R457, R520) -/

/-- The port of a PCIe host as it comes up. -/
def State.portStart (s : State) (p : Nat) : State := (s.modPort p (fun x => x.rdStart s.tstamp)).dropMailbox p

/-- The ports as they come up, their mailboxes' requests dropped: only ports and the writes in flight change. -/
theorem State.portStarts_spec (l : List Nat) (s : State) :
    (∃ x w h, l.foldl State.portStart s = { s with ports := x, fw := { s.fw with wq := w }, wh := h }) ∧
    ∀ q, (l.foldl State.portStart s).port q = if q ∈ l then (s.port q).rdStart s.tstamp else s.port q := by
  induction l generalizing s with
  | nil => exact ⟨⟨_, _, _, rfl⟩, fun q => by simp⟩
  | cons p l ih =>
    have one : ∀ q, (s.portStart p).port q = if q = p then (s.port p).rdStart s.tstamp else s.port q := fun q => by
      rw [State.portStart, State.port_dropMailbox, State.port_modPort]
    have now : (s.portStart p).tstamp = s.tstamp := rfl
    obtain ⟨⟨x, w, h, frame⟩, ports⟩ := ih (s.portStart p)
    refine ⟨⟨x, w, h, frame⟩, fun q => ?_⟩
    rw [List.foldl_cons, ports, one, now]
    by_cases here : q = p
    · subst here
      simp [Port.rdStart]
    · simp [here]

/-- Marks and hints of a partition are gone. -/
theorem State.dropMarks_frame (l : List Nat) (s : State) :
    ∃ ps, l.foldl (fun s p => if (s.part p).enabled then s.modPart p (fun x => { x with marks := [], hints := [] }) else s) s = { s with parts := ps } := by
  refine List.foldlRecOn (motive := fun t : State => ∃ ps, t = { s with parts := ps }) l _ ⟨s.parts, rfl⟩ fun t held p _ => ?_
  obtain ⟨_, rfl⟩ := held
  split
  · exact ⟨_, rfl⟩
  · exact ⟨_, rfl⟩

/-- The RD ON with its registers at zero, before its ports start. -/
def State.rdFresh (s : State) : State :=
  let locks := (upTo 16).foldl (fun t p => Tab.write t FreqLock.reset p { FreqLock.reset with lastCmd := s.tstamp }) []
  { s with rd := { RingDomain.reset with state := .on, locks := locks, ownId := s.setting 0x2601 1, master := s.setting 0x2601 2 }, sluice := [] }

theorem State.rdStarted_eq (s : State) : s.rdStarted = ((upTo 12).foldl (fun s p => if bit (s.portCtrl p) 0 then s.portTrain p else s)
    ((upTo 16).foldl (fun s p => if (s.part p).enabled then s.modPart p (fun x => { x with marks := [], hints := [] }) else s)
      ((upTo 4).foldl State.portStart s.rdFresh))).syncRefresh := rfl

/-- The RD's start leaves it ON, its routes and energy at zero, its PCIe ports up where PERST_N is high, and its Sluice ports with EN in TRAIN. -/
theorem State.rdStarted_spec (s : State) : (∃ ps x sl o r w h, s.rdStarted = { s with
      parts := ps, ports := x, sluice := sl, linkOut := o, rd := r, fw := { s.fw with wq := w }, wh := h }) ∧
    s.rdStarted.rd.state = .on ∧ s.rdStarted.rd.route = [] ∧ s.rdStarted.rd.energy = [] ∧
    (∀ p, p < 4 → s.rdStarted.port p = (s.port p).rdStart s.tstamp) ∧
    ∀ p, p < 12 → (s.rdStarted.sl p).state = if bit (s.portCtrl p) 0 = true then .train else .off := by
  rw [s.rdStarted_eq]
  generalize hu : (upTo 4).foldl State.portStart s.rdFresh = u
  obtain ⟨⟨x, w, h, started⟩, ports⟩ := State.portStarts_spec (upTo 4) s.rdFresh
  rw [hu] at started ports
  obtain ⟨ps, marks⟩ := State.dropMarks_frame (upTo 16) u
  rw [marks]
  generalize hv : ({ u with parts := ps } : State) = v
  have down : ∀ q, (v.sl q).state = .off := fun q => by
    rw [← hv, started]
    rfl
  obtain ⟨⟨sl, o, train⟩, states⟩ := State.trainEnabled_spec (upTo 12) (s := v) fun q => by rw [down]; decide
  generalize hz : (upTo 12).foldl (fun s p => if bit (s.portCtrl p) 0 then s.portTrain p else s) v = z at train states
  obtain ⟨r, sync, state, route, energy⟩ := z.syncRefresh_frame
  have rd : z.rd = s.rdFresh.rd := by rw [train, ← hv, started]
  rw [sync]
  refine ⟨⟨ps, x, sl, o, r, w, h, by rw [train, ← hv, started]; rfl⟩, ?_, ?_, ?_, fun p small => ?_, fun p small => ?_⟩
  · exact state.trans (by rw [rd]; rfl)
  · exact route.trans (by rw [rd]; rfl)
  · exact energy.trans (by rw [rd]; rfl)
  · have same : z.ports = u.ports := by rw [train, ← hv]
    change Tab.read z.ports Port.reset p = _
    rw [same]
    exact (ports p).trans (if_pos (mem_upTo.mpr small))
  · have ctrl : v.portCtrl p = s.portCtrl p := by
      rw [← hv, started]
      rfl
    refine (states p).trans ?_
    rw [down, ctrl]
    simp [small]

/-! ### The fields' starts (R417, R422, R426) -/

@[simp] theorem State.field_mdStart (s : State) (f t tries g : Nat) : (s.mdStart f t tries).field g =
    if g = f then { s.field f with clk := { (s.field f).clk with md := .starting, startAt := t, mdTries := tries } } else s.field g := State.field_modClk ..

/-- Every field of some begins its MD's start at its time. -/
theorem State.field_mdStarts (l : List Nat) (s : State) (T : Nat → Nat) (f : Nat) : (l.foldl (fun s f => s.mdStart f (T f) 0) s).field f =
    if f ∈ l then { s.field f with clk := { (s.field f).clk with md := .starting, startAt := T f, mdTries := 0 } } else s.field f := by
  induction l generalizing s with
  | nil => simp
  | cons g l ih =>
    rw [List.foldl_cons, ih, State.field_mdStart]
    by_cases here : f = g
    · subst here
      simp
    · simp [here]

/-- The moment the first row of fields may start: half a millisecond after the last ramp. -/
theorem le_afterRamps (l : List Nat) (now : Nat) : now ≤ l.foldl (fun m t => max m (t + 50000)) now :=
  List.foldlRecOn (motive := fun m => now ≤ m) l _ (Nat.le_refl _) fun _ held _ _ => Nat.le_trans held (Nat.le_max_left ..)

/-- With nothing in the way every MD begins its start (R417, R422). -/
theorem State.startFields_starts {s : State} (free : s.startBlocked = false) : Claims.fieldsStart s s.startFields := by
  have is : s.startFields = (upTo nFields).foldl (fun s' f => s'.mdStart f ((recentRamps s.sd.mdRamps s.tstamp).foldl (fun m t => max m (t + 50000)) s.tstamp +
      f / 9 * 50000) 0) s := by
    unfold State.startFields
    rw [if_neg (by simp [free])]
  have field : ∀ f, f < 72 → s.startFields.field f = _ := fun f small => by
    rw [is, State.field_mdStarts, if_pos (show f ∈ upTo nFields from mem_upTo.mpr small)]
  refine ⟨fun f small => ?_, fun quiet f small => ?_⟩
  · rw [field f small]
    exact ⟨rfl, Nat.le_trans (le_afterRamps ..) (Nat.le_add_right ..)⟩
  · have none : recentRamps s.sd.mdRamps s.tstamp = [] := List.filter_eq_nil_iff.mpr fun m mem => by simpa using quiet m mem
    rw [field f small, none]
    rfl

/-- The start of the RD ends well: the fields start from the RD's state. -/
def State.rdUp (s : State) : State := (s.rdStarted.sensorsOn 144).toStep 8

theorem exec_rdStartComplete {s : State} (starting : s.rd.state = .starting) : exec (.rdStartComplete true) s = .next s.rdUp.startFields := by
  simp only [exec, execRdStartComplete, starting, ne_eq, not_true_eq_false, if_false, if_true]
  rfl

/-- The RD, its ports and the fields after the RD's start. -/
theorem State.rdUp_spec {s : State} (trip : s.sd.tripLatched = false) (flow : s.sd.flowStop = false) (rails : s.sd.vrStop = false)
    (button : s.sd.button.state = 0) (clock : s.sd.refclkOk = true) :
    s.rdUp.startFields.rd = s.rdStarted.rd ∧ s.rdUp.startFields.ports = s.rdStarted.ports ∧ s.rdUp.startFields.sluice = s.rdStarted.sluice ∧
      Claims.sdIs s.rdUp.startFields { s.sd with step := .at 8, stepAt := s.sd.vtime } ∧ Claims.fieldsStart s s.rdUp.startFields := by
  obtain ⟨⟨ps, x, sl, o, r, w, h, is⟩, on, -⟩ := s.rdStarted_spec
  have up : s.rdUp = { s.rdStarted.sensorsOn 144 with sd := { s.sd with step := .at 8, stepAt := s.sd.vtime } } := by
    rw [State.rdUp, is]
    rfl
  have free : s.rdUp.startBlocked = false := by
    rw [up]
    simp [State.startBlocked, trip, flow, rails, button, clock, State.sensorsOn, on]
  have starts := State.startFields_starts free
  have now : s.rdUp.tstamp = s.tstamp ∧ s.rdUp.sd.mdRamps = s.sd.mdRamps := by
    rw [up, is]
    exact ⟨rfl, rfl⟩
  rw [Claims.fieldsStart, now.1, now.2] at starts
  obtain ⟨l, fl, frame⟩ := s.rdUp.startFields_frame
  refine ⟨?_, ?_, ?_, ?_, starts⟩
  · rw [frame, up]
    rfl
  · rw [frame, up]
    rfl
  · rw [frame, up]
    rfl
  · rw [frame, up]
    rfl

@[simp] theorem State.field_report_sd (s : State) (r : FaultRec) (f : Nat) : (s.report 73 r).field f = s.field f := rfl

/-! ### MD starts (R60, R411, R417, R422) -/

/-- A CD start with its MD ON changes the field's clocks alone. -/
theorem State.field_cdStart_off {s : State} {f : Nat} (md : (s.field f).clk.md = .on) (cd : (s.field f).clk.cd = .off) :
    ∃ t, (s.cdStart f).field f = { s.field f with clk := { (s.field f).clk with cd := .starting, cdAt := some t } } := by
  refine ⟨rampAt (recentRamps s.sd.cdRamps s.tstamp) s.tstamp, ?_⟩
  unfold State.cdStart
  dsimp only
  rw [if_pos ⟨md, cd⟩, State.field_modClk, if_pos rfl]
  rfl

/-- The checks of a cold start's last steps change its step alone. -/
theorem State.startCheck_frame (s : State) : ∃ d, s.startCheck = { s with sd := d } := by
  unfold State.startCheck
  dsimp only
  split
  · split <;> exact ⟨_, rfl⟩
  · split <;> exact ⟨_, rfl⟩

@[simp] theorem State.field_startCheck (s : State) (f : Nat) : s.startCheck.field f = s.field f := by
  obtain ⟨d, is⟩ := s.startCheck_frame
  rw [is]
  rfl
@[simp] theorem State.core_startCheck (s : State) (c : Nat) : s.startCheck.core c = s.core c := by
  obtain ⟨d, is⟩ := s.startCheck_frame
  rw [is]
  rfl
@[simp] theorem State.startCheck_cores (s : State) : s.startCheck.cores = s.cores := by
  obtain ⟨d, is⟩ := s.startCheck_frame
  rw [is]
@[simp] theorem State.startCheck_faultCount (s : State) : s.startCheck.faultCount = s.faultCount := by
  obtain ⟨d, is⟩ := s.startCheck_frame
  rw [is]

/-- The field with its MD just ON. -/
def Field.mdUp (x : Field) : Field := { x.mdLost with clk := { x.clk.mdReset .on with startAt := x.clk.startAt } }

/-- The state with a field's MD just ON. -/
def State.mdUp (s : State) (f : Nat) : State := (s.modField f Field.mdUp).sensorsOn (72 + f)

theorem State.field_mdUp (s : State) (f g : Nat) : (s.mdUp f).field g = if g = f then (s.field f).mdUp else s.field g := s.field_modField f g Field.mdUp

/-- The CD of the field is to follow. -/
def State.cdFollows (s : State) (f : Nat) : Prop := s.startFailed = false ∧ (s.sd.coldCds = true ∨ (s.partOf f).isSome = true ∨ (s.field f).clk.restart = true)

section
variable {s : State} {f : Nat} (small : f < 72) (starting : (s.field f).clk.md = .starting) (due : (s.field f).clk.startAt ≤ s.tstamp)
include small starting due

theorem exec_mdStartComplete (follows : s.cdFollows f) : exec (.mdStartComplete f true) s = .next ((s.mdUp f).cdStart f).startCheck := by
  have follows' : !s.startFailed ∧ (s.sd.coldCds ∨ (s.partOf f).isSome ∨ (s.field f).clk.restart) := by simpa [State.cdFollows] using follows
  have begun : ¬ ((s.field f).clk.md ≠ .starting ∨ s.tstamp < (s.field f).clk.startAt) := by simp [starting, due]
  change execMdStartComplete f true s = _
  unfold execMdStartComplete onField
  rw [if_pos (show f < nFields from small)]
  dsimp only
  rw [if_neg begun, if_pos follows']
  rfl

theorem exec_mdStartComplete_alone (alone : ¬ s.cdFollows f) : exec (.mdStartComplete f true) s = .next (s.mdUp f).startCheck := by
  have alone' : ¬ (!s.startFailed ∧ (s.sd.coldCds ∨ (s.partOf f).isSome ∨ (s.field f).clk.restart)) := by simpa [State.cdFollows] using alone
  have begun : ¬ ((s.field f).clk.md ≠ .starting ∨ s.tstamp < (s.field f).clk.startAt) := by simp [starting, due]
  change execMdStartComplete f true s = _
  unfold execMdStartComplete onField
  rw [if_pos (show f < nFields from small)]
  dsimp only
  rw [if_neg begun, if_neg alone']
  rfl

theorem exec_mdStartComplete_failed : exec (.mdStartComplete f false) s = .next (s.mdFailed f) := by
  have begun : ¬ ((s.field f).clk.md ≠ .starting ∨ s.tstamp < (s.field f).clk.startAt) := by simp [starting, due]
  change execMdStartComplete f false s = _
  unfold execMdStartComplete onField
  rw [if_pos (show f < nFields from small)]
  dsimp only
  rw [if_neg begun]
  rfl

end

/-- A ramp is planned for now at the earliest (R417). -/
theorem le_rampAt (l : List Nat) (now : Nat) : now ≤ rampAt l now := by
  have from_now : ∀ t ∈ now :: (l.map (fun x => x + 50000)).filter (fun t => decide (now ≤ t)), now ≤ t := fun t mem => by
    obtain rfl | ⟨-, le⟩ := by simpa using mem
    · exact Nat.le_refl _
    · exact le
  unfold rampAt
  dsimp only
  refine List.foldlRecOn (motive := fun m => now ≤ m) _ _ ?_ fun m held t mem => Nat.le_min.mpr ⟨held, from_now t (List.mem_of_mem_filter mem)⟩
  exact List.foldlRecOn (motive := fun m => now ≤ m) _ _ (Nat.le_refl _) fun m held t _ => Nat.le_trans held (Nat.le_max_left ..)

/-- The first failure of an MD's start is retried. -/
theorem State.mdFailed_first {s : State} {f : Nat} (first : (s.field f).clk.mdTries = 0) :
    s.mdFailed f = s.mdStart f (rampAt (recentRamps s.sd.mdRamps s.tstamp) s.tstamp) 1 := if_pos first

/-- The second is its last: the MD is OFF, and the engine START_FAILED at step 8. -/
theorem State.mdFailed_again {s : State} {f : Nat} (again : (s.field f).clk.mdTries ≠ 0) :
    s.mdFailed f = ((s.modClk f (fun k => { k with md := .off })).report 73 (plainFault 0x5275 2 f 0)).failStart 8 0x5275 := if_neg again

/-- A field whose CD's ramp has not begun at TSTAMP `now` starts it no more (R424). -/
def Field.notBegun (x : Field) (now : Nat) : Field :=
  match x.clk.cdAt with
  | some t => if x.clk.cd = .starting ∧ now < t then { x with clk := { x.clk with cd := .off, cdAt := none } } else x
  | none => x

@[simp] theorem Field.notBegun_md (x : Field) (now : Nat) : (x.notBegun now).clk.md = x.clk.md := by
  unfold Field.notBegun
  split
  · split <;> rfl
  · rfl

theorem State.failStart_fields (s : State) (step cause : Nat) : (s.failStart step cause).fields = s.fields.map (fun e => (e.1, e.2.notBegun s.tstamp)) := by
  refine List.map_congr_left fun e _ => ?_
  unfold Field.notBegun
  cases e.2.clk.cdAt with
  | none => rfl
  | some t =>
    dsimp only
    split <;> rfl

/-- START_FAILED leaves each field's MD as it is. -/
theorem State.failStart_md (s : State) (step cause f : Nat) : ((s.failStart step cause).field f).clk.md = (s.field f).clk.md := by
  have read := Tab.read_map s.fields Field.reset (fun _ x => x.notBegun s.tstamp) f
  rw [State.field, State.failStart_fields, read]
  split
  · exact Field.notBegun_md ..
  · next none => rw [State.field, Tab.read_of_not_mem none]

/-! ### CD starts (R37, R44, R420, R422, R481) -/

/-- A field's cores are told apart by their local index, and lie in it. -/
theorem fieldOf_coreId {f li : Nat} (small : li < 1280) : fieldOf (coreId f li) = f := by
  unfold fieldOf coreId
  omega

theorem coreId_inj {f i j : Nat} : coreId f i = coreId f j ↔ i = j := by
  unfold coreId
  omega

/-- A core as it is released (R44, R134, R481). -/
def Core.released (k : Core) (det : Bool) : Core := { Core.reset with run := .idle, autoAdd := k.autoAdd, csr := { Csrs.reset with det := det } }

/-- Cores of a field are released one after another. -/
def State.releaseCore1 (f : Nat) (s : State) (li : Nat) : State :=
  { s with cores := Tab.insert s.cores (coreId f li) ((s.core (coreId f li)).released s.detMode) }

theorem State.releaseCores_eq (s : State) (f : Nat) : s.releaseCores f = (upTo 1280).foldl (State.releaseCore1 f) s := rfl

theorem State.release_spec (l : List Nat) (s : State) (f : Nat) : (∃ c, l.foldl (State.releaseCore1 f) s = { s with cores := c }) ∧
    (∀ c, (∀ li ∈ l, c ≠ coreId f li) → (l.foldl (State.releaseCore1 f) s).core c = s.core c) ∧
    ∀ li ∈ l, (l.foldl (State.releaseCore1 f) s).core (coreId f li) = (s.core (coreId f li)).released s.detMode := by
  induction l generalizing s with
  | nil => exact ⟨⟨_, rfl⟩, fun _ _ => rfl, fun _ mem => absurd mem List.not_mem_nil⟩
  | cons i l ih =>
    have one : ∀ c, (State.releaseCore1 f s i).core c = if c = coreId f i then (s.core (coreId f i)).released s.detMode else s.core c :=
      fun c => Tab.read_insert ..
    have det : (State.releaseCore1 f s i).detMode = s.detMode := rfl
    obtain ⟨⟨c, frame⟩, others, released⟩ := ih (State.releaseCore1 f s i)
    refine ⟨⟨c, frame⟩, fun c other => ?_, fun li mem => ?_⟩
    · rw [List.foldl_cons, others c fun li mem => other li (List.mem_cons_of_mem _ mem), one, if_neg (other i List.mem_cons_self)]
    · rw [List.foldl_cons]
      by_cases again : li ∈ l
      · rw [released li again, one, det]
        by_cases here : li = i
        · subst here
          rw [if_pos rfl]
          rfl
        · rw [if_neg (mt coreId_inj.mp here)]
      · obtain rfl := (List.mem_cons.mp mem).resolve_right again
        have new : ∀ lj ∈ l, coreId f li ≠ coreId f lj := fun lj mem same => by
          rw [coreId_inj.mp same] at again
          exact again mem
        rw [others _ new, one, if_pos rfl]

/-- A request of an F-state changes the requests alone. -/
theorem FieldClock.ask_eq (k : FieldClock) (f t : Nat) : ∃ l, k.ask f t = { k with nextCmds := l } := by
  unfold FieldClock.ask
  split <;> exact ⟨_, rfl⟩

/-- The clocks of a field whose CD has come up with a row map (R37). -/
def FieldClock.cdUp (k : FieldClock) (map : Tab Nat) : FieldClock :=
  { k with cd := .on, restart := false, repair := if map.isEmpty then .good else .repaired, rowMap := map, halfCclk := 0 }

/-- A field whose CD has come up. -/
def Field.cdUp (x : Field) (map : Tab Nat) : Field :=
  { x with clk := x.clk.cdUp map, cis := { x.cis with slots := [] }, obs := { x.obs with statBase := [], partialIv := true } }

/-- The state with a field's CD up, its cores not yet released. -/
def State.cdUp (s : State) (f : Nat) : State :=
  (s.modClk f (fun k => k.cdUp (s.shifts f))).modField f (fun x => { x with cis := { x.cis with slots := [] }, obs := { x.obs with statBase := [], partialIv := true } })

theorem State.field_cdUp (s : State) (f g : Nat) : (s.cdUp f).field g = if g = f then (s.field f).cdUp (s.shifts f) else s.field g := by
  rw [State.cdUp, State.field_modField, State.field_modClk, State.field_modClk, if_pos rfl]
  split
  · rfl
  · rfl

@[simp] theorem State.core_sensorsOn (s : State) (d c : Nat) : (s.sensorsOn d).core c = s.core c := rfl
@[simp] theorem State.field_sensorsOn (s : State) (d f : Nat) : (s.sensorsOn d).field f = s.field f := rfl

/-- Its cores released. -/
def State.cdReleased (s : State) (f : Nat) : State := ((s.cdUp f).releaseCores f).sensorsOn f

theorem State.cdReleased_spec (s : State) (f : Nat) : (∀ g, (s.cdReleased f).field g = (s.cdUp f).field g) ∧
    (∀ li, li < 1280 → (s.cdReleased f).core (coreId f li) = (s.core (coreId f li)).released s.detMode) ∧
    ∀ c, fieldOf c ≠ f → (s.cdReleased f).core c = s.core c := by
  obtain ⟨⟨c, frame⟩, others, released⟩ := State.release_spec (upTo 1280) (s.cdUp f) f
  rw [← State.releaseCores_eq] at frame others released
  have cores : ∀ c, (s.cdUp f).core c = s.core c := fun _ => rfl
  have det : (s.cdUp f).detMode = s.detMode := rfl
  unfold State.cdReleased
  refine ⟨fun g => ?_, fun li small => ?_, fun c other => ?_⟩
  · rw [State.field_sensorsOn, frame]
    rfl
  · rw [State.core_sensorsOn, released li (mem_upTo.mpr small), cores, det]
  · have away : ∀ li ∈ upTo 1280, c ≠ coreId f li := fun li mem same => by
      rw [same, fieldOf_coreId (mem_upTo.mp mem)] at other
      exact other rfl
    rw [State.core_sensorsOn, others c away, cores]

/-- A field of a partition whose CD has come up follows its partition's F-state. -/
def State.joined (s : State) (q f : Nat) : State :=
  if s.forced then s else s.modClk f (fun k => k.ask (s.joinFstate q f) (s.tstamp + 100))

theorem State.joined_spec (s : State) (q f : Nat) : (∀ c, (s.joined q f).core c = s.core c) ∧ (∀ g, g ≠ f → (s.joined q f).field g = s.field g) ∧
    ∃ l, ((s.joined q f).field f).clk = { (s.field f).clk with nextCmds := l } := by
  unfold State.joined
  split
  · exact ⟨fun _ => rfl, fun _ _ => rfl, _, rfl⟩
  · obtain ⟨l, ask⟩ := (s.field f).clk.ask_eq (s.joinFstate q f) (s.tstamp + 100)
    refine ⟨fun _ => rfl, fun g other => ?_, l, ?_⟩
    · rw [State.field_modClk, if_neg other]
    · rw [State.field_modClk, if_pos rfl, ← ask]

/-- The state with a field's CD not come up: it is OFF and the field DEGRADED. -/
def State.cdLost (s : State) (f : Nat) : State :=
  s.modClk f (fun k => { k with cd := .off, cdAt := none, restart := false, repair := .degraded, rowMap := [] })

/-- A field of no partition that comes up DEGRADED has none to disable: its name is at most noted for the next active Wellhead. -/
theorem State.degraded_free {s : State} {f : Nat} (free : s.partOf f = none) : ∃ d, s.degraded f = { s with sd := d } := by
  unfold State.degraded State.degradedNow
  rw [free]
  split <;> exact ⟨_, rfl⟩

/-- What the field is left with. -/
theorem State.cdLost_clk (s : State) (f : Nat) : ((s.cdLost f).field f).clk.cd = .off ∧ ((s.cdLost f).field f).clk.repair = .degraded ∧
    ((s.cdLost f).field f).faults = (s.field f).faults := by
  rw [State.cdLost, State.field_modClk, if_pos rfl]
  exact ⟨rfl, rfl, rfl⟩

theorem State.cdDegraded_dead {s : State} {f : Nat} (free : s.partOf f = none) : ∃ d, s.cdDegraded f false = { s.cdLost f with sd := d } := by
  obtain ⟨d, is⟩ := State.degraded_free (s := s.cdLost f) (f := f) free
  obtain ⟨d', check⟩ := ((s.cdLost f).degraded f).startCheck_frame
  refine ⟨d', ?_⟩
  rw [is] at check
  rw [← check, ← is]
  rfl

theorem State.cdDegraded_late {s : State} {f : Nat} (free : s.partOf f = none) :
    ∃ d, s.cdDegraded f true = { (s.cdLost f).fieldFault f 0x5276 0 with sd := d } := by
  have free' : ((s.cdLost f).fieldFault f 0x5276 0).partOf f = none := by
    rw [State.fieldFault, State.report_frame]
    exact free
  obtain ⟨d, is⟩ := State.degraded_free free'
  obtain ⟨d', check⟩ := (((s.cdLost f).fieldFault f 0x5276 0).degraded f).startCheck_frame
  refine ⟨d', ?_⟩
  rw [is] at check
  rw [← check, ← is]
  rfl

section
variable {s : State} {f m : Nat} (small : f < 72) (starting : (s.field f).clk.cd = .starting) (planned : (s.field f).clk.cdAt = some m)
include small starting planned

section
variable (due : m ≤ s.tstamp)
include due

theorem exec_cdStartComplete {q : Nat} (whole : s.deadField f = false) (mine : s.partOf f = some q) :
    exec (.cdStartComplete f) s = .next ((s.cdReleased f).joined q f).startCheck := by
  have begun : ¬ ((s.field f).clk.cd ≠ .starting ∨ s.tstamp < m) := by simp [starting, due]
  change execCdStartComplete f s = _
  unfold execCdStartComplete onField
  rw [if_pos (show f < nFields from small)]
  simp only [planned, whole, mine]
  rw [if_neg begun, if_neg Bool.false_ne_true]
  unfold State.joined State.cdReleased State.cdUp
  rfl

theorem exec_cdStartComplete_dead (dead : s.deadField f = true) : exec (.cdStartComplete f) s = .next (s.cdDegraded f false) := by
  have begun : ¬ ((s.field f).clk.cd ≠ .starting ∨ s.tstamp < m) := by simp [starting, due]
  change execCdStartComplete f s = _
  unfold execCdStartComplete onField
  rw [if_pos (show f < nFields from small)]
  simp only [planned, dead]
  rw [if_neg begun]
  rfl

end

theorem exec_cdStartTimeout (late : m + 2000000 ≤ s.tstamp) : exec (.cdStartTimeout f) s = .next (s.cdDegraded f true) := by
  change execCdStartTimeout f s = _
  unfold execCdStartTimeout onField
  rw [if_pos (show f < nFields from small)]
  simp only [planned]
  rw [if_pos ⟨starting, late⟩]

end

/-- The row map of a CD that has come up says whether its field is repaired. -/
theorem FieldClock.cdUp_repair (k : FieldClock) (map : Tab Nat) : (k.cdUp map).repair = if map = [] then .good else .repaired := by
  cases map <;> rfl

/-- Settles O45: the starts of the RD, the MDs and the CDs, and how they fail. -/
theorem domainsStart : Obligations.DomainsStart := by
  unfold Obligations.DomainsStart Claims.DomainsStart
  intro s
  refine ⟨fun starting trip flow rails button clock => ?rd, fun f small starting due => ⟨?md, fun first => ?retry, fun again => ?failed⟩,
    fun f m small starting planned due => ⟨fun q whole mine => ?cd, fun dead free => ?dead, fun late free => ?late⟩⟩
  case rd =>
    obtain ⟨-, on, route, energy, ports, states⟩ := s.rdStarted_spec
    obtain ⟨rd, ports', sluice, sd, starts⟩ := State.rdUp_spec trip flow rails button clock
    refine ⟨_, exec_rdStartComplete starting, ?_⟩
    rw [rd]
    refine ⟨on, route, energy, sd, starts, fun p less => ?_, fun p less => ?_⟩
    · rw [State.port, ports']
      change (s.rdStarted.port p).rings = [] ∧ (s.rdStarted.port p).linkUp = _
      rw [ports p less]
      exact ⟨rfl, rfl⟩
    · rw [State.sl, sluice]
      exact states p less
  case md =>
    have own : (s.mdUp f).field f = (s.field f).mdUp := (s.field_mdUp f f).trans (if_pos rfl)
    by_cases follows : s.cdFollows f
    · obtain ⟨l, fl, frame⟩ := (s.mdUp f).cdStart_frame f
      obtain ⟨t, started⟩ := State.field_cdStart_off (s := s.mdUp f) (f := f) (by rw [own]; rfl) (by rw [own]; rfl)
      refine ⟨_, exec_mdStartComplete small starting due follows, ?_⟩
      rw [State.field_startCheck, State.startCheck_cores, started, own]
      refine ⟨rfl, rfl, rfl, rfl, rfl, fun g other => ?_, by rw [frame]; rfl, fun _ _ => rfl, fun warm free once => ?_⟩
      · rw [State.field_startCheck, State.field_cdStart_of_ne other, State.field_mdUp, if_neg other]
      · simp [State.cdFollows, warm, free, once] at follows
    · refine ⟨_, exec_mdStartComplete_alone small starting due follows, ?_⟩
      rw [State.field_startCheck, own, State.startCheck_cores]
      refine ⟨rfl, rfl, rfl, rfl, rfl, fun g other => ?_, rfl, fun cold fine => absurd ⟨fine, .inl cold⟩ follows, fun _ _ _ => rfl⟩
      rw [State.field_startCheck, State.field_mdUp, if_neg other]
  case retry =>
    refine ⟨_, exec_mdStartComplete_failed small starting due, ?_⟩
    rw [State.mdFailed_first first, State.field_mdStart, if_pos rfl]
    exact ⟨rfl, rfl, le_rampAt .., fun g other => (s.field_mdStart ..).trans (if_neg other)⟩
  case failed =>
    refine ⟨_, exec_mdStartComplete_failed small starting due, ?_⟩
    rw [State.mdFailed_again again, State.failStart_md]
    refine ⟨?_, rfl, rfl⟩
    rw [State.field_report_sd, State.field_modClk, if_pos rfl]
  case cd =>
    obtain ⟨fields, released, others⟩ := s.cdReleased_spec f
    obtain ⟨cores, apart, l, clk⟩ := (s.cdReleased f).joined_spec q f
    rw [fields, State.field_cdUp, if_pos rfl] at clk
    refine ⟨_, exec_cdStartComplete small starting planned due whole mine, ?_⟩
    rw [State.field_startCheck, clk]
    refine ⟨rfl, rfl, (s.field f).clk.cdUp_repair _, rfl, fun g other => ?_, fun li less => ?_, fun c other => ?_⟩
    · rw [State.field_startCheck, apart g other, fields, State.field_cdUp, if_neg other]
    · rw [State.core_startCheck, cores, released li less]
      rfl
    · rw [State.core_startCheck, cores, others c other]
  case dead =>
    obtain ⟨d, is⟩ := State.cdDegraded_dead free
    refine ⟨_, exec_cdStartComplete_dead small starting planned due dead, ?_⟩
    obtain ⟨cd, repair, -⟩ := s.cdLost_clk f
    rw [is]
    exact ⟨cd, repair, rfl, rfl⟩
  case late =>
    obtain ⟨d, is⟩ := State.cdDegraded_late free
    refine ⟨_, exec_cdStartTimeout small starting planned late, ?_⟩
    obtain ⟨cd, repair, faults⟩ := s.cdLost_clk f
    have field : (s.cdDegraded f true).field f = _ := (congrArg (fun t : State => t.field f) is).trans (State.field_report (s := s.cdLost f) small _)
    rw [field, cd, repair, faults]
    refine ⟨rfl, rfl, ?_, ?_, fun room => ?_⟩
    · rw [is, State.fieldFault, State.report_frame]
      rfl
    · rw [is]
      exact State.report_faultCount ..
    · rw [if_pos room]
      exact ⟨_, rfl, rfl, rfl⟩

end Sys2Proof.Machine
end


section
/-! PROOFS. Mirror epochs, drains of the fault queues and the repair list (R40, R46, R47, R355, R384, R494, R507, R508, R534). -/

namespace Sys2Proof.Machine

/-! ### Epochs and the writes in them (R355) -/

/-- A write as a new epoch `n` takes it in. -/
def WriteReq.inEpoch (r : WriteReq) (n : Nat) : WriteReq := if r.step = .queued then { r with step := .mirrored n } else r

theorem WriteReq.inEpoch_queued {r : WriteReq} (n : Nat) (queued : r.step = .queued) : r.inEpoch n = { r with step := .mirrored n } :=
  if_pos queued

theorem WriteReq.inEpoch_outcome {r : WriteReq} {k : Nat} (n : Nat) (outcome : r.step = .outcome k) : r.inEpoch n = r :=
  if_neg (by simp [outcome])

theorem WriteReq.commit_mirrored {r : WriteReq} {k n : Nat} (mirrored : r.step = .mirrored k) (within : k ≤ n) :
    r.commit n = { r with step := .committed } := by
  simp [WriteReq.commit, mirrored, within]

theorem WriteReq.commit_outcome {r : WriteReq} {k n : Nat} (outcome : r.step = .outcome k) (within : k ≤ n) :
    r.commit n = { r with step := .settled } := by
  simp [WriteReq.commit, outcome, within]

/-- A write that waits for an epoch is committed with that epoch. -/
theorem WriteReq.commit_inEpoch_queued {r : WriteReq} (n : Nat) (queued : r.step = .queued) :
    (r.inEpoch n).commit n = { r with step := .committed } := by
  rw [r.inEpoch_queued n queued]
  exact WriteReq.commit_mirrored rfl n.le_refl

/-- What opening an epoch does: the waiting writes join it, and nothing has changed since. -/
theorem State.openEpoch_eq (s : State) : s.openEpoch = { s with
    fw := { s.fw with wq := s.fw.wq.map (fun r => r.inEpoch (s.wh.epoch + 1)) },
    wh := { s.wh with epoch := s.wh.epoch + 1, changed := false, lastClose := s.tstamp } } := rfl

@[simp] theorem State.dropDrained_wq (s : State) (l : List (Nat × Nat)) : (s.dropDrained l).fw.wq = s.fw.wq := by
  unfold State.dropDrained
  split <;> rfl

@[simp] theorem State.dropDrained_dict (s : State) (l : List (Nat × Nat)) : (s.dropDrained l).fw.dict = s.fw.dict := by
  unfold State.dropDrained
  split <;> rfl

@[simp] theorem State.dropDrained_wh (s : State) (l : List (Nat × Nat)) : (s.dropDrained l).wh = s.wh := by
  unfold State.dropDrained
  split <;> rfl

@[simp] theorem State.dropDrained_sd (s : State) (l : List (Nat × Nat)) : (s.dropDrained l).sd = s.sd := by
  unfold State.dropDrained
  split <;> rfl

/-- Drained records leave the RD's queue, whose number is 72. -/
theorem State.dropDrained_rd (s : State) (l : List (Nat × Nat)) :
    (s.dropDrained l).rdFaults.recs = s.rdFaults.recs.filter (fun r => !l.contains (72, r.seq)) := by
  cases l <;> simp [State.dropDrained]

/-- Drained records leave the SD's queue, whose number is 73. -/
theorem State.dropDrained_sdFaults (s : State) (l : List (Nat × Nat)) :
    (s.dropDrained l).sdFaults.recs = s.sdFaults.recs.filter (fun r => !l.contains (73, r.seq)) := by
  cases l <;> simp [State.dropDrained]

@[simp] theorem State.commitLocal_wq (s : State) : s.commitLocal.fw.wq = s.fw.wq.map (fun r => r.commit s.wh.epoch) := by
  unfold State.commitLocal
  rw [State.dropDrained_wq]
  rfl

@[simp] theorem State.commitLocal_dict (s : State) : s.commitLocal.fw.dict = s.fw.dict := by
  unfold State.commitLocal
  rw [State.dropDrained_dict]
  rfl

@[simp] theorem State.commitLocal_wh (s : State) :
    s.commitLocal.wh = { s.wh with sent := none, acked := none, committed := s.wh.epoch % 2 ^ 32 } := by
  unfold State.commitLocal
  rw [State.dropDrained_wh]
  rfl

/-- A state that the active may close an epoch with: it runs, no takeover is under way, state has changed, a millisecond has passed and no epoch
is on its way. -/
structure State.Closing (s : State) : Prop where
  active : s.activeUp = true
  noTakeover : s.wh.takeover = none
  changed : s.wh.changed = true
  due : s.wh.lastClose / 100000 < s.tstamp / 100000
  unsent : s.wh.sent = none
  unacked : s.wh.acked = none

/-- A closed epoch goes to the standby in step, or is committed at once. -/
theorem exec_epochClose {s : State} (closing : s.Closing) :
    exec .epochClose s = .next (if s.wh.standbyOk then s.openEpoch.modWh (fun w => { w with sent := some (w.epoch, s.openEpoch.fw) })
      else s.openEpoch.commitLocal) := by
  obtain ⟨active, noTakeover, changed, due, unsent, unacked⟩ := closing
  simp [exec, execEpochClose, active, noTakeover, changed, due, unsent, unacked, State.openEpoch_eq]

/-- Alone, the active commits an epoch as it closes it, and with it the writes and the outcomes that it holds. -/
theorem epochClose_alone {s : State} (closing : s.Closing) (alone : s.wh.standbyOk = false) :
    ∃ t, exec .epochClose s = .next t ∧ t.wh.epoch = s.wh.epoch + 1 ∧ t.wh.committed = (s.wh.epoch + 1) % 2 ^ 32 ∧ t.wh.sent = none ∧
      t.wh.changed = false ∧ t.fw.dict = s.fw.dict ∧ t.fw.wq.length = s.fw.wq.length ∧
      ∀ (i : Nat) (r : WriteReq), s.fw.wq[i]? = some r →
        (r.step = .queued → t.fw.wq[i]? = some { r with step := .committed }) ∧
        (∀ k, r.step = .outcome k → k ≤ s.wh.epoch + 1 → t.fw.wq[i]? = some { r with step := .settled }) := by
  refine ⟨s.openEpoch.commitLocal, by rw [exec_epochClose closing, alone, if_neg Bool.false_ne_true], ?_⟩
  have queue : s.openEpoch.commitLocal.fw.wq = s.fw.wq.map (fun r => (r.inEpoch (s.wh.epoch + 1)).commit (s.wh.epoch + 1)) := by
    simp [State.openEpoch_eq]
  have dict : s.openEpoch.commitLocal.fw.dict = s.fw.dict := by simp [State.openEpoch_eq]
  have pair : s.openEpoch.commitLocal.wh = { s.openEpoch.wh with sent := none, acked := none, committed := s.openEpoch.wh.epoch % 2 ^ 32 } :=
    State.commitLocal_wh _
  refine ⟨by rw [pair]; rfl, by rw [pair]; rfl, by rw [pair], by rw [pair]; rfl, dict, by rw [queue, List.length_map], fun i r there => ⟨fun queued => ?_, fun k outcome within => ?_⟩⟩
  · rw [queue, List.getElem?_map, there, Option.map_some, r.commit_inEpoch_queued _ queued]
  · rw [queue, List.getElem?_map, there, Option.map_some, r.inEpoch_outcome _ outcome, WriteReq.commit_outcome outcome within]

/-- With a standby in step the active sends the epoch it closes, which takes in the writes that wait. -/
theorem epochClose_paired {s : State} (closing : s.Closing) (paired : s.wh.standbyOk = true) :
    ∃ t, exec .epochClose s = .next t ∧ t = { s with fw := t.fw, wh := t.wh } ∧ t.wh.epoch = s.wh.epoch + 1 ∧ t.wh.committed = s.wh.committed ∧
      t.wh.sent = some (s.wh.epoch + 1, t.fw) ∧
      ∀ (i : Nat) (r : WriteReq), s.fw.wq[i]? = some r →
        t.fw.wq[i]? = some (if r.step = .queued then { r with step := .mirrored (s.wh.epoch + 1) } else r) := by
  refine ⟨s.openEpoch.modWh (fun w => { w with sent := some (w.epoch, s.openEpoch.fw) }),
    by rw [exec_epochClose closing, paired, if_pos rfl], rfl, rfl, rfl, rfl, fun i r there => ?_⟩
  change (s.fw.wq.map (fun r => r.inEpoch (s.wh.epoch + 1)))[i]? = _
  rw [List.getElem?_map, there]
  rfl

/-! ### The standby's answer (R508) -/

section
variable {s : State} {n : Nat} {x : Firmware} {w : EpochWords}

/-- An epoch whose words or CRC-32 are not good is dropped. -/
theorem epochReceive_dropped (sent : s.wh.sent = some (n, x)) (other : (s.wellhead s.wh.other).up = true) (bad : w.good = false) :
    exec (.epochReceive w) s = .next { s with wh := { s.wh with sent := none } } := by
  simp [exec, execEpochReceive, sent, other, bad, State.modWh]

/-- An epoch out of its turn makes the standby ask for a whole one. -/
theorem epochReceive_resync (sent : s.wh.sent = some (n, x)) (other : (s.wellhead s.wh.other).up = true) (good : w.good = true)
    (outOfTurn : w.number ≠ n % 2 ^ 32 ∨ n ≠ s.wh.applied + 1) :
    exec (.epochReceive w) s = .next { s with wh := { s.wh with sent := none, resync := true, standbyOk := false } } := by
  change execEpochReceive w s = _
  simp only [execEpochReceive, sent, other, good, if_pos outOfTurn]
  rfl

/-- The next epoch in turn is applied and acknowledged. -/
theorem epochReceive_applied (sent : s.wh.sent = some (n, x)) (other : (s.wellhead s.wh.other).up = true) (good : w.good = true)
    (number : w.number = n % 2 ^ 32) (inTurn : n = s.wh.applied + 1) :
    ∃ t, exec (.epochReceive w) s = .next t ∧ t = { s with wh := t.wh } ∧ t.wh.mirror = x ∧ t.wh.applied = n ∧ t.wh.acked = some n ∧
      t.wh.sent = none := by
  have inStep : ¬ (w.number ≠ n % 2 ^ 32 ∨ n ≠ s.wh.applied + 1) := by simp [number, inTurn]
  refine ⟨(s.modWh (fun p => { p with sent := none, mirror := x, applied := n, acked := some n })).modWell s.wh.active
    (fun a => { a with lastBeat := s.sd.vtime }), ?_, ?_⟩
  · change execEpochReceive w s = _
    simp only [execEpochReceive, sent, other, good, if_neg inStep]
    rfl
  · rw [State.modWell_eq]
    exact ⟨rfl, rfl, rfl, rfl, rfl⟩

end

/-- The acknowledgement commits the epoch, its writes, and the drains in it. -/
theorem epochAck_commits {s : State} {n : Nat} (active : s.activeUp = true) (noTakeover : s.wh.takeover = none) (acked : s.wh.acked = some n) :
    ∃ t, exec .epochAck s = .next t ∧ t.wh.committed = n % 2 ^ 32 ∧ t.wh.acked = none ∧ t.wh.lastAck = s.sd.vtime ∧ t.fw.dict = s.fw.dict ∧
      t.rdFaults.recs = s.rdFaults.recs.filter (fun r => !s.wh.mirror.drained.contains (72, r.seq)) ∧
      t.sdFaults.recs = s.sdFaults.recs.filter (fun r => !s.wh.mirror.drained.contains (73, r.seq)) ∧
      ∀ (i : Nat) (r : WriteReq) k, s.fw.wq[i]? = some r → r.step = .mirrored k → k ≤ n → t.fw.wq[i]? = some { r with step := .committed } := by
  refine ⟨((s.commitEpoch n).dropDrained s.wh.mirror.drained).modWh
    (fun w => { w with acked := none, lastAck := s.sd.vtime, mirror := { w.mirror with drained := [] } }), ?_, ?_⟩
  · change execEpochAck s = _
    simp only [execEpochAck, acked, active, noTakeover]
    rfl
  · refine ⟨?_, rfl, rfl, State.dropDrained_dict .., State.dropDrained_rd .., State.dropDrained_sdFaults .., fun i r k there mirrored within => ?_⟩
    · change ((s.commitEpoch n).dropDrained _).wh.committed = _
      rw [State.dropDrained_wh]
      rfl
    have queue : ((s.commitEpoch n).dropDrained s.wh.mirror.drained).fw.wq = s.fw.wq.map (fun r => r.commit n) := State.dropDrained_wq ..
    change ((s.commitEpoch n).dropDrained _).fw.wq[i]? = _
    rw [queue, List.getElem?_map, there, Option.map_some, WriteReq.commit_mirrored mirrored within]

theorem mirrorEpochs_claim : Claims.MirrorEpochs := by
  intro s active noTakeover
  refine ⟨fun changed due unsent unacked => ?_, fun n x sent other w => ?_, fun n acked => epochAck_commits active noTakeover acked⟩
  · have closing : s.Closing := ⟨active, noTakeover, changed, due, unsent, unacked⟩
    exact ⟨epochClose_alone closing, epochClose_paired closing⟩
  · exact ⟨epochReceive_dropped sent other, epochReceive_resync sent other, epochReceive_applied sent other⟩

/-! ### Draining the fault queues (R494) -/

/-- The latest 127 of a log of at most 127 records and those that join it. -/
def keptLog (log new : List FaultRec) : List FaultRec := (log ++ new).drop (log.length + new.length - 127)

theorem keptLog_length (log new : List FaultRec) : (keptLog log new).length ≤ 127 := by
  simp only [keptLog, List.length_drop, List.length_append]
  omega

/-- Records that join the log in turn leave it as they would together. -/
theorem keptLog_cons {log : List FaultRec} (small : log.length ≤ 127) (r : FaultRec) (new : List FaultRec) :
    keptLog (keptLog log [r]) new = keptLog log (r :: new) := by
  simp only [keptLog, List.length_drop, List.length_append, List.length_cons, List.length_nil]
  have kept : log.length + (0 + 1) - 127 ≤ (log ++ [r]).length := by
    rw [List.length_append]
    omega
  have cut : log.length + (0 + 1) - 127 + (log.length + (0 + 1) - (log.length + (0 + 1) - 127) + new.length - 127) =
      log.length + (new.length + 1) - 127 := by omega
  rw [← List.drop_append_of_le_length kept, List.drop_drop, cut, List.append_assoc, List.singleton_append]

/-- What taking records `new` out of the queues makes of a state: the log, the count and the list of drained records; dictionary entries and EMCY
messages apart, all else stays. -/
structure State.Drains (s t : State) (new : List FaultRec) : Prop where
  frame : ∃ log count drained dict changed can, t = { s with
    fw := { s.fw with log := log, writeCount := count, drained := drained, dict := dict }, wh := { s.wh with changed := changed }, can := can }
  log : t.fw.log = keptLog s.fw.log new
  count : t.fw.writeCount = s.fw.writeCount + new.length
  drained : t.fw.drained = s.fw.drained ++ new.map (fun r => (r.queue, r.seq))

/-- The record a drain wrote last, as FAULT_LOG's head shows it. -/
def State.ShowsLast (t : State) (r : FaultRec) : Prop := t.setting 0x2901 1 = r.cause ∧ t.setting 0x2901 5 = r.ts

/-- A state with another dictionary, which the next epoch has to carry. -/
def State.withDict (s : State) (dict : Tab Nat) : State := { s with fw := { s.fw with dict := dict }, wh := { s.wh with changed := true } }

theorem State.setDict_eq (s : State) (i sub v : Nat) : s.setDict i sub v = s.withDict (Tab.insert s.fw.dict (objKey i sub) v) := rfl

@[simp] theorem State.withDict_withDict (s : State) (d e : Tab Nat) : (s.withDict d).withDict e = s.withDict e := rfl

/-- The dictionary after one record has been drained: the record itself and its partition's counts. -/
def State.drainDict (s : State) (r : FaultRec) : State :=
  let s2 := ((((s.setDict 0x2901 1 r.cause).setDict 0x2901 2 r.scope).setDict 0x2901 3 r.id).setDict 0x2901 4 r.info).setDict 0x2901 5 r.ts
  match s2.faultPart r with
  | some q => (s2.setDict 0x2902 (q + 1) ((s2.setting 0x2902 (q + 1) + 1) % 2 ^ 32)).setDict 0x2903 (q + 1) r.cause
  | none => s2

theorem State.drainDict_frame (s : State) (r : FaultRec) :
    ∃ dict, s.drainDict r = s.withDict dict := by
  unfold State.drainDict
  simp only [State.setDict_eq, State.withDict_withDict]
  split
  · exact ⟨_, rfl⟩
  · exact ⟨_, rfl⟩

theorem State.drainDict_shows (s : State) (r : FaultRec) : (s.drainDict r).ShowsLast r := by
  unfold State.drainDict State.ShowsLast
  dsimp only
  split
  · simp only [State.setting_setDict, objKey]
    constructor
    · rw [if_neg (by omega), if_neg (by omega)]; simp
    · rw [if_neg (by omega), if_neg (by omega)]; simp
  · simp [State.setting_setDict, objKey]

/-- The log, the count and the list of drained records after one more. -/
def State.logRec (s : State) (r : FaultRec) : State := s.modFw (fun f =>
  { f with log := keptLog f.log [r], writeCount := f.writeCount + 1, drained := f.drained ++ [(r.queue, r.seq)] })

/-- A drained record is logged and shown, and may send an EMCY message. -/
theorem State.drainRec_eq (s : State) (r : FaultRec) : ∃ can, s.drainRec r = { (s.logRec r).drainDict r with can := can } := by
  change ∃ can, (if r.sendsEmcy then ((s.logRec r).drainDict r).emcy _ else (s.logRec r).drainDict r) = _
  split
  · exact ⟨_, rfl⟩
  · exact ⟨_, rfl⟩

theorem State.drainRec_spec (s : State) (r : FaultRec) : s.Drains (s.drainRec r) [r] ∧ (s.drainRec r).ShowsLast r := by
  obtain ⟨can, step⟩ := s.drainRec_eq r
  have shows := (s.logRec r).drainDict_shows r
  obtain ⟨dict, shown⟩ := (s.logRec r).drainDict_frame r
  rw [step]
  refine ⟨?_, shows⟩
  rw [shown]
  simp only [State.withDict, State.logRec, State.modFw]
  refine ⟨⟨keptLog s.fw.log [r], s.fw.writeCount + 1, s.fw.drained ++ [(r.queue, r.seq)], dict, true, can, rfl⟩, ?_, rfl, rfl⟩
  simp only

theorem State.Drains.trans {s t u : State} {r : FaultRec} {new : List FaultRec} (small : s.fw.log.length ≤ 127) (one : s.Drains t [r])
    (rest : t.Drains u new) : s.Drains u (r :: new) := by
  obtain ⟨frame, log, count, drained⟩ := one
  obtain ⟨frame', log', count', drained'⟩ := rest
  refine ⟨?_, ?_, ?_, ?_⟩
  · obtain ⟨_, _, _, _, _, _, rfl⟩ := frame
    obtain ⟨_, _, _, _, _, _, rfl⟩ := frame'
    exact ⟨_, _, _, _, _, _, rfl⟩
  · rw [log', log, keptLog_cons small]
  · rw [count', count]
    simp only [List.length_cons, List.length_nil]
    omega
  · rw [drained', drained]
    simp

/-- Records taken out one after the other. -/
theorem State.drainRecs_spec (new : List FaultRec) {s : State} (small : s.fw.log.length ≤ 127) : s.Drains (new.foldl State.drainRec s) new := by
  induction new generalizing s with
  | nil => exact ⟨⟨_, _, _, _, _, _, rfl⟩, by simp [keptLog, small], rfl, (List.append_nil _).symm⟩
  | cons r new ih =>
    have one := (s.drainRec_spec r).1
    exact one.trans small (ih (one.log ▸ keptLog_length _ _))

/-- The record taken out last is the one shown. -/
theorem State.drainRecs_shows (s : State) (new : List FaultRec) (r : FaultRec) : ((new ++ [r]).foldl State.drainRec s).ShowsLast r := by
  rw [List.foldl_append]
  exact (State.drainRec_spec _ r).2

/-- A drain takes the undrained records out, and then changes no more than the CAN unit. -/
theorem exec_faultQueueDrain {s : State} (serving : s.serving = true) :
    ∃ can, exec .faultQueueDrain s = .next { s.undrained.foldl State.drainRec s with can := can } := by
  change ∃ can, execFaultQueueDrain s = _
  simp only [execFaultQueueDrain, serving]
  generalize s.undrained.foldl State.drainRec s = t
  generalize t.errorRegister = e
  simp only [Bool.not_true, Bool.false_eq_true, if_false]
  split <;> split <;> exact ⟨_, rfl⟩

theorem faultQueueDrain_writes {s : State} (serving : s.serving = true) (small : s.fw.log.length ≤ 127) :
    ∃ t, exec .faultQueueDrain s = .next t ∧ t.fields = s.fields ∧ t.rdFaults = s.rdFaults ∧ t.sdFaults = s.sdFaults ∧
      t.fw.writeCount = s.fw.writeCount + s.undrained.length ∧
      t.fw.log = (s.fw.log ++ s.undrained).drop (s.fw.log.length + s.undrained.length - 127) ∧
      t.fw.drained = s.fw.drained ++ s.undrained.map (fun r => (r.queue, r.seq)) ∧
      ∀ l r, s.undrained = l ++ [r] → t.setting 0x2901 1 = r.cause ∧ t.setting 0x2901 5 = r.ts := by
  obtain ⟨can, step⟩ := exec_faultQueueDrain serving
  refine ⟨_, step, ?_⟩
  have shows : ∀ l r, s.undrained = l ++ [r] → (s.undrained.foldl State.drainRec s).ShowsLast r :=
    fun l r last => last ▸ s.drainRecs_shows l r
  obtain ⟨frame, log, count, drained⟩ := State.drainRecs_spec s.undrained small
  generalize s.undrained.foldl State.drainRec s = t at shows frame log count drained ⊢
  refine ⟨?_, ?_, ?_, count, log, drained, shows⟩ <;> obtain ⟨_, _, _, _, _, _, rfl⟩ := frame <;> rfl

/-! ### The repair list (R40, R47) -/

/-- A core's lost position is taken from it. -/
theorem State.modCore_autoAdd (s : State) (c : Nat) :
    s.modCore c (fun k => { k with autoAdd := none }) = { s with cores := Tab.write s.cores Core.reset c { s.core c with autoAdd := none } } :=
  s.setCore_quiet c _ rfl rfl rfl rfl rfl

/-- Firmware adds a lost core's position, not yet known, to a runtime list with room. -/
theorem repairAutoAddEntry_adds {s : State} {c v : Nat} (serving : s.serving = true) (small : c < nCores) (lost : (s.core c).autoAdd = some v)
    (enabled : s.setting 0x2110 5 = 1) (room : s.flash.list.length < 256) (unknown : s.repairKnown v = false) :
    ∃ t, exec (.repairAutoAddEntry c) s = .next t ∧ t.flash = Claims.withList s.flash (s.flash.list ++ [BitVec.ofNat 32 v]) ∧
      t.core c = { s.core c with autoAdd := none } ∧ t.fields = s.fields := by
  have add : ¬ (s.setting 0x2110 5 = 0 ∨ s.repairKnown v = true) := by simp [enabled, unknown]
  refine ⟨{ s with
    cores := Tab.write s.cores Core.reset c { s.core c with autoAdd := none },
    flash := s.flash.writeRepair (s.flash.list ++ [BitVec.ofNat 32 v]) }, ?_, s.flash.writeRepair_eq _, ?_, rfl⟩
  · change execRepairAutoAddEntry c s = _
    simp only [execRepairAutoAddEntry, onCore, if_pos small, lost, serving, State.modCore_autoAdd, if_neg add, if_neg (Nat.not_le.mpr room)]
    rfl
  · change Tab.read (Tab.write _ _ _ _) _ _ = _
    rw [Tab.read_write, if_pos rfl]

theorem drainsAndRepairs_claim : Claims.DrainsAndRepairs :=
  fun _ serving => ⟨faultQueueDrain_writes serving, fun _ _ small lost enabled room unknown => repairAutoAddEntry_adds serving small lost enabled room unknown⟩

/-- Settles O48: an epoch closes, is received and is acknowledged case by case; the drain by induction on the records taken out. -/
theorem mirrorAndRepairs : Obligations.MirrorAndRepairs := ⟨mirrorEpochs_claim, drainsAndRepairs_claim⟩

end Sys2Proof.Machine
end

section
/-! PROOFS. The bounds of O58, unit by unit: memories canonical, pools, fault queues, trace buffers, staged records and waiting notifications within their bounds
(R64, R307, R491, R527); and what leaves them as they were. -/

namespace Sys2Proof.Machine

/-! ### What the bounds say of each part of the state -/

/-- Every unit read from a table, listed or not, has a property. -/
def Tab.Each {α : Type} (P : α → Prop) (t : Tab α) (d : α) : Prop := ∀ k, P (Tab.read t d k)

/-- The memories of a core are canonical. -/
structure Core.Canonical (k : Core) : Prop where
  sram : Memory.wf k.sram = true
  istore : Memory.wf k.istore = true

/-- A Cistern's memory is canonical and its pool within R64. -/
structure Cistern.Bounded (c : Cistern) : Prop where
  mem : Memory.wf c.mem = true
  pool : c.pool.length ≤ 1024

/-- A fault queue holds no more than 64 records (R491). -/
def FaultQueue.Bounded (q : FaultQueue) : Prop := q.recs.length ≤ 64

/-- A field's trace buffer holds no more than 512 records (R527). -/
def FieldObs.Bounded (o : FieldObs) : Prop := o.trace.length ≤ 512

/-- A field's Cistern, fault queue and trace buffer are within their bounds. -/
structure Field.Bounded (x : Field) : Prop where
  cis : x.cis.Bounded
  faults : x.faults.Bounded
  obs : x.obs.Bounded

/-- A trace destination stages no more than 1,024 records (R527). -/
def TraceDest.Bounded (d : TraceDest) : Prop := d.staging.length ≤ 1024

/-- Every trace destination of the ring domain is within its bound. -/
def RingDomain.Bounded (r : RingDomain) : Prop := Tab.Each TraceDest.Bounded r.traces TraceDest.reset

/-- No more than 256 notifications wait at a port (R307). -/
def Port.Bounded (x : Port) : Prop := x.notes.length ≤ 256

/-- The bounds of `Claims.WithinBounds`, unit by unit. -/
structure State.Bounded (s : State) : Prop where
  cores : Tab.Each Core.Canonical s.cores Core.reset
  fields : Tab.Each Field.Bounded s.fields Field.reset
  rdFaults : s.rdFaults.Bounded
  sdFaults : s.sdFaults.Bounded
  rd : s.rd.Bounded
  ports : Tab.Each Port.Bounded s.ports Port.reset

theorem withinBounds_iff (s : State) : Claims.WithinBounds s ↔ s.Bounded := by
  constructor
  · intro ⟨sram, istore, cistern, pool, faults, rdFaults, sdFaults, trace, staging, notes⟩
    exact ⟨fun c => ⟨sram c, istore c⟩, fun f => ⟨⟨cistern f, pool f⟩, faults f, trace f⟩, rdFaults, sdFaults, staging, notes⟩
  · intro ⟨cores, fields, rdFaults, sdFaults, rd, ports⟩
    exact ⟨fun c => (cores c).sram, fun c => (cores c).istore, fun f => (fields f).cis.mem, fun f => (fields f).cis.pool,
      fun f => (fields f).faults, rdFaults, sdFaults, fun f => (fields f).obs, rd, ports⟩

/-! ### Tables -/

section
variable {α : Type} {P : α → Prop} {t : Tab α} {d : α}

theorem Tab.Each.write [DecidableEq α] {v : α} {k : Nat} (h : Tab.Each P t d) (hv : P v) : Tab.Each P (Tab.write t d k v) d := by
  intro j
  rw [Tab.read_write]
  split
  · exact hv
  · exact h j

theorem Tab.Each.insert {v : α} {k : Nat} (h : Tab.Each P t d) (hv : P v) : Tab.Each P (Tab.insert t k v) d := by
  intro j
  rw [Tab.read_insert]
  split
  · exact hv
  · exact h j

/-- Entries changed in place, each in a way that keeps the property, and none of another key put for them. -/
theorem Tab.Each.map {g : Nat × α → Nat × α} (h : Tab.Each P t d) (keys : ∀ e, (g e).1 = e.1) (hg : ∀ e, P e.2 → P (g e).2) :
    Tab.Each P (t.map g) d := by
  intro k
  have hk := h k
  clear h
  induction t with
  | nil => exact hk
  | cons e r ih =>
    rw [List.map_cons, Tab.read, keys e]
    rw [Tab.read] at hk
    split
    next here => exact hg e (by rwa [if_pos here] at hk)
    next other => exact ih (by rwa [if_neg other] at hk)

end

/-! ### What a unit within the bounds gives -/

section
variable {s : State}

theorem State.Bounded.core {c : Nat} (h : s.Bounded) : (s.core c).Canonical := h.cores _
theorem State.Bounded.field {f : Nat} (h : s.Bounded) : (s.field f).Bounded := h.fields _
theorem State.Bounded.port {p : Nat} (h : s.Bounded) : (s.port p).Bounded := h.ports _
theorem State.Bounded.traceDest {p : Nat} (h : s.Bounded) : (s.traceDest p).Bounded := h.rd _

end

theorem Core.reset_canonical : Core.reset.Canonical := ⟨rfl, rfl⟩
theorem Cistern.reset_bounded : Cistern.Bounded Cistern.reset := ⟨rfl, Nat.zero_le _⟩
theorem FieldObs.reset_bounded : FieldObs.Bounded FieldObs.reset := Nat.zero_le _
theorem Port.reset_bounded : Port.Bounded Port.reset := Nat.zero_le _
theorem TraceDest.reset_bounded : TraceDest.Bounded TraceDest.reset := Nat.zero_le _
theorem RingDomain.reset_bounded : RingDomain.Bounded RingDomain.reset := fun _ => Nat.zero_le _

/-! ### Updates that leave the bounded parts alone -/

/-- What the bounds of a core speak of. -/
def Core.kept (k : Core) : Memory × Memory := (k.sram, k.istore)
/-- What the bounds of a Cistern speak of. -/
def Cistern.kept (c : Cistern) : Memory × List Nat := (c.mem, c.pool)
/-- What the bounds of a field speak of. -/
def Field.kept (x : Field) : (Memory × List Nat) × List FaultRec × List TraceRec := (x.cis.kept, x.faults.recs, x.obs.trace)
/-- What the bounds of a state speak of. -/
def State.kept (s : State) : Tab Core × Tab Field × FaultQueue × FaultQueue × Tab TraceDest × Tab Port :=
  (s.cores, s.fields, s.rdFaults, s.sdFaults, s.rd.traces, s.ports)

theorem Core.Canonical.congr {k k' : Core} (h : k.Canonical) (same : k'.kept = k.kept) : k'.Canonical := by
  obtain ⟨sram, istore⟩ := Prod.mk.inj same
  exact ⟨sram ▸ h.sram, istore ▸ h.istore⟩

theorem Cistern.Bounded.congr {c c' : Cistern} (h : c.Bounded) (same : c'.kept = c.kept) : c'.Bounded := by
  obtain ⟨mem, pool⟩ := Prod.mk.inj same
  exact ⟨mem ▸ h.mem, pool ▸ h.pool⟩

theorem FaultQueue.Bounded.congr {q q' : FaultQueue} (h : q.Bounded) (same : q'.recs = q.recs) : q'.Bounded := by
  rw [FaultQueue.Bounded, same]
  exact h

theorem FieldObs.Bounded.congr {o o' : FieldObs} (h : o.Bounded) (same : o'.trace = o.trace) : o'.Bounded := by
  rw [FieldObs.Bounded, same]
  exact h

theorem Field.Bounded.congr {x x' : Field} (h : x.Bounded) (same : x'.kept = x.kept) : x'.Bounded := by
  obtain ⟨cis, same⟩ := Prod.mk.inj same
  obtain ⟨faults, obs⟩ := Prod.mk.inj same
  exact ⟨h.cis.congr cis, h.faults.congr faults, h.obs.congr obs⟩

theorem TraceDest.Bounded.congr {d d' : TraceDest} (h : d.Bounded) (same : d'.staging = d.staging) : d'.Bounded := by
  rw [TraceDest.Bounded, same]
  exact h

theorem RingDomain.Bounded.congr {r r' : RingDomain} (h : r.Bounded) (same : r'.traces = r.traces) : r'.Bounded := by
  rw [RingDomain.Bounded, same]
  exact h

theorem Port.Bounded.congr {x x' : Port} (h : x.Bounded) (same : x'.notes = x.notes) : x'.Bounded := by
  rw [Port.Bounded, same]
  exact h

theorem State.Bounded.congr {s t : State} (h : s.Bounded) (same : t.kept = s.kept) : t.Bounded := by
  obtain ⟨cores, same⟩ := Prod.mk.inj same
  obtain ⟨fields, same⟩ := Prod.mk.inj same
  obtain ⟨rdFaults, same⟩ := Prod.mk.inj same
  obtain ⟨sdFaults, same⟩ := Prod.mk.inj same
  obtain ⟨traces, ports⟩ := Prod.mk.inj same
  exact ⟨cores ▸ h.cores, fields ▸ h.fields, rdFaults ▸ h.rdFaults, sdFaults ▸ h.sdFaults, RingDomain.Bounded.congr h.rd traces, ports ▸ h.ports⟩

/-! ### Outcomes -/

/-- If an outcome goes on, it goes on within the bounds. -/
def BoundedOut (o : Out) : Prop := ∀ t, o = .next t → t.Bounded

theorem State.Bounded.out {s : State} (h : s.Bounded) : BoundedOut (.next s) := fun t ht => by
  injection ht with ht
  exact ht ▸ h

theorem boundedOut_fault (r : Fault) : BoundedOut (.fault r) := fun _ ht => nomatch ht

theorem BoundedOut.ite {c : Prop} [Decidable c] {a b : Out} (ha : BoundedOut a) (hb : BoundedOut b) : BoundedOut (if c then a else b) := by
  split
  · exact ha
  · exact hb

/-! ### Branches and folds -/

theorem State.Bounded.ite {c : Prop} [Decidable c] {a b : State} (ha : a.Bounded) (hb : b.Bounded) : (if c then a else b).Bounded := by
  split
  · exact ha
  · exact hb

theorem Core.Canonical.ite {c : Prop} [Decidable c] {a b : Core} (ha : a.Canonical) (hb : b.Canonical) : (if c then a else b).Canonical := by
  split
  · exact ha
  · exact hb

theorem Cistern.Bounded.ite {c : Prop} [Decidable c] {a b : Cistern} (ha : a.Bounded) (hb : b.Bounded) : (if c then a else b).Bounded := by
  split
  · exact ha
  · exact hb

theorem Field.Bounded.ite {c : Prop} [Decidable c] {a b : Field} (ha : a.Bounded) (hb : b.Bounded) : (if c then a else b).Bounded := by
  split
  · exact ha
  · exact hb

theorem Port.Bounded.ite {c : Prop} [Decidable c] {a b : Port} (ha : a.Bounded) (hb : b.Bounded) : (if c then a else b).Bounded := by
  split
  · exact ha
  · exact hb

/-- A fold whose every step keeps the bounds keeps them. -/
theorem State.Bounded.foldl {α : Type} {s : State} {f : State → α → State} {l : List α} (h : s.Bounded) (step : ∀ t a, t.Bounded → (f t a).Bounded) :
    (l.foldl f s).Bounded := by
  induction l generalizing s with
  | nil => exact h
  | cons a r ih => exact ih (step s a h)

theorem Core.Canonical.foldl {α : Type} {k : Core} {f : Core → α → Core} {l : List α} (hk : k.Canonical)
    (step : ∀ k a, k.Canonical → (f k a).Canonical) : (l.foldl f k).Canonical := by
  induction l generalizing k with
  | nil => exact hk
  | cons a r ih => exact ih (step k a hk)

/-- The same of a fold that carries a result beside the state. -/
theorem State.Bounded.foldl_fst {α β : Type} {f : State × β → α → State × β} {l : List α} {e : State × β} (h : e.1.Bounded)
    (step : ∀ e a, e.1.Bounded → (f e a).1.Bounded) : (l.foldl f e).1.Bounded := by
  induction l generalizing e with
  | nil => exact h
  | cons a r ih => exact ih (step e a h)

end Sys2Proof.Machine
end

section
/-! PROOFS. The operations that every family shares, and those of a core, keep the bounds (R64, R307, R491, R527). -/

namespace Sys2Proof.Machine

section
variable {s : State}

/-! ### Units put back -/

theorem State.Bounded.setField {f : Nat} {x : Field} (h : s.Bounded) (hx : x.Bounded) : (s.setField f x).Bounded :=
  ⟨h.cores, h.fields.write hx, h.rdFaults, h.sdFaults, h.rd, h.ports⟩

theorem State.Bounded.setPort {p : Nat} {x : Port} (h : s.Bounded) (hx : x.Bounded) : (s.setPort p x).Bounded :=
  ⟨h.cores, h.fields, h.rdFaults, h.sdFaults, h.rd, h.ports.write hx⟩

theorem State.Bounded.setTraceDest {p : Nat} {d : TraceDest} (h : s.Bounded) (hd : d.Bounded) : (s.setTraceDest p d).Bounded :=
  ⟨h.cores, h.fields, h.rdFaults, h.sdFaults, Tab.Each.write h.rd hd, h.ports⟩

theorem State.Bounded.modField {f : Nat} {g : Field → Field} (h : s.Bounded) (hg : ∀ x : Field, x.Bounded → (g x).Bounded) : (s.modField f g).Bounded :=
  h.setField (hg _ h.field)

theorem State.Bounded.modCis {f : Nat} {g : Cistern → Cistern} (h : s.Bounded) (hg : ∀ c : Cistern, c.Bounded → (g c).Bounded) : (s.modCis f g).Bounded :=
  h.modField fun _ hx => ⟨hg _ hx.cis, hx.faults, hx.obs⟩

theorem State.Bounded.modSyn {f : Nat} {g : SyncUnit → SyncUnit} (h : s.Bounded) : (s.modSyn f g).Bounded :=
  h.modField fun _ hx => hx.congr rfl

theorem State.Bounded.modPort {p : Nat} {g : Port → Port} (h : s.Bounded) (hg : ∀ x : Port, x.Bounded → (g x).Bounded) : (s.modPort p g).Bounded :=
  h.setPort (hg _ h.port)

theorem State.Bounded.modRd {g : RingDomain → RingDomain} (h : s.Bounded) (hg : ∀ r : RingDomain, r.Bounded → (g r).Bounded) : (s.modRd g).Bounded :=
  ⟨h.cores, h.fields, h.rdFaults, h.sdFaults, hg _ h.rd, h.ports⟩

theorem State.Bounded.modPart {p : Nat} {g : Part → Part} (h : s.Bounded) : (s.modPart p g).Bounded := h.congr rfl
theorem State.Bounded.inject {l : List Packet} (h : s.Bounded) : (s.inject l).Bounded := h.congr rfl
theorem State.Bounded.take {k : Nat} (h : s.Bounded) : (s.take k).Bounded := h.congr rfl
theorem State.Bounded.addTotal {k n : Nat} (h : s.Bounded) : (s.addTotal k n).Bounded := h.congr rfl

end

/-! ### Faults (R489 to R494, R517) -/

/-- A record is queued only where there is room (R491). -/
theorem FaultQueue.Bounded.put {fq : FaultQueue} {r : FaultRec} {seq : Nat} (hq : fq.Bounded) :
    FaultQueue.Bounded (if fq.recs.length < 64 then { recs := fq.recs ++ [r], seq := seq } else fq) := by
  split
  next room =>
    rw [FaultQueue.Bounded, List.length_append, List.length_singleton]
    exact room
  next => exact hq

section
variable {s : State}

theorem State.Bounded.report {q : Nat} {r : FaultRec} (h : s.Bounded) : (s.report q r).Bounded := by
  unfold State.report
  dsimp only
  split
  · exact ⟨h.cores, h.fields, h.rdFaults.put, h.sdFaults, h.rd, h.ports⟩
  · split
    · exact ⟨h.cores, h.fields, h.rdFaults, h.sdFaults.put, h.rd, h.ports⟩
    · exact .modField (h.congr rfl) fun _ hx => ⟨hx.cis, hx.faults.put, hx.obs⟩

theorem State.Bounded.countUe {f : Nat} {sp : UeSpace} {unit w : Nat} {task : Option DWord} (h : s.Bounded) : (s.countUe f sp unit w task).Bounded := by
  have total : State.Bounded (match sp with | .sram => s.addTotal 2 1 | .istore => s.addTotal 2 1 | .cistern => s.addTotal 4 1) := by
    cases sp <;> exact h.addTotal
  exact .ite h (.ite (.report (.modField total fun _ hx => hx.congr rfl)) total)

/-! ### Cores -/

/-- Putting a core back counts its time and what its readers found, and leaves its memories as given. -/
theorem Core.Canonical.stored (s : State) (c : Nat) {k : Core} (hk : k.Canonical) : (s.stored c k).Canonical := by
  unfold State.stored
  dsimp only
  split
  · exact hk.congr rfl
  · split <;> exact hk.congr rfl

theorem State.Bounded.countFound {f c : Nat} {l : List (UeSpace × Nat)} (h : s.Bounded) : (s.countFound f c l).Bounded :=
  h.foldl fun _ _ ht => ht.countUe

theorem State.Bounded.forgetUe {f c : Nat} {old new : Core} (h : s.Bounded) : (s.forgetUe f c old new).Bounded :=
  .ite h (.modField h fun _ hx => hx.congr rfl)

theorem State.Bounded.setCore {c : Nat} {k : Core} (h : s.Bounded) (hk : k.Canonical) : (s.setCore c k).Bounded := by
  unfold State.setCore
  dsimp only
  generalize hn : (s.stored c k).counter 15 - (s.core c).counter 15 = n
  have counted : State.Bounded (if n = 0 then s else s.addTotal 1 n) := .ite h h.addTotal
  have rest := (counted.countFound (f := fieldOf c) (c := c) (l := k.found.drop (s.core c).found.length)).forgetUe (f := fieldOf c) (c := c)
    (old := s.core c) (new := k)
  exact ⟨rest.cores.write (hk.stored s c), rest.fields, rest.rdFaults, rest.sdFaults, rest.rd, rest.ports⟩

theorem State.Bounded.modCore {c : Nat} {g : Core → Core} (h : s.Bounded) (hg : ∀ k : Core, k.Canonical → (g k).Canonical) : (s.modCore c g).Bounded :=
  h.setCore (hg _ h.core)

end

/-! ### Operations of a core -/

theorem Core.Canonical.addCounter {k : Core} {i n : Nat} (hk : k.Canonical) : (k.addCounter i n).Canonical := hk.congr rfl

theorem Core.Canonical.setS {k : Core} {n v : Nat} (hk : k.Canonical) : (k.setS n v).Canonical := .ite hk (hk.congr rfl)

theorem Core.Canonical.setPair {k : Core} {n v : Nat} (hk : k.Canonical) : (k.setPair n v).Canonical := hk.setS.setS

theorem Core.Canonical.setQuad {k : Core} {n v : Nat} (hk : k.Canonical) : (k.setQuad n v).Canonical := hk.setPair.setPair

theorem Core.Canonical.setV {k : Core} {n v : Nat} (hk : k.Canonical) : (k.setV n v).Canonical := hk.congr rfl

theorem Core.Canonical.setAccFrom {k : Core} {a i : Nat} {l : List Nat} (hk : k.Canonical) : (k.setAccFrom a i l).Canonical := by
  induction l generalizing k i with
  | nil => exact hk
  | cons v r ih => exact ih (hk.congr rfl)

theorem Core.Canonical.setT {k : Core} {n v : Nat} (hk : k.Canonical) : (k.setT n v).Canonical := hk.congr rfl

theorem Core.Canonical.raise {k : Core} {fl : Nat} (hk : k.Canonical) : (k.raise fl).Canonical := hk.congr rfl

theorem Core.Canonical.setQueue {k : Core} {vc : Nat} {q : InQueue} (hk : k.Canonical) : (k.setQueue vc q).Canonical := hk.congr rfl

theorem Core.Canonical.readCe {k : Core} {ws : List Nat} (hk : k.Canonical) : (k.readCe ws).Canonical :=
  .foldl hk fun _ _ hk => .ite (.ite hk.addCounter (hk.congr rfl)) hk

theorem Core.Canonical.pend {k : Core} {cause : Nat} {pc : Option Nat} {addr nth : Nat} (hk : k.Canonical) : (k.pend cause pc addr nth).Canonical := by
  unfold Core.pend
  split
  · exact hk.congr rfl
  · exact .ite (hk.congr rfl) hk

/-- An entry that drains is a store (R128). -/
theorem Core.Canonical.drainOne {k : Core} (hk : k.Canonical) : k.drainOne.Canonical := by
  unfold Core.drainOne
  split
  · exact hk
  · have stored := Memory.wf_setValue hk.sram
    dsimp only
    split
    · exact ⟨stored _ _ _, hk.istore⟩
    · exact .pend ⟨stored _ _ _, hk.istore⟩

theorem Core.Canonical.drain {k : Core} {n : Nat} (hk : k.Canonical) : (k.drain n).Canonical := by
  induction n generalizing k with
  | zero => exact hk
  | succ n ih => exact ih hk.drainOne

theorem Core.Canonical.drainAll {k : Core} (hk : k.Canonical) : k.drainAll.Canonical := hk.drain

theorem Core.Canonical.drainFor {k : Core} {a n : Nat} (hk : k.Canonical) : (k.drainFor a n).Canonical := hk.drain

theorem Core.Canonical.trap {k : Core} {cause pc addr : Nat} (hk : k.Canonical) : (k.trap cause pc addr).Canonical := hk.drainAll.congr rfl

theorem Core.Canonical.post {k : Core} {e : OutEntry} (hk : k.Canonical) : (k.post e).Canonical := by
  unfold Core.post
  split
  · exact .ite hk (hk.congr rfl)
  · exact hk.congr rfl

theorem Core.Canonical.goto {k : Core} {pc : Nat} (hk : k.Canonical) : (k.goto pc).Canonical := hk.congr rfl

theorem Core.Canonical.advance {k : Core} (hk : k.Canonical) : k.advance.Canonical := hk.congr rfl

theorem Core.Canonical.writeCsr {k : Core} {o v : Nat} (hk : k.Canonical) : (k.writeCsr o v).Canonical := by
  unfold Core.writeCsr
  split
  · exact hk.congr rfl
  · exact hk.congr rfl
  · exact hk.congr rfl
  · exact hk

theorem Core.Canonical.addSteps {k : Core} {kind n : Nat} (hk : k.Canonical) : (k.addSteps kind n).Canonical :=
  .ite hk.addCounter hk.addCounter.addCounter

theorem Core.Canonical.unitError {k : Core} {pc nth w : Nat} (hk : k.Canonical) : (k.unitError pc nth w).Canonical := .pend (hk.congr rfl)

theorem Core.Canonical.unitWrite {k : Core} {a : Nat} {bs : List Byte} (hk : k.Canonical) : (k.unitWrite a bs).Canonical :=
  ⟨Memory.wf_setBytes hk.sram _ _, hk.istore⟩

theorem Core.Canonical.writeTile {k : Core} {td c0 cols : Nat} {els : List Nat} (hk : k.Canonical) : (k.writeTile td c0 cols els).Canonical :=
  .foldl hk fun _ _ hk => .ite (.foldl hk fun _ _ hk => hk.unitWrite) hk.unitWrite

theorem Core.Canonical.unitRead {k : Core} {pc nth : Nat} {ws : List Nat} {g : Core → Core} (hk : k.Canonical)
    (hg : ∀ k : Core, k.Canonical → (g k).Canonical) : (k.unitRead pc nth ws g).Canonical := by
  unfold Core.unitRead
  dsimp only
  split
  · exact hk.readCe.unitError
  · exact hg _ hk.readCe

theorem Core.Canonical.runVector {k : Core} {q : QOp} (hk : k.Canonical) : (k.runVector q).Canonical := by
  unfold Core.runVector
  dsimp only
  split
  · exact .unitRead hk.addCounter fun _ hk => hk.setV
  · exact hk.addCounter.unitWrite
  · exact .ite hk.addCounter.setS hk.addCounter.setV.raise

theorem Core.Canonical.runMma {k : Core} {q : QOp} (hk : k.Canonical) : (k.runMma q).Canonical := by
  unfold Core.runMma
  exact .unitRead hk fun _ hk => hk.setAccFrom.raise.addSteps

theorem Core.Canonical.runAst {k : Core} {q : QOp} (hk : k.Canonical) : (k.runAst q).Canonical := hk.writeTile.raise

theorem Core.Canonical.runAld {k : Core} {q : QOp} (hk : k.Canonical) : (k.runAld q).Canonical := .unitRead hk fun _ hk => hk.setAccFrom

theorem Core.Canonical.runMixer {k : Core} {q : QOp} (hk : k.Canonical) : (k.runMixer q).Canonical := by
  unfold Core.runMixer
  dsimp only
  split
  · exact hk.setT
  · exact hk.runMma
  · exact hk.runAst
  · exact hk.runAld
  · exact hk.setAccFrom
  · exact .ite hk.setAccFrom hk.setV

theorem Core.Canonical.drainSpans {k : Core} {l : List (Nat × Nat)} (hk : k.Canonical) : (k.drainSpans l).Canonical :=
  .foldl hk fun _ _ hk => hk.drainFor

theorem Core.Canonical.runOne {k k' : Core} {before after : List UnitItem} (hk : k.Canonical) (ran : k.runOne before after = some k') :
    k'.Canonical := by
  induction after generalizing before with
  | nil => cases ran
  | cons u r ih =>
    unfold Core.runOne at ran
    split at ran
    · exact ih ran
    · split at ran
      · injection ran with ran
        exact ran ▸ .ite (.runMixer (hk.congr rfl)) (.runVector (hk.congr rfl))
      · split at ran
        · exact ih ran
        · injection ran with ran
          exact ran ▸ .congr (hk.readCe) rfl

theorem Core.Canonical.runUnits {k : Core} {fuel : Nat} (hk : k.Canonical) : (k.runUnits fuel).Canonical := by
  induction fuel generalizing k with
  | zero => exact hk
  | succ n ih =>
    unfold Core.runUnits
    split
    · exact hk
    · next ran => exact ih (hk.runOne ran)

theorem Core.Canonical.endHold {k : Core} (hk : k.Canonical) : k.endHold.Canonical := .ite (hk.congr rfl) hk

theorem Core.Canonical.recipeCount {k : Core} {r : Recipe} (hk : k.Canonical) : (k.recipeCount r).Canonical := .foldl hk fun _ _ hk => hk.addSteps

theorem Core.Canonical.storeBlock {k : Core} {r : Recipe} {n : Nat} (hk : k.Canonical) : (k.storeBlock r n).Canonical := .ite hk.writeTile hk.writeTile

theorem Core.Canonical.deliver {k : Core} {cause pc addr nth : Nat} (hk : k.Canonical) : (k.deliver cause pc addr nth).Canonical := by
  unfold Core.deliver
  split
  · exact .ite (hk.congr rfl) hk
  · exact hk.pend

theorem Core.Canonical.failRecipe {k : Core} {before : List UnitItem} {r : Recipe} {f : Nat × Nat} (hk : k.Canonical) :
    (k.failRecipe before r f).Canonical :=
  .ite (.congr (.deliver (by exact hk.congr rfl)) rfl) (.deliver (hk.congr rfl))

theorem Core.Canonical.refuse {k : Core} {cause : Nat} (hk : k.Canonical) : (k.refuse cause).Canonical := hk.pend

theorem Core.Canonical.refuseRecipe {k : Core} {cause : Nat} {r : Nat × Nat} (hk : k.Canonical) : (k.refuseRecipe cause r).Canonical := by
  unfold Core.refuseRecipe
  split
  · exact .ite hk.failRecipe hk.deliver
  · exact hk.deliver

theorem Core.Canonical.retire {k : Core} {u : Unacked} (hk : k.Canonical) : (k.retire u).Canonical := by
  unfold Core.retire
  dsimp only
  split
  · exact .ite (.post (.addCounter (.addCounter (hk.congr rfl)))) (.addCounter (.addCounter (hk.congr rfl)))
  · exact .addCounter (.addCounter (hk.congr rfl))

theorem Core.Canonical.loseFrom {k : Core} {n : Nat} (hk : k.Canonical) : (k.loseFrom n).Canonical := hk.congr rfl

theorem Core.Canonical.fabWrite {k : Core} {off : Nat} {data : List Byte} (hk : k.Canonical) : (k.fabWrite off data).Canonical :=
  ⟨Memory.wf_setBytes hk.sram _ _, hk.istore⟩

theorem Core.Canonical.imageWrite {k : Core} {off : Nat} {data : List Byte} (hk : k.Canonical) : (k.imageWrite off data).Canonical :=
  ⟨hk.sram, Memory.wf_setBytes hk.istore _ _⟩

/-! ### What issuing an instruction comes to -/

/-- The core an issue leaves has canonical memories. -/
def Issue.Canonical (i : Issue) : Prop :=
  match i with
  | .stall => True
  | .done k _ => k.Canonical
  | .sleep k _ => k.Canonical
  | .trap k _ _ => k.Canonical

theorem Issue.Canonical.ite {c : Prop} [Decidable c] {a b : Issue} (ha : a.Canonical) (hb : b.Canonical) : (if c then a else b).Canonical := by
  split
  · exact ha
  · exact hb

theorem whenFree_canonical {k : Core} {rs : List Nat} {r : Issue} (hr : r.Canonical) : (whenFree k rs r).Canonical := .ite hr trivial

section
variable {s : State}

theorem Core.Canonical.loadValue {k : Core} {a n : Nat} (hk : k.Canonical) : (k.loadValue a n).1.Canonical := by
  unfold Core.loadValue
  dsimp only
  split
  · exact hk.readCe
  · split
    · split
      · exact hk
      · exact hk.drain.readCe
    · exact hk.readCe

theorem Core.Canonical.takeDraw {k : Core} (hk : k.Canonical) : k.takeDraw.1.Canonical := hk.congr rfl

theorem mixerEntry_canonical {k : Core} {w : Nat} {draws : Bool} {td : List Nat} (hk : k.Canonical) : (mixerEntry k w draws td).1.Canonical := by
  unfold mixerEntry
  dsimp only
  split
  · exact hk.takeDraw
  · exact hk

theorem vectorEntry_canonical {k : Core} {w sA : Nat} {draws : Bool} (hk : k.Canonical) : (vectorEntry k w sA draws).1.Canonical := by
  unfold vectorEntry
  dsimp only
  split
  · exact hk.takeDraw
  · exact hk

theorem Core.Canonical.postTag {k : Core} {e : OutEntry} (hk : k.Canonical) : (k.postTag e).1.Canonical := by
  unfold Core.postTag
  split
  · exact hk
  · split
    · exact hk
    · exact hk.congr rfl

theorem Core.Canonical.returnCredits {k : Core} {c : Nat} (hk : k.Canonical) : (k.returnCredits s c).1.Canonical := hk.congr rfl

theorem Core.Canonical.commitFirst {k : Core} {c : Nat} (hk : k.Canonical) : (k.commitFirst c).1.Canonical := by
  unfold Core.commitFirst
  split
  · exact hk
  · exact hk.congr rfl

theorem Core.Canonical.handOver {k : Core} {c dst vc : Nat} {data : List Byte} {bind : Option (Nat × Nat × Nat)} (hk : k.Canonical) :
    (k.handOver s c dst vc data bind).1.Canonical :=
  hk.commitFirst.congr rfl

theorem Core.Canonical.sendCredit {k : Core} {c dst vc n : Nat} {recipe : Bool} (hk : k.Canonical) :
    (k.sendCredit s c dst vc n recipe).2.1.Canonical := by
  unfold Core.sendCredit
  dsimp only
  split
  · split
    · exact hk
    · split
      · exact hk.congr rfl
      · split <;> exact hk.congr rfl
  · split
    · split <;> exact hk.congr rfl
    · exact hk.congr rfl

theorem okNext_canonical {k : Core} (hk : k.Canonical) : k.okNext.Canonical := hk.advance

theorem enqueue_canonical {k : Core} {q : QOp} (hk : k.Canonical) : (k.enqueue q).Canonical := .ite trivial (.advance (.runUnits (hk.congr rfl)))

theorem mixerOp_canonical {k : Core} {w : Nat} (hk : k.Canonical) : (mixerOp s k w).Canonical :=
  .ite trivial (enqueue_canonical (mixerEntry_canonical hk))

theorem rrOp_canonical {f : Nat → Nat → Nat} {k : Core} {w : Nat} (hk : k.Canonical) : (rrOp f s k w).Canonical :=
  whenFree_canonical (okNext_canonical hk.setS)

theorem riOp_canonical {f : Nat → Nat → Nat} {k : Core} {w : Nat} (hk : k.Canonical) : (riOp f s k w).Canonical :=
  whenFree_canonical (okNext_canonical hk.setS)

theorem brOp_canonical {f : Nat → Nat → Bool} {k : Core} {w : Nat} (hk : k.Canonical) : (brOp f s k w).Canonical :=
  whenFree_canonical (.ite hk.goto (okNext_canonical hk))

theorem loadOp_canonical {n : Nat} {put : Core → Nat → Nat → Core} {k : Core} {w : Nat} (hk : k.Canonical)
    (hput : ∀ (k : Core) d v, k.Canonical → (put k d v).Canonical) : (loadOp n put s k w).Canonical := by
  refine whenFree_canonical ?_
  split
  · exact hk
  · refine .ite trivial ?_
    dsimp only
    split
    · exact .congr (k := (k.loadValue (memAddr k w) n).1) hk.loadValue rfl
    · exact .advance (hput _ _ _ hk.loadValue)

theorem storeOp_canonical {n : Nat} {get : Core → Nat → Nat} {k : Core} {w : Nat} (hk : k.Canonical) : (storeOp n get s k w).Canonical := by
  refine whenFree_canonical ?_
  split
  · exact hk
  · have room : (if k.sbuf.length < 8 then k else k.drainOne).Canonical := .ite hk hk.drainOne
    exact .ite trivial (.advance (room.congr rfl))

theorem postOp_canonical {k : Core} {op : PostedOp} (hk : k.Canonical) : (postOp k op).Canonical := .ite trivial hk.post.advance

theorem vectorOp_canonical {draws : Bool} {k : Core} {w : Nat} (hk : k.Canonical) : (vectorOp draws s k w).Canonical :=
  .ite trivial (enqueue_canonical (vectorEntry_canonical hk))

theorem vectorScalarOp_canonical {k : Core} {w : Nat} (hk : k.Canonical) : (vectorScalarOp s k w).Canonical :=
  whenFree_canonical (enqueue_canonical (vectorEntry_canonical hk))

theorem vectorMemOp_canonical {k : Core} {w : Nat} (hk : k.Canonical) : (vectorMemOp s k w).Canonical := by
  refine whenFree_canonical ?_
  split
  · exact hk
  · exact enqueue_canonical (vectorEntry_canonical hk.drainFor)

theorem sendBody_canonical {c : Nat} {k : Core} {w : Nat} (hk : k.Canonical) : (sendBody c s k w).Canonical := by
  have credit := hk.sendCredit (s := s) (c := c) (dst := k.sreg (aField w)) (vc := msVc w) (n := slotsFor (k.sreg (cField w))) (recipe := false)
  refine .ite hk (.ite hk (.ite hk (.ite trivial (.ite (hk.congr rfl) (.ite ?_ (credit.congr rfl))))))
  dsimp only
  split
  · exact .advance (.congr credit.drainFor.readCe.unitError rfl)
  · exact .advance (.congr credit.drainFor.readCe.commitFirst rfl)

theorem Core.Canonical.popMsg {k k' : Core} {c vc : Nat} {m : Msg} {out : List Packet} (hk : k.Canonical)
    (popped : k.popMsg s c vc = some (m, k', out)) : k'.Canonical := by
  unfold Core.popMsg at popped
  dsimp only at popped
  split at popped
  · cases popped
  · injection popped with popped
    exact (Prod.mk.inj (Prod.mk.inj popped).2).1 ▸ .congr hk rfl

theorem recvBody_canonical {c : Nat} {k : Core} {w : Nat} (hk : k.Canonical) : (recvBody c s k w).Canonical := by
  refine .ite hk (.ite hk (.ite trivial ?_))
  split
  · exact hk.congr rfl
  · next popped => exact .ite hk (.ite trivial (.advance (.setS (.setS (.congr (hk.popMsg popped).drainFor.unitWrite rfl)))))

end

end Sys2Proof.Machine
end

section
/-! PROOFS. The bounds are kept by the operations over State, in the order of the model's files; an operation's lemma rests on those of the operations it is made of. -/

namespace Sys2Proof.Machine

/-! ### What the units' operations keep: faults, traps, arrivals, traces -/

section
variable {s : State}

theorem State.Bounded.engineFault {cause info : Nat} (h : s.Bounded) : (s.engineFault cause info).Bounded := h.report

theorem State.Bounded.fieldFault {f cause info : Nat} (h : s.Bounded) : (s.fieldFault f cause info).Bounded := h.report

theorem State.Bounded.partFault {p f node cause : Nat} (h : s.Bounded) : (s.partFault p f node cause).Bounded := h.report

theorem State.Bounded.portFault {id cause info : Nat} (h : s.Bounded) : (s.portFault id cause info).Bounded := .report (.ite h.addTotal h)

theorem State.Bounded.addFieldCtr {f off n : Nat} (h : s.Bounded) : (s.addFieldCtr f off n).Bounded := h.modField fun _ hx => hx.congr rfl

theorem State.Bounded.finishFail {c : Nat} (h : s.Bounded) : (s.finishFail c).Bounded := by
  unfold State.finishFail
  dsimp only
  split
  · exact .ite (.inject (h.setCore (.addCounter (h.core.congr rfl)))) h
  · exact h

theorem State.Bounded.trapCore {c cause pc addr : Nat} {k : Core} (h : s.Bounded) (hk : k.Canonical) : (s.trapCore c cause pc addr k).Bounded :=
  .finishFail (.setCore (.ite (h.congr rfl) h) hk.trap)

theorem State.Bounded.meetIce {c w : Nat} (h : s.Bounded) : (s.meetIce c w).Bounded := .ite (h.addTotal.setCore (h.core.congr rfl)) h

theorem State.Bounded.setArrival {c i : Nat} {a : Arrival} (h : s.Bounded) : (s.setArrival c i a).Bounded := h.modSyn

theorem State.Bounded.syncFault {f bitNo cause index : Nat} {group : Bool} {who : Option (DWord × Nat)} (h : s.Bounded) :
    (s.syncFault f bitNo cause index group who).Bounded :=
  h.modSyn.report

theorem State.Bounded.progress {f : Nat} (h : s.Bounded) : (s.progress f).Bounded := by
  unfold State.progress
  dsimp only
  split
  · exact h.modSyn
  · exact h.modSyn.modPart

theorem State.Bounded.answerCore {f c tag : Nat} {task : DWord} {b : Payload} (h : s.Bounded) : (s.answerCore f c tag task b).Bounded :=
  .ite h.inject h.inject

theorem State.Bounded.arrive {c i tag : Nat} {task : DWord} (h : s.Bounded) : (s.arrive c i tag task).1.Bounded := by
  unfold State.arrive
  dsimp only
  split
  · exact h.answerCore
  · split
    · exact h.syncFault.answerCore
    · exact h.setArrival.inject

theorem State.Bounded.await {c i tag : Nat} {task : DWord} (h : s.Bounded) : (s.await c i tag task).Bounded := by
  refine .ite h.answerCore ?_
  split
  · exact h.syncFault.answerCore
  · exact h.setArrival.answerCore
  · exact h

theorem State.Bounded.commit {c : Nat} (h : s.Bounded) : (s.commit c).Bounded := (h.setCore h.core.commitFirst).inject

theorem State.Bounded.leaveBlocking {c : Nat} (h : s.Bounded) : (s.leaveBlocking c).Bounded := by
  unfold State.leaveBlocking
  dsimp only
  split
  · exact h
  · refine .ite h ?_
    split
    · exact .inject (h.setCore (h.core.congr rfl))
    · exact .inject (h.setCore (h.core.congr rfl))
    · exact .inject (.commit (h.setCore (h.core.congr rfl)))
    · exact .await (h.setCore (h.core.congr rfl))
    · exact .ite (.await (.arrive (.commit (h.setCore (h.core.congr rfl))))) (.arrive (.commit (h.setCore (h.core.congr rfl))))

theorem State.Bounded.applyIssue {c : Nat} {r : Issue} (h : s.Bounded) (hi : r.Canonical) : (s.applyIssue c r).Bounded := by
  cases r with
  | stall => exact h
  | done k out => exact (h.setCore (Core.Canonical.addCounter hi)).inject
  | sleep k out => exact (h.setCore hi).inject
  | trap k cause addr => exact h.trapCore hi

theorem State.Bounded.recall {t : State} {c : Nat} {task : DWord} {cause : Nat} (h : s.Bounded) (called : s.recall c task cause = some t) :
    t.Bounded := by
  unfold State.recall at called
  dsimp only at called
  split at called
  · injection called with called
    exact called ▸ h.congr rfl
  · cases called

theorem State.Bounded.wakeSync {c : Nat} {b : Blocked} {a : SyncAnswer} (h : s.Bounded) : (s.wakeSync c b a).Bounded := by
  refine .ite (h.trapCore h.core) ?_
  refine h.setCore ?_
  refine .advance ?_
  split
  · exact .setS (.setS (h.core.congr rfl))
  · exact .setS (h.core.congr rfl)
  · exact h.core.congr rfl

theorem State.Bounded.setDict {i sub v : Nat} (h : s.Bounded) : (s.setDict i sub v).Bounded := h.congr rfl

theorem State.Bounded.clearDict {i sub : Nat} (h : s.Bounded) : (s.clearDict i sub).Bounded := h.congr rfl

theorem State.Bounded.addRdCtr {off n : Nat} (h : s.Bounded) : (s.addRdCtr off n).Bounded := h.congr rfl

theorem State.Bounded.fieldDropped {f p n : Nat} (h : s.Bounded) : (s.fieldDropped f p n).Bounded :=
  .modPart (h.addFieldCtr.addRdCtr.modField fun _ hx => hx.congr rfl)

theorem Port.Bounded.setRing {x : Port} {r : Nat} {y : Ring} (hx : x.Bounded) : (x.setRing r y).Bounded := hx.congr rfl

theorem Port.Bounded.count {x : Port} {off n : Nat} (hx : x.Bounded) : (x.count off n).Bounded := hx.congr rfl

theorem State.Bounded.answerCmd {p tag cause : Nat} {at' : Option Nat} (h : s.Bounded) : (s.answerCmd p tag cause at').Bounded := by
  unfold State.answerCmd
  dsimp only
  split
  · exact h
  · exact h.setPort (h.port.congr rfl)

theorem Cistern.Bounded.setNode {c : Cistern} {n : Nat} {r : NodeRun} (hc : c.Bounded) : (c.setNode n r).Bounded := hc.congr rfl

theorem Cistern.Bounded.setSlot {c : Cistern} {li : Nat} {x : CoreSlot} (hc : c.Bounded) : (c.setSlot li x).Bounded := hc.congr rfl

theorem Cistern.Bounded.error {c : Cistern} {bitNo cause n : Nat} (hc : c.Bounded) : (c.error bitNo cause n).Bounded := hc.congr rfl

/-- A record made joins the buffer where there is room, and is dropped where there is none (R527). -/
theorem State.Bounded.traceMake {f kind layer oper ts w3 : Nat} {task : DWord} (h : s.Bounded) :
    (s.traceMake f kind layer oper task ts w3).Bounded := by
  unfold State.traceMake
  dsimp only
  split
  · exact h
  · split
    · split
      · next room =>
        have counted : (s.addFieldCtr f 0x68 1).Bounded := h.addFieldCtr
        refine counted.setField ⟨counted.field.cis, counted.field.faults, ?_⟩
        have same : ((s.addFieldCtr f 0x68 1).field f).obs.trace = (s.field f).obs.trace := by
          rw [State.addFieldCtr, State.field_modField, if_pos rfl]
        simpa [FieldObs.Bounded, same] using room
      · exact h.addFieldCtr.fieldDropped
    · exact h

end

/-! ### Firings, graph stops and lost packets -/

section
variable {s : State}

theorem Port.Bounded.modRing {x : Port} {r : Nat} {g : Ring → Ring} (hx : x.Bounded) : (x.modRing r g).Bounded := hx.setRing

theorem State.Bounded.mapQueue {g : WriteReq → WriteReq} (h : s.Bounded) : (s.mapQueue g).Bounded := h.congr rfl

theorem State.Bounded.leaveQueue {hit : Requester → Bool} (h : s.Bounded) : (s.leaveQueue hit).Bounded := h.mapQueue

/-- A node enters the pool where there is room, and the chain where there is none (R64, R65). -/
theorem Cistern.Bounded.enter {c : Cistern} {n : Nat} {r : NodeRun} (hc : c.Bounded) : (c.enter n r).Bounded := by
  unfold Cistern.enter
  split
  · next room =>
    refine ⟨hc.mem, ?_⟩
    rw [List.length_append, List.length_singleton]
    exact room.1
  · exact hc.congr rfl

theorem State.Bounded.traceAt {f n kind ts w3 : Nat} (h : s.Bounded) : (s.traceAt f n kind ts w3).Bounded := .ite h.traceMake h

theorem State.Bounded.traceNode {f n kind w3 : Nat} (h : s.Bounded) : (s.traceNode f n kind w3).Bounded := h.traceAt

theorem State.Bounded.fireNode {f n src : Nat} (h : s.Bounded) : (s.fireNode f n src).Bounded :=
  .ite (.traceNode (.addFieldCtr (h.modCis fun _ hc => hc.enter))) h

theorem State.Bounded.failQuiet {f n cause : Nat} (h : s.Bounded) : (s.failQuiet f n cause).Bounded :=
  .traceNode (.addFieldCtr (h.modCis fun _ hc => hc.setNode))

theorem State.Bounded.failNode {f n cause : Nat} (h : s.Bounded) : (s.failNode f n cause).Bounded := h.progress.failQuiet

theorem State.Bounded.freeRunning {f li : Nat} (h : s.Bounded) : (s.freeRunning f li).Bounded := h.modCis fun _ hc => hc.setSlot

theorem State.Bounded.freeStaged {f li : Nat} (h : s.Bounded) : (s.freeStaged f li).Bounded := h.modCis fun _ hc => hc.setSlot

theorem State.Bounded.toCore {f li : Nat} {task : DWord} {b : Payload} (h : s.Bounded) : (s.toCore f li task b).Bounded := h.congr rfl

theorem State.Bounded.voidTenant {q : Nat} (h : s.Bounded) : (s.voidTenant q).Bounded := h.congr rfl

theorem Port.Bounded.endStops {x : Port} {p : Nat} (hx : x.Bounded) : (x.endStops p).Bounded := hx.congr rfl

theorem State.Bounded.endStops {p : Nat} (h : s.Bounded) : (s.endStops p).Bounded := .foldl h fun _ _ ht => ht.modPort fun _ hx => hx.endStops

theorem State.Bounded.idlePart {p : Nat} (h : s.Bounded) : (s.idlePart p).Bounded := h.modPart.endStops

theorem State.Bounded.idleCheck {p : Nat} (h : s.Bounded) : (s.idleCheck p).Bounded := .ite (.congr (h.idlePart (p := p)) rfl) h

theorem State.Bounded.idleCheckOf {f : Nat} (h : s.Bounded) : (s.idleCheckOf f).Bounded := by
  unfold State.idleCheckOf
  split
  · exact h.idleCheck
  · exact h

theorem State.Bounded.stopField {f : Nat} (h : s.Bounded) : (s.stopField f).Bounded := by
  refine .foldl h fun _ _ ht => ?_
  dsimp only
  split
  · refine .toCore ?_
    split
    · exact ht.modCis fun _ hc => .ite hc.setNode hc
    · exact ht
  · split
    · exact ht.modCis fun _ hc => .ite hc.setNode hc
    · exact ht

theorem State.Bounded.stopPartition {p : Nat} (h : s.Bounded) : (s.stopPartition p).Bounded :=
  .ite (.idleCheck (.foldl h.modPart fun _ _ ht => ht.stopField)) h

theorem State.Bounded.stopFault {f n cause : Nat} (h : s.Bounded) : (s.stopFault f n cause).Bounded := by
  unfold State.stopFault
  split
  · exact h.fieldFault
  · exact h.partFault.stopPartition

theorem State.Bounded.taskFault {f li : Nat} {task : DWord} {cause pc addr : Nat} (h : s.Bounded) : (s.taskFault f li task cause pc addr).Bounded :=
  .ite h.report h

theorem State.Bounded.tableError {f n w : Nat} (h : s.Bounded) : (s.tableError f n w).Bounded := h.countUe.modCis fun _ hc => hc.error

theorem State.Bounded.loseAt {k px py : Nat} {p : Packet} (h : s.Bounded) : (s.loseAt k px py p).Bounded := .ite h.take h.take.inject

theorem State.Bounded.lostMessage {c tag : Nat} {task : DWord} {dst vc cause : Nat} {isMsg : Bool} (h : s.Bounded) :
    (s.lostMessage c tag task dst vc cause isMsg).Bounded := by
  unfold State.lostMessage
  extract_lets k seq nif k1 s1 k2
  have hs1 : s1.Bounded := h.addFieldCtr
  have hk1 : k1.Canonical := by
    refine .ite (h.core.congr rfl) ?_
    split
    · exact h.core.congr rfl
    · exact h.core
  have hk2 : k2.Canonical := by
    clear_value seq
    dsimp only [k2]
    split
    · exact hk1.loseFrom
    · exact hk1
  exact .ite (.ite (hs1.setCore hk2.refuse).finishFail (hs1.setCore hk2).addFieldCtr.finishFail) (hs1.setCore hk1).addFieldCtr

theorem State.Bounded.eventLost {f node cause : Nat} (h : s.Bounded) : (s.eventLost f node cause).Bounded := .stopFault (h.modCis fun _ hc => hc.error)

theorem State.Bounded.actLost {p : Packet} {cause : Nat} {target : Agent} {what : Payload} (h : s.Bounded) : (s.actLost p cause target what).Bounded := by
  unfold State.actLost
  split
  · exact h.lostMessage
  · exact h.lostMessage
  · refine .ite h.addFieldCtr.addFieldCtr (.ite (h.addFieldCtr.setCore h.core.refuse) (.ite h.addFieldCtr.addFieldCtr ?_))
    split
    · next called => exact h.addFieldCtr.recall called
    · exact h.addFieldCtr.stopFault
  · exact h.addFieldCtr.eventLost
  · exact h.addFieldCtr.eventLost
  · exact h.answerCmd
  · exact h.answerCmd
  · exact h.addFieldCtr
  · exact h.addFieldCtr
  · exact h

end

/-! ### Events, completions, links, pairs and field control -/

section
variable {s : State}

theorem State.Bounded.stepsFrom {i n : Nat} {g : State → Nat → State} (h : s.Bounded) (hg : ∀ t j, t.Bounded → (g t j).Bounded) :
    (stepsFrom s i n g).Bounded :=
  h.foldl fun _ _ ht => hg _ _ ht

theorem State.Bounded.countCev {f : Nat} (h : s.Bounded) : (s.countCev f).Bounded := h.addFieldCtr

theorem State.Bounded.applyEvent {f : Nat} {e : NodeEvent} (h : s.Bounded) : (s.applyEvent f e).Bounded := by
  unfold State.applyEvent
  extract_lets c s1 discard r merge forbidden nothingNew s2
  have hs1 : s1.Bounded := .countCev (.progress (h.modCis fun _ hc => hc.congr rfl))
  have hs2 : s2.Bounded := hs1.modCis fun _ hc => hc.congr rfl
  exact .ite (.fieldFault (.modCis (hs1.modCis fun _ hc => hc.congr rfl) fun _ hc => hc.error)) (.ite (hs1.modCis fun _ hc => hc.congr rfl) (.ite
    hs2.stopFault hs2))

theorem State.Bounded.applyEvents {f : Nat} {l : List NodeEvent} (h : s.Bounded) : (s.applyEvents f l).Bounded :=
  .foldl (.foldl h fun _ _ ht => ht.applyEvent) fun _ _ ht => ht.fireNode

theorem State.Bounded.takeMesh {f : Nat} {mesh : Option Nat} (h : s.Bounded) : (s.takeMesh f mesh).1.Bounded := by
  unfold State.takeMesh
  split
  · exact h
  · split
    · dsimp only
      split
      · exact h.take.inject
      · exact h.take
    · exact h

theorem State.Bounded.complete {f li n aflags : Nat} (h : s.Bounded) : (s.complete f li n aflags).Bounded := by
  unfold State.complete
  extract_lets c r task late s0 bad s1 s2 s3 s4 s4' em s5
  have hs0 : s0.Bounded := by
    clear_value late
    dsimp only [s0]
    split
    · exact h.tableError
    · exact h
  have hs1 : s1.Bounded := hs0.freeRunning.addFieldCtr.progress
  have hs2 : s2.Bounded := hs1.modCis fun _ hc => hc.congr rfl
  have hs3 : s3.Bounded := by
    dsimp only [s3]
    split
    · exact hs2.modPart
    · exact hs2
  have hs4 : s4.Bounded := hs3.modCis fun _ hc => hc.setNode
  have hs4' : s4'.Bounded := hs3.traceNode
  have hs5 : s5.Bounded := hs4'.modCis fun _ hc => hc.congr rfl
  exact .ite hs4.addFieldCtr.traceNode hs5.fireNode

theorem State.Bounded.freeEnded {f li : Nat} {task : DWord} (h : s.Bounded) : (s.freeEnded f li task).Bounded := .ite h.freeRunning h

theorem State.Bounded.sendXevent {f q : Nat} {part : Option Nat} {task : DWord} {post : Option (DWord × Nat)} {rec : DWord} (h : s.Bounded) :
    (s.sendXevent f q part task post rec).Bounded :=
  .inject (h.modCis fun _ hc => hc.congr rfl)

theorem State.Bounded.emitRecord {f : Nat} {e : Emission} {rec : DWord} (h : s.Bounded) : (s.emitRecord f e rec).1.Bounded := by
  unfold State.emitRecord
  dsimp only
  split
  · split
    · exact h
    · exact h.inject
  · split
    · exact h.sendXevent
    · exact h.eventLost
  · exact h.inject

theorem State.Bounded.dropWaits {c : Nat} (h : s.Bounded) : (s.dropWaits c).Bounded :=
  ⟨h.cores, h.fields.map (fun _ => rfl) fun _ hx => hx.congr rfl, h.rdFaults, h.sdFaults, h.rd, h.ports⟩

theorem State.Bounded.abortCore {f li : Nat} {task : DWord} (h : s.Bounded) : (s.abortCore f li task).Bounded :=
  .toCore (h.modCis fun _ hc => hc.setSlot)

theorem State.Bounded.restartNode {f n : Nat} (h : s.Bounded) : (s.restartNode f n).Bounded := .ite (.traceNode (h.modCis fun _ hc => hc.enter)) h

theorem State.Bounded.declareLost {f li reason : Nat} (h : s.Bounded) : (s.declareLost f li reason).Bounded :=
  .ite h (.idleCheckOf (.foldl (.foldl (.modCore (.dropWaits (h.report.modCis fun _ hc => hc.setSlot)) fun _ hk => hk.congr rfl) fun _ _ ht =>
    ht.failNode) fun _ _ ht => ht.restartNode))

theorem Cistern.Bounded.clearErr {c : Cistern} {v : Nat} (hc : c.Bounded) : (c.clearErr v).Bounded := hc.congr rfl

theorem State.Bounded.syncRefresh (h : s.Bounded) : s.syncRefresh.Bounded :=
  .ite (h.modRd fun _ hr => hr.congr rfl) (.ite (h.modRd fun _ hr => hr.congr rfl) h)

theorem State.Bounded.slError {bitNo cause engine : Nat} (h : s.Bounded) : (s.slError bitNo cause engine).Bounded := h.congr rfl

theorem State.Bounded.pump {fuel p : Nat} (h : s.Bounded) : (State.pump fuel s p).Bounded := by
  induction fuel generalizing s with
  | zero => exact h
  | succ fuel ih =>
    unfold State.pump
    dsimp only
    split
    · exact h
    · exact .ite h (ih (h.congr rfl))

theorem State.Bounded.pumpAll {p : Nat} (h : s.Bounded) : (s.pumpAll p).Bounded := h.pump

theorem State.Bounded.xput {p : Nat} {x : XPacket} (h : s.Bounded) : (s.xput p x).Bounded := .pumpAll (h.congr rfl)

theorem State.Bounded.xlocal {p : Nat} {x : XPacket} (h : s.Bounded) : (s.xlocal p x).Bounded := h.congr rfl

theorem State.Bounded.xsendLast {x : XPacket} (h : s.Bounded) : (s.xsendLast x).Bounded := by
  refine .ite h.xlocal ?_
  split
  · exact h.xput
  · exact h

theorem State.Bounded.xfail {x : XPacket} {cause : Nat} (h : s.Bounded) : (s.xfail x cause).Bounded :=
  .ite h (.xsendLast (.ite h.report.slError h.report))

theorem State.Bounded.xsend {x : XPacket} (h : s.Bounded) : (s.xsend x).Bounded := by
  refine .ite h.xlocal ?_
  split
  · exact h.xput
  · exact h.xfail

theorem State.Bounded.setWell {f g : Nat} {w : Well} (h : s.Bounded) : (s.setWell f g w).Bounded := h.modSyn

theorem State.Bounded.tree {wf : Nat} {b : Payload} (h : s.Bounded) : (s.tree wf b).Bounded := by
  unfold State.tree
  split
  · exact h
  · exact h.inject

theorem State.Bounded.engineArrival {wf g : Nat} (h : s.Bounded) : (s.engineArrival wf g).Bounded := by
  unfold State.engineArrival
  split
  · exact h
  · exact h.xsend

theorem State.Bounded.wellRelease {wf g : Nat} (h : s.Bounded) : (s.wellRelease wf g).Bounded :=
  .ite h.setWell.progress.tree.engineArrival h.setWell.progress.tree

theorem State.Bounded.rootBroken {job g cause : Nat} (h : s.Bounded) : (s.rootBroken job g cause).Bounded := .foldl h fun _ _ ht => ht.xsend

theorem State.Bounded.breakLocal {p g cause : Nat} (h : s.Bounded) : (s.breakLocal p g cause).Bounded := by
  unfold State.breakLocal
  split
  · exact h
  · exact .ite h h.setWell.progress.tree

theorem State.Bounded.breakOwn {p g cause : Nat} (h : s.Bounded) : (s.breakOwn p g cause).Bounded :=
  .ite h.breakLocal (.ite h.breakLocal.rootBroken h.breakLocal.xsend)

theorem State.Bounded.setPair {f i : Nat} {x : Pair} (h : s.Bounded) : (s.setPair f i x).Bounded := h.modSyn

theorem State.Bounded.answerWaiter {f : Nat} {w : Waiter} {cause p c : Nat} (h : s.Bounded) : (s.answerWaiter f w cause p c).Bounded := h.answerCore

theorem State.Bounded.checkWaits {f i : Nat} (h : s.Bounded) : (s.checkWaits f i).Bounded := by
  unfold State.checkWaits
  dsimp only
  split
  · refine .answerWaiter ?_
    split
    · exact h.setPair.answerWaiter
    · exact h.setPair
  · split
    · exact h.setPair.answerWaiter
    · exact h.setPair

theorem State.Bounded.pairError {f i cause bitNo : Nat} {who : Option (DWord × Nat)} (h : s.Bounded) : (s.pairError f i cause bitNo who).Bounded := by
  unfold State.pairError
  dsimp only
  split
  · refine .answerWaiter ?_
    split
    · exact h.setPair.syncFault.answerWaiter
    · exact h.setPair.syncFault
  · split
    · exact h.setPair.syncFault.answerWaiter
    · exact h.setPair.syncFault

theorem State.Bounded.pairSat {f i : Nat} (h : s.Bounded) : (s.pairSat f i).Bounded := h.setPair.syncFault

theorem State.Bounded.refuseOp {f c : Nat} {p : Packet} {cause : Nat} (h : s.Bounded) : (s.refuseOp f c p cause).Bounded := h.answerCore

theorem State.Bounded.advancePair {o : PairOp} (h : s.Bounded) : (s.advancePair o).Bounded :=
  .ite h.refuseOp (.ite h.refuseOp (.ite h.progress (.ite (.ite h.setPair.progress.pairSat h.setPair.progress) h.pairError.refuseOp)))

theorem State.Bounded.waitPair {o : PairOp} (h : s.Bounded) : (s.waitPair o).Bounded :=
  .ite h.refuseOp (.ite h.syncFault.refuseOp (.ite h.syncFault.refuseOp (.ite h.progress.answerWaiter h.setPair.progress)))

theorem State.Bounded.clearPair {o : PairOp} (h : s.Bounded) : (s.clearPair o).Bounded :=
  .ite h.refuseOp (.ite h.setPair.progress.answerCore h.answerCore)

theorem State.Bounded.readPair {o : PairOp} (h : s.Bounded) : (s.readPair o).Bounded := h.answerCore

theorem State.Bounded.applyPairOps {l : List PairOp} (h : s.Bounded) : (s.applyPairOps l).Bounded :=
  .foldl (.foldl (.foldl (.foldl (.foldl h fun _ _ ht => ht.advancePair) fun _ _ ht => ht.checkWaits) fun _ _ ht => ht.waitPair) fun _ _ ht =>
    ht.clearPair) fun _ _ ht => ht.readPair

theorem State.Bounded.takeBoth {k : Nat} {j : Option Nat} (h : s.Bounded) : (s.takeBoth k j).Bounded := by
  unfold State.takeBoth
  split
  · exact h.take
  · exact .ite h.take.take h.take.take

theorem State.Bounded.countArrival {wf g : Nat} (h : s.Bounded) : (s.countArrival wf g).Bounded :=
  .ite h (.ite h.setWell.progress (.ite h.setWell.progress.wellRelease (.ite h.setWell.progress.setWell h.setWell.progress.setWell.engineArrival)))

theorem State.Bounded.wakeAwait {c cause : Nat} (h : s.Bounded) : (s.wakeAwait c cause).Bounded := by
  refine h.modCore ?_
  intro _ hk
  split
  · exact hk.congr rfl
  · exact hk

theorem State.Bounded.releaseCore {c g : Nat} (h : s.Bounded) : (s.releaseCore c g).Bounded :=
  .foldl h fun _ _ ht => .ite (.ite ht.setArrival.wakeAwait ht.setArrival) ht

theorem State.Bounded.snapField {p f : Nat} (h : s.Bounded) : (s.snapField p f).Bounded := by
  unfold State.snapField
  exact h.modSyn

theorem State.Bounded.dryField {f : Nat} (h : s.Bounded) : (s.dryField f).Bounded := .foldl h fun _ _ ht => .ite ht.failQuiet.dropWaits.abortCore ht

theorem Cistern.Bounded.write64 {c : Cistern} {a v : Nat} (hc : c.Bounded) : (c.write64 a v).Bounded :=
  ⟨Memory.wf_setValue hc.mem _ _ _, hc.pool⟩

theorem State.Bounded.fieldCtlWrite {f o v : Nat} (h : s.Bounded) : (s.fieldCtlWrite f o v).Bounded := by
  refine .ite (h.modCis fun _ hc => hc.congr rfl) ?_
  refine .ite (h.stepsFrom fun _ _ ht => ht.modSyn) ?_
  refine .ite h.modSyn ?_
  split
  · exact h.modCis fun _ hc => hc.congr rfl
  · exact h.modCis fun _ hc => hc.congr rfl
  · exact h.modCis fun _ hc => hc.clearErr
  · exact h.modSyn
  · exact h

theorem State.Bounded.writeRoute {e v : Nat} (h : s.Bounded) : (s.writeRoute e v).Bounded :=
  .ite (.syncRefresh (h.modRd fun _ hr => hr.congr rfl)) (h.modRd fun _ hr => hr.congr rfl)

theorem State.Bounded.writeCw {g v : Nat} (h : s.Bounded) : (s.writeCw g v).1.Bounded := by
  unfold State.writeCw
  split
  · exact h
  · dsimp only
    exact h.modRd fun _ hr => hr.congr rfl

theorem State.Bounded.setLock {p : Nat} {l : FreqLock} (h : s.Bounded) : (s.setLock p l).Bounded := h.congr rfl

theorem State.Bounded.writeFl {p v : Nat} (h : s.Bounded) : (s.writeFl p v).1.Bounded := by
  unfold State.writeFl
  split
  · exact h
  · exact .setLock (h.modRd fun _ hr => hr.congr rfl)

end

/-! ### Traces, commands of a port and memory accesses -/

section
variable {s : State}

theorem State.Bounded.setPart {p : Nat} {x : Part} (h : s.Bounded) : (s.setPart p x).Bounded := h.congr rfl

theorem State.Bounded.modSl {p : Nat} {g : Sluice → Sluice} (h : s.Bounded) : (s.modSl p g).Bounded := h.congr rfl

theorem State.Bounded.modClk {f : Nat} {g : FieldClock → FieldClock} (h : s.Bounded) : (s.modClk f g).Bounded := h.modField fun _ hx => hx.congr rfl

theorem State.Bounded.modSd {g : ServiceDomain → ServiceDomain} (h : s.Bounded) : (s.modSd g).Bounded := h.congr rfl

theorem State.Bounded.modWell {w : Nat} {g : Wellhead → Wellhead} (h : s.Bounded) : (s.modWell w g).Bounded := .ite (h.congr rfl) (h.congr rfl)

theorem State.Bounded.modWh {g : WellPair → WellPair} (h : s.Bounded) : (s.modWh g).Bounded := h.congr rfl

theorem State.Bounded.modCan {g : Can → Can} (h : s.Bounded) : (s.modCan g).Bounded := h.congr rfl

theorem State.Bounded.modFw {g : Firmware → Firmware} (h : s.Bounded) : (s.modFw g).Bounded := h.congr rfl

theorem State.Bounded.modTherm {g : Thermal → Thermal} (h : s.Bounded) : (s.modTherm g).Bounded := h.congr rfl

theorem State.Bounded.startCmd {p r : Nat} {sel : List Nat → Bool} {eff : State → Ring → Cmd → State × Cmd} (h : s.Bounded)
    (heff : ∀ t y c, t.Bounded → (eff t y c).1.Bounded) : (s.startCmd p r sel eff).Bounded := by
  unfold State.startCmd
  dsimp only
  split
  · exact h
  · refine .ite h ?_
    refine .modPort ?_ fun _ hx => hx.congr rfl
    split
    · exact h.setPort (h.port.congr rfl)
    · exact heff _ _ _ (h.setPort (h.port.congr rfl))

theorem Port.Bounded.dropPages {x : Port} {hit : Nat → Nat → Bool} (hx : x.Bounded) : (x.dropPages hit).Bounded := hx.congr rfl

/-- Locks of message queues taken off the cores that `own` names. -/
theorem Tab.Each.dropLocks {t : Tab Core} {own : Nat → Bool} (h : Tab.Each Core.Canonical t Core.reset) :
    Tab.Each Core.Canonical (t.map fun (e : Nat × Core) =>
      if own e.1 then (e.1, { e.2 with inq := e.2.inq.map (fun (q : Nat × InQueue) => (q.1, { q.2 with lock := none })) }) else e) Core.reset := by
  refine h.map (fun e => ?_) fun e he => ?_
  · split <;> rfl
  · split
    · exact he.congr rfl
    · exact he

theorem State.Bounded.sensorsOn {d : Nat} (h : s.Bounded) : (s.sensorsOn d).Bounded := h.congr rfl

theorem State.Bounded.hostWrite {p a : Nat} {data : List Byte} (h : s.Bounded) : (s.hostWrite p a data).Bounded :=
  .congr (h.modPort (p := p) fun _ hx => hx.count) rfl

theorem State.Bounded.dropTrace {p : Nat} (h : s.Bounded) : (s.dropTrace p).Bounded :=
  h.foldl fun _ _ ht => ht.modField fun _ hx => ⟨hx.cis, hx.faults, Nat.zero_le _⟩

theorem State.Bounded.traceDisable {p : Nat} (h : s.Bounded) : (s.traceDisable p).Bounded := h.dropTrace.setTraceDest (Nat.zero_le _)

theorem State.Bounded.traceEnable {p : Nat} (h : s.Bounded) : (s.traceEnable p).Bounded :=
  .ite (h.setTraceDest (h.traceDest.congr rfl)) (.hostWrite (.dropTrace (h.setTraceDest (Nat.zero_le _))))

theorem State.Bounded.traceWrite {p w v : Nat} (h : s.Bounded) : (s.traceWrite p w v).Bounded := by
  unfold State.traceWrite
  dsimp only
  split
  · exact .ite (.ite h h.traceDisable) (.ite (.traceEnable (h.setTraceDest (h.traceDest.congr rfl))) (h.setTraceDest (h.traceDest.congr rfl)))
  · exact .ite h (h.setTraceDest (h.traceDest.congr rfl))
  · exact .ite h (h.setTraceDest (h.traceDest.congr rfl))
  · exact h.setTraceDest (h.traceDest.congr rfl)

theorem State.Bounded.engineCtlWrite {o v : Nat} (h : s.Bounded) : (s.engineCtlWrite o v).1.Bounded := by
  unfold State.engineCtlWrite
  split
  · dsimp only
    exact h.modRd fun _ hr => hr.congr rfl
  · split
    · dsimp only
      exact .foldl h fun _ _ ht => ht.writeRoute
    · split
      · exact h.writeCw.writeCw
      · split
        · exact h.writeFl.writeFl
        · split
          · exact h.traceWrite
          · exact h

theorem State.Bounded.countRead {a len : Nat} (h : s.Bounded) : (s.countRead a len).Bounded := by
  unfold State.countRead
  dsimp only
  split
  · exact .foldl (h.modCore fun _ hk => hk.readCe) fun _ _ ht => ht.countUe
  · exact .foldl (.foldl h fun _ _ ht => ht.meetIce) fun _ _ ht => ht.countUe
  · exact .foldl (.ite h h.addTotal) fun _ _ ht => ht.countUe.modCis fun _ hc => hc.error
  · exact h

theorem State.Bounded.fabStore {a : Nat} {data : List Byte} (h : s.Bounded) : (s.fabStore a data).Bounded := by
  unfold State.fabStore
  dsimp only
  split
  · exact h.modCore fun _ hk => hk.fabWrite
  · exact h.modCore fun _ hk => hk.imageWrite
  · exact .foldl h fun _ _ ht => .modField (ht.modCis fun _ hc => hc.write64) fun _ hx => hx.congr rfl
  · exact .foldl h fun _ _ ht => ht.fieldCtlWrite
  · exact h

theorem State.Bounded.fabMake {p : Packet} {kind : FabricKind} {a len : Nat} {data : List Byte} (h : s.Bounded) :
    (s.fabMake p kind a len data).Bounded := by
  refine .ite h.inject ?_
  split
  · exact h.countRead.inject
  · exact h.fabStore.inject

theorem Cistern.Bounded.startReset {c : Cistern} (hc : c.Bounded) : c.startReset.Bounded := ⟨hc.mem, Nat.zero_le _⟩

theorem State.Bounded.startGraph {p : Nat} (h : s.Bounded) : (s.startGraph p).Bounded := by
  have fresh : ((s.partFields p).foldl (fun s f => (s.modCis f Cistern.startReset).modSyn f SyncUnit.startReset) s).Bounded :=
    h.foldl fun _ _ ht => (ht.modCis fun _ hc => hc.startReset).modSyn
  refine .foldl (.modPart ?_) fun _ _ ht => ht.foldl fun _ _ ht => .ite ht.fireNode ht
  exact ⟨fresh.cores.dropLocks (own := fun c => (s.partFields p).contains (fieldOf c)), fresh.fields, fresh.rdFaults, fresh.sdFaults, fresh.rd,
    fresh.ports⟩

theorem State.Bounded.hostRead {p n : Nat} (h : s.Bounded) : (s.hostRead p n).Bounded := h.modPort fun _ hx => hx.count

theorem Port.Bounded.aerRecord {x : Port} {e : ReadFail} (hx : x.Bounded) : (x.aerRecord e).Bounded := hx.congr rfl

theorem State.Bounded.setCmd {p i : Nat} {c : Cmd} (h : s.Bounded) : (s.setCmd p i c).Bounded := h.modPort fun _ hx => hx.congr rfl

theorem State.Bounded.haltRing {p : Nat} {c : Cmd} (h : s.Bounded) : (s.haltRing p c).Bounded :=
  .ite (.modPort (.portFault (h.setPort (.setRing (.ite h.port h.port.count)))) fun _ hx => hx.congr rfl) (h.setPort (.setRing (.ite h.port
    h.port.count)))

theorem State.Bounded.flush {p r : Nat} (h : s.Bounded) : (s.flush p r).Bounded := by
  unfold State.flush
  exact .modPort (h.setPort (h.port.congr rfl)) fun _ hx => hx.modRing

theorem State.Bounded.finishCmd {p i : Nat} {c : Cmd} (h : s.Bounded) : (s.finishCmd p i c).Bounded :=
  .ite (h.modPort fun _ hx => hx.congr rfl) (.flush (.ite (.haltRing (.ite h.setCmd (h.setCmd.modPort fun _ hx => hx.count))) (.ite h.setCmd
    (h.setCmd.modPort fun _ hx => hx.count))))

theorem State.Bounded.beginPage {p ctx page : Nat} {c : Cmd} (h : s.Bounded) : (s.beginPage p ctx page c).1.Bounded := by
  unfold State.beginPage
  dsimp only
  split
  · split
    · exact h.setPort (.count (h.port.congr rfl))
    · exact h.setPort (.count (h.port.congr rfl))
  · split
    · exact h.setPort h.port.count.count
    · split
      · exact h.setPort h.port.count.count
      · exact h.setPort h.port.count.count

theorem State.Bounded.hostPut {p : Nat} {c : Cmd} {off : Nat} {data : List Byte} (h : s.Bounded) : (s.hostPut p c off data).Bounded :=
  .ite h (.foldl h fun _ _ ht => ht.hostWrite)

theorem State.Bounded.fabSend {p : Nat} {c : Cmd} {a len : Nat} {kind : FabricKind} {data : List Byte} (h : s.Bounded) :
    (s.fabSend p c a len kind data).1.Bounded :=
  .foldl_fst h fun _ _ ht => .inject (ht.modPort fun _ hx => hx.congr rfl)

theorem State.Bounded.xcopySend {p : Nat} {c : Cmd} {off : Nat} {data : List Byte} (h : s.Bounded) : (s.xcopySend p c off data).1.Bounded :=
  .xsend (h.modPort fun _ hx => hx.congr rfl)

theorem State.Bounded.ectlPut {c : Cmd} {a : Nat} {data : List Byte} (h : s.Bounded) : (s.ectlPut c a data).1.Bounded :=
  .foldl_fst h fun _ _ ht => ht.engineCtlWrite

theorem State.Bounded.issueCmd {p : Nat} {c : Cmd} (h : s.Bounded) : (s.issueCmd p c).1.Bounded := by
  unfold State.issueCmd
  split
  · exact h
  · dsimp only
    split
    · dsimp only
      split
      · exact h.hostPut
      · exact h.fabSend
    · exact h

theorem State.Bounded.beginTransfer {p : Nat} {y : Ring} {c : Cmd} (h : s.Bounded) : (s.beginTransfer p y c).1.Bounded := by
  refine .issueCmd ?_
  refine .foldl_fst h fun _ _ ht => ?_
  split
  · exact ht
  · exact ht.beginPage

theorem State.Bounded.imageRead {p : Nat} {c : Cmd} (h : s.Bounded) : (s.imageRead p c).1.Bounded := by
  unfold State.imageRead
  dsimp only
  split
  · exact h
  · exact .foldl_fst h fun _ _ ht => ht.fabSend

theorem State.Bounded.dataIn {p : Nat} {c : Cmd} {off : Nat} {data : List Byte} (h : s.Bounded) : (s.dataIn p c off data).1.Bounded := by
  unfold State.dataIn
  dsimp only
  split
  · split
    · exact h.ectlPut
    · exact h.fabSend
  · exact h.fabSend
  · exact h.xcopySend
  · split
    · exact h.imageRead
    · exact h

theorem State.Bounded.checkGraph {q : Nat} {c : Cmd} (h : s.Bounded) : (s.checkGraph q c).1.Bounded := by
  unfold State.checkGraph
  split
  · exact h
  · exact h.startGraph

theorem State.Bounded.invalidate {p : Nat} {c : Cmd} (h : s.Bounded) : (s.invalidate p c).1.Bounded := by
  unfold State.invalidate
  dsimp only
  exact h.modPort fun _ hx => hx.congr rfl

theorem State.Bounded.putRecord {p r : Nat} {e : Record} (h : s.Bounded) : (s.putRecord p r e).Bounded := by
  unfold State.putRecord
  exact h.hostWrite.modPort fun _ hx => hx.congr rfl

theorem State.Bounded.putNote {p r : Nat} {e : Record} (h : s.Bounded) : (s.putNote p r e).Bounded := h.putRecord.modPort fun _ hx => hx.count

theorem Port.Bounded.setChan {x : Port} {c : Nat} {y : Channel} (hx : x.Bounded) : (x.setChan c y).Bounded := hx.congr rfl

theorem Port.Bounded.writeReg {x : Port} {o v : Nat} (hx : x.Bounded) : (x.writeReg o v).Bounded :=
  .ite hx.modRing (.ite (hx.congr rfl) (.ite (.ite hx.setChan (.ite hx.setChan hx)) hx))

theorem Port.Bounded.configWrite {x : Port} {o v : Nat} (hx : x.Bounded) : (x.configWrite o v).Bounded := by
  unfold Port.configWrite
  split
  · exact hx.congr rfl
  · exact hx.congr rfl
  · exact hx.congr rfl
  · exact hx.congr rfl
  · exact hx

end

/-! ### Ports, Sluice, domains, partitions and the start of the engine -/

section
variable {s : State}

theorem Port.Bounded.functionReset {x : Port} (_ : x.Bounded) : x.functionReset.Bounded := Nat.zero_le _

theorem State.Bounded.dropMailbox {p : Nat} (h : s.Bounded) : (s.dropMailbox p).Bounded := h.congr rfl

theorem State.Bounded.tick {adv : Nat} (h : s.Bounded) : (s.tick adv).Bounded :=
  .ite h (.ite ⟨h.cores, h.fields.map (fun _ => rfl) fun _ hx => hx.congr rfl, h.rdFaults, h.sdFaults, h.rd, h.ports⟩ (h.congr rfl))

theorem State.Bounded.portEmpty {p : Nat} {st : PortState} (h : s.Bounded) : (s.portEmpty p st).Bounded := .foldl h.modSl fun _ _ ht => ht.xfail

theorem State.Bounded.portDown {p : Nat} (h : s.Bounded) : (s.portDown p).Bounded := h.portEmpty.modSl.portFault

theorem State.Bounded.sendBare {p ftype ackSeq : Nat} (h : s.Bounded) : (s.sendBare p ftype ackSeq).Bounded := h.congr rfl

theorem State.Bounded.portTrain {p : Nat} (h : s.Bounded) : (s.portTrain p).Bounded := .sendBare (.modSl (.ite h.portEmpty h.modSl))

theorem State.Bounded.portOff {p : Nat} (h : s.Bounded) : (s.portOff p).Bounded := .ite h h.portEmpty

theorem State.Bounded.freeBuffer {p : Nat} {x : XPacket} (h : s.Bounded) : (s.freeBuffer p x).Bounded := .ite h.modSl h

theorem State.Bounded.xreceived {p : Nat} {x : XPacket} (h : s.Bounded) : (s.xreceived p x).Bounded := .ite h.modSl.freeBuffer h.xlocal

theorem State.Bounded.flitIn {p : Nat} {f : Flit} (h : s.Bounded) : (s.flitIn p f).Bounded := by
  unfold State.flitIn
  split
  · exact .ite h.modSl h.xreceived
  · exact .ite h.modSl.xreceived h.modSl
  · exact h

theorem State.Bounded.frameBad {p : Nat} (h : s.Bounded) : (s.frameBad p).Bounded := .ite h h.modSl.sendBare.modSl

theorem State.Bounded.replayAll {p : Nat} (h : s.Bounded) : (s.replayAll p).Bounded := .ite h (.ite h.portDown (h.congr rfl))

theorem State.Bounded.xdiscard {p : Nat} (h : s.Bounded) : (s.xdiscard p).Bounded := .ite h.modSl h

theorem State.Bounded.groupProgress {job g : Nat} (h : s.Bounded) : (s.groupProgress job g).Bounded := by
  unfold State.groupProgress
  split
  · exact h.progress
  · exact h

theorem State.Bounded.stopOf {f : Nat} (h : s.Bounded) : (s.stopOf f).Bounded := by
  unfold State.stopOf
  split
  · exact h.stopPartition
  · exact h

theorem State.Bounded.xeventLost {f tag cause : Nat} (h : s.Bounded) : (s.xeventLost f tag cause).Bounded := by
  unfold State.xeventLost
  extract_lets c s1
  have hc : c.Bounded := h.field.cis
  have hs1 : s1.Bounded := h.modCis fun _ hc => hc.congr rfl
  split
  · dsimp only
    split
    · exact .ite (hs1.setCore hs1.core.refuse) (.stopOf (hs1.modCis fun _ hc => hc.error))
    · exact .stopOf (hs1.modCis fun _ hc => hc.error)
  · exact h

theorem State.Bounded.tsStep (h : s.Bounded) : s.tsStep.Bounded := h.congr rfl

theorem State.Bounded.schedule {p f t : Nat} (h : s.Bounded) : (s.schedule p f t).Bounded :=
  .foldl h fun _ _ ht => ht.modField fun _ hx => .ite (hx.congr rfl) hx

theorem State.Bounded.issuePart {p n t : Nat} (h : s.Bounded) : (s.issuePart p n t).Bounded := .foldl h fun _ _ ht => .ite ht.modClk ht

theorem State.Bounded.askPart {p : Nat} (h : s.Bounded) : (s.askPart p).Bounded := h.issuePart

theorem State.Bounded.unplanCd {f : Nat} (h : s.Bounded) : (s.unplanCd f).Bounded := by
  unfold State.unplanCd
  split
  · exact .ite (h.congr rfl) h
  · exact h

theorem Tab.Each.offCores {t : Tab Core} {f : Nat} (h : Tab.Each Core.Canonical t Core.reset) :
    Tab.Each Core.Canonical (t.filterMap (offCore f)) Core.reset := by
  intro c
  by_cases mine : fieldOf c = f
  · refine Tab.read_filterMap_of (offCore_key f) Core.reset_canonical fun e e' here out => ?_
    rw [offCore, if_neg (by rw [here, mine]; exact fun ne => ne rfl)] at out
    split at out
    · exact (Option.some.inj out) ▸ Core.reset_canonical.congr rfl
    · cases out
  · rw [Tab.read_filterMap_keep _ (offCore_key f) fun e here => by rw [offCore, if_pos (by rw [here]; exact mine)]]
    exact h c

theorem State.Bounded.cdOff {f : Nat} (h : s.Bounded) : (s.cdOff f).Bounded := by
  have cleared : (s.unplanCd f).Bounded := h.unplanCd
  refine .ite h (.modField ?_ fun _ hx => hx.congr rfl)
  exact ⟨h.cores.offCores, cleared.fields, cleared.rdFaults, cleared.sdFaults, cleared.rd, cleared.ports⟩

theorem State.Bounded.cdStart {f : Nat} (h : s.Bounded) : (s.cdStart f).Bounded := .ite (.modClk (h.congr rfl)) h

theorem State.Bounded.mdStart {f t tries : Nat} (h : s.Bounded) : (s.mdStart f t tries).Bounded := .modClk (h.congr rfl)

theorem State.Bounded.startFields (h : s.Bounded) : s.startFields.Bounded := .ite h (.foldl h fun _ _ ht => ht.mdStart)

theorem Field.Bounded.mdLost {x : Field} (hx : x.Bounded) : x.mdLost.Bounded := ⟨Cistern.reset_bounded, hx.faults, FieldObs.reset_bounded⟩

theorem Field.Bounded.mdReset {x : Field} {st : DomState} (hx : x.Bounded) : (x.mdReset st).Bounded := .congr (.ite hx.mdLost hx) rfl

theorem State.Bounded.warmReset {st : DomState} (h : s.Bounded) : (s.warmReset st).Bounded := by
  unfold State.warmReset
  generalize nFields = n
  have off : ((upTo n).foldl State.cdOff ((upTo 16).foldl State.idlePart s)).Bounded :=
    .foldl (h.foldl fun _ _ ht => ht.idlePart) fun _ _ ht => ht.cdOff
  exact .foldl (.foldl (off.congr rfl) fun _ _ ht => ht.modField fun _ hx => hx.mdReset) fun _ _ ht => ht.modPort fun _ hx => hx.congr rfl

theorem State.Bounded.toStep {k : Nat} (h : s.Bounded) : (s.toStep k).Bounded := h.congr rfl

theorem State.Bounded.startCheck (h : s.Bounded) : s.startCheck.Bounded := .ite (.modSd (.ite h.toStep h)) (.ite h.toStep h)

theorem State.Bounded.unbindCmds {q : Nat} (h : s.Bounded) : (s.unbindCmds q).Bounded := .foldl h fun _ _ ht => ht.modPort fun _ hx => hx.congr rfl

theorem State.Bounded.clearPartDict {q : Nat} (h : s.Bounded) : (s.clearPartDict q).Bounded := .foldl h fun _ _ ht => ht.clearDict

theorem State.Bounded.forgetPower {q : Nat} (h : s.Bounded) : (s.forgetPower q).Bounded := h.congr rfl

theorem State.Bounded.disablePart {q : Nat} (h : s.Bounded) : (s.disablePart q).Bounded :=
  .startCheck (.foldl (.forgetPower (.clearPartDict (.setPart (.ite h.idlePart.unbindCmds.voidTenant.traceDisable
    h.idlePart.unbindCmds.voidTenant)))) fun _ _ ht => ht.cdOff)

theorem State.Bounded.degradedNow {f : Nat} (h : s.Bounded) : (s.degradedNow f).Bounded := by
  unfold State.degradedNow
  split
  · exact h.disablePart.fieldFault
  · exact h

theorem State.Bounded.degraded {f : Nat} (h : s.Bounded) : (s.degraded f).Bounded := .ite (h.congr rfl) h.degradedNow

theorem State.Bounded.settleDegraded (h : s.Bounded) : s.settleDegraded.Bounded := .foldl (h.congr rfl) fun _ _ ht => ht.degradedNow

theorem State.Bounded.setRect {q v : Nat} (h : s.Bounded) : (s.setRect q v).Bounded := by
  have fresh {r : BitVec 32} :
      ((((s.setPart q { Part.reset with rect := r, job := (s.part q).job }).clearDict 0x2902 (q + 1)).clearDict 0x2903 (q + 1)).forgetPower
        q).Bounded :=
    h.setPart.clearDict.clearDict.forgetPower
  refine .ite (.modPart (.ite h.disablePart h.voidTenant)) (.ite ?_ ?_)
  · exact .foldl (fresh.setTraceDest (fresh.traceDest.congr rfl)) fun _ _ ht => ht.cdStart
  · exact .startCheck (.askPart (.foldl (.foldl h.modPart fun _ _ ht => ht.cdOff) fun _ _ ht => ht.cdStart))

theorem State.Bounded.rebuildMap {r : FlashRead} (h : s.Bounded) : (s.rebuildMap r).Bounded :=
  .congr (.ite (.engineFault (cause := 20998) (info := 0) (by exact h.congr rfl)) (by exact h.congr rfl)) rfl

/-- Port tables built anew hold ports without notifications. -/
theorem Tab.Each.freshPorts {l : List Nat} {g : Nat → Port} {t : Tab Port} (h : Tab.Each Port.Bounded t Port.reset) (hg : ∀ p, (g p).Bounded) :
    Tab.Each Port.Bounded (l.foldl (fun t p => Tab.write t Port.reset p (g p)) t) Port.reset := by
  induction l generalizing t with
  | nil => exact h
  | cons p l ih => exact ih (h.write (hg p))

theorem State.reset_bounded : State.Bounded State.reset :=
  ⟨fun _ => Core.reset_canonical, fun _ => ⟨Cistern.reset_bounded, Nat.zero_le _, FieldObs.reset_bounded⟩, Nat.zero_le _, Nat.zero_le _,
    RingDomain.reset_bounded, fun _ => Port.reset_bounded⟩

theorem State.Bounded.coldReset (_ : s.Bounded) : s.coldReset.Bounded :=
  ⟨State.reset_bounded.cores, State.reset_bounded.fields, State.reset_bounded.rdFaults, State.reset_bounded.sdFaults, State.reset_bounded.rd,
    State.reset_bounded.ports.freshPorts fun _ => Port.reset_bounded.congr rfl⟩

theorem Port.Bounded.rdStart {x : Port} {now : Nat} (_ : x.Bounded) : (x.rdStart now).Bounded := Nat.zero_le _

theorem State.Bounded.rdStarted (h : s.Bounded) : s.rdStarted.Bounded := by
  refine .syncRefresh (.foldl (.foldl (.foldl ?_ fun _ _ ht => .dropMailbox (ht.modPort fun _ hx => hx.rdStart)) fun _ _ ht => .ite ht.modPart ht)
    fun _ _ ht => .ite ht.portTrain ht)
  exact ⟨h.cores, h.fields, h.rdFaults, h.sdFaults, RingDomain.reset_bounded, h.ports⟩

theorem State.Bounded.rdStop {st : DomState} (h : s.Bounded) : (s.rdStop st).Bounded := .foldl (h.modRd fun _ hr => hr.congr rfl) fun _ _ ht =>
  ht.modSl

theorem State.Bounded.failStart {step cause : Nat} (h : s.Bounded) : (s.failStart step cause).Bounded := by
  refine ⟨h.cores, h.fields.map (fun e => ?_) fun e he => ?_, h.rdFaults, h.sdFaults, h.rd, h.ports⟩
  · split
    · split <;> rfl
    · rfl
  · split
    · split
      · exact he.congr rfl
      · exact he
    · exact he

theorem State.Bounded.rdStart (h : s.Bounded) : s.rdStart.Bounded := h.congr rfl

theorem State.Bounded.bootBoth (h : s.Bounded) : s.bootBoth.Bounded := h.congr rfl

theorem State.Bounded.pmbSend {l : List PmbOut} (h : s.Bounded) : (s.pmbSend l).Bounded := h.congr rfl

theorem State.Bounded.readFlash {r : FlashRead} (h : s.Bounded) : (s.readFlash r).Bounded :=
  .rebuildMap (.congr (.ite (.engineFault (cause := 21111) (info := 0) (by exact h.congr rfl)) (by exact h.congr rfl)) rfl)

theorem State.Bounded.bootsDone {r : FlashRead} (h : s.Bounded) : (s.bootsDone r).Bounded :=
  .ite h (.ite (h.congr rfl) (.toStep (.readFlash (.ite (.report (.ite (.report (h.congr rfl)) (h.congr rfl))) (.ite (.report (h.congr rfl))
    (h.congr rfl))))))

theorem State.Bounded.canSend {id : Nat} {data : List Byte} (h : s.Bounded) : (s.canSend id data).Bounded := .ite (h.congr rfl) h

theorem State.Bounded.nmtBootUp (h : s.Bounded) : s.nmtBootUp.Bounded :=
  .ite (h.congr rfl) (.congr (h.canSend (id := 1792 + s.sd.nodeId) (data := [0])) rfl)

end

/-! ### The dictionary, CAN and the Wellheads -/

section
variable {s : State}

theorem State.Bounded.rdFailed (h : s.Bounded) : s.rdFailed.Bounded :=
  .ite (.toStep (h.modRd fun _ hr => hr.congr rfl)) (.failStart (.engineFault (h.modRd fun _ hr => hr.congr rfl)))

theorem State.Bounded.mdFailed {f : Nat} (h : s.Bounded) : (s.mdFailed f).Bounded := .ite h.mdStart h.modClk.report.failStart

theorem State.Bounded.releaseCores {f : Nat} (h : s.Bounded) : (s.releaseCores f).Bounded :=
  h.foldl fun _ _ ht => ⟨ht.cores.insert (Core.reset_canonical.congr rfl), ht.fields, ht.rdFaults, ht.sdFaults, ht.rd, ht.ports⟩

theorem State.Bounded.cdDegraded {f : Nat} {failed : Bool} (h : s.Bounded) : (s.cdDegraded f failed).Bounded :=
  .startCheck (.degraded (.ite h.modClk.fieldFault h.modClk))

theorem State.Bounded.restartFields (h : s.Bounded) : s.restartFields.Bounded := by
  unfold State.restartFields
  split
  · exact h.toStep
  · exact h.rdStart
  · exact h.toStep.startFields
  · exact .ite h.toStep.startFields h
  · exact h.startFields
  · exact h

theorem State.Bounded.pressEnd {long : Bool} {r : FlashRead} (h : s.Bounded) : (s.pressEnd long r).Bounded :=
  .ite (.ite (.modSd (.ite h.rebuildMap h)) (.ite h.rebuildMap h)) (.restartFields (.modSd (.ite (.modSd (.ite h.rebuildMap h)) (.ite
    h.rebuildMap h))))

theorem State.Bounded.countStored {i sub : Nat} (h : s.Bounded) : (s.countStored i sub).Bounded := h.congr rfl

theorem State.Bounded.putSetting {i sub v : Nat} (h : s.Bounded) : (s.putSetting i sub v).Bounded := .ite (h.congr rfl) h.setDict

theorem State.Bounded.armConsumer {k : Nat} (h : s.Bounded) : (s.armConsumer k).Bounded := h.congr rfl

theorem State.Bounded.retrainUp (h : s.Bounded) : s.retrainUp.Bounded := .foldl h fun _ _ ht => .ite ht.portTrain ht

theorem State.Bounded.setPortCtrl {p v : Nat} (h : s.Bounded) : (s.setPortCtrl p v).Bounded :=
  .ite h.putSetting (.ite (.ite h.putSetting.portTrain h.putSetting) h.putSetting.portOff)

theorem State.Bounded.takeIds (h : s.Bounded) : s.takeIds.Bounded :=
  .ite h (.ite (.syncRefresh (h.modRd fun _ hr => hr.congr rfl)) (.syncRefresh (.retrainUp (h.modRd fun _ hr => hr.congr rfl))))

theorem State.Bounded.repairAdd {v : Nat} (h : s.Bounded) : (s.repairAdd v).Bounded := .ite h (h.congr rfl)

theorem State.Bounded.repairRemove {v : Nat} (h : s.Bounded) : (s.repairRemove v).Bounded := h.congr rfl

theorem State.Bounded.fieldRestart {f : Nat} (h : s.Bounded) : (s.fieldRestart f).Bounded := .ite h (.ite h.cdOff.modClk.cdStart (.ite h.modClk h))

theorem State.Bounded.setDet {b : Bool} (h : s.Bounded) : (s.setDet b).Bounded := by
  refine ⟨h.cores.map (fun e => ?_) fun e he => ?_, h.fields, h.rdFaults, h.sdFaults, h.rd, h.ports⟩
  · split <;> rfl
  · split
    · exact he.congr rfl
    · exact he

theorem State.Bounded.restoreSefiez (h : s.Bounded) : s.restoreSefiez.Bounded :=
  .ite (.foldl (.takeIds (.foldl h fun _ _ ht => ht.congr rfl)) fun _ _ ht => .ite ht.portTrain ht) (.takeIds (.foldl h fun _ _ ht => ht.congr rfl))

theorem State.Bounded.clearFaultLog (h : s.Bounded) : s.clearFaultLog.Bounded := h.congr rfl

theorem State.Bounded.buttonOverride {r : FlashRead} (h : s.Bounded) : (s.buttonOverride r).Bounded := h.modSd.pressEnd

theorem State.Bounded.setDryWindow {q v : Nat} (h : s.Bounded) : (s.setDryWindow q v).Bounded := h.congr rfl

theorem State.Bounded.setTraceCtrl {q v : Nat} (h : s.Bounded) : (s.setTraceCtrl q v).Bounded :=
  .ite (h.setDict.setTraceDest (h.setDict.traceDest.congr rfl)) h.setDict

theorem State.Bounded.applyWrite {r : FlashRead} {i sub v : Nat} (h : s.Bounded) : (s.applyWrite r i sub v).Bounded :=
  .ite (h.congr rfl) (.ite (h.congr rfl) (.ite h.putSetting.armConsumer (.ite h.restoreSefiez (.ite h.repairAdd (.ite h.repairRemove (.ite
    h.rebuildMap (.ite h.fieldRestart (.ite h.setRect (.ite h.setDict.askPart (.ite h.setDryWindow (.ite h.setPortCtrl (.ite h.putSetting.takeIds
    (.ite h.putSetting.takeIds (.ite h.modPart (.ite h.setDet (.ite h.clearFaultLog (.ite h.buttonOverride (.ite h.setTraceCtrl
    h.putSetting))))))))))))))))))

theorem State.Bounded.tryItems {t : State} {flash : FlashRead} {items : List (Nat × Nat × List Byte)} (h : s.Bounded)
    (tried : s.tryItems flash items = .inl t) : t.Bounded := by
  induction items generalizing s with
  | nil => exact (Sum.inl.inj tried) ▸ h
  | cons e r ih =>
    unfold State.tryItems at tried
    split at tried
    · cases tried
    · exact ih h.applyWrite tried

theorem State.Bounded.noteRefusal {who : Requester} {cause i sub : Nat} {tko : Bool} (h : s.Bounded) :
    (s.noteRefusal who cause i sub tko).Bounded := by
  unfold State.noteRefusal
  split
  · exact ⟨h.cores, h.fields, h.rdFaults, h.sdFaults, h.rd, h.ports⟩
  · exact h

theorem State.Bounded.usdoSend {code i sub : Nat} {data : List Byte} (h : s.Bounded) : (s.usdoSend code i sub data).Bounded := .ite h.canSend h

theorem State.Bounded.usdoClose (h : s.Bounded) : s.usdoClose.Bounded := h.congr rfl

theorem State.Bounded.emcy {e : Emcy} (h : s.Bounded) : (s.emcy e).Bounded := h.congr rfl

theorem State.Bounded.emcyNow {code cause : Nat} (h : s.Bounded) : (s.emcyNow code cause).Bounded := h.congr rfl

theorem State.Bounded.respond {who : Requester} {head seq abort cause : Nat} {tko : Bool} {data : List Byte} (h : s.Bounded) :
    (s.respond who head seq abort cause tko data).Bounded := by
  unfold State.respond
  extract_lets rsp i sub s1 _
  have hs1 : s1.Bounded := h.usdoSend
  split
  · exact h.modPort fun _ hx => .ite hx.setChan hx
  · exact .ite h.usdoSend.usdoClose (.ite h.usdoSend.usdoClose (.ite h.usdoSend.usdoClose (hs1.congr rfl)))
  · exact h

theorem State.Bounded.refuse {q : DictReq} {abort cause : Nat} (h : s.Bounded) : (s.refuse q abort cause).Bounded := h.noteRefusal.respond

theorem State.Bounded.enqueue {who : Requester} {role : Role} {seq : Nat} {items : List (Nat × Nat × List Byte)} (h : s.Bounded) :
    (s.enqueue who role seq items).Bounded :=
  h.congr rfl

theorem State.Bounded.setHead {r : WriteReq} (h : s.Bounded) : (s.setHead r).Bounded := h.congr rfl

theorem State.Bounded.submit {who : Requester} {cls : Nat → Nat → Nat → Bool} (h : s.Bounded) : (s.submit who cls).Bounded := by
  refine .ite h ?_
  split
  · exact h
  · refine .ite h ?_
    split
    · exact h.refuse
    · exact h.enqueue

theorem State.Bounded.applyHead {flash : FlashRead} {sel : List (Nat × Nat × List Byte) → Bool} (h : s.Bounded) : (s.applyHead flash sel).Bounded
  := by
  unfold State.applyHead
  split
  · exact h
  · refine .ite h (.ite h.setHead ?_)
    split
    · next tried => exact (h.tryItems tried).setHead
    · exact h.setHead

theorem State.Bounded.ownWrite {o : OwnRow} {apply : Bool} {who : Requester} {flash : FlashRead} (h : s.Bounded) :
    (s.ownWrite o apply who flash).Bounded :=
  .ite h.applyHead h.submit

theorem State.Bounded.usdoAbort {u : Usdo} {abort cause : Nat} (h : s.Bounded) : (s.usdoAbort u abort cause).Bounded :=
  h.usdoSend.noteRefusal.usdoClose.leaveQueue

theorem State.Bounded.usdoOpen {u : Usdo} (h : s.Bounded) : (s.usdoOpen u).Bounded := by
  unfold State.usdoOpen
  dsimp only
  split
  · next v _ =>
    have aborted := h.usdoAbort (u := v) (abort := 0x08000000) (cause := 0x5237)
    generalize s.usdoAbort v 0x08000000 0x5237 = t at aborted ⊢
    exact aborted.congr rfl
  · exact h.congr rfl

theorem State.Bounded.nmtGo {n : Nmt} (h : s.Bounded) : (s.nmtGo n).Bounded := .ite h.modCan h

theorem State.Bounded.reloadComm (h : s.Bounded) : s.reloadComm.Bounded := h.congr rfl

theorem State.Bounded.resetComm (h : s.Bounded) : s.resetComm.Bounded := .nmtBootUp (.reloadComm (h.congr rfl))

/-- Records that leave a queue leave it within its bound. -/
theorem FaultQueue.Bounded.filter {q : FaultQueue} {keep : FaultRec → Bool} (hq : q.Bounded) :
    FaultQueue.Bounded { q with recs := q.recs.filter keep } :=
  le_trans (List.length_filter_le _ _) hq

theorem State.Bounded.dropDrained {l : List (Nat × Nat)} (h : s.Bounded) : (s.dropDrained l).Bounded :=
  .ite h ⟨h.cores, h.fields.map (fun _ => rfl) fun _ hx => ⟨hx.cis, hx.faults.filter, hx.obs⟩, h.rdFaults.filter, h.sdFaults.filter, h.rd, h.ports⟩

theorem State.Bounded.commitEpoch {n : Nat} (h : s.Bounded) : (s.commitEpoch n).Bounded := h.congr rfl

theorem State.Bounded.commitLocal (h : s.Bounded) : s.commitLocal.Bounded := .dropDrained (.commitEpoch (h.congr rfl))

theorem State.Bounded.openEpoch (h : s.Bounded) : s.openEpoch.Bounded := h.congr rfl

theorem State.Bounded.wellFail {w : Nat} (h : s.Bounded) : (s.wellFail w).Bounded := h.modWell

theorem State.Bounded.standbyFail {w : Nat} (h : s.Bounded) : (s.standbyFail w).Bounded := .ite h.wellFail.report h.wellFail

theorem State.Bounded.bothDown (h : s.Bounded) : s.bothDown.Bounded := h.congr rfl

theorem State.Bounded.moveToken (h : s.Bounded) : s.moveToken.Bounded :=
  .ite h.bothDown (.dropDrained (.modWh (.congr (h.wellFail (w := s.wh.active)) rfl)))

theorem State.Bounded.answerTakeover (h : s.Bounded) : s.answerTakeover.Bounded := by
  refine .foldl h fun _ _ ht => ?_
  split
  · exact ht.noteRefusal.respond
  · exact ht

theorem State.Bounded.settleLoss (h : s.Bounded) : s.settleLoss.Bounded := .ite h (.modSd (.engineFault (.ite h.warmReset h)))

end

/-! ### Power, temperature, scrubs and statistics -/

section
variable {s : State}

/-- What a destination stages beyond its room is dropped (R527). -/
theorem State.Bounded.stage {p : Nat} {l : List TraceRec} (h : s.Bounded) : (s.stage p l).Bounded := by
  have staged : (s.setTraceDest p { s.traceDest p with
      staging := (s.traceDest p).staging ++ l.take (1024 - (s.traceDest p).staging.length),
      dropped := (s.traceDest p).dropped + (l.length - (1024 - (s.traceDest p).staging.length)) }).Bounded := by
    have held : (s.traceDest p).staging.length ≤ 1024 := h.traceDest
    refine h.setTraceDest ?_
    rw [TraceDest.Bounded, List.length_append, List.length_take]
    omega
  exact .ite staged staged.addRdCtr.modPart

theorem State.Bounded.chain {p f : Nat} (h : s.Bounded) : (s.chain p f).Bounded := by
  unfold State.chain
  exact h.stage.modField fun _ hx => ⟨hx.cis, hx.faults, List.length_take_le _ _⟩

theorem State.Bounded.drainRec {r : FaultRec} (h : s.Bounded) : (s.drainRec r).Bounded := by
  unfold State.drainRec
  extract_lets s1 s2 s3
  have hs2 : s2.Bounded := h.modFw.setDict.setDict.setDict.setDict.setDict
  have hs3 : s3.Bounded := by
    clear_value s2
    dsimp only [s3]
    split
    · exact hs2.setDict.setDict
    · exact hs2
  exact .ite hs3.emcy hs3

theorem State.Bounded.addEnergy {f j units : Nat} (h : s.Bounded) : (s.addEnergy f j units).Bounded := by
  refine .ite h ?_
  refine .foldl ?_ (fun _ _ ht => .ite ht ht.modPart)
  split
  · exact .modPart (h.modRd fun _ hr => hr.congr rfl)
  · exact h.modRd fun _ hr => hr.congr rfl

theorem State.Bounded.trimStatic {f : Nat} {sample : Rat} (h : s.Bounded) : (s.trimStatic f sample).Bounded := h.congr rfl

theorem State.Bounded.eventsTaken (h : s.Bounded) : s.eventsTaken.Bounded :=
  ⟨h.cores.map (fun _ => rfl) fun _ hk => hk.congr rfl, h.fields.map (fun _ => rfl) fun _ hx => hx.congr rfl, h.rdFaults, h.sdFaults, h.rd, h.ports⟩

theorem State.Bounded.fieldTick {j : Nat} {acts : List Activity} {sensed : List (Nat × Nat)} {f : Nat} (h : s.Bounded) :
    (s.fieldTick j acts sensed f).Bounded := by
  unfold State.fieldTick
  extract_lets k x v dynOf dyn e sum units s1 s2 s3 share w
  have hs2 : s2.Bounded := .ite h.addEnergy.modClk h.addEnergy
  have hs3 : s3.Bounded := by
    clear_value s2 x
    dsimp only [s3]
    split
    · exact hs2.trimStatic
    · exact hs2
  clear_value s3
  exact hs3.congr rfl

theorem State.Bounded.engineTick {added : Tab Nat} (h : s.Bounded) : (s.engineTick added).Bounded := h.congr rfl

theorem State.Bounded.setRail {r : Nat} {x : Rail} (h : s.Bounded) : (s.setRail r x).Bounded := h.congr rfl

theorem State.Bounded.readPout {r : Nat} {x : BusRead Nat} (h : s.Bounded) : (s.readPout r x).Bounded := by
  unfold State.readPout
  split
  · exact h
  · exact h.pmbSend.engineFault
  · exact h.pmbSend.setRail

theorem State.Bounded.readStatus {codes : List Nat} {r : Nat} {x : BusRead RailStatus} (h : s.Bounded) : (s.readStatus codes r x).Bounded := by
  unfold State.readStatus
  split
  · exact h
  · exact h.pmbSend.engineFault
  · exact .ite (.modSd (.warmReset (.ite (.engineFault (.ite (h.congr rfl) h.pmbSend.setRail)) (.ite (h.congr rfl) h.pmbSend.setRail)))) (.ite
      (.engineFault (.ite (h.congr rfl) h.pmbSend.setRail)) (.ite (h.congr rfl) h.pmbSend.setRail))

theorem State.Bounded.setCtl {f bub duty : Nat} (h : s.Bounded) : (s.setCtl f bub duty).Bounded := .ite (h.congr rfl) h.modClk

theorem State.Bounded.periodPart {p : Nat} (h : s.Bounded) : (s.periodPart p).Bounded := .foldl h fun _ _ ht => ht.setCtl

theorem State.Bounded.learn {p c : Nat} (h : s.Bounded) : (s.learn p c).Bounded := .ite h (h.congr rfl)

theorem State.Bounded.sensorFault {i cause info : Nat} {sd : Bool} (h : s.Bounded) : (s.sensorFault i cause info sd).Bounded :=
  .ite h.report h.engineFault

theorem State.Bounded.forceAll (h : s.Bounded) : s.forceAll.Bounded :=
  ⟨h.cores, h.fields.map (fun _ => rfl) fun _ hx => .ite (hx.congr rfl) hx, h.rdFaults, h.sdFaults, h.rd, h.ports⟩

theorem State.Bounded.enterForced {i : Nat} {t : Int} (h : s.Bounded) : (s.enterForced i t).Bounded := h.modTherm.forceAll.sensorFault

theorem State.Bounded.trip {i : Nat} {t : Int} (h : s.Bounded) : (s.trip i t).Bounded := h.warmReset.modSd.countStored.sensorFault

theorem State.Bounded.trackBelow (h : s.Bounded) : s.trackBelow.Bounded := h.congr rfl

theorem State.Bounded.failSensor {i : Nat} (h : s.Bounded) : (s.failSensor i).Bounded :=
  .ite h.modTherm.sensorFault.trackBelow.enterForced h.modTherm.sensorFault.trackBelow

theorem State.Bounded.ageStep {f : Nat} (h : s.Bounded) : (s.ageStep f).Bounded := by
  refine .ite (.ite (.fieldFault (h.congr rfl)) (h.congr rfl)) ?_
  refine .ite h ?_
  dsimp only
  split
  · exact h.modTherm.fieldFault.issuePart
  · exact h.modTherm.fieldFault

theorem State.Bounded.scrubRow {c bank : Nat} {found : List (Nat × Bool)} (h : s.Bounded) : (s.scrubRow c bank found).Bounded :=
  .ite (.ite (.foldl (h.setCore (.congr (by exact h.core.congr rfl) rfl)) fun _ _ ht => ht.countUe) (.addFieldCtr (.addTotal (.foldl (h.setCore
    (.congr (by exact h.core.congr rfl) rfl)) fun _ _ ht => ht.countUe)))) (.ite (.foldl (h.setCore (.readCe (.congr (by exact h.core.congr rfl)
    rfl))) fun _ _ ht => ht.countUe) (.addFieldCtr (.foldl (h.setCore (.readCe (.congr (by exact h.core.congr rfl) rfl))) fun _ _ ht => ht.countUe)))

/-- Nodes that leave the pool leave it within its bound. -/
theorem Cistern.Bounded.unqueue {c : Cistern} {pool chain : List Nat} (hc : c.Bounded) (fewer : pool.length ≤ c.pool.length) :
    Cistern.Bounded { c with pool := pool, chain := chain } :=
  ⟨hc.mem, le_trans fewer hc.pool⟩

theorem State.Bounded.scrubNode {f n : Nat} (h : s.Bounded) : (s.scrubNode f n).Bounded :=
  .ite (h.modCis fun _ hc => hc.setNode) (.ite h (.failNode (h.modCis fun _ hc => hc.unqueue (List.length_filter_le _ _))))

theorem State.Bounded.endInterval {p f ts : Nat} {make part : Bool} (h : s.Bounded) : (s.endInterval p f ts make part).Bounded := by
  unfold State.endInterval
  extract_lets lis x recs base base1 s1 go s2
  have hs1 : s1.Bounded := h.foldl fun _ _ ht => ht.modCore fun _ hk => hk.congr rfl
  have hs2 : s2.Bounded := .ite hs1.addFieldCtr hs1
  exact hs2.modField fun _ hx => hx.congr rfl

theorem State.Bounded.writeRecs {p n : Nat} (h : s.Bounded) : (s.writeRecs p n).Bounded := by
  induction n generalizing s with
  | zero => exact h
  | succ n ih =>
    unfold State.writeRecs
    dsimp only
    split
    · exact h
    · next r l staged =>
      have fewer : l.length ≤ 1024 := by
        have held : (s.traceDest p).staging.length ≤ 1024 := h.traceDest
        rw [staged, List.length_cons] at held
        exact Nat.le_of_succ_le held
      exact ih (.addRdCtr (.setTraceDest h.hostWrite fewer))

end

end Sys2Proof.Machine
end

section
/-! PROOFS. Every command keeps the bounds: the guards that commands share, then a lemma for each command; and so every step does (R64, R307, R491, R527). -/

namespace Sys2Proof.Machine

/-! ### What a command that names a unit comes to -/

section
variable {s : State}

theorem onCore_boundedOut {c : Nat} {g : State → State} (hg : (g s).Bounded) : BoundedOut (onCore c s g) := .ite hg.out (boundedOut_fault _)

theorem onField_boundedOut {f : Nat} {g : State → State} (hg : (g s).Bounded) : BoundedOut (onField f s g) := .ite hg.out (boundedOut_fault _)

theorem onPart_boundedOut {p : Nat} {g : State → State} (hg : (g s).Bounded) : BoundedOut (onPart p s g) := .ite hg.out (boundedOut_fault _)

theorem onPort_boundedOut {p : Nat} {g : State → State} (hg : (g s).Bounded) : BoundedOut (onPort p s g) := .ite hg.out (boundedOut_fault _)

theorem onRing_boundedOut {p r : Nat} {g : State → State} (hg : (g s).Bounded) : BoundedOut (onRing p r s g) := .ite hg.out (boundedOut_fault _)

theorem onSluice_boundedOut {p : Nat} {g : State → State} (hg : (g s).Bounded) : BoundedOut (onSluice p s g) := .ite hg.out (boundedOut_fault _)

theorem onLink_boundedOut {px py dir : Nat} {g : State → State} (hg : (g s).Bounded) : BoundedOut (onLink px py dir s g) :=
  .ite hg.out (boundedOut_fault _)

theorem onWho_boundedOut {who : Requester} {g : State → State} (hg : (g s).Bounded) : BoundedOut (onWho who s g) := by
  unfold onWho
  split
  · exact .ite hg.out (boundedOut_fault _)
  · exact hg.out

/-- An instruction whose issue keeps the memories of its core canonical keeps every bound. -/
theorem issue_boundedOut {op : CoreOp} {c : Nat} {run : State → Core → Nat → Issue} (h : s.Bounded)
    (hrun : ∀ t k w, k.Canonical → (run t k w).Canonical) : BoundedOut (issue op c s run) := by
  refine onCore_boundedOut (.ite ?_ h)
  dsimp only
  split
  · exact h.trapCore (.ite (h.core.congr rfl) h.core)
  · next w _ =>
    have met : (s.meetIce c (((s.core c).pc - istoreBase) / 8)).Bounded := h.meetIce
    split
    · exact met.trapCore met.core
    · refine .ite ?_ met
      have left := hrun (s.meetIce c (((s.core c).pc - istoreBase) / 8)) _ w (met.core (c := c))
      revert left
      cases run _ _ w with
      | stall => exact fun _ => met
      | done k1 out => exact fun left => (met.setCore (Core.Canonical.addCounter left)).inject
      | sleep k1 out => exact fun left => (met.setCore left).inject
      | trap k1 cause addr => exact fun left => met.trapCore left

theorem issueBlocking_boundedOut {op : CoreOp} {c : Nat} {check : Core → Nat → Option Nat} {names : Nat → List Nat} {mk : Nat → BlockOp}
    (h : s.Bounded) : BoundedOut (issueBlocking op c s check names mk) := by
  unfold issueBlocking
  split
  · next issued =>
    refine .out (.ite ?_ ?_)
    all_goals
      have left := issue_boundedOut (op := op) (c := c) h (run := fun _ k w =>
        match check k w with
        | some cause => .trap k cause 0
        | none => whenFree k (names w)
            (.sleep { k.addCounter 6 1 with run := .sleepSync, blocked := some { op := mk w, bind := syBind w, left := false, answer := none } } []))
        (fun _ k w hk => by
          dsimp only
          split
          · exact hk
          · exact whenFree_canonical (.congr hk rfl)) _ issued
    · exact left.leaveBlocking
    · exact left
  · next other =>
    intro t here
    exact absurd here (other t)

theorem pairStep_boundedOut {op : SyncKind} {side : Bool → Bool} {k : Nat} {other : Option Nat} (h : s.Bounded) :
    BoundedOut (pairStep op side k other s) := by
  refine .out ?_
  split
  · exact h
  · refine .ite h ?_
    split
    · exact h.take.applyPairOps
    · exact h.takeBoth.applyPairOps

theorem xtake_boundedOut {k xtype : Nat} {g : State → Nat → XPacket → State} (h : s.Bounded) (hg : ∀ t p x, t.Bounded → (g t p x).Bounded) :
    BoundedOut (s.xtake k xtype g) := by
  refine .out ?_
  split
  · exact .ite (hg _ _ _ (.freeBuffer (h.modRd fun _ hr => hr.congr rfl))) h
  · exact h

end

/-! ### The instructions of a core and its reports -/

section
variable {s : State}

theorem execLb_boundedOut {c : Nat} (h : s.Bounded) : BoundedOut (execLb c s) :=
  issue_boundedOut h fun _ _ _ hk => loadOp_canonical hk fun _ _ _ hk => hk.setS

theorem execLbu_boundedOut {c : Nat} (h : s.Bounded) : BoundedOut (execLbu c s) :=
  issue_boundedOut h fun _ _ _ hk => loadOp_canonical hk fun _ _ _ hk => hk.setS

theorem execLh_boundedOut {c : Nat} (h : s.Bounded) : BoundedOut (execLh c s) :=
  issue_boundedOut h fun _ _ _ hk => loadOp_canonical hk fun _ _ _ hk => hk.setS

theorem execLhu_boundedOut {c : Nat} (h : s.Bounded) : BoundedOut (execLhu c s) :=
  issue_boundedOut h fun _ _ _ hk => loadOp_canonical hk fun _ _ _ hk => hk.setS

theorem execLw_boundedOut {c : Nat} (h : s.Bounded) : BoundedOut (execLw c s) :=
  issue_boundedOut h fun _ _ _ hk => loadOp_canonical hk fun _ _ _ hk => hk.setS

theorem execLd_boundedOut {c : Nat} (h : s.Bounded) : BoundedOut (execLd c s) :=
  issue_boundedOut h fun _ _ _ hk => loadOp_canonical hk fun _ _ _ hk => hk.setPair

theorem execLq_boundedOut {c : Nat} (h : s.Bounded) : BoundedOut (execLq c s) :=
  issue_boundedOut h fun _ _ _ hk => loadOp_canonical hk fun _ _ _ hk => hk.setQuad

theorem execSb_boundedOut {c : Nat} (h : s.Bounded) : BoundedOut (execSb c s) := issue_boundedOut h fun _ _ _ hk => storeOp_canonical hk

theorem execSh_boundedOut {c : Nat} (h : s.Bounded) : BoundedOut (execSh c s) := issue_boundedOut h fun _ _ _ hk => storeOp_canonical hk

theorem execSw_boundedOut {c : Nat} (h : s.Bounded) : BoundedOut (execSw c s) := issue_boundedOut h fun _ _ _ hk => storeOp_canonical hk

theorem execSd_boundedOut {c : Nat} (h : s.Bounded) : BoundedOut (execSd c s) := issue_boundedOut h fun _ _ _ hk => storeOp_canonical hk

theorem execSq_boundedOut {c : Nat} (h : s.Bounded) : BoundedOut (execSq c s) := issue_boundedOut h fun _ _ _ hk => storeOp_canonical hk

theorem execCsrr_boundedOut {c : Nat} (h : s.Bounded) : BoundedOut (execCsrr c s) := by
  refine issue_boundedOut h ?_
  intro _ _ _ hk
  refine .ite hk ?_
  refine .ite trivial ?_
  refine whenFree_canonical ?_
  split
  · exact okNext_canonical hk.setPair
  · exact okNext_canonical hk.setS

theorem execCsrw_boundedOut {c : Nat} (h : s.Bounded) : BoundedOut (execCsrw c s) := by
  refine issue_boundedOut h ?_
  intro _ _ _ hk
  refine .ite hk ?_
  refine .ite trivial ?_
  refine whenFree_canonical ?_
  split
  · exact okNext_canonical hk.writeCsr.writeCsr
  · exact okNext_canonical hk.writeCsr

theorem execStoreBufferDrain_boundedOut {c : Nat} (h : s.Bounded) : BoundedOut (execStoreBufferDrain c s) := by
  refine onCore_boundedOut ?_
  dsimp only
  split
  · exact h
  · exact .ite (h.setCore h.core.drainOne) h

theorem execEccWriteBack_boundedOut {c bank : Nat} (h : s.Bounded) : BoundedOut (execEccWriteBack c bank s) := by
  refine onCore_boundedOut ?_
  dsimp only
  split
  · exact h
  · exact h.setCore (h.core.congr rfl)

/-- A descriptor that is loaded is refused, or joins the queue of the mixer (R164). -/
theorem tdescIssue_canonical {v : Nat} {k : Core} {e : Core × QOp} (hk : k.Canonical) (he : e.1.Canonical) :
    Issue.Canonical (match tdescFault v with
      | some f => .trap k f.1 f.2
      | none => let e := e; e.1.enqueue e.2) := by
  split
  · exact hk
  · exact enqueue_canonical he

theorem execTdesc_boundedOut {c : Nat} (h : s.Bounded) : BoundedOut (execTdesc c s) :=
  issue_boundedOut h fun _ _ _ hk => .ite trivial (whenFree_canonical (tdescIssue_canonical hk (mixerEntry_canonical hk)))

theorem execMma_boundedOut {c : Nat} (h : s.Bounded) : BoundedOut (execMma c s) :=
  issue_boundedOut h fun _ _ _ hk => .ite hk (.ite trivial (enqueue_canonical (mixerEntry_canonical hk.drainSpans)))

theorem execAst_boundedOut {c : Nat} (h : s.Bounded) : BoundedOut (execAst c s) :=
  issue_boundedOut h fun _ _ _ hk => .ite hk (.ite trivial (enqueue_canonical (mixerEntry_canonical hk.drainSpans)))

theorem execAld_boundedOut {c : Nat} (h : s.Bounded) : BoundedOut (execAld c s) :=
  issue_boundedOut h fun _ _ _ hk => .ite hk (.ite trivial (enqueue_canonical (mixerEntry_canonical hk.drainSpans)))

theorem execAzero_boundedOut {c : Nat} (h : s.Bounded) : BoundedOut (execAzero c s) := issue_boundedOut h fun _ _ _ hk => mixerOp_canonical hk

theorem execAxv_boundedOut {c : Nat} (h : s.Bounded) : BoundedOut (execAxv c s) := issue_boundedOut h fun _ _ _ hk => mixerOp_canonical hk

theorem execAvx_boundedOut {c : Nat} (h : s.Bounded) : BoundedOut (execAvx c s) := issue_boundedOut h fun _ _ _ hk => mixerOp_canonical hk

theorem execSend_boundedOut {c : Nat} (h : s.Bounded) : BoundedOut (execSend c s) :=
  issue_boundedOut h fun _ _ _ hk => whenFree_canonical (sendBody_canonical hk)

theorem execRecv_boundedOut {c : Nat} (h : s.Bounded) : BoundedOut (execRecv c s) :=
  issue_boundedOut h fun _ _ _ hk => whenFree_canonical (recvBody_canonical hk)

theorem execRpeek_boundedOut {c : Nat} (h : s.Bounded) : BoundedOut (execRpeek c s) :=
  issue_boundedOut h fun _ _ _ hk => .ite hk (.ite trivial (whenFree_canonical (okNext_canonical hk.setS)))

theorem execRlaunch_boundedOut {c : Nat} (h : s.Bounded) : BoundedOut (execRlaunch c s) := by
  refine issue_boundedOut h fun _ _ _ hk => whenFree_canonical (.ite trivial ?_)
  have read {k : Core} {a n : Nat} {ws : List Nat} (hk : k.Canonical) : ((k.drainFor a n).readCe ws).Canonical := hk.drainFor.readCe
  dsimp only
  split
  · exact Core.Canonical.ite (.congr (read hk) rfl) (read hk)
  · exact .advance (.runUnits (.congr (.drainSpans (.ite (by exact (read hk).congr rfl) (read hk))) rfl))

theorem execRecipeRunFault_boundedOut {c : Nat} (h : s.Bounded) : BoundedOut (execRecipeRunFault c s) := by
  refine onCore_boundedOut ?_
  dsimp only
  split
  · exact h
  · split
    · exact h
    · exact (h.setCore h.core.failRecipe).finishFail

theorem execRecipeArrivalSlice_boundedOut {c : Nat} (h : s.Bounded) : BoundedOut (execRecipeArrivalSlice c s) := by
  refine onCore_boundedOut ?_
  dsimp only
  split
  · exact h
  · refine .ite h ?_
    split
    · exact (h.setCore h.core.failRecipe).finishFail
    · exact h
    · next popped =>
      have left := h.core.popMsg popped
      exact .inject (h.setCore (.ite (.post (left.congr rfl)) (left.congr rfl)))

theorem Core.Canonical.handOver_uq {k : Core} {c dst vc : Nat} {data : List Byte} {bind : Option (Nat × Nat × Nat)} {uq : List UnitItem}
    (hk : k.Canonical) : Core.Canonical { (k.handOver s c dst vc data bind).1 with uq := uq } :=
  (hk.handOver (s := s) (c := c) (dst := dst) (vc := vc) (data := data) (bind := bind)).congr rfl

theorem execFinishSend_boundedOut {c : Nat} (h : s.Bounded) : BoundedOut (execFinishSend c s) := by
  refine onCore_boundedOut ?_
  dsimp only
  split
  · exact h
  · next b r a _ =>
    have credit := (h.core (c := c)).sendCredit (s := s) (c := c) (dst := rFsDest r.block) (vc := rFsVc r.block) (n := slotsFor (sendBytes r.block))
      (recipe := true)
    refine .ite h (.ite (.ite (h.setCore (h.core.congr rfl)) h) (.ite (.inject (h.setCore ?_)) (h.setCore credit).inject))
    exact .handOver_uq (.ite credit.endHold.storeBlock credit.endHold)

theorem execRecipeFinish_boundedOut {c : Nat} (h : s.Bounded) : BoundedOut (execRecipeFinish c s) := by
  refine onCore_boundedOut ?_
  dsimp only
  split
  · exact h
  · exact .ite h (.finishFail (h.setCore (.runUnits (.recipeCount (.raise (.congr (.ite (.unitWrite (.ite (.ite h.core.storeBlock (.foldl h.core
      fun _ _ hk => hk.storeBlock)) h.core)) (.ite (.ite (h.core.storeBlock (n := 0)) (.foldl h.core fun _ _ hk => hk.storeBlock)) h.core)) rfl))))))

theorem execAdd_boundedOut {c : Nat} (h : s.Bounded) : BoundedOut (execAdd c s) := issue_boundedOut h fun _ _ _ hk => rrOp_canonical hk

theorem execSub_boundedOut {c : Nat} (h : s.Bounded) : BoundedOut (execSub c s) := issue_boundedOut h fun _ _ _ hk => rrOp_canonical hk

theorem execAnd_boundedOut {c : Nat} (h : s.Bounded) : BoundedOut (execAnd c s) := issue_boundedOut h fun _ _ _ hk => rrOp_canonical hk

theorem execOr_boundedOut {c : Nat} (h : s.Bounded) : BoundedOut (execOr c s) := issue_boundedOut h fun _ _ _ hk => rrOp_canonical hk

theorem execXor_boundedOut {c : Nat} (h : s.Bounded) : BoundedOut (execXor c s) := issue_boundedOut h fun _ _ _ hk => rrOp_canonical hk

theorem execSll_boundedOut {c : Nat} (h : s.Bounded) : BoundedOut (execSll c s) := issue_boundedOut h fun _ _ _ hk => rrOp_canonical hk

theorem execSrl_boundedOut {c : Nat} (h : s.Bounded) : BoundedOut (execSrl c s) := issue_boundedOut h fun _ _ _ hk => rrOp_canonical hk

theorem execSra_boundedOut {c : Nat} (h : s.Bounded) : BoundedOut (execSra c s) := issue_boundedOut h fun _ _ _ hk => rrOp_canonical hk

theorem execSlt_boundedOut {c : Nat} (h : s.Bounded) : BoundedOut (execSlt c s) := issue_boundedOut h fun _ _ _ hk => rrOp_canonical hk

theorem execSltu_boundedOut {c : Nat} (h : s.Bounded) : BoundedOut (execSltu c s) := issue_boundedOut h fun _ _ _ hk => rrOp_canonical hk

theorem execMinMax_boundedOut {c : Nat} (h : s.Bounded) : BoundedOut (execMinMax c s) := issue_boundedOut h fun _ _ _ hk => rrOp_canonical hk

theorem execMul_boundedOut {c : Nat} (h : s.Bounded) : BoundedOut (execMul c s) := issue_boundedOut h fun _ _ _ hk => rrOp_canonical hk

theorem execMulh_boundedOut {c : Nat} (h : s.Bounded) : BoundedOut (execMulh c s) := issue_boundedOut h fun _ _ _ hk => rrOp_canonical hk

theorem execMulhu_boundedOut {c : Nat} (h : s.Bounded) : BoundedOut (execMulhu c s) := issue_boundedOut h fun _ _ _ hk => rrOp_canonical hk

theorem execDivRem_boundedOut {c : Nat} (h : s.Bounded) : BoundedOut (execDivRem c s) := issue_boundedOut h fun _ _ _ hk => rrOp_canonical hk

theorem execClz_boundedOut {c : Nat} (h : s.Bounded) : BoundedOut (execClz c s) := issue_boundedOut h fun _ _ _ hk => rrOp_canonical hk

theorem execPopc_boundedOut {c : Nat} (h : s.Bounded) : BoundedOut (execPopc c s) := issue_boundedOut h fun _ _ _ hk => rrOp_canonical hk

theorem execAddi_boundedOut {c : Nat} (h : s.Bounded) : BoundedOut (execAddi c s) := issue_boundedOut h fun _ _ _ hk => riOp_canonical hk

theorem execAndi_boundedOut {c : Nat} (h : s.Bounded) : BoundedOut (execAndi c s) := issue_boundedOut h fun _ _ _ hk => riOp_canonical hk

theorem execOri_boundedOut {c : Nat} (h : s.Bounded) : BoundedOut (execOri c s) := issue_boundedOut h fun _ _ _ hk => riOp_canonical hk

theorem execXori_boundedOut {c : Nat} (h : s.Bounded) : BoundedOut (execXori c s) := issue_boundedOut h fun _ _ _ hk => riOp_canonical hk

theorem execShi_boundedOut {c : Nat} (h : s.Bounded) : BoundedOut (execShi c s) := issue_boundedOut h fun _ _ _ hk => riOp_canonical hk

theorem execSlti_boundedOut {c : Nat} (h : s.Bounded) : BoundedOut (execSlti c s) := issue_boundedOut h fun _ _ _ hk => riOp_canonical hk

theorem execSltiu_boundedOut {c : Nat} (h : s.Bounded) : BoundedOut (execSltiu c s) := issue_boundedOut h fun _ _ _ hk => riOp_canonical hk

theorem execLui_boundedOut {c : Nat} (h : s.Bounded) : BoundedOut (execLui c s) := issue_boundedOut h fun _ _ _ hk => riOp_canonical hk

theorem execJal_boundedOut {c : Nat} (h : s.Bounded) : BoundedOut (execJal c s) := issue_boundedOut h fun _ _ _ hk => whenFree_canonical hk.setS.goto

theorem execJalr_boundedOut {c : Nat} (h : s.Bounded) : BoundedOut (execJalr c s) := issue_boundedOut h fun _ _ _ hk => whenFree_canonical
  hk.setS.goto

theorem execBeq_boundedOut {c : Nat} (h : s.Bounded) : BoundedOut (execBeq c s) := issue_boundedOut h fun _ _ _ hk => brOp_canonical hk

theorem execBne_boundedOut {c : Nat} (h : s.Bounded) : BoundedOut (execBne c s) := issue_boundedOut h fun _ _ _ hk => brOp_canonical hk

theorem execBlt_boundedOut {c : Nat} (h : s.Bounded) : BoundedOut (execBlt c s) := issue_boundedOut h fun _ _ _ hk => brOp_canonical hk

theorem execBge_boundedOut {c : Nat} (h : s.Bounded) : BoundedOut (execBge c s) := issue_boundedOut h fun _ _ _ hk => brOp_canonical hk

theorem execBltu_boundedOut {c : Nat} (h : s.Bounded) : BoundedOut (execBltu c s) := issue_boundedOut h fun _ _ _ hk => brOp_canonical hk

theorem execBgeu_boundedOut {c : Nat} (h : s.Bounded) : BoundedOut (execBgeu c s) := issue_boundedOut h fun _ _ _ hk => brOp_canonical hk

theorem execOutboundEntryLeave_boundedOut {c : Nat} (h : s.Bounded) : BoundedOut (execOutboundEntryLeave c s) := by
  refine onCore_boundedOut ?_
  dsimp only
  split
  · exact h
  · refine .ite h ?_
    refine .finishFail ?_
    refine .leaveBlocking ?_
    split
    · exact .inject (.commit (h.setCore (.postTag (h.core.congr rfl))))
    · exact .arrive (.commit (h.setCore (.postTag (h.core.congr rfl))))
    · exact .inject (.commit (h.setCore (.postTag (h.core.congr rfl))))

theorem execSadv_boundedOut {c : Nat} (h : s.Bounded) : BoundedOut (execSadv c s) := issue_boundedOut h fun _ _ _ hk => .ite (postOp_canonical hk) hk

theorem execWarr_boundedOut {c : Nat} (h : s.Bounded) : BoundedOut (execWarr c s) := issue_boundedOut h fun _ _ _ hk => .ite (postOp_canonical hk) hk

theorem execPost_boundedOut {c : Nat} (h : s.Bounded) : BoundedOut (execPost c s) :=
  issue_boundedOut h fun _ _ _ hk => whenFree_canonical (.ite hk (.ite hk (postOp_canonical hk)))

theorem execSwait_boundedOut {c : Nat} (h : s.Bounded) : BoundedOut (execSwait c s) := issueBlocking_boundedOut h

theorem execSread_boundedOut {c : Nat} (h : s.Bounded) : BoundedOut (execSread c s) := issueBlocking_boundedOut h

theorem execSclr_boundedOut {c : Nat} (h : s.Bounded) : BoundedOut (execSclr c s) := issueBlocking_boundedOut h

theorem execWawt_boundedOut {c : Nat} (h : s.Bounded) : BoundedOut (execWawt c s) := issueBlocking_boundedOut h

theorem execWaa_boundedOut {c : Nat} (h : s.Bounded) : BoundedOut (execWaa c s) := issueBlocking_boundedOut h

/-- A report called back or not, the bounds are kept. -/
theorem State.Bounded.recallOrSelf {c : Nat} {task : DWord} {cause : Nat} (h : s.Bounded) : ((s.recall c task cause).getD s).Bounded := by
  cases called : s.recall c task cause with
  | none => exact h
  | some t => exact h.recall called

theorem execSyncAnswer_boundedOut {i : Nat} (h : s.Bounded) : BoundedOut (execSyncAnswer i s) := by
  refine .out ?_
  split
  · exact h
  · split
    · have taken : (s.take i).Bounded := h.take
      refine .ite (.ite taken taken.recallOrSelf) (.ite ?_ (.ite taken ?_))
      · split
        · exact .ite (taken.setCore (taken.core.congr rfl)) taken
        · exact taken
      · split
        · exact .ite (taken.setCore taken.core.refuseRecipe).finishFail taken
        · exact .ite (taken.setCore taken.core.refuse) taken
    · exact h

theorem execRefusalDelivery_boundedOut {c : Nat} (h : s.Bounded) : BoundedOut (execRefusalDelivery c s) := by
  refine onCore_boundedOut ?_
  dsimp only
  split
  · exact h
  · refine .ite h ?_
    split
    · exact h.setCore (h.core.congr rfl)
    · exact h.trapCore h.core

theorem execCoreWake_boundedOut {c : Nat} (h : s.Bounded) : BoundedOut (execCoreWake c s) := by
  refine onCore_boundedOut ?_
  refine .ite h ?_
  split
  · split
    · split
      · exact h.wakeSync
      · exact h
    · exact h
  · split
    · split
      · exact h.wakeSync
      · exact h
    · exact h
  · exact .ite h (h.applyIssue (recvBody_canonical h.core))
  · exact .ite (.ite (h.setCore h.core.endHold) h) (h.applyIssue (sendBody_canonical h.core))
  · exact h

theorem execTaskStart_boundedOut {c : Nat} (h : s.Bounded) : BoundedOut (execTaskStart c s) := by
  refine onCore_boundedOut ?_
  dsimp only
  split
  · exact h
  · exact .ite h (.inject (.foldl (h.setCore (.addCounter (h.core.congr rfl))) fun _ _ ht => ht.setArrival))

theorem execEnd_boundedOut {c : Nat} (h : s.Bounded) : BoundedOut (execEnd c s) := issue_boundedOut h fun _ _ _ hk => hk.congr rfl

theorem execFail_boundedOut {c : Nat} (h : s.Bounded) : BoundedOut (execFail c s) := issue_boundedOut h fun _ _ _ hk => hk

theorem execEndCompletionSend_boundedOut {c : Nat} (h : s.Bounded) : BoundedOut (execEndCompletionSend c s) :=
  onCore_boundedOut (.ite (.inject (h.setCore (.addCounter (.returnCredits (h.core.congr rfl))))) h)

theorem execWithdrawRequest_boundedOut {i : Nat} (h : s.Bounded) : BoundedOut (execWithdrawRequest i s) := by
  refine .out ?_
  split
  · exact h
  · split
    · exact .inject (.ite (h.take.setCore (h.take.core.congr rfl)) h.take)
    · exact h

theorem execAbortRequest_boundedOut {i : Nat} (h : s.Bounded) : BoundedOut (execAbortRequest i s) := by
  refine .out ?_
  split
  · exact h
  · split
    · exact .ite h.take (.inject (h.take.setCore (.returnCredits (h.take.core.drainAll.congr rfl))))
    · exact h

end

/-! ### Packets, mesh links, the Cisterns, pairs and collectives -/

section
variable {s : State}

theorem execMessageAccept_boundedOut {k : Nat} (h : s.Bounded) : BoundedOut (execMessageAccept k s) := by
  refine .out ?_
  split
  · exact h
  · split
    · exact .ite h (.inject (.progress (h.take.modCore fun _ hk => hk.setQueue)))
    · exact h

theorem execAck_boundedOut {k : Nat} (h : s.Bounded) : BoundedOut (execAck k s) := by
  refine .out ?_
  split
  · exact h
  · split
    · refine .ite (h.take.addFieldCtr.modCore fun _ hk => hk.congr rfl) ?_
      split
      · exact h.take.setCore h.take.core.retire
      · exact h.take
    · exact h.take.answerCmd
    · exact h

theorem execCreditReq_boundedOut {k : Nat} (h : s.Bounded) : BoundedOut (execCreditReq k s) := by
  refine .out ?_
  split
  · exact h
  · split
    · refine .ite h ?_
      dsimp only
      split
      · exact .inject (h.take.modCore fun _ hk => hk.setQueue)
      · exact .ite h.take.inject (.ite (h.take.modCore fun _ hk => hk.setQueue) h.take.addFieldCtr.inject)
    · exact h

theorem execCreditGrant_boundedOut {k : Nat} (h : s.Bounded) : BoundedOut (execCreditGrant k s) := by
  refine .out ?_
  split
  · exact h
  · split
    · refine .ite h.take.inject ?_
      split
      · exact .ite (h.take.setCore (h.take.core.congr rfl)) h.take.inject
      · exact h.take.inject
    · exact h

theorem execCreditReturn_boundedOut {k : Nat} (h : s.Bounded) : BoundedOut (execCreditReturn k s) := by
  refine .out ?_
  split
  · exact h
  · split
    · exact .ite (.inject (h.take.modCore fun _ hk => hk.setQueue)) h.take
    · exact h

theorem execCreditEntryIdleTimeout_boundedOut {c i : Nat} (h : s.Bounded) : BoundedOut (execCreditEntryIdleTimeout c i s) := by
  refine onCore_boundedOut ?_
  dsimp only
  split
  · exact h
  · exact .ite h (.inject (h.setCore (h.core.congr rfl)))

theorem execCreditBusyRetry_boundedOut {c i : Nat} (h : s.Bounded) : BoundedOut (execCreditBusyRetry c i s) := by
  refine onCore_boundedOut ?_
  dsimp only
  split
  · exact h
  · split
    · exact h
    · exact .ite h (.inject (h.setCore (h.core.congr rfl)))

theorem execLostCoreCreditReturn_boundedOut {c : Nat} (h : s.Bounded) : BoundedOut (execLostCoreCreditReturn c s) :=
  onCore_boundedOut (.ite ((h.setCore h.core.returnCredits).inject) h)

theorem execLost_boundedOut {k : Nat} (h : s.Bounded) : BoundedOut (execLost k s) := by
  refine .out ?_
  split
  · exact h
  · split
    · exact h.take.actLost
    · exact h

theorem execMsgUnreachable_boundedOut {k : Nat} (h : s.Bounded) : BoundedOut (execMsgUnreachable k s) := by
  refine .out ?_
  split
  · exact h
  · split
    · refine .ite h ?_
      split
      · exact h.take.inject
      · exact h.take.inject
      · exact .ite h h.take.inject
      · exact .ite h h.take
    · exact h

theorem execMsgAckTimeout_boundedOut {c i : Nat} (h : s.Bounded) : BoundedOut (execMsgAckTimeout c i s) := by
  refine onCore_boundedOut ?_
  dsimp only
  split
  · exact h
  · exact .ite h h.lostMessage

theorem execPacketReservedDiscard_boundedOut {f : Nat} {w : HeaderWords} (h : s.Bounded) : BoundedOut (execPacketReservedDiscard f w s) :=
  onField_boundedOut (.ite h.addFieldCtr h)

theorem execLinkFlitError_boundedOut {px py dir : Nat} (h : s.Bounded) : BoundedOut (execLinkFlitError px py dir s) :=
  onLink_boundedOut (.ite h (h.modField fun _ hx => hx.congr rfl))

theorem execLinkResendRequest_boundedOut {px py dir : Nat} (h : s.Bounded) : BoundedOut (execLinkResendRequest px py dir s) :=
  onLink_boundedOut (.ite (.addFieldCtr (h.modField fun _ hx => hx.congr rfl)) h)

theorem execMeshLinkDown_boundedOut {px py dir : Nat} {held : List Nat} (h : s.Bounded) : BoundedOut (execMeshLinkDown px py dir held s) := by
  refine onLink_boundedOut ?_
  extract_lets f s1 hit gone s2 s3 s4
  have hs1 : s1.Bounded := h.modField fun _ hx => hx.congr rfl
  have hs2 : s2.Bounded := hs1.congr rfl
  have hs3 : s3.Bounded := hs2.congr rfl
  have hs4 : s4.Bounded := hs3.fieldFault
  refine .ite h ?_
  split
  · exact hs4.stopPartition
  · exact hs4

theorem execDownLinkPacketLost_boundedOut {px py dir k : Nat} (h : s.Bounded) : BoundedOut (execDownLinkPacketLost px py dir k s) := by
  refine onLink_boundedOut ?_
  split
  · exact h
  · exact .ite h.loseAt h

theorem execCisternEventAccept_boundedOut {f k : Nat} (h : s.Bounded) : BoundedOut (execCisternEventAccept f k s) :=
  onField_boundedOut h.takeMesh.applyEvents

/-- The head of the chain moves where the pool has room (R65). -/
theorem execOverflowChainAdvance_boundedOut {f : Nat} (h : s.Bounded) : BoundedOut (execOverflowChainAdvance f s) := by
  refine onField_boundedOut ?_
  dsimp only
  split
  · exact h
  · split
    · exact h
    · next free =>
      have room : (s.field f).cis.pool.length < 1024 := Nat.lt_of_not_le fun full => free (.inl full)
      refine h.setField ⟨⟨h.field.cis.mem, ?_⟩, h.field.faults, h.field.obs⟩
      simpa using room

theorem execTaskAssign_boundedOut {f n : Nat} {x : AssignAt} (h : s.Bounded) : BoundedOut (execTaskAssign f n x s) := by
  refine onField_boundedOut (.ite h ?_)
  have left : ((s.modCis f (fun c => { c with pool := c.pool.filter (fun m => !decide (m = n)) })).countCev f).Bounded :=
    .countCev (h.modCis fun _ hc => hc.unqueue (List.length_filter_le _ _))
  dsimp only
  split
  · exact .failNode (.tableError (.ite left (.progress (left.modCis fun _ hc => hc.congr rfl))))
  · exact .traceNode (.progress (.modCore (left.modCis fun _ hc => hc.congr rfl) fun _ hk => hk.congr rfl))

theorem execStartReport_boundedOut {k : Nat} (h : s.Bounded) : BoundedOut (execStartReport k s) := by
  refine .out ?_
  split
  · exact .ite (.traceAt (.progress (h.take.modCis fun _ hc => hc.setNode.setSlot))) h.take
  · exact h

theorem execOutputRecordReadEnd_boundedOut {f n : Nat} (h : s.Bounded) : BoundedOut (execOutputRecordReadEnd f n s) := by
  refine onField_boundedOut ?_
  refine .ite h ?_
  refine .ite (h.modCis fun _ hc => hc.congr rfl) ?_
  refine .ite ?_ h
  split
  · exact h.tableError.modCis fun _ hc => hc.setNode
  · exact h.modCis fun _ hc => hc.setNode

theorem execCompletionReport_boundedOut {k : Nat} (h : s.Bounded) : BoundedOut (execCompletionReport k s) := by
  refine .out ?_
  split
  · refine .idleCheckOf ?_
    split
    · exact h.take.complete
    · exact h.take.freeEnded
  · exact h

theorem execFailureReport_boundedOut {k : Nat} (h : s.Bounded) : BoundedOut (execFailureReport k s) := by
  refine .out ?_
  split
  · refine .idleCheckOf ?_
    split
    · exact h.take.taskFault.failNode.freeRunning
    · exact h.take.freeEnded
  · exact h

theorem execOutputRecordEmit_boundedOut {f : Nat} {mesh : Option Nat} (h : s.Bounded) : BoundedOut (execOutputRecordEmit f mesh s) := by
  refine onField_boundedOut ?_
  dsimp only
  split
  · exact h
  · refine .ite h ?_
    split
    · exact h.modCis fun _ hc => hc.congr rfl
    · exact .applyEvents (.emitRecord (.takeMesh (h.modCis fun _ hc => hc.congr rfl)))

theorem execWithdrawAnswer_boundedOut {k : Nat} (h : s.Bounded) : BoundedOut (execWithdrawAnswer k s) := by
  refine .out ?_
  split
  · exact .ite (.ite h.take (.idleCheckOf (.traceNode (h.take.freeStaged.modCis fun _ hc => hc.setNode)))) h.take
  · exact h

theorem execAbortReport_boundedOut {k : Nat} (h : s.Bounded) : BoundedOut (execAbortReport k s) := by
  refine .out ?_
  split
  · exact h.take.freeEnded.idleCheckOf
  · exact h

theorem execTaskWatchdog_boundedOut {f n : Nat} (h : s.Bounded) : BoundedOut (execTaskWatchdog f n s) := by
  refine onField_boundedOut ?_
  dsimp only
  split
  · exact .ite h.taskFault.failNode.dropWaits.abortCore h
  · exact h

theorem execAbortNoAnswer_boundedOut {f li : Nat} (h : s.Bounded) : BoundedOut (execAbortNoAnswer f li s) := by
  refine onField_boundedOut ?_
  split
  · exact .ite h.declareLost h
  · exact h

theorem execCoreLost_boundedOut {c reason : Nat} (h : s.Bounded) : BoundedOut (execCoreLost c reason s) := onCore_boundedOut (.ite h.declareLost h)

theorem execCommitNotice_boundedOut {k : Nat} (h : s.Bounded) : BoundedOut (execCommitNotice k s) := by
  refine .out ?_
  split
  · exact .ite (h.take.modCis fun _ hc => hc.setNode) h.take
  · exact h

theorem execPostReceive_boundedOut {k : Nat} {mesh : Option Nat} (h : s.Bounded) : BoundedOut (execPostReceive k mesh s) := by
  refine .out ?_
  split
  · refine .ite (.ite (.ite h.take.takeMesh.applyEvents h.take.takeMesh.inject.applyEvents) h.take.takeMesh.inject.applyEvents) ?_
    split
    · exact .ite h.take.takeMesh.inject.applyEvents h.take.takeMesh.sendXevent.applyEvents
    · exact h.take.takeMesh.inject.applyEvents
  · exact h

theorem execEventLost_boundedOut {k : Nat} (h : s.Bounded) : BoundedOut (execEventLost k s) := by
  refine .out ?_
  split
  · split
    · exact h.take.actLost
    · exact h.take.actLost
    · exact h
  · exact h

theorem execCsErrClear_boundedOut {f v : Nat} (h : s.Bounded) : BoundedOut (execCsErrClear f v s) :=
  onField_boundedOut (.ite (h.modCis fun _ hc => hc.clearErr) h)

theorem execProducerAdvance_boundedOut {x : PairTake} (h : s.Bounded) : BoundedOut (execProducerAdvance x s) := pairStep_boundedOut h

theorem execConsumerAdvance_boundedOut {x : PairTake} (h : s.Bounded) : BoundedOut (execConsumerAdvance x s) := pairStep_boundedOut h

theorem execPairWait_boundedOut {x : PairTake} (h : s.Bounded) : BoundedOut (execPairWait x s) := pairStep_boundedOut h

theorem execPairRead_boundedOut {x : PairTake} (h : s.Bounded) : BoundedOut (execPairRead x s) := pairStep_boundedOut h

theorem execPairClear_boundedOut {x : PairTake} (h : s.Bounded) : BoundedOut (execPairClear x s) := pairStep_boundedOut h

theorem execSxErrClear_boundedOut {f v : Nat} (h : s.Bounded) : BoundedOut (execSxErrClear f v s) := onField_boundedOut (.ite h.modSyn h)

theorem execWellArrival_boundedOut {k : Nat} (h : s.Bounded) : BoundedOut (execWellArrival k s) := by
  refine .out ?_
  split
  · exact .ite h.take.countArrival h
  · exact h

theorem execReleaseTreeArrival_boundedOut {k : Nat} (h : s.Bounded) : BoundedOut (execReleaseTreeArrival k s) := by
  refine .out ?_
  split
  · split
    · exact .foldl h.take fun _ _ ht => ht.releaseCore
    · exact h
  · exact h

theorem execWellTimeout_boundedOut {f g : Nat} (h : s.Bounded) : BoundedOut (execWellTimeout f g s) := by
  refine onField_boundedOut ?_
  dsimp only
  split
  · exact .ite h h.syncFault.breakOwn
  · exact h

theorem execBrokenReleaseArrival_boundedOut {k : Nat} (h : s.Bounded) : BoundedOut (execBrokenReleaseArrival k s) := by
  refine .out ?_
  split
  · split
    · exact .foldl h.take.modSyn fun _ _ ht => .ite ht.wakeAwait ht
    · exact h
  · exact h

theorem execVaddf_boundedOut {c : Nat} (h : s.Bounded) : BoundedOut (execVaddf c s) := issue_boundedOut h fun _ _ _ hk => vectorOp_canonical hk

theorem execVsubf_boundedOut {c : Nat} (h : s.Bounded) : BoundedOut (execVsubf c s) := issue_boundedOut h fun _ _ _ hk => vectorOp_canonical hk

theorem execVmulf_boundedOut {c : Nat} (h : s.Bounded) : BoundedOut (execVmulf c s) := issue_boundedOut h fun _ _ _ hk => vectorOp_canonical hk

theorem execVfmaf_boundedOut {c : Nat} (h : s.Bounded) : BoundedOut (execVfmaf c s) := issue_boundedOut h fun _ _ _ hk => vectorOp_canonical hk

theorem execVminf_boundedOut {c : Nat} (h : s.Bounded) : BoundedOut (execVminf c s) := issue_boundedOut h fun _ _ _ hk => vectorOp_canonical hk

theorem execVmaxf_boundedOut {c : Nat} (h : s.Bounded) : BoundedOut (execVmaxf c s) := issue_boundedOut h fun _ _ _ hk => vectorOp_canonical hk

theorem execVcmpeqf_boundedOut {c : Nat} (h : s.Bounded) : BoundedOut (execVcmpeqf c s) := issue_boundedOut h fun _ _ _ hk => vectorOp_canonical hk

theorem execVcmpltf_boundedOut {c : Nat} (h : s.Bounded) : BoundedOut (execVcmpltf c s) := issue_boundedOut h fun _ _ _ hk => vectorOp_canonical hk

theorem execVcmplef_boundedOut {c : Nat} (h : s.Bounded) : BoundedOut (execVcmplef c s) := issue_boundedOut h fun _ _ _ hk => vectorOp_canonical hk

theorem execVrcpf_boundedOut {c : Nat} (h : s.Bounded) : BoundedOut (execVrcpf c s) := issue_boundedOut h fun _ _ _ hk => vectorOp_canonical hk

theorem execVrsqf_boundedOut {c : Nat} (h : s.Bounded) : BoundedOut (execVrsqf c s) := issue_boundedOut h fun _ _ _ hk => vectorOp_canonical hk

theorem execVexp2f_boundedOut {c : Nat} (h : s.Bounded) : BoundedOut (execVexp2f c s) := issue_boundedOut h fun _ _ _ hk => vectorOp_canonical hk

theorem execVlog2f_boundedOut {c : Nat} (h : s.Bounded) : BoundedOut (execVlog2f c s) := issue_boundedOut h fun _ _ _ hk => vectorOp_canonical hk

theorem execVdivf_boundedOut {c : Nat} (h : s.Bounded) : BoundedOut (execVdivf c s) := issue_boundedOut h fun _ _ _ hk => vectorOp_canonical hk

theorem execVsqrtf_boundedOut {c : Nat} (h : s.Bounded) : BoundedOut (execVsqrtf c s) := issue_boundedOut h fun _ _ _ hk => vectorOp_canonical hk

theorem execVaddi_boundedOut {c : Nat} (h : s.Bounded) : BoundedOut (execVaddi c s) := issue_boundedOut h fun _ _ _ hk => vectorOp_canonical hk

theorem execVsubi_boundedOut {c : Nat} (h : s.Bounded) : BoundedOut (execVsubi c s) := issue_boundedOut h fun _ _ _ hk => vectorOp_canonical hk

theorem execVmuli_boundedOut {c : Nat} (h : s.Bounded) : BoundedOut (execVmuli c s) := issue_boundedOut h fun _ _ _ hk => vectorOp_canonical hk

theorem execVand_boundedOut {c : Nat} (h : s.Bounded) : BoundedOut (execVand c s) := issue_boundedOut h fun _ _ _ hk => vectorOp_canonical hk

theorem execVor_boundedOut {c : Nat} (h : s.Bounded) : BoundedOut (execVor c s) := issue_boundedOut h fun _ _ _ hk => vectorOp_canonical hk

theorem execVxor_boundedOut {c : Nat} (h : s.Bounded) : BoundedOut (execVxor c s) := issue_boundedOut h fun _ _ _ hk => vectorOp_canonical hk

theorem execVsll_boundedOut {c : Nat} (h : s.Bounded) : BoundedOut (execVsll c s) := issue_boundedOut h fun _ _ _ hk => vectorOp_canonical hk

theorem execVsrl_boundedOut {c : Nat} (h : s.Bounded) : BoundedOut (execVsrl c s) := issue_boundedOut h fun _ _ _ hk => vectorOp_canonical hk

theorem execVsra_boundedOut {c : Nat} (h : s.Bounded) : BoundedOut (execVsra c s) := issue_boundedOut h fun _ _ _ hk => vectorOp_canonical hk

theorem execVmini_boundedOut {c : Nat} (h : s.Bounded) : BoundedOut (execVmini c s) := issue_boundedOut h fun _ _ _ hk => vectorOp_canonical hk

theorem execVmaxi_boundedOut {c : Nat} (h : s.Bounded) : BoundedOut (execVmaxi c s) := issue_boundedOut h fun _ _ _ hk => vectorOp_canonical hk

theorem execVcmpeqi_boundedOut {c : Nat} (h : s.Bounded) : BoundedOut (execVcmpeqi c s) := issue_boundedOut h fun _ _ _ hk => vectorOp_canonical hk

theorem execVcmplti_boundedOut {c : Nat} (h : s.Bounded) : BoundedOut (execVcmplti c s) := issue_boundedOut h fun _ _ _ hk => vectorOp_canonical hk

theorem execVsel_boundedOut {c : Nat} (h : s.Bounded) : BoundedOut (execVsel c s) := issue_boundedOut h fun _ _ _ hk => vectorOp_canonical hk

theorem execVbcast_boundedOut {c : Nat} (h : s.Bounded) : BoundedOut (execVbcast c s) := issue_boundedOut h fun _ _ _ hk =>
  vectorScalarOp_canonical hk

theorem execVext_boundedOut {c : Nat} (h : s.Bounded) : BoundedOut (execVext c s) :=
  issue_boundedOut h fun _ _ _ hk => whenFree_canonical (vectorOp_canonical hk)

theorem execVins_boundedOut {c : Nat} (h : s.Bounded) : BoundedOut (execVins c s) := issue_boundedOut h fun _ _ _ hk => vectorScalarOp_canonical hk

theorem execVperm_boundedOut {c : Nat} (h : s.Bounded) : BoundedOut (execVperm c s) := issue_boundedOut h fun _ _ _ hk => vectorOp_canonical hk

theorem execVmov_boundedOut {c : Nat} (h : s.Bounded) : BoundedOut (execVmov c s) := issue_boundedOut h fun _ _ _ hk => vectorOp_canonical hk

theorem execVrsumf_boundedOut {c : Nat} (h : s.Bounded) : BoundedOut (execVrsumf c s) := issue_boundedOut h fun _ _ _ hk => vectorOp_canonical hk

theorem execVrmaxf_boundedOut {c : Nat} (h : s.Bounded) : BoundedOut (execVrmaxf c s) := issue_boundedOut h fun _ _ _ hk => vectorOp_canonical hk

theorem execVrminf_boundedOut {c : Nat} (h : s.Bounded) : BoundedOut (execVrminf c s) := issue_boundedOut h fun _ _ _ hk => vectorOp_canonical hk

theorem execVrsumi_boundedOut {c : Nat} (h : s.Bounded) : BoundedOut (execVrsumi c s) := issue_boundedOut h fun _ _ _ hk => vectorOp_canonical hk

theorem execVcvt_boundedOut {c : Nat} (h : s.Bounded) : BoundedOut (execVcvt c s) := issue_boundedOut h fun _ _ _ hk => vectorOp_canonical hk

theorem execVld_boundedOut {c : Nat} (h : s.Bounded) : BoundedOut (execVld c s) := issue_boundedOut h fun _ _ _ hk => vectorMemOp_canonical hk

theorem execVst_boundedOut {c : Nat} (h : s.Bounded) : BoundedOut (execVst c s) := issue_boundedOut h fun _ _ _ hk => vectorMemOp_canonical hk

theorem execDryWellDeclare_boundedOut {p : Nat} (h : s.Bounded) : BoundedOut (execDryWellDeclare p s) := by
  refine onPart_boundedOut ?_
  dsimp only
  split
  · exact h
  · exact .ite h (.modPart (.foldl h fun _ _ ht => ht.snapField))

theorem execDryWellSnapshotCommit_boundedOut {p : Nat} (h : s.Bounded) : BoundedOut (execDryWellSnapshotCommit p s) := by
  refine onPart_boundedOut ?_
  dsimp only
  split
  · exact h
  · exact .ite h.modPart (.ite (.idleCheck (.foldl (.stopPartition (.report (.modPart (.foldl h fun _ _ ht => ht.modSyn)))) fun _ _ ht =>
      ht.dryField)) (.report (.modPart (.foldl h fun _ _ ht => ht.modSyn))))

end

/-! ### Command rings, the Sluice links and the reset -/

section
variable {s : State}

theorem execRouteWrite_boundedOut {e v : Nat} (h : s.Bounded) : BoundedOut (execRouteWrite e v s) := .out (.ite h.writeRoute h)

theorem execCwDescWrite_boundedOut {g v : Nat} (h : s.Bounded) : BoundedOut (execCwDescWrite g v s) := .out (.ite h.writeCw h)

theorem execFlDescWrite_boundedOut {p v : Nat} (h : s.Bounded) : BoundedOut (execFlDescWrite p v s) := onPart_boundedOut (.ite h.writeFl h)

theorem execTrEnable_boundedOut {p base : Nat} (h : s.Bounded) : BoundedOut (execTrEnable p base s) := onPart_boundedOut (.ite h.traceWrite h)

theorem execTrDisable_boundedOut {p : Nat} (h : s.Bounded) : BoundedOut (execTrDisable p s) := onPart_boundedOut (.ite h.traceWrite h)

theorem execFabricAccess_boundedOut {k : Nat} (h : s.Bounded) : BoundedOut (execFabricAccess k s) := by
  refine .out ?_
  split
  · split
    · split
      · exact .ite h h.take.fabMake
      · exact .ite h.take.inject h
      · exact h.congr rfl
    · exact h
  · exact h

theorem execFabricAccessRelease_boundedOut {k : Nat} (h : s.Bounded) : BoundedOut (execFabricAccessRelease k s) := by
  refine .out ?_
  split
  · split
    · split
      · exact h.take.fabMake
      · exact .ite h.take.inject h
      · exact h
    · exact h
  · exact h

theorem execSqTail_boundedOut {p r v : Nat} (h : s.Bounded) : BoundedOut (execSqTail p r v s) :=
  onRing_boundedOut (.ite h (.ite (h.modPort fun _ hx => hx.setRing) (h.modPort fun _ hx => hx.setRing)))

theorem execCqHead_boundedOut {p r v : Nat} (h : s.Bounded) : BoundedOut (execCqHead p r v s) :=
  onRing_boundedOut (.ite h (.ite (h.modPort fun _ hx => hx.setRing) (h.modPort fun _ hx => hx.setRing)))

theorem execCommandFetch_boundedOut {p r : Nat} {data : ReadFail ⊕ List (List Nat)} (h : s.Bounded) : BoundedOut (execCommandFetch p r data s) := by
  refine onRing_boundedOut ?_
  refine .ite h ?_
  split
  · exact .finishCmd (h.setPort (.aerRecord (.congr (by exact h.port.congr rfl) rfl)))
  · exact .hostRead (h.setPort (.setRing (h.port.congr rfl)))

theorem execWriteData_boundedOut {p r : Nat} (h : s.Bounded) : BoundedOut (execWriteData p r s) :=
  onRing_boundedOut (h.startCmd fun _ _ _ ht => ht.beginTransfer)

theorem execReadData_boundedOut {p r : Nat} (h : s.Bounded) : BoundedOut (execReadData p r s) :=
  onRing_boundedOut (h.startCmd fun _ _ _ ht => ht.beginTransfer)

theorem execLoadImage_boundedOut {p r : Nat} (h : s.Bounded) : BoundedOut (execLoadImage p r s) :=
  onRing_boundedOut (h.startCmd fun _ _ _ ht => ht.beginTransfer)

theorem execWriteTable_boundedOut {p r : Nat} (h : s.Bounded) : BoundedOut (execWriteTable p r s) :=
  onRing_boundedOut (h.startCmd fun _ _ _ ht => ht.beginTransfer)

theorem execRemoteWrite_boundedOut {p r : Nat} (h : s.Bounded) : BoundedOut (execRemoteWrite p r s) :=
  onRing_boundedOut (h.startCmd fun _ _ _ ht => ht.beginTransfer)

theorem execWalkReadResponse_boundedOut {p ci wi : Nat} {entry : ReadFail ⊕ Nat} (h : s.Bounded) : BoundedOut (execWalkReadResponse p ci wi entry
  s) := by
  refine onPort_boundedOut ?_
  dsimp only
  split
  · exact h
  · split
    · exact h
    · refine .ite h ?_
      refine .setCmd ?_
      refine .issueCmd ?_
      refine .modPort ?_ ?_
      · split
        · exact h.hostRead
        · exact h.modPort fun _ hx => hx.aerRecord
      · intro _ hx
        split
        · exact hx.congr rfl
        · exact hx

theorem execHostDataReadResponse_boundedOut {p ci ri : Nat} {data : ReadFail ⊕ List Byte} (h : s.Bounded) :
    BoundedOut (execHostDataReadResponse p ci ri data s) := by
  refine onPort_boundedOut ?_
  dsimp only
  split
  · exact h
  · split
    · exact h
    · refine .ite h ?_
      split
      · exact .setCmd (h.modPort fun _ hx => hx.aerRecord)
      · exact h.hostRead.dataIn.setCmd

theorem execFabricRsp_boundedOut {k : Nat} (h : s.Bounded) : BoundedOut (execFabricRsp k s) := by
  refine .out ?_
  split
  · split
    · dsimp only
      split
      · exact h.take
      · exact .answerCmd (.ite h.take (.foldl h.take fun _ _ ht => ht.hostPut))
    · exact h
  · exact h

theorem execNop_boundedOut {p r : Nat} (h : s.Bounded) : BoundedOut (execNop p r s) := onRing_boundedOut (h.startCmd fun _ _ _ ht => ht)

theorem execStartGraph_boundedOut {p r : Nat} (h : s.Bounded) : BoundedOut (execStartGraph p r s) := by
  refine onRing_boundedOut ?_
  refine h.startCmd ?_
  intro _ _ _ ht
  split
  · exact ht
  · exact ht.checkGraph

theorem execStartGraphDeferredCheck_boundedOut {p ci : Nat} (h : s.Bounded) : BoundedOut (execStartGraphDeferredCheck p ci s) := by
  refine onPort_boundedOut ?_
  dsimp only
  split
  · exact h
  · exact .ite h (.ite h.setCmd h.checkGraph.setCmd)

theorem execStopGraph_boundedOut {p r : Nat} (h : s.Bounded) : BoundedOut (execStopGraph p r s) := by
  refine onRing_boundedOut ?_
  refine h.startCmd ?_
  intro _ _ _ ht
  split
  · exact ht
  · exact ht.stopPartition

theorem execPostEvent_boundedOut {p r : Nat} (h : s.Bounded) : BoundedOut (execPostEvent p r s) :=
  onRing_boundedOut (h.startCmd fun _ _ _ ht => .inject (ht.modPort fun _ hx => hx.congr rfl))

theorem execHintPhaseBegin_boundedOut {p r : Nat} (h : s.Bounded) : BoundedOut (execHintPhaseBegin p r s) :=
  onRing_boundedOut (h.startCmd fun _ _ _ ht => .ite ht.modPart ht)

theorem execHintPhaseEnd_boundedOut {p r : Nat} (h : s.Bounded) : BoundedOut (execHintPhaseEnd p r s) :=
  onRing_boundedOut (h.startCmd fun _ _ _ ht => .ite ht.modPart ht)

theorem execEnergyMarkOpen_boundedOut {p r : Nat} (h : s.Bounded) : BoundedOut (execEnergyMarkOpen p r s) :=
  onRing_boundedOut (h.startCmd fun _ _ _ ht => by dsimp only; exact ht.modPart)

theorem execEnergyMarkClose_boundedOut {p r : Nat} (h : s.Bounded) : BoundedOut (execEnergyMarkClose p r s) :=
  onRing_boundedOut (h.startCmd fun _ _ _ ht => by dsimp only; exact ht.modPart)

theorem execInvalidatePort_boundedOut {p r : Nat} (h : s.Bounded) : BoundedOut (execInvalidatePort p r s) :=
  onRing_boundedOut (h.startCmd fun _ _ _ ht => ht.invalidate)

theorem execInvalidateContext_boundedOut {p r : Nat} (h : s.Bounded) : BoundedOut (execInvalidateContext p r s) :=
  onRing_boundedOut (h.startCmd fun _ _ _ ht => ht.invalidate)

theorem execInvalidateRange_boundedOut {p r : Nat} (h : s.Bounded) : BoundedOut (execInvalidateRange p r s) :=
  onRing_boundedOut (h.startCmd fun _ _ _ ht => ht.invalidate)

theorem execCommandCompletion_boundedOut {p ci : Nat} (h : s.Bounded) : BoundedOut (execCommandCompletion p ci s) := by
  refine onPort_boundedOut ?_
  dsimp only
  split
  · exact h
  · split
    · exact h
    · exact .finishCmd (.ite h.modPart h)

theorem execCmdTimeout_boundedOut {p i : Nat} (h : s.Bounded) : BoundedOut (execCmdTimeout p i s) := by
  refine onPort_boundedOut ?_
  dsimp only
  split
  · exact h
  · exact .ite h h.finishCmd

/-- A notification that is taken leaves the others. -/
theorem takeNote_length {r : Nat} {l rest : List (Nat × Record)} {e : Record} (taken : takeNote r l = some (e, rest)) : rest.length ≤ l.length := by
  induction l generalizing rest with
  | nil => cases taken
  | cons n l ih =>
    rw [takeNote] at taken
    split at taken
    · obtain ⟨-, rfl⟩ := Prod.mk.inj (Option.some.inj taken)
      exact Nat.le_succ _
    · obtain ⟨f, found, same⟩ := Option.map_eq_some_iff.mp taken
      obtain ⟨rfl, rfl⟩ := Prod.mk.inj same
      exact Nat.succ_le_succ (ih found)

theorem execCompletionRecordWrite_boundedOut {p r : Nat} (h : s.Bounded) : BoundedOut (execCompletionRecordWrite p r s) := by
  refine onRing_boundedOut (.ite h ?_)
  split
  · exact (h.setPort h.port.setRing).putRecord
  · split
    · next taken => exact (h.setPort (x := { s.port p with notes := _ }) (le_trans (takeNote_length taken) h.port)).putNote
    · exact h

theorem execMsixSignal_boundedOut {p v : Nat} (h : s.Bounded) : BoundedOut (execMsixSignal p v s) :=
  onPort_boundedOut (.ite h (.congr (h.setPort (p := p) (by exact h.port.congr rfl)) rfl))

/-- A notification waits where there is room, and is dropped where there is none (R307). -/
theorem execHostNotification_boundedOut {k : Nat} (h : s.Bounded) : BoundedOut (execHostNotification k s) := by
  refine .out ?_
  split
  · split
    · have taken : (s.take k).Bounded := h.take
      refine .ite (taken.modCis fun _ hc => hc.error) (.ite taken.putNote ?_)
      split
      · next room =>
        refine taken.setPort ?_
        rw [Port.Bounded, List.length_append, List.length_singleton]
        exact room
      · exact .modPort (taken.setPort taken.port.setRing).portFault fun _ hx => hx.congr rfl
    · exact h
  · exact h

theorem execRingEnable_boundedOut {p r v : Nat} (h : s.Bounded) : BoundedOut (execRingEnable p r v s) :=
  onRing_boundedOut (.ite h (h.setPort h.port.setRing))

theorem execRingDisable_boundedOut {p r : Nat} (h : s.Bounded) : BoundedOut (execRingDisable p r s) :=
  onRing_boundedOut (.ite h (h.modPort fun _ hx => hx.setRing))

theorem execRingResume_boundedOut {p r : Nat} (h : s.Bounded) : BoundedOut (execRingResume p r s) := by
  refine onRing_boundedOut ?_
  dsimp only
  split
  · exact h.modPort fun _ hx => hx.setRing
  · exact h

theorem execRingResumeRedo_boundedOut {p r : Nat} (h : s.Bounded) : BoundedOut (execRingResumeRedo p r s) := by
  refine onRing_boundedOut ?_
  dsimp only
  split
  · exact h.modPort fun _ hx => hx.setRing
  · exact h

theorem execCtxRootWrite_boundedOut {p c v : Nat} (h : s.Bounded) : BoundedOut (execCtxRootWrite p c v s) :=
  onPort_boundedOut (.ite h (h.setPort (.dropPages (h.port.congr rfl))))

theorem execDevwinWrite_boundedOut {p w : Nat} {limit : Bool} {v : Nat} (h : s.Bounded) : BoundedOut (execDevwinWrite p w limit v s) :=
  onPort_boundedOut (.ite h (h.setPort (.dropPages (.ite (h.port.congr rfl) (h.port.congr rfl)))))

theorem execRegisterWrite_boundedOut {p o v : Nat} (h : s.Bounded) : BoundedOut (execRegisterWrite p o v s) :=
  onPort_boundedOut (.ite h (.ite (.ite h (h.modPort fun _ hx => hx.configWrite)) (h.modPort fun _ hx => hx.writeReg)))

theorem execDeviceControl2Write_boundedOut {p v : Nat} (h : s.Bounded) : BoundedOut (execDeviceControl2Write p v s) :=
  onPort_boundedOut (.ite (h.modPort fun _ hx => hx.congr rfl) h)

theorem execFunctionLevelReset_boundedOut {p : Nat} (h : s.Bounded) : BoundedOut (execFunctionLevelReset p s) :=
  onPort_boundedOut (.ite (.dropMailbox (h.modPort fun _ hx => hx.functionReset)) h)

theorem execPerstN_boundedOut {p : Nat} (h : s.Bounded) : BoundedOut (execPerstN p s) :=
  onPort_boundedOut (.dropMailbox (h.modPort fun _ hx => hx.functionReset.congr rfl))

theorem execPerstNRise_boundedOut {p width rate : Nat} (h : s.Bounded) : BoundedOut (execPerstNRise p width rate s) :=
  onPort_boundedOut (h.modPort fun _ hx => .ite hx (hx.congr rfl))

theorem execTrainComplete_boundedOut {p width engine port : Nat} (h : s.Bounded) : BoundedOut (execTrainComplete p width engine port s) :=
  onSluice_boundedOut (.ite h (.ite h.portDown h.modSl))

theorem execTrainTimeout_boundedOut {p : Nat} (h : s.Bounded) : BoundedOut (execTrainTimeout p s) := onSluice_boundedOut (.ite h.portDown h)

theorem execAutoRetrain_boundedOut {p : Nat} (h : s.Bounded) : BoundedOut (execAutoRetrain p s) := onSluice_boundedOut (.ite h.portTrain h)

theorem execSluicePortDown_boundedOut {p : Nat} {fec : Bool} (h : s.Bounded) : BoundedOut (execSluicePortDown p fec s) :=
  onSluice_boundedOut (.ite h.portDown h)

theorem execFrameReceive_boundedOut {p : Nat} {f : Frame} (h : s.Bounded) : BoundedOut (execFrameReceive p f s) := by
  refine onSluice_boundedOut ?_
  refine .ite h ?_
  refine .ite h.modSl.frameBad ?_
  refine .ite h.modSl.modSl.frameBad ?_
  refine .ite h.modSl.modSl ?_
  refine .ite h.modSl ?_
  refine .ite h.modSl.frameBad ?_
  refine .pumpAll ?_
  refine .ite ?_ h.modSl.modSl
  dsimp only
  split
  · exact h.modSl.modSl.modSl.sendBare.flitIn
  · exact h.modSl.modSl.modSl.sendBare

theorem execNak_boundedOut {p named : Nat} (h : s.Bounded) : BoundedOut (execNak p named s) := onSluice_boundedOut (.ite h h.modSl.replayAll.pumpAll)

theorem execReplayTimeout_boundedOut {p : Nat} (h : s.Bounded) : BoundedOut (execReplayTimeout p s) := by
  refine onSluice_boundedOut ?_
  dsimp only
  split
  · exact h
  · exact .ite h.replayAll h

theorem execLinkDelayMeasure_boundedOut {p trip : Nat} (h : s.Bounded) : BoundedOut (execLinkDelayMeasure p trip s) :=
  onSluice_boundedOut (.ite h.modSl.sendBare h)

theorem execCrossEngineTransit_boundedOut {fromMesh : Bool} {k : Nat} (h : s.Bounded) : BoundedOut (execCrossEngineTransit fromMesh k s) := by
  refine .out ?_
  refine .ite ?_ ?_
  · split
    · split
      · exact .ite h (.ite h.take.xput h.take.xfail)
      · exact h
    · exact h
  · split
    · exact .ite h (.xsend (.freeBuffer (h.modRd fun _ hr => hr.congr rfl)))
    · exact h

theorem execXevent_boundedOut {k : Nat} (h : s.Bounded) : BoundedOut (execXevent k s) := by
  refine xtake_boundedOut h ?_
  intro _ _ _ ht
  dsimp only
  split
  · exact .ite ht.progress.inject ht.slError.xdiscard
  · exact ht.slError.xdiscard

theorem execXarrive_boundedOut {k : Nat} (h : s.Bounded) : BoundedOut (execXarrive k s) :=
  xtake_boundedOut h fun _ _ _ ht => .ite ht.slError.xsend (.ite ht.slError.xdiscard (.ite (.foldl (.modRd (.ite ht ht.groupProgress) fun _ hr =>
    hr.congr rfl) fun _ _ ht => ht.xsend) (.modRd (.ite ht ht.groupProgress) fun _ hr => hr.congr rfl)))

theorem execXrelease_boundedOut {k : Nat} (h : s.Bounded) : BoundedOut (execXrelease k s) := by
  refine xtake_boundedOut h ?_
  intro _ _ _ ht
  dsimp only
  split
  · exact ht
  · refine .ite ht.breakLocal ?_
    split
    · exact .ite ht.wellRelease ht
    · exact ht

theorem execXbreak_boundedOut {k : Nat} (h : s.Bounded) : BoundedOut (execXbreak k s) := by
  refine xtake_boundedOut h ?_
  intro _ _ _ ht
  refine .ite ?_ ?_
  · refine .rootBroken ?_
    split
    · exact ht.breakLocal
    · exact ht
  · split
    · exact ht.breakLocal
    · exact ht

theorem execXlost_boundedOut {k : Nat} (h : s.Bounded) : BoundedOut (execXlost k s) := by
  refine xtake_boundedOut h ?_
  intro _ _ _ ht
  dsimp only
  split
  · exact .ite ht.xeventLost ht
  · split
    · exact ht.breakOwn
    · exact ht
  · split
    · exact ht.breakOwn
    · exact ht
  · exact .ite ht.answerCmd ht
  · exact ht.modRd fun _ hr => hr.congr rfl

theorem execXcopy_boundedOut {k : Nat} (h : s.Bounded) : BoundedOut (execXcopy k s) := by
  unfold execXcopy
  split
  · exact h.out
  · exact .ite h.out (xtake_boundedOut h fun _ _ _ ht => .ite ht.xsendLast ht.fabStore.xsend)

theorem execXack_boundedOut {k : Nat} (h : s.Bounded) : BoundedOut (execXack k s) := xtake_boundedOut h fun _ _ _ ht => .ite ht.answerCmd ht

theorem execTsSyncSend_boundedOut (h : s.Bounded) : BoundedOut (execTsSyncSend s) :=
  .out (.ite (.foldl (h.modRd fun _ hr => hr.congr rfl) fun _ _ ht => ht.xput) h)

theorem execTsSync_boundedOut {k : Nat} (h : s.Bounded) : BoundedOut (execTsSync k s) :=
  xtake_boundedOut h fun _ _ _ ht => .ite ht (.ite (.tsStep (.addRdCtr (ht.modRd fun _ hr => hr.congr rfl))) (.addRdCtr (ht.modRd fun _ hr =>
    hr.congr rfl)))

theorem execTstampSlew_boundedOut (h : s.Bounded) : BoundedOut (execTstampSlew s) := .out (.ite (h.tick.modRd fun _ hr => hr.congr rfl) h)

theorem execHoldoverTimeout_boundedOut (h : s.Bounded) : BoundedOut (execHoldoverTimeout s) :=
  .out (.ite (.report (.addRdCtr (h.modRd fun _ hr => hr.congr rfl))) h)

theorem execCsyncInEdge_boundedOut (h : s.Bounded) : BoundedOut (execCsyncInEdge s) :=
  .out (.ite (.ite (.tsStep (h.modRd fun _ hr => hr.congr rfl)) (h.modRd fun _ hr => hr.congr rfl)) h)

theorem execCsyncOutPulse_boundedOut (h : s.Bounded) : BoundedOut (execCsyncOutPulse s) := .out (.ite (h.modRd fun _ hr => hr.congr rfl) h)

theorem execFlPropose_boundedOut {p : Nat} (h : s.Bounded) : BoundedOut (execFlPropose p s) := onPart_boundedOut (.ite h.setLock.xsend h)

theorem execFlProposeReceive_boundedOut {k : Nat} (h : s.Bounded) : BoundedOut (execFlProposeReceive k s) := by
  refine xtake_boundedOut h ?_
  intro _ _ _ ht
  split
  · exact .ite ht.setLock ht
  · exact ht

theorem execFlDecide_boundedOut {p : Nat} (h : s.Bounded) : BoundedOut (execFlDecide p s) :=
  onPart_boundedOut (.ite (.foldl h.setLock fun _ _ ht => ht.xsend) h)

theorem execFlCommand_boundedOut {k : Nat} (h : s.Bounded) : BoundedOut (execFlCommand k s) := by
  refine xtake_boundedOut h ?_
  intro _ _ _ ht
  split
  · exact .ite (.ite ht.setLock ht.setLock.schedule) ht
  · exact ht

theorem execFlockLost_boundedOut {p : Nat} (h : s.Bounded) : BoundedOut (execFlockLost p s) := onPart_boundedOut (.ite h.setLock.report h)

theorem execFstateChangeBegin_boundedOut (h : s.Bounded) : BoundedOut (execFstateChangeBegin s) :=
  .out ⟨h.cores, h.fields.map (fun _ => rfl) fun _ hx => hx.congr rfl, h.rdFaults, h.sdFaults, h.rd, h.ports⟩

theorem execFstateChangeComplete_boundedOut (h : s.Bounded) : BoundedOut (execFstateChangeComplete s) :=
  .out (.ite h (.addTotal ⟨h.cores, h.fields.map (fun _ => rfl) fun _ hx => hx.congr rfl, h.rdFaults, h.sdFaults, h.rd, h.ports⟩))

theorem execPorNRise_boundedOut (h : s.Bounded) : BoundedOut (execPorNRise s) :=
  .out (.ite h (.ite (h.congr rfl) (.bootBoth (.modSd (.coldReset (h.congr rfl))))))

theorem execPorNFall_boundedOut (h : s.Bounded) : BoundedOut (execPorNFall s) := by
  refine .out (.ite h ?_)
  have quiet : ((s.warmReset .off).rdStop .off).Bounded := h.warmReset.rdStop
  generalize (s.warmReset .off).rdStop .off = t at quiet
  exact quiet.congr rfl

theorem execInputPowerLoss_boundedOut (h : s.Bounded) : BoundedOut (execInputPowerLoss s) := h.coldReset.modSd.out

theorem execStrapSample_boundedOut {raw : Nat} (h : s.Bounded) : BoundedOut (execStrapSample raw s) :=
  .out (.ite h (.ite h.modSd (.ite h.modSd h.modSd.engineFault)))

theorem execWellheadBootComplete_boundedOut {w : Nat} {code : List Byte} {crc : Nat} {flash : FlashRead} (h : s.Bounded) :
    BoundedOut (execWellheadBootComplete w code crc flash s) :=
  .ite ((boundedOut_fault _)) (.out (.ite h h.modWell.bootsDone))

end

/-! ### Starts, the dictionary, power, temperature and traces -/

section
variable {s : State}

theorem execPmbusScanComplete_boundedOut {devs : List VrDevice} {missing : Bool} (h : s.Bounded) : BoundedOut (execPmbusScanComplete devs missing
  s) :=
  .ite (boundedOut_fault _) (.out (.ite h (.ite (.failStart (.ite (.modSd (.ite (.engineFault (.pmbSend (h.congr rfl))) (.pmbSend (h.congr
    rfl)))) (.nmtBootUp (.modSd (.ite (.engineFault (.pmbSend (h.congr rfl))) (.pmbSend (h.congr rfl))))))) (.rdStart (.ite (.modSd (.ite
    (.engineFault (.pmbSend (h.congr rfl))) (.pmbSend (h.congr rfl)))) (.nmtBootUp (.modSd (.ite (.engineFault (.pmbSend (h.congr rfl)))
    (.pmbSend (h.congr rfl))))))))))

theorem execRdStartComplete_boundedOut {ok : Bool} (h : s.Bounded) : BoundedOut (execRdStartComplete ok s) :=
  .out (.ite h (.ite h.rdStarted.sensorsOn.toStep.startFields h.rdFailed))

theorem execMdStartComplete_boundedOut {f : Nat} {ok : Bool} (h : s.Bounded) : BoundedOut (execMdStartComplete f ok s) :=
  onField_boundedOut (.ite h (.ite h.mdFailed (.startCheck (.ite (.cdStart (.sensorsOn (h.modField fun _ hx => hx.mdLost.congr rfl))) (.sensorsOn
    (h.modField fun _ hx => hx.mdLost.congr rfl))))))

theorem execCdStartComplete_boundedOut {f : Nat} (h : s.Bounded) : BoundedOut (execCdStartComplete f s) := by
  refine onField_boundedOut ?_
  extract_lets k map s1 s2 s3
  have hs1 : s1.Bounded := h.modClk
  have hs2 : s2.Bounded := .sensorsOn (.releaseCores (hs1.modField fun _ hx => hx.congr rfl))
  have hs3 : s3.Bounded := by
    dsimp only [s3]
    split
    · exact .ite hs2 hs2.modClk
    · exact hs2.cdOff
  split
  · exact h
  · exact .ite h (.ite h.cdDegraded hs3.startCheck)

theorem execCdStartTimeout_boundedOut {f : Nat} (h : s.Bounded) : BoundedOut (execCdStartTimeout f s) := by
  refine onField_boundedOut ?_
  split
  · exact h
  · exact .ite h.cdDegraded h

theorem execStartStepTimeout_boundedOut {x : StepOverrun} (h : s.Bounded) : BoundedOut (execStartStepTimeout x s) :=
  .out (.ite (.modSd (.toStep (h.congr rfl))) (.ite (.bootsDone (h.congr rfl)) (.ite (.failStart (.ite h.engineFault.modSd
    h.engineFault.modSd.nmtBootUp)) (.ite h.rdFailed (.ite (.foldl h fun _ _ ht => .ite ht.mdFailed ht) h)))))

theorem execRstBtnPressBegin_boundedOut (h : s.Bounded) : BoundedOut (execRstBtnPressBegin s) := .out (.ite h.modSd.warmReset h)

theorem execRstBtnPressEnd_boundedOut {flash : FlashRead} (h : s.Bounded) : BoundedOut (execRstBtnPressEnd flash s) := .out (.ite h.modSd.pressEnd h)

theorem execButtonStuck_boundedOut (h : s.Bounded) : BoundedOut (execButtonStuck s) := .out (.ite h.modSd.engineFault h)

theorem execFlowLossDeclare_boundedOut (h : s.Bounded) : BoundedOut (execFlowLossDeclare s) :=
  .out (.ite h (.ite h.modSd.countStored h.modSd.countStored.warmReset.engineFault))

theorem execCoolantBackupTimeout_boundedOut (h : s.Bounded) : BoundedOut (execCoolantBackupTimeout s) := by
  refine .out ?_
  split
  · exact h
  · exact .ite h (.ite h.modSd.warmReset h.modSd)

theorem execFlowRestoreDeclare_boundedOut (h : s.Bounded) : BoundedOut (execFlowRestoreDeclare s) := .out (.ite h.modSd h)

theorem execCoolantRestart_boundedOut (h : s.Bounded) : BoundedOut (execCoolantRestart s) := .out (.ite (.ite h.modSd h.modSd.restartFields) h)

theorem execRefclkLost_boundedOut (h : s.Bounded) : BoundedOut (execRefclkLost s) :=
  .out (.ite h (.engineFault (.modSd (.congr (.foldl (.ite (.rdStop (st := DomState.reset) (.foldl h.warmReset fun _ _ ht => .ite ht.modPart ht))
    (.foldl (h.warmReset (st := DomState.reset)) fun _ _ ht => .ite ht.modPart ht)) fun _ _ ht => ht.modPort fun _ hx => by exact hx.congr rfl)
    rfl))))

theorem execRefclkRestore_boundedOut (h : s.Bounded) : BoundedOut (execRefclkRestore s) := by
  refine .out ?_
  refine .ite h ?_
  dsimp only
  split
  · exact h.modSd.modSd.rdStart
  · exact .ite h.modSd.rdStart h.modSd
  · exact .ite h.modSd.rdStart h.modSd
  · exact h.modSd

theorem execPllUnlock_boundedOut {f : Nat} (h : s.Bounded) : BoundedOut (execPllUnlock f s) := by
  refine onField_boundedOut ?_
  dsimp only
  split
  · exact .ite h.warmReset.report h.warmReset.report.restartFields
  · exact .ite h.mdFailed h
  · exact h

theorem execRepairAdd_boundedOut {apply : Bool} {who : Requester} (h : s.Bounded) : BoundedOut (execRepairAdd apply who s) := onWho_boundedOut
  h.ownWrite

theorem execRepairRemove_boundedOut {apply : Bool} {who : Requester} (h : s.Bounded) : BoundedOut (execRepairRemove apply who s) :=
  onWho_boundedOut h.ownWrite

theorem execRepairReload_boundedOut {apply : Bool} {who : Requester} {flash : FlashRead} (h : s.Bounded) :
    BoundedOut (execRepairReload apply who flash s) :=
  onWho_boundedOut h.ownWrite

theorem execFieldRestart_boundedOut {apply : Bool} {who : Requester} (h : s.Bounded) : BoundedOut (execFieldRestart apply who s) :=
  onWho_boundedOut h.ownWrite

theorem execPartitionRect_boundedOut {apply : Bool} {who : Requester} (h : s.Bounded) : BoundedOut (execPartitionRect apply who s) :=
  onWho_boundedOut h.ownWrite

theorem execPartJob_boundedOut {apply : Bool} {who : Requester} (h : s.Bounded) : BoundedOut (execPartJob apply who s) := onWho_boundedOut h.ownWrite

theorem execEngineId_boundedOut {apply : Bool} {who : Requester} (h : s.Bounded) : BoundedOut (execEngineId apply who s) := onWho_boundedOut
  h.ownWrite

theorem execTimeMaster_boundedOut {apply : Bool} {who : Requester} (h : s.Bounded) : BoundedOut (execTimeMaster apply who s) :=
  onWho_boundedOut h.ownWrite

theorem execPowerCap_boundedOut {apply : Bool} {who : Requester} (h : s.Bounded) : BoundedOut (execPowerCap apply who s) := onWho_boundedOut
  h.ownWrite

theorem execDetMode_boundedOut {apply : Bool} {who : Requester} (h : s.Bounded) : BoundedOut (execDetMode apply who s) := onWho_boundedOut h.ownWrite

theorem execCmdTimeoutWrite_boundedOut {apply : Bool} {who : Requester} (h : s.Bounded) : BoundedOut (execCmdTimeoutWrite apply who s) :=
  onWho_boundedOut h.ownWrite

theorem execDrywellWindow_boundedOut {apply : Bool} {who : Requester} (h : s.Bounded) : BoundedOut (execDrywellWindow apply who s) :=
  onWho_boundedOut h.ownWrite

theorem execRestoreSefiez_boundedOut {apply : Bool} {who : Requester} (h : s.Bounded) : BoundedOut (execRestoreSefiez apply who s) :=
  onWho_boundedOut h.ownWrite

theorem execRestoreComm_boundedOut {apply : Bool} {who : Requester} (h : s.Bounded) : BoundedOut (execRestoreComm apply who s) :=
  onWho_boundedOut h.ownWrite

theorem execButtonOverride_boundedOut {apply : Bool} {who : Requester} {flash : FlashRead} (h : s.Bounded) :
    BoundedOut (execButtonOverride apply who flash s) :=
  onWho_boundedOut h.ownWrite

theorem execFaultLogClear_boundedOut {apply : Bool} {who : Requester} (h : s.Bounded) : BoundedOut (execFaultLogClear apply who s) :=
  onWho_boundedOut h.ownWrite

theorem execErrorHistoryClear_boundedOut {apply : Bool} {who : Requester} (h : s.Bounded) : BoundedOut (execErrorHistoryClear apply who s) :=
  onWho_boundedOut h.ownWrite

theorem execPortEnable_boundedOut {apply : Bool} {who : Requester} (h : s.Bounded) : BoundedOut (execPortEnable apply who s) :=
  onWho_boundedOut h.ownWrite

theorem execPortDisable_boundedOut {apply : Bool} {who : Requester} (h : s.Bounded) : BoundedOut (execPortDisable apply who s) :=
  onWho_boundedOut h.ownWrite

theorem execMbDoorbell_boundedOut {p c : Nat} (h : s.Bounded) : BoundedOut (execMbDoorbell p c s) :=
  onPort_boundedOut (.ite h (.ite (h.modPort fun _ hx => hx.setChan) (h.modPort fun _ hx => hx.setChan)))

theorem execDictRead_boundedOut {who : Requester} (h : s.Bounded) : BoundedOut (execDictRead who s) := by
  refine onWho_boundedOut ?_
  refine .ite h ?_
  split
  · exact h
  · refine .ite h ?_
    split
    · exact h.refuse
    · exact h.respond

theorem execDictWrite_boundedOut {who : Requester} (h : s.Bounded) : BoundedOut (execDictWrite who s) := onWho_boundedOut h.submit

theorem execDictWriteApply_boundedOut (h : s.Bounded) : BoundedOut (execDictWriteApply s) := h.applyHead.out

theorem execDictWriteAnswer_boundedOut (h : s.Bounded) : BoundedOut (execDictWriteAnswer s) := by
  refine .out ?_
  split
  · exact h
  · split
    · exact h
    · exact .ite h (.respond (.ite (.emcyNow (.ite (h.congr rfl) (.noteRefusal (h.congr rfl)))) (.ite (h.congr rfl) (.noteRefusal (h.congr rfl)))))

theorem execUsdoInitiateDownload_boundedOut {index sub size : Nat} {data : List Byte} (h : s.Bounded) :
    BoundedOut (execUsdoInitiateDownload index sub size data s) :=
  .out (.ite h h.usdoOpen)

theorem execUsdoInitiateUpload_boundedOut {index sub : Nat} (h : s.Bounded) : BoundedOut (execUsdoInitiateUpload index sub s) := .out (.ite h
  h.usdoOpen)

theorem execUsdoSegment_boundedOut {data : List Byte} {last : Bool} (h : s.Bounded) : BoundedOut (execUsdoSegment data last s) := by
  refine .out ?_
  refine .ite h ?_
  split
  · exact h.usdoSend.noteRefusal
  · exact .ite h.usdoAbort (.ite (h.congr rfl) (.ite h.usdoSend.usdoClose (h.usdoSend.congr rfl)))

theorem execDictSegTimeout_boundedOut (h : s.Bounded) : BoundedOut (execDictSegTimeout s) := by
  refine .out ?_
  split
  · exact h
  · exact .ite h.usdoAbort h

theorem execNmtStart_boundedOut (h : s.Bounded) : BoundedOut (execNmtStart s) := h.nmtGo.out

theorem execNmtStop_boundedOut (h : s.Bounded) : BoundedOut (execNmtStop s) := h.nmtGo.out

theorem execNmtEnterPreOperational_boundedOut (h : s.Bounded) : BoundedOut (execNmtEnterPreOperational s) := h.nmtGo.out

theorem execNmtResetCommunication_boundedOut (h : s.Bounded) : BoundedOut (execNmtResetCommunication s) := .out (.ite h.resetComm h)

theorem execNmtResetNode_boundedOut (h : s.Bounded) : BoundedOut (execNmtResetNode s) := .out (.ite (.resetComm (h.congr rfl)) h)

theorem execHeartbeatSend_boundedOut (h : s.Bounded) : BoundedOut (execHeartbeatSend s) := .out (.ite h.canSend.modCan h)

theorem execHeartbeatReceive_boundedOut {node : Nat} (h : s.Bounded) : BoundedOut (execHeartbeatReceive node s) :=
  .out (.ite h (.foldl h fun _ _ ht => .ite ht.modCan ht))

theorem execCanHbTimeout_boundedOut {k : Nat} (h : s.Bounded) : BoundedOut (execCanHbTimeout k s) := .out (.ite h.modCan.engineFault h)

theorem execEmcySend_boundedOut (h : s.Bounded) : BoundedOut (execEmcySend s) := by
  refine .out ?_
  split
  · exact h
  · exact .ite h.canSend.modCan h

theorem execCanBusOff_boundedOut (h : s.Bounded) : BoundedOut (execCanBusOff s) := .out (.ite h.modCan.engineFault h)

theorem execCanOverrun_boundedOut (h : s.Bounded) : BoundedOut (execCanOverrun s) := .out (.ite h.engineFault h)

theorem execRpdoReceive_boundedOut {r : Nat} {data : List Byte} (h : s.Bounded) : BoundedOut (execRpdoReceive r data s) := by
  refine .out ?_
  refine .ite h ?_
  refine .ite h.engineFault.emcyNow ?_
  refine .ite h.engineFault.emcyNow ?_
  dsimp only
  split
  · exact h.noteRefusal.emcyNow
  · exact .ite h.noteRefusal.emcyNow h.enqueue

theorem execTpdoSend_boundedOut {t : Nat} (h : s.Bounded) : BoundedOut (execTpdoSend t s) := .out (.ite h (.ite h.canSend.modCan h))

theorem execEpochClose_boundedOut (h : s.Bounded) : BoundedOut (execEpochClose s) := .out (.ite (.ite h.openEpoch.modWh h.openEpoch.commitLocal) h)

theorem execEpochReceive_boundedOut {x : EpochWords} (h : s.Bounded) : BoundedOut (execEpochReceive x s) := by
  refine .out ?_
  split
  · exact h
  · exact .ite h (.ite h.modWh (.ite h.modWh h.modWh.modWell))

theorem execEpochAck_boundedOut (h : s.Bounded) : BoundedOut (execEpochAck s) := by
  refine .out ?_
  split
  · exact h
  · exact .ite h h.commitEpoch.dropDrained.modWh

theorem execHeartbeatLossTimeout_boundedOut (h : s.Bounded) : BoundedOut (execHeartbeatLossTimeout s) := .out (.ite h.moveToken h)

theorem execWellheadWatchdogExpiry_boundedOut (h : s.Bounded) : BoundedOut (execWellheadWatchdogExpiry s) := .out (.ite h.moveToken h)

theorem execWellheadMemoryError_boundedOut (h : s.Bounded) : BoundedOut (execWellheadMemoryError s) := .out (.ite h.moveToken h)

theorem execWellheadHeartbeat_boundedOut {w : Nat} (h : s.Bounded) : BoundedOut (execWellheadHeartbeat w s) :=
  .ite (boundedOut_fault _) (.out (.ite h.modWell h))

theorem execWellheadTakeover_boundedOut (h : s.Bounded) : BoundedOut (execWellheadTakeover s) := by
  refine .out ?_
  split
  · exact h
  · exact .settleDegraded (.settleLoss (.answerTakeover (.setDict (.countStored (.congr (.ite (h.modWh.modFw.report.report (q := 73))
      (h.modWh.modFw.report (q := 73))) rfl)))))

theorem execStandbyLost_boundedOut (h : s.Bounded) : BoundedOut (execStandbyLost s) := .out (.ite h.modWh.report.standbyFail.commitLocal h)

theorem execWellheadRestartBoot_boundedOut {w : Nat} {image : Image} (h : s.Bounded) : BoundedOut (execWellheadRestartBoot w image s) :=
  .ite (boundedOut_fault _) (.out (.ite h (.ite h.modWell.modWh h.standbyFail)))

theorem execStandbyResyncComplete_boundedOut {x : EpochWords} (h : s.Bounded) : BoundedOut (execStandbyResyncComplete x s) :=
  .out (.ite h (.ite h.openEpoch.commitLocal.modWh h.modWh.standbyFail))

theorem execWellheadBootRetry_boundedOut (h : s.Bounded) : BoundedOut (execWellheadBootRetry s) := by
  refine .out ?_
  split
  · exact h
  · exact .ite h (.ite h.bootBoth.toStep h.bootBoth)

theorem execWellheadPairLost_boundedOut {w : Nat} {image : Image} {flash : FlashRead} (h : s.Bounded) :
    BoundedOut (execWellheadPairLost w image flash s) :=
  .ite (boundedOut_fault _) (.out (.ite h (.ite (.ite h.modWell h.modWell.modWh) (.settleDegraded (.settleLoss (.engineFault (.ite (.toStep (.ite
    (.nmtBootUp (.modSd (.modFw (.ite (.engineFault (.congr (h.modWell (w := w)) rfl)) (.congr (h.modWell (w := w)) rfl))))) (.modFw (.ite
    (.engineFault (.congr (h.modWell (w := w)) rfl)) (.congr (h.modWell (w := w)) rfl))))) (.ite (.nmtBootUp (.modSd (.modFw (.ite (.engineFault
    (.congr (h.modWell (w := w)) rfl)) (.congr (h.modWell (w := w)) rfl))))) (.modFw (.ite (.engineFault (.congr (h.modWell (w := w)) rfl))
    (.congr (h.modWell (w := w)) rfl)))))))))))

theorem execFaultQueueDrain_boundedOut (h : s.Bounded) : BoundedOut (execFaultQueueDrain s) := by
  refine .out ?_
  extract_lets s1 e s2
  have hs1 : s1.Bounded := .foldl h fun _ _ ht => ht.drainRec
  have hs2 : s2.Bounded := .ite hs1.emcyNow hs1
  exact .ite h (.ite hs2 hs2.modCan)

theorem execRepairAutoAddEntry_boundedOut {c : Nat} (h : s.Bounded) : BoundedOut (execRepairAutoAddEntry c s) := by
  refine onCore_boundedOut ?_
  extract_lets k s1
  have hk : k.Canonical := h.core
  have hs1 : s1.Bounded := h.modCore fun _ hk => hk.congr rfl
  split
  · exact h
  · exact .ite h (.ite hs1 (.ite hs1.engineFault (hs1.congr rfl)))

theorem execEstimatorTick_boundedOut {acts : List Activity} {sensed : List (Nat × Nat)} (h : s.Bounded) :
    BoundedOut (execEstimatorTick acts sensed s) := by
  unfold execEstimatorTick
  generalize nFields = n
  refine .out (.ite h ?_)
  exact .congr (.eventsTaken (.engineTick (.foldl h fun _ _ ht => ht.fieldTick))) rfl

theorem execCalibration_boundedOut (h : s.Bounded) : BoundedOut (execCalibration s) := by
  refine .out ?_
  extract_lets _ s0
  have hs0 : s0.Bounded := h.congr rfl
  split
  · exact h
  · exact .ite h (.ite hs0 (.ite (.ite (.setDict (.ite (hs0.congr rfl) hs0)) (.engineFault (.congr (.ite (by exact hs0.congr rfl) hs0) rfl)))
      (.setDict (.setDict (.congr (.ite (by exact hs0.congr rfl) hs0) rfl)))))

theorem execQuietWindowForce_boundedOut {f : Nat} (h : s.Bounded) : BoundedOut (execQuietWindowForce f s) :=
  onField_boundedOut (.ite (.modClk (.setDict (h.congr rfl))) h)

theorem execPmbusPoll_boundedOut {l : List RailRead} (h : s.Bounded) : BoundedOut (execPmbusPoll l s) :=
  .ite (.out (.ite (.foldl h fun _ _ ht => ht.readPout.readStatus) h)) (boundedOut_fault _)

theorem execPmbAlert_boundedOut {l : List (Nat × BusRead RailStatus)} (h : s.Bounded) : BoundedOut (execPmbAlert l s) :=
  .ite (.out (.ite (.foldl h.pmbSend fun _ _ ht => ht.readStatus) h)) (boundedOut_fault _)

theorem execVrDerateClear_boundedOut (h : s.Bounded) : BoundedOut (execVrDerateClear s) := by
  refine .out ?_
  split
  · exact .ite (h.congr rfl) h
  · exact h

theorem execCeilingGuardEngage_boundedOut (h : s.Bounded) : BoundedOut (execCeilingGuardEngage s) := by
  unfold execCeilingGuardEngage
  generalize nFields = n
  have relieved : ((upTo n).foldl (fun s f => s.modClk f (fun k => { k with bub := 48, duty := 0 })) s).Bounded := h.foldl fun _ _ ht => ht.modClk
  exact .out (.ite h (.engineFault (relieved.congr rfl)))

theorem execCeilingGuardRelease_boundedOut (h : s.Bounded) : BoundedOut (execCeilingGuardRelease s) := by
  refine .out ?_
  split
  · exact h
  · exact .ite h (.foldl (h.congr rfl) fun _ _ ht => ht.modClk)

theorem execDroopStretchBegin_boundedOut {f : Nat} (h : s.Bounded) : BoundedOut (execDroopStretchBegin f s) := by
  have begun : (s.modClk f (fun k => { k with stretch := some s.tstamp, severe := false })).Bounded := h.modClk
  exact onField_boundedOut (.ite h (begun.congr rfl))

theorem execDroopStretchEnd_boundedOut {f : Nat} (h : s.Bounded) : BoundedOut (execDroopStretchEnd f s) := onField_boundedOut h.modClk

theorem execDroopSevere_boundedOut {f : Nat} (h : s.Bounded) : BoundedOut (execDroopSevere f s) := by
  refine onField_boundedOut ?_
  dsimp only
  split
  · exact h
  · exact .ite h (.congr (h.modClk.fieldFault (f := f) (cause := 21121) (info := 0)) rfl)

theorem execFillerEnter_boundedOut {c : Nat} (h : s.Bounded) : BoundedOut (execFillerEnter c s) :=
  onCore_boundedOut (.ite (h.modCore fun _ hk => hk.congr rfl) h)

theorem execFillerDutyDecay_boundedOut {c : Nat} (h : s.Bounded) : BoundedOut (execFillerDutyDecay c s) :=
  onCore_boundedOut (.ite (h.modCore fun _ hk => hk.congr rfl) h)

theorem execHintExpiry_boundedOut {p pclass : Nat} (h : s.Bounded) : BoundedOut (execHintExpiry p pclass s) := onPart_boundedOut h.modPart

theorem execControllerPeriod_boundedOut (h : s.Bounded) : BoundedOut (execControllerPeriod s) :=
  .out (.ite h (.foldl (h.congr rfl) fun _ _ ht => ht.periodPart))

theorem execControllerEpoch_boundedOut (h : s.Bounded) : BoundedOut (execControllerEpoch s) :=
  .out (.ite h (.foldl (.congr (.foldl (by exact h.congr rfl) fun _ _ ht => .foldl ht fun _ _ ht => ht.learn) rfl) fun _ _ ht => .ite (.ite ht
    ht.issuePart) (.issuePart (ht.congr rfl))))

theorem execSensorConversion_boundedOut {i : Nat} {t : Int} (h : s.Bounded) : BoundedOut (execSensorConversion i t s) :=
  .ite (boundedOut_fault _) (.out (.ite h (.ite h.failSensor (.ite (.trip (.ite h.modTherm.trackBelow.enterForced (.ite
    h.modTherm.trackBelow.modTherm.sensorFault h.modTherm.trackBelow))) (.ite h.modTherm.trackBelow.enterForced (.ite
    h.modTherm.trackBelow.modTherm.sensorFault h.modTherm.trackBelow))))))

theorem execSensorFault_boundedOut {i : Nat} (h : s.Bounded) : BoundedOut (execSensorFault i s) :=
  .ite (boundedOut_fault _) (.out (.ite h.failSensor h))

theorem execThermWarnClear_boundedOut (h : s.Bounded) : BoundedOut (execThermWarnClear s) := .out (.ite (h.congr rfl) h)

theorem execThermForcedClear_boundedOut (h : s.Bounded) : BoundedOut (execThermForcedClear s) :=
  .out (.ite (.ite h.modTherm (.foldl h.modTherm fun _ _ ht => ht.issuePart)) h)

theorem execDerateStep_boundedOut (h : s.Bounded) : BoundedOut (execDerateStep s) := by
  refine .out ?_
  split
  · exact h
  · exact .ite h (h.congr rfl)

theorem execSlackCheck_boundedOut {f slack : Nat} (h : s.Bounded) : BoundedOut (execSlackCheck f slack s) :=
  onField_boundedOut (.ite h (.ite h.modTherm.ageStep h.modTherm))

theorem execSramScrubRow_boundedOut {c bank : Nat} {found : List (Nat × Bool)} (h : s.Bounded) : BoundedOut (execSramScrubRow c bank found s) :=
  onCore_boundedOut (.ite h.scrubRow h)

theorem execForcedScrubCycle_boundedOut {c bank : Nat} {found : List (Nat × Bool)} (h : s.Bounded) : BoundedOut (execForcedScrubCycle c bank
  found s) :=
  onCore_boundedOut (.ite h.scrubRow h)

theorem execTableScrubSlot_boundedOut {f : Nat} {found : List (Nat × Bool)} (h : s.Bounded) : BoundedOut (execTableScrubSlot f found s) := by
  refine onField_boundedOut ?_
  extract_lets c x base words ue ce met bad s1 s2 s3 s4
  have hc : c.Bounded := h.field.cis
  have hs1 : s1.Bounded := h.modCis fun _ hc => hc.congr rfl
  have hs2 : s2.Bounded := .ite hs1 hs1.addTotal.addFieldCtr
  have hs3 : s3.Bounded := .foldl hs2 fun _ _ ht => ht.countUe
  have hs4 : s4.Bounded := hs3.modCis fun _ hc => hc.error
  exact .ite h (.ite hs2 (.ite hs4.scrubNode hs4))

theorem execStatsIntervalEnd_boundedOut {p : Nat} (h : s.Bounded) : BoundedOut (execStatsIntervalEnd p s) := by
  refine onPart_boundedOut ?_
  extract_lets t len ts make s1
  have hs1 : s1.Bounded := h.foldl fun _ _ ht => .ite ht.endInterval ht
  exact .ite h (hs1.setTraceDest (hs1.traceDest.congr rfl))

theorem execStatsEmissionWindowEnd_boundedOut {f : Nat} (h : s.Bounded) : BoundedOut (execStatsEmissionWindowEnd f s) := by
  refine onField_boundedOut ?_
  dsimp only
  split
  · exact .ite h (.fieldDropped (h.modField fun _ hx => hx.congr rfl))
  · exact h

theorem execTraceRecordWrite_boundedOut {p : Nat} (h : s.Bounded) : BoundedOut (execTraceRecordWrite p s) :=
  onPart_boundedOut (.ite h (.ite (.writeRecs (.foldl h fun _ _ ht => .ite ht.chain ht)) (.foldl h fun _ _ ht => .ite ht.chain ht)))

theorem execTraceProdWrite_boundedOut {p : Nat} (h : s.Bounded) : BoundedOut (execTraceProdWrite p s) :=
  onPart_boundedOut (.ite (.hostWrite (h.setTraceDest (h.traceDest.congr rfl))) h)

theorem execTraceConsRead_boundedOut {p : Nat} {value : ReadFail ⊕ Nat} (h : s.Bounded) : BoundedOut (execTraceConsRead p value s) := by
  refine onPart_boundedOut (.ite ?_ h)
  split
  · exact .setTraceDest (h.modPort fun _ hx => hx.count) (h.traceDest.congr rfl)
  · next e =>
    have failed : ((s.modPort ((s.traceDest p).cfg % 4) (fun x => x.aerRecord e)).traceDisable p).Bounded :=
      .traceDisable (h.modPort fun _ hx => hx.aerRecord)
    exact failed.setTraceDest (failed.traceDest.congr rfl)

theorem execTraceDrop_boundedOut {p stage : Nat} (h : s.Bounded) : BoundedOut (execTraceDrop p stage s) := by
  refine onPart_boundedOut (.ite ?_ (.ite (h.traceMake.modField fun _ hx => hx.congr rfl) h))
  split
  · next make =>
    have room : (s.traceDest p).staging.length < 1024 := by
      simp only [Bool.and_eq_true, decide_eq_true_eq] at make
      exact make.2
    refine h.setTraceDest ?_
    rw [TraceDest.Bounded, List.length_append, List.length_singleton]
    exact room
  · exact h

end

section
variable {s : State}

/-! ### Every command and every step -/

theorem exec_boundedOut (i : Instr) (h : s.Bounded) : BoundedOut (exec i s) := by
  unfold exec
  cases i with
  | sqTail => exact execSqTail_boundedOut h
  | cqHead => exact execCqHead_boundedOut h
  | commandFetch => exact execCommandFetch_boundedOut h
  | nop => exact execNop_boundedOut h
  | writeData => exact execWriteData_boundedOut h
  | readData => exact execReadData_boundedOut h
  | loadImage => exact execLoadImage_boundedOut h
  | writeTable => exact execWriteTable_boundedOut h
  | startGraph => exact execStartGraph_boundedOut h
  | startGraphDeferredCheck => exact execStartGraphDeferredCheck_boundedOut h
  | stopGraph => exact execStopGraph_boundedOut h
  | postEvent => exact execPostEvent_boundedOut h
  | hintPhaseBegin => exact execHintPhaseBegin_boundedOut h
  | hintPhaseEnd => exact execHintPhaseEnd_boundedOut h
  | energyMarkOpen => exact execEnergyMarkOpen_boundedOut h
  | energyMarkClose => exact execEnergyMarkClose_boundedOut h
  | invalidatePort => exact execInvalidatePort_boundedOut h
  | invalidateContext => exact execInvalidateContext_boundedOut h
  | invalidateRange => exact execInvalidateRange_boundedOut h
  | remoteWrite => exact execRemoteWrite_boundedOut h
  | walkReadResponse => exact execWalkReadResponse_boundedOut h
  | hostDataReadResponse => exact execHostDataReadResponse_boundedOut h
  | fabricAccess => exact execFabricAccess_boundedOut h
  | fabricAccessRelease => exact execFabricAccessRelease_boundedOut h
  | fabricRsp => exact execFabricRsp_boundedOut h
  | commandCompletion => exact execCommandCompletion_boundedOut h
  | completionRecordWrite => exact execCompletionRecordWrite_boundedOut h
  | msixSignal => exact execMsixSignal_boundedOut h
  | hostNotification => exact execHostNotification_boundedOut h
  | cmdTimeout => exact execCmdTimeout_boundedOut h
  | ringEnable => exact execRingEnable_boundedOut h
  | ringDisable => exact execRingDisable_boundedOut h
  | ringResume => exact execRingResume_boundedOut h
  | ringResumeRedo => exact execRingResumeRedo_boundedOut h
  | ctxRootWrite => exact execCtxRootWrite_boundedOut h
  | devwinWrite => exact execDevwinWrite_boundedOut h
  | functionLevelReset => exact execFunctionLevelReset_boundedOut h
  | perstN => exact execPerstN_boundedOut h
  | registerWrite => exact execRegisterWrite_boundedOut h
  | cisternEventAccept => exact execCisternEventAccept_boundedOut h
  | overflowChainAdvance => exact execOverflowChainAdvance_boundedOut h
  | taskAssign => exact execTaskAssign_boundedOut h
  | taskStart => exact execTaskStart_boundedOut h
  | startReport => exact execStartReport_boundedOut h
  | completionReport => exact execCompletionReport_boundedOut h
  | outputRecordReadEnd => exact execOutputRecordReadEnd_boundedOut h
  | outputRecordEmit => exact execOutputRecordEmit_boundedOut h
  | failureReport => exact execFailureReport_boundedOut h
  | withdrawRequest => exact execWithdrawRequest_boundedOut h
  | withdrawAnswer => exact execWithdrawAnswer_boundedOut h
  | abortRequest => exact execAbortRequest_boundedOut h
  | abortReport => exact execAbortReport_boundedOut h
  | taskWatchdog => exact execTaskWatchdog_boundedOut h
  | abortNoAnswer => exact execAbortNoAnswer_boundedOut h
  | coreLost => exact execCoreLost_boundedOut h
  | repairAutoAddEntry => exact execRepairAutoAddEntry_boundedOut h
  | commitNotice => exact execCommitNotice_boundedOut h
  | postReceive => exact execPostReceive_boundedOut h
  | eventLost => exact execEventLost_boundedOut h
  | csErrClear => exact execCsErrClear_boundedOut h
  | producerAdvance => exact execProducerAdvance_boundedOut h
  | consumerAdvance => exact execConsumerAdvance_boundedOut h
  | pairWait => exact execPairWait_boundedOut h
  | pairRead => exact execPairRead_boundedOut h
  | pairClear => exact execPairClear_boundedOut h
  | syncAnswer => exact execSyncAnswer_boundedOut h
  | sxErrClear => exact execSxErrClear_boundedOut h
  | wellArrival => exact execWellArrival_boundedOut h
  | releaseTreeArrival => exact execReleaseTreeArrival_boundedOut h
  | wellTimeout => exact execWellTimeout_boundedOut h
  | brokenReleaseArrival => exact execBrokenReleaseArrival_boundedOut h
  | dryWellDeclare => exact execDryWellDeclare_boundedOut h
  | dryWellSnapshotCommit => exact execDryWellSnapshotCommit_boundedOut h
  | add => exact execAdd_boundedOut h
  | sub => exact execSub_boundedOut h
  | and => exact execAnd_boundedOut h
  | or => exact execOr_boundedOut h
  | xor => exact execXor_boundedOut h
  | sll => exact execSll_boundedOut h
  | srl => exact execSrl_boundedOut h
  | sra => exact execSra_boundedOut h
  | slt => exact execSlt_boundedOut h
  | sltu => exact execSltu_boundedOut h
  | minMax => exact execMinMax_boundedOut h
  | mul => exact execMul_boundedOut h
  | mulh => exact execMulh_boundedOut h
  | mulhu => exact execMulhu_boundedOut h
  | divRem => exact execDivRem_boundedOut h
  | clz => exact execClz_boundedOut h
  | popc => exact execPopc_boundedOut h
  | addi => exact execAddi_boundedOut h
  | andi => exact execAndi_boundedOut h
  | ori => exact execOri_boundedOut h
  | xori => exact execXori_boundedOut h
  | shi => exact execShi_boundedOut h
  | slti => exact execSlti_boundedOut h
  | sltiu => exact execSltiu_boundedOut h
  | lui => exact execLui_boundedOut h
  | jal => exact execJal_boundedOut h
  | jalr => exact execJalr_boundedOut h
  | beq => exact execBeq_boundedOut h
  | bne => exact execBne_boundedOut h
  | blt => exact execBlt_boundedOut h
  | bge => exact execBge_boundedOut h
  | bltu => exact execBltu_boundedOut h
  | bgeu => exact execBgeu_boundedOut h
  | lb => exact execLb_boundedOut h
  | lbu => exact execLbu_boundedOut h
  | lh => exact execLh_boundedOut h
  | lhu => exact execLhu_boundedOut h
  | lw => exact execLw_boundedOut h
  | ld => exact execLd_boundedOut h
  | lq => exact execLq_boundedOut h
  | sb => exact execSb_boundedOut h
  | sh => exact execSh_boundedOut h
  | sw => exact execSw_boundedOut h
  | sd => exact execSd_boundedOut h
  | sq => exact execSq_boundedOut h
  | csrr => exact execCsrr_boundedOut h
  | csrw => exact execCsrw_boundedOut h
  | vaddf => exact execVaddf_boundedOut h
  | vsubf => exact execVsubf_boundedOut h
  | vmulf => exact execVmulf_boundedOut h
  | vfmaf => exact execVfmaf_boundedOut h
  | vminf => exact execVminf_boundedOut h
  | vmaxf => exact execVmaxf_boundedOut h
  | vcmpeqf => exact execVcmpeqf_boundedOut h
  | vcmpltf => exact execVcmpltf_boundedOut h
  | vcmplef => exact execVcmplef_boundedOut h
  | vrcpf => exact execVrcpf_boundedOut h
  | vrsqf => exact execVrsqf_boundedOut h
  | vexp2f => exact execVexp2f_boundedOut h
  | vlog2f => exact execVlog2f_boundedOut h
  | vdivf => exact execVdivf_boundedOut h
  | vsqrtf => exact execVsqrtf_boundedOut h
  | vaddi => exact execVaddi_boundedOut h
  | vsubi => exact execVsubi_boundedOut h
  | vmuli => exact execVmuli_boundedOut h
  | vand => exact execVand_boundedOut h
  | vor => exact execVor_boundedOut h
  | vxor => exact execVxor_boundedOut h
  | vsll => exact execVsll_boundedOut h
  | vsrl => exact execVsrl_boundedOut h
  | vsra => exact execVsra_boundedOut h
  | vmini => exact execVmini_boundedOut h
  | vmaxi => exact execVmaxi_boundedOut h
  | vcmpeqi => exact execVcmpeqi_boundedOut h
  | vcmplti => exact execVcmplti_boundedOut h
  | vsel => exact execVsel_boundedOut h
  | vbcast => exact execVbcast_boundedOut h
  | vext => exact execVext_boundedOut h
  | vins => exact execVins_boundedOut h
  | vperm => exact execVperm_boundedOut h
  | vmov => exact execVmov_boundedOut h
  | vrsumf => exact execVrsumf_boundedOut h
  | vrmaxf => exact execVrmaxf_boundedOut h
  | vrminf => exact execVrminf_boundedOut h
  | vrsumi => exact execVrsumi_boundedOut h
  | vcvt => exact execVcvt_boundedOut h
  | vld => exact execVld_boundedOut h
  | vst => exact execVst_boundedOut h
  | tdesc => exact execTdesc_boundedOut h
  | mma => exact execMma_boundedOut h
  | ast => exact execAst_boundedOut h
  | ald => exact execAld_boundedOut h
  | azero => exact execAzero_boundedOut h
  | axv => exact execAxv_boundedOut h
  | avx => exact execAvx_boundedOut h
  | rlaunch => exact execRlaunch_boundedOut h
  | recipeArrivalSlice => exact execRecipeArrivalSlice_boundedOut h
  | finishSend => exact execFinishSend_boundedOut h
  | recipeFinish => exact execRecipeFinish_boundedOut h
  | recipeRunFault => exact execRecipeRunFault_boundedOut h
  | send => exact execSend_boundedOut h
  | recv => exact execRecv_boundedOut h
  | rpeek => exact execRpeek_boundedOut h
  | sadv => exact execSadv_boundedOut h
  | swait => exact execSwait_boundedOut h
  | sread => exact execSread_boundedOut h
  | sclr => exact execSclr_boundedOut h
  | warr => exact execWarr_boundedOut h
  | wawt => exact execWawt_boundedOut h
  | waa => exact execWaa_boundedOut h
  | post => exact execPost_boundedOut h
  | endTask => exact execEnd_boundedOut h
  | fail => exact execFail_boundedOut h
  | endCompletionSend => exact execEndCompletionSend_boundedOut h
  | outboundEntryLeave => exact execOutboundEntryLeave_boundedOut h
  | refusalDelivery => exact execRefusalDelivery_boundedOut h
  | coreWake => exact execCoreWake_boundedOut h
  | fillerEnter => exact execFillerEnter_boundedOut h
  | fillerDutyDecay => exact execFillerDutyDecay_boundedOut h
  | storeBufferDrain => exact execStoreBufferDrain_boundedOut h
  | eccWriteBack => exact execEccWriteBack_boundedOut h
  | messageAccept => exact execMessageAccept_boundedOut h
  | ack => exact execAck_boundedOut h
  | msgUnreachable => exact execMsgUnreachable_boundedOut h
  | packetReservedDiscard => exact execPacketReservedDiscard_boundedOut h
  | creditReq => exact execCreditReq_boundedOut h
  | creditGrant => exact execCreditGrant_boundedOut h
  | creditReturn => exact execCreditReturn_boundedOut h
  | creditEntryIdleTimeout => exact execCreditEntryIdleTimeout_boundedOut h
  | creditBusyRetry => exact execCreditBusyRetry_boundedOut h
  | lost => exact execLost_boundedOut h
  | msgAckTimeout => exact execMsgAckTimeout_boundedOut h
  | lostCoreCreditReturn => exact execLostCoreCreditReturn_boundedOut h
  | linkFlitError => exact execLinkFlitError_boundedOut h
  | linkResendRequest => exact execLinkResendRequest_boundedOut h
  | meshLinkDown => exact execMeshLinkDown_boundedOut h
  | portEnable => exact execPortEnable_boundedOut h
  | portDisable => exact execPortDisable_boundedOut h
  | trainComplete => exact execTrainComplete_boundedOut h
  | trainTimeout => exact execTrainTimeout_boundedOut h
  | autoRetrain => exact execAutoRetrain_boundedOut h
  | frameReceive => exact execFrameReceive_boundedOut h
  | nak => exact execNak_boundedOut h
  | replayTimeout => exact execReplayTimeout_boundedOut h
  | sluicePortDown => exact execSluicePortDown_boundedOut h
  | linkDelayMeasure => exact execLinkDelayMeasure_boundedOut h
  | crossEngineTransit => exact execCrossEngineTransit_boundedOut h
  | xevent => exact execXevent_boundedOut h
  | xarrive => exact execXarrive_boundedOut h
  | xrelease => exact execXrelease_boundedOut h
  | xbreak => exact execXbreak_boundedOut h
  | xlost => exact execXlost_boundedOut h
  | xcopy => exact execXcopy_boundedOut h
  | xack => exact execXack_boundedOut h
  | tsSyncSend => exact execTsSyncSend_boundedOut h
  | tsSync => exact execTsSync_boundedOut h
  | tstampSlew => exact execTstampSlew_boundedOut h
  | holdoverTimeout => exact execHoldoverTimeout_boundedOut h
  | csyncInEdge => exact execCsyncInEdge_boundedOut h
  | csyncOutPulse => exact execCsyncOutPulse_boundedOut h
  | flPropose => exact execFlPropose_boundedOut h
  | flProposeReceive => exact execFlProposeReceive_boundedOut h
  | flDecide => exact execFlDecide_boundedOut h
  | flCommand => exact execFlCommand_boundedOut h
  | flockLost => exact execFlockLost_boundedOut h
  | routeWrite => exact execRouteWrite_boundedOut h
  | cwDescWrite => exact execCwDescWrite_boundedOut h
  | flDescWrite => exact execFlDescWrite_boundedOut h
  | usdoInitiateDownload => exact execUsdoInitiateDownload_boundedOut h
  | usdoInitiateUpload => exact execUsdoInitiateUpload_boundedOut h
  | usdoSegment => exact execUsdoSegment_boundedOut h
  | dictSegTimeout => exact execDictSegTimeout_boundedOut h
  | mbDoorbell => exact execMbDoorbell_boundedOut h
  | dictRead => exact execDictRead_boundedOut h
  | dictWrite => exact execDictWrite_boundedOut h
  | dictWriteApply => exact execDictWriteApply_boundedOut h
  | dictWriteAnswer => exact execDictWriteAnswer_boundedOut h
  | repairAdd => exact execRepairAdd_boundedOut h
  | repairRemove => exact execRepairRemove_boundedOut h
  | repairReload => exact execRepairReload_boundedOut h
  | fieldRestart => exact execFieldRestart_boundedOut h
  | partitionRect => exact execPartitionRect_boundedOut h
  | partJob => exact execPartJob_boundedOut h
  | engineId => exact execEngineId_boundedOut h
  | timeMaster => exact execTimeMaster_boundedOut h
  | powerCap => exact execPowerCap_boundedOut h
  | detMode => exact execDetMode_boundedOut h
  | cmdTimeoutWrite => exact execCmdTimeoutWrite_boundedOut h
  | drywellWindow => exact execDrywellWindow_boundedOut h
  | restoreSefiez => exact execRestoreSefiez_boundedOut h
  | restoreComm => exact execRestoreComm_boundedOut h
  | buttonOverride => exact execButtonOverride_boundedOut h
  | faultLogClear => exact execFaultLogClear_boundedOut h
  | errorHistoryClear => exact execErrorHistoryClear_boundedOut h
  | nmtStart => exact execNmtStart_boundedOut h
  | nmtStop => exact execNmtStop_boundedOut h
  | nmtEnterPreOperational => exact execNmtEnterPreOperational_boundedOut h
  | nmtResetNode => exact execNmtResetNode_boundedOut h
  | nmtResetCommunication => exact execNmtResetCommunication_boundedOut h
  | heartbeatSend => exact execHeartbeatSend_boundedOut h
  | heartbeatReceive => exact execHeartbeatReceive_boundedOut h
  | canHbTimeout => exact execCanHbTimeout_boundedOut h
  | emcySend => exact execEmcySend_boundedOut h
  | rpdoReceive => exact execRpdoReceive_boundedOut h
  | tpdoSend => exact execTpdoSend_boundedOut h
  | canBusOff => exact execCanBusOff_boundedOut h
  | canOverrun => exact execCanOverrun_boundedOut h
  | epochClose => exact execEpochClose_boundedOut h
  | epochReceive => exact execEpochReceive_boundedOut h
  | epochAck => exact execEpochAck_boundedOut h
  | heartbeatLossTimeout => exact execHeartbeatLossTimeout_boundedOut h
  | wellheadWatchdogExpiry => exact execWellheadWatchdogExpiry_boundedOut h
  | wellheadMemoryError => exact execWellheadMemoryError_boundedOut h
  | wellheadTakeover => exact execWellheadTakeover_boundedOut h
  | standbyLost => exact execStandbyLost_boundedOut h
  | standbyResyncComplete => exact execStandbyResyncComplete_boundedOut h
  | wellheadPairLost => exact execWellheadPairLost_boundedOut h
  | wellheadBootRetry => exact execWellheadBootRetry_boundedOut h
  | faultQueueDrain => exact execFaultQueueDrain_boundedOut h
  | porNRise => exact execPorNRise_boundedOut h
  | porNFall => exact execPorNFall_boundedOut h
  | strapSample => exact execStrapSample_boundedOut h
  | wellheadBootComplete => exact execWellheadBootComplete_boundedOut h
  | pmbusScanComplete => exact execPmbusScanComplete_boundedOut h
  | rdStartComplete => exact execRdStartComplete_boundedOut h
  | mdStartComplete => exact execMdStartComplete_boundedOut h
  | cdStartComplete => exact execCdStartComplete_boundedOut h
  | cdStartTimeout => exact execCdStartTimeout_boundedOut h
  | startStepTimeout => exact execStartStepTimeout_boundedOut h
  | rstBtnPressBegin => exact execRstBtnPressBegin_boundedOut h
  | rstBtnPressEnd => exact execRstBtnPressEnd_boundedOut h
  | buttonStuck => exact execButtonStuck_boundedOut h
  | flowLossDeclare => exact execFlowLossDeclare_boundedOut h
  | coolantBackupTimeout => exact execCoolantBackupTimeout_boundedOut h
  | flowRestoreDeclare => exact execFlowRestoreDeclare_boundedOut h
  | coolantRestart => exact execCoolantRestart_boundedOut h
  | refclkLost => exact execRefclkLost_boundedOut h
  | refclkRestore => exact execRefclkRestore_boundedOut h
  | pllUnlock => exact execPllUnlock_boundedOut h
  | fstateChangeBegin => exact execFstateChangeBegin_boundedOut h
  | fstateChangeComplete => exact execFstateChangeComplete_boundedOut h
  | sensorConversion => exact execSensorConversion_boundedOut h
  | thermWarnClear => exact execThermWarnClear_boundedOut h
  | thermForcedClear => exact execThermForcedClear_boundedOut h
  | derateStep => exact execDerateStep_boundedOut h
  | sensorFault => exact execSensorFault_boundedOut h
  | slackCheck => exact execSlackCheck_boundedOut h
  | pmbAlert => exact execPmbAlert_boundedOut h
  | pmbusPoll => exact execPmbusPoll_boundedOut h
  | vrDerateClear => exact execVrDerateClear_boundedOut h
  | estimatorTick => exact execEstimatorTick_boundedOut h
  | controllerPeriod => exact execControllerPeriod_boundedOut h
  | controllerEpoch => exact execControllerEpoch_boundedOut h
  | calibration => exact execCalibration_boundedOut h
  | quietWindowForce => exact execQuietWindowForce_boundedOut h
  | ceilingGuardEngage => exact execCeilingGuardEngage_boundedOut h
  | ceilingGuardRelease => exact execCeilingGuardRelease_boundedOut h
  | droopStretchBegin => exact execDroopStretchBegin_boundedOut h
  | droopStretchEnd => exact execDroopStretchEnd_boundedOut h
  | droopSevere => exact execDroopSevere_boundedOut h
  | hintExpiry => exact execHintExpiry_boundedOut h
  | sramScrubRow => exact execSramScrubRow_boundedOut h
  | forcedScrubCycle => exact execForcedScrubCycle_boundedOut h
  | tableScrubSlot => exact execTableScrubSlot_boundedOut h
  | statsIntervalEnd => exact execStatsIntervalEnd_boundedOut h
  | traceRecordWrite => exact execTraceRecordWrite_boundedOut h
  | traceProdWrite => exact execTraceProdWrite_boundedOut h
  | traceConsRead => exact execTraceConsRead_boundedOut h
  | traceDrop => exact execTraceDrop_boundedOut h
  | trEnable => exact execTrEnable_boundedOut h
  | trDisable => exact execTrDisable_boundedOut h
  | deviceControl2Write => exact execDeviceControl2Write_boundedOut h
  | perstNRise => exact execPerstNRise_boundedOut h
  | inputPowerLoss => exact execInputPowerLoss_boundedOut h
  | downLinkPacketLost => exact execDownLinkPacketLost_boundedOut h
  | statsEmissionWindowEnd => exact execStatsEmissionWindowEnd_boundedOut h
  | wellheadHeartbeat => exact execWellheadHeartbeat_boundedOut h
  | wellheadRestartBoot => exact execWellheadRestartBoot_boundedOut h

/-- Settles O58: each part of the bounds is kept by every operation on the state, so by every command, and by the tick of a step without one. -/
theorem boundsAreKept : Obligations.BoundsAreKept := by
  unfold Obligations.BoundsAreKept Claims.BoundsAreKept
  intro s t within stepped
  rw [withinBounds_iff] at within ⊢
  unfold step at stepped
  split at stepped
  · next c rest _ =>
    have dequeued : State.Bounded { s with pending := rest } := within.congr rfl
    exact exec_boundedOut c dequeued t stepped
  · injection stepped with same
    exact same ▸ within.tick

end

end Sys2Proof.Machine
end

section
/-! PROOFS. Steps of a field's scheduler: what an operation on its Cistern leaves alone, and what it makes of the Cistern (R61 to R93, R496 to R503). -/

namespace Sys2Proof.Machine

/-! ### Steps of one Cistern -/

/-- `t` is `s` but for field `f`, whose Cistern is now `c`, for the count of faults, which is now `d`, and for what no graph, clock, core or packet depends on. -/
structure State.Stepped (f : Nat) (s t : State) (c : Cistern) (d : Nat) : Prop where
  cis : (t.field f).cis = c
  others : ∀ g, g ≠ f → t.field g = s.field g
  clk : (t.field f).clk = (s.field f).clk
  cores : t.cores = s.cores
  net : t.net = s.net
  tstamp : t.tstamp = s.tstamp
  faults : t.faultCount = d
  parts : ∀ p, (t.part p).graph = (s.part p).graph ∧ (t.part p).rect = (s.part p).rect

namespace State.Stepped
variable {f : Nat} {s t : State} {c : Cistern} {d : Nat}

theorem refl (f : Nat) (s : State) : State.Stepped f s s (s.field f).cis s.faultCount :=
  ⟨rfl, fun _ _ => rfl, rfl, rfl, rfl, rfl, rfl, fun _ => ⟨rfl, rfl⟩⟩

theorem partOf (h : State.Stepped f s t c d) (g : Nat) : t.partOf g = s.partOf g := by
  simp only [State.partOf, Part.enabled, (h.parts _).2]

theorem graphOf (h : State.Stepped f s t c d) (g : Nat) : t.graphOf g = s.graphOf g := by
  simp only [State.graphOf, h.partOf, (h.parts _).1]

theorem core (h : State.Stepped f s t c d) (i : Nat) : t.core i = s.core i := by rw [State.core, h.cores, State.core]

theorem taskOf (h : State.Stepped f s t c d) (n : Nat) : t.taskOf f n = taskIdOf f n (c.node n).firing := by rw [State.taskOf, h.cis]

/-- A change of the field that leaves its clock alone. -/
theorem modField {g : Field → Field} (h : State.Stepped f s t c d) (clk : ∀ x, (g x).clk = x.clk) :
    State.Stepped f s (t.modField f g) (g (t.field f)).cis d where
  cis := by rw [State.field_modField, if_pos rfl]
  others e other := by rw [State.field_modField, if_neg other, h.others e other]
  clk := by rw [State.field_modField, if_pos rfl, clk, h.clk]
  cores := h.cores
  net := h.net
  tstamp := h.tstamp
  faults := h.faults
  parts := h.parts

/-- The same where it leaves the Cistern alone too. -/
theorem modRest {g : Field → Field} (h : State.Stepped f s t c d) (clk : ∀ x, (g x).clk = x.clk) (cis : ∀ x, (g x).cis = x.cis) :
    State.Stepped f s (t.modField f g) c d := by
  have changed := h.modField clk
  rwa [cis, h.cis] at changed

theorem modCis (h : State.Stepped f s t c d) (g : Cistern → Cistern) : State.Stepped f s (t.modCis f g) (g c) d := by
  have changed := h.modField (g := fun x => { x with cis := g x.cis }) fun _ => rfl
  rwa [h.cis] at changed

theorem modPart {p : Nat} {g : Part → Part} (h : State.Stepped f s t c d) (graph : ∀ x, (g x).graph = x.graph) (rect : ∀ x, (g x).rect = x.rect) :
    State.Stepped f s (t.modPart p g) c d where
  cis := h.cis
  others := h.others
  clk := h.clk
  cores := h.cores
  net := h.net
  tstamp := h.tstamp
  faults := h.faults
  parts q := by
    rw [State.part_modPart]
    split
    · next same => rw [graph, rect, same]; exact h.parts p
    · exact h.parts q

theorem addFieldCtr (h : State.Stepped f s t c d) (off n : Nat) : State.Stepped f s (t.addFieldCtr f off n) c d :=
  h.modRest (fun _ => rfl) fun _ => rfl

theorem countCev (h : State.Stepped f s t c d) : State.Stepped f s (t.countCev f) c d := h.addFieldCtr _ _

theorem progress (h : State.Stepped f s t c d) : State.Stepped f s (t.progress f) c d := by
  have counted : State.Stepped f s (t.modSyn f fun y => { y with progress := (y.progress + 1) % 2 ^ 32 }) c d :=
    h.modRest (fun _ => rfl) fun _ => rfl
  unfold State.progress
  dsimp only
  split
  · exact counted
  · exact counted.modPart (fun _ => rfl) fun _ => rfl

theorem addRdCtr (h : State.Stepped f s t c d) (off n : Nat) : State.Stepped f s (t.addRdCtr off n) c d :=
  ⟨h.cis, h.others, h.clk, h.cores, h.net, h.tstamp, h.faults, h.parts⟩

theorem addTotal (h : State.Stepped f s t c d) (k n : Nat) : State.Stepped f s (t.addTotal k n) c d :=
  ⟨h.cis, h.others, h.clk, h.cores, h.net, h.tstamp, h.faults, h.parts⟩

theorem fieldDropped (h : State.Stepped f s t c d) (p n : Nat) : State.Stepped f s (t.fieldDropped f p n) c d := by
  unfold State.fieldDropped
  exact .modPart (.modRest ((h.addFieldCtr 0x70 n).addRdCtr 0x18 n) (fun _ => rfl) fun _ => rfl) (fun _ => rfl) fun _ => rfl

theorem traceMake (h : State.Stepped f s t c d) (kind layer oper : Nat) (task : DWord) (ts w3 : Nat) :
    State.Stepped f s (t.traceMake f kind layer oper task ts w3) c d := by
  unfold State.traceMake
  dsimp only
  split
  · exact h
  · split
    · split
      · exact (h.addFieldCtr 0x68 1).modRest (fun _ => rfl) fun _ => rfl
      · exact (h.addFieldCtr 0x68 1).fieldDropped _ 1
    · exact h

theorem traceAt (h : State.Stepped f s t c d) (n kind ts w3 : Nat) : State.Stepped f s (t.traceAt f n kind ts w3) c d := by
  unfold State.traceAt
  dsimp only
  split
  · exact h.traceMake _ _ _ _ _ _
  · exact h

theorem traceNode (h : State.Stepped f s t c d) (n kind w3 : Nat) : State.Stepped f s (t.traceNode f n kind w3) c d := h.traceAt n kind _ w3

theorem failQuiet (h : State.Stepped f s t c d) (n cause : Nat) :
    State.Stepped f s (t.failQuiet f n cause) (c.setNode n { c.node n with state := .failed, cause := cause, wdogEnd := none }) d :=
  ((h.modCis fun c => c.setNode n { c.node n with state := .failed, cause := cause, wdogEnd := none }).addFieldCtr 0x60 1).traceNode n 4 _

theorem failNode (h : State.Stepped f s t c d) (n cause : Nat) :
    State.Stepped f s (t.failNode f n cause) (c.setNode n { c.node n with state := .failed, cause := cause, wdogEnd := none }) d :=
  h.progress.failQuiet n cause

theorem freeRunning (h : State.Stepped f s t c d) (li : Nat) :
    State.Stepped f s (t.freeRunning f li) (c.setSlot li { c.slot li with running := none, aborting := none }) d :=
  h.modCis fun c => c.setSlot li { c.slot li with running := none, aborting := none }

/-- A fault of the field is counted. -/
theorem report (h : State.Stepped f s t c d) (hf : f < 72) (r : FaultRec) : State.Stepped f s (t.report f r) c ((d + 1) % 2 ^ 32) where
  cis := by rw [State.field_report hf]; exact h.cis
  others e other := by
    rw [← h.others e other]
    unfold State.report
    simp only [Nat.ne_of_lt hf, Nat.ne_of_lt (Nat.lt_succ_of_lt hf), if_false]
    rw [State.field_modField, if_neg other]
    rfl
  clk := by rw [State.field_report hf]; exact h.clk
  cores := by rw [State.report_frame]; exact h.cores
  net := by rw [State.report_frame]; exact h.net
  tstamp := by rw [State.report_tstamp]; exact h.tstamp
  faults := by rw [State.report_faultCount, h.faults]
  parts p := by rw [State.part_report]; exact h.parts p

theorem fieldFault (h : State.Stepped f s t c d) (hf : f < 72) (cause info : Nat) :
    State.Stepped f s (t.fieldFault f cause info) c ((d + 1) % 2 ^ 32) := h.report hf _

theorem partFault (h : State.Stepped f s t c d) (hf : f < 72) (p node cause : Nat) :
    State.Stepped f s (t.partFault p f node cause) c ((d + 1) % 2 ^ 32) := h.report hf _

theorem taskFault (h : State.Stepped f s t c d) (hf : f < 72) {cause : Nat} (counted : countedHere cause = true) (li : Nat) (task : DWord) (pc addr : Nat) :
    State.Stepped f s (t.taskFault f li task cause pc addr) c ((d + 1) % 2 ^ 32) := by
  rw [State.taskFault, if_pos counted]
  exact h.report hf _

/-- An uncorrectable word of the Cistern's memory counts a fault where it is found for the first time and there is room to say so (R517). -/
theorem countUe (h : State.Stepped f s t c d) (hf : f < 72) (w : Nat) (task : Option DWord) :
    ∃ d', State.Stepped f s (t.countUe f .cistern 0 w task) c d' := by
  unfold State.countUe
  dsimp only
  split
  · exact ⟨d, h⟩
  · split
    · exact ⟨_, ((h.addTotal 4 1).modRest (g := fun x => { x with ueTab := x.ueTab ++ [(.cistern, 0, w)] }) (fun _ => rfl) fun _ => rfl).report hf _⟩
    · exact ⟨d, h.addTotal 4 1⟩

theorem tableError (h : State.Stepped f s t c d) (hf : f < 72) (n w : Nat) :
    ∃ d', State.Stepped f s (t.tableError f n w) (c.error 2 0x3141 n) d' := by
  obtain ⟨d', counted⟩ := h.countUe hf w (some (t.taskOf f n))
  exact ⟨d', counted.modCis fun c => c.error 2 0x3141 n⟩

/-- A graph that is not stopping does not become IDLE. -/
theorem idleCheckOf (h : State.Stepped f s t c d) (graph : s.graphOf f ≠ .stopping) : State.Stepped f s (t.idleCheckOf f) c d := by
  unfold State.idleCheckOf
  split
  · next p mine =>
    have going : (t.part p).graph ≠ .stopping := by
      have same : (t.part p).graph = s.graphOf f := by rw [← h.graphOf f, State.graphOf, mine]
      rwa [same]
    rw [State.idleCheck, if_neg fun stops => going stops.1]
    exact h
  · exact h

end State.Stepped

/-! ### A Cistern's words, nodes and slots after an update -/

section
variable (c : Cistern) (n : Nat)

@[simp] theorem Cistern.node_setSlot (li : Nat) (x : CoreSlot) (m : Nat) : (c.setSlot li x).node m = c.node m := rfl
@[simp] theorem Cistern.slot_setNode (r : NodeRun) (li : Nat) : (c.setNode n r).slot li = c.slot li := rfl
@[simp] theorem Cistern.slot_setSlot (li l : Nat) (x : CoreSlot) : (c.setSlot li x).slot l = if l = li then x else c.slot l :=
  Tab.read_write c.slots CoreSlot.idle x li l

/-- A node whose memory and fires left are as before is exhausted as before. -/
theorem Cistern.exhausted_congr {c c' : Cistern} (mem : c'.mem = c.mem) (left : (c'.node n).fireLeft = (c.node n).fireLeft) :
    c'.exhausted n = c.exhausted n := by
  unfold Cistern.exhausted Cistern.fireDecl Cistern.word
  rw [mem, left]

end

end Sys2Proof.Machine
end

section
/-! PROOFS. Events: flags set, discarded or refused, and nodes that fire (R61 to R63, R79, R81). -/

namespace Sys2Proof.Machine

/-! ### Packets that have arrived -/

theorem State.net_of_arriving {s : State} {k : Nat} {p : Packet} (here : s.arriving k = some p) : s.net[k]? = some p := by
  unfold State.arriving at here
  split at here
  · cases here
  · next there =>
    split at here
    · cases here
    · rw [there, here]

/-! ### Firing (R61, R65) -/

/-- A node may fire: it waits, its mask is met and it is not exhausted (R61). -/
def Cistern.Fires (c : Cistern) (n : Nat) : Prop :=
  c.isNode n = true ∧ (c.node n).state = .waiting ∧ (c.node n).flags &&& c.mask n = c.mask n ∧ c.exhausted n = false

/-- The run state that a firing gives a node, with its mask and FIRE_DECL. -/
def NodeRun.fired (r : NodeRun) (mask decl now : Nat) (traced : Bool) : NodeRun :=
  { r with flags := r.flags - (r.flags &&& mask), fireLeft := if decl = 0 then r.fireLeft else r.fireLeft - 1, firing := (r.firing + 1) % 2 ^ 32,
           outRead := .none, outRecs := [], scrubBad := false, commit := false, restarts := 0, wdogEnd := none, acceptAt := now, chained := false,
           traced := traced }

theorem Cistern.enter_pool {c : Cistern} {n : Nat} {r : NodeRun} (room : c.pool.length < 1024) (free : c.chain = []) :
    (c.enter n r).pool = c.pool ++ [n] ∧ ∀ m, (c.enter n r).node m = if m = n then { r with state := .ready } else c.node m := by
  unfold Cistern.enter
  rw [if_pos ⟨room, by rw [free]; rfl⟩]
  exact ⟨rfl, fun m => c.node_setNode n m _⟩

theorem Cistern.enter_slot (c : Cistern) (n : Nat) (r : NodeRun) (li : Nat) : (c.enter n r).slot li = c.slot li := by
  unfold Cistern.enter
  split <;> rfl

theorem Cistern.enter_accepted (c : Cistern) (n : Nat) (r : NodeRun) : (c.enter n r).accepted = c.accepted := by
  unfold Cistern.enter
  split <;> rfl

/-- Entering the pool or the chain writes one node. -/
theorem Cistern.node_enter_of_ne {c : Cistern} {n m : Nat} (r : NodeRun) (other : m ≠ n) : (c.enter n r).node m = c.node m := by
  obtain ⟨x, -, -, node⟩ := c.node_enter n r
  rw [node, if_neg other]

namespace State.Stepped
variable {f n : Nat} {s t : State} {c : Cistern} {d : Nat}

/-- A node that may not fire stays as it is. -/
theorem fireNode_rests (h : State.Stepped f s t c d) (rests : ¬ (s.graphOf f = .running ∧ c.Fires n)) (src : Nat) : t.fireNode f n src = t := by
  unfold State.fireNode
  dsimp only
  rw [h.graphOf, h.cis]
  refine if_neg fun fires => rests ?_
  obtain ⟨runs, node, waits, met, left⟩ := fires
  exact ⟨runs, node, waits, met, by simpa using left⟩

/-- A node that may fire enters the pool or the chain. -/
theorem fireNode_fires (h : State.Stepped f s t c d) (runs : s.graphOf f = .running) (fires : c.Fires n) (src : Nat) :
    State.Stepped f s (t.fireNode f n src)
      (c.enter n ((c.node n).fired (c.mask n) (c.fireDecl n) (t.field f).clk.halfCclk (t.wantsTrace f (c.node n).firing))) d := by
  obtain ⟨node, waits, met, left⟩ := fires
  unfold State.fireNode
  dsimp only
  rw [h.graphOf, h.cis, if_pos ⟨runs, node, waits, met, by simp [left]⟩]
  exact .traceNode (.addFieldCtr (h.modCis fun c' => c'.enter n
    ((c.node n).fired (c.mask n) (c.fireDecl n) (t.field f).clk.halfCclk (t.wantsTrace f (c.node n).firing))) 0x50 1) n 1 _

end State.Stepped

/-! ### Events (R61 to R63, R81) -/

/-- The Cistern has accepted an event. -/
def Cistern.accepting (c : Cistern) : Cistern := { c with accepted := (c.accepted + 1) % 2 ^ 32 }

/-- The Cistern has discarded an event. -/
def Cistern.discarding (c : Cistern) : Cistern := { c with discarded := (c.discarded + 1) % 2 ^ 32 }

/-- Flags are set at a node; an event that sets no new one is merged (R62). -/
def Cistern.flagging (c : Cistern) (n b : Nat) : Cistern :=
  { c.setNode n { c.node n with flags := (c.node n).flags ||| b } with
    merged := if (c.node n).flags ||| b = (c.node n).flags then (c.merged + 1) % 2 ^ 32 else c.merged }

namespace State.Stepped
variable {f : Nat} {s t : State} {c : Cistern} {d : Nat} {e : NodeEvent}

theorem counted (h : State.Stepped f s t c d) :
    State.Stepped f s (((t.modCis f (fun c => { c with accepted := (c.accepted + 1) % 2 ^ 32 })).progress f).countCev f) c.accepting d :=
  (h.modCis Cistern.accepting).progress.countCev

/-- An event for no task node is an error and a fault. -/
theorem applyEvent_noNode (h : State.Stepped f s t c d) (hf : f < 72) (none : c.isNode e.node = false) :
    State.Stepped f s (t.applyEvent f e) (c.accepting.discarding.error 0 0x3132 e.node) ((d + 1) % 2 ^ 32) := by
  unfold State.applyEvent
  dsimp only
  rw [h.cis, if_pos (by rw [none]; rfl)]
  exact ((h.counted.modCis Cistern.discarding).modCis fun c => c.error 0 0x3132 e.node).fieldFault hf _ _

/-- An event for an exhausted or DONE node is discarded. -/
theorem applyEvent_discards (h : State.Stepped f s t c d) (node : c.isNode e.node = true)
    (ended : c.exhausted e.node = true ∨ (c.node e.node).state = .done) : State.Stepped f s (t.applyEvent f e) c.accepting.discarding d := by
  unfold State.applyEvent
  dsimp only
  rw [h.cis, if_neg (by rw [node]; exact Bool.noConfusion), if_pos ended]
  exact h.counted.modCis Cistern.discarding

/-- Any other event sets its flags; outside deterministic mode no merge is forbidden (R486). -/
theorem applyEvent_flags (h : State.Stepped f s t c d) (free : t.detMode = false) (node : c.isNode e.node = true)
    (left : c.exhausted e.node = false) (going : (c.node e.node).state ≠ .done) :
    State.Stepped f s (t.applyEvent f e) (c.accepting.flagging e.node e.bits) d := by
  have ended : ¬ (c.exhausted e.node = true ∨ (c.node e.node).state = .done) := by simp [left, going]
  unfold State.applyEvent
  dsimp only
  rw [h.cis, if_neg (by rw [node]; exact Bool.noConfusion), if_neg ended]
  simp only [free, Bool.false_and, Bool.or_false, decide_eq_true_eq, Bool.false_eq_true, if_false]
  exact h.counted.modCis fun c' =>
    { c'.setNode e.node { c.node e.node with flags := (c.node e.node).flags ||| e.bits } with
      merged := if (c.node e.node).flags ||| e.bits = (c.node e.node).flags then (c'.merged + 1) % 2 ^ 32 else c'.merged }

end State.Stepped

/-- Outside deterministic mode an accepted event leaves the memory and every other node as they were. -/
theorem State.Stepped.applyEvent {f : Nat} {s t : State} {c : Cistern} {d : Nat} (h : State.Stepped f s t c d) (hf : f < 72) (free : t.detMode = false)
    (e : NodeEvent) : ∃ c' d', State.Stepped f s (t.applyEvent f e) c' d' ∧ c'.accepted = (c.accepted + 1) % 2 ^ 32 ∧ c'.mem = c.mem ∧
      ∀ m, m ≠ e.node → c'.node m = c.node m := by
  cases node : c.isNode e.node
  case false => exact ⟨_, _, h.applyEvent_noNode hf node, rfl, rfl, fun _ _ => rfl⟩
  case true =>
    by_cases ended : c.exhausted e.node = true ∨ (c.node e.node).state = .done
    · exact ⟨_, _, h.applyEvent_discards node ended, rfl, rfl, fun _ _ => rfl⟩
    · obtain ⟨left, going⟩ := not_or.mp ended
      exact ⟨_, _, h.applyEvent_flags free node (Bool.not_eq_true _ ▸ left) going, rfl, rfl,
        fun m other => (c.accepting.node_setNode e.node m _).trans (if_neg other)⟩

end Sys2Proof.Machine
end

section
/-! PROOFS. O20: an accepted event message (R61, R62, R63, R79, R81). -/

namespace Sys2Proof.Machine

/-- One event applied, and its node checked for readiness. -/
def State.event (s : State) (f : Nat) (e : NodeEvent) : State := (s.applyEvent f e).fireNode f e.node e.src

/-- An event message at the mesh port of a Cistern that takes it (R79). -/
theorem exec_cisternEventAccept {s : State} {f k g : Nat} {p : Packet} {r : DWord} (hf : f < 72) (here : s.arriving k = some p) (src : p.src = .field g)
    (dst : p.dst = .field f) (body : p.body = .event r) (healthy : (s.field f).clk.repair ≠ .degraded) (on : (s.field f).clk.md = .on) :
    exec (.cisternEventAccept f k) s = .next ((s.take k).event f (recEvent r.toNat 3)) := by
  have event : s.meshEvent f k = some (recEvent r.toNat 3) := by
    simp only [State.meshEvent, here, dst, body, src, healthy, on, ne_eq, not_false_iff, and_self, if_true]
  have taken : s.takeMesh f (some k) = (s.take k, [recEvent r.toNat 3]) := by
    simp only [State.takeMesh, event, State.net_of_arriving here, src]
  change execCisternEventAccept f k s = _
  rw [execCisternEventAccept, onField, if_pos (by exact hf)]
  dsimp only
  rw [taken]
  rfl

theorem Cistern.node_flagging (c : Cistern) (n b : Nat) : (c.flagging n b).node n = { c.node n with flags := (c.node n).flags ||| b } :=
  (c.node_setNode n n _).trans (if_pos rfl)

theorem Cistern.exhausted_flagging (c : Cistern) (n b : Nat) : (c.flagging n b).exhausted n = c.exhausted n :=
  Cistern.exhausted_congr n rfl (by rw [Cistern.node_flagging])

namespace State.Stepped
variable {f : Nat} {s t : State} {c : Cistern} {d : Nat} {e : NodeEvent}

theorem event_noNode (h : State.Stepped f s t c d) (hf : f < 72) (none : c.isNode e.node = false) :
    State.Stepped f s (t.event f e) (c.accepting.discarding.error 0 0x3132 e.node) ((d + 1) % 2 ^ 32) := by
  have set := h.applyEvent_noNode hf none
  rw [State.event, set.fireNode_rests fun fires => Bool.noConfusion (none.symm.trans fires.2.1)]
  exact set

theorem event_discards (h : State.Stepped f s t c d) (node : c.isNode e.node = true)
    (ended : c.exhausted e.node = true ∨ (c.node e.node).state = .done) : State.Stepped f s (t.event f e) c.accepting.discarding d := by
  have set := h.applyEvent_discards node ended
  have rests : ¬ c.accepting.discarding.Fires e.node := fun ⟨_, waits, _, left⟩ =>
    ended.elim (fun none => Bool.noConfusion (left.symm.trans none)) fun gone => NodeState.noConfusion (waits.symm.trans gone)
  rw [State.event, set.fireNode_rests fun fires => rests fires.2]
  exact set

/-- A node that does not wait has its flags set alone. -/
theorem event_flags (h : State.Stepped f s t c d) (free : t.detMode = false) (node : c.isNode e.node = true) (left : c.exhausted e.node = false)
    (going : (c.node e.node).state ≠ .done) (busy : (c.node e.node).state ≠ .waiting) :
    State.Stepped f s (t.event f e) (c.accepting.flagging e.node e.bits) d := by
  have set := h.applyEvent_flags free node left going
  rw [State.event, set.fireNode_rests]
  · exact set
  · rintro ⟨-, -, waits, -⟩
    rw [Cistern.node_flagging] at waits
    exact busy waits

/-- A WAITING node with its mask met fires. -/
theorem event_fires (h : State.Stepped f s t c d) (free : t.detMode = false) (node : c.isNode e.node = true) (left : c.exhausted e.node = false)
    (waits : (c.node e.node).state = .waiting) (runs : s.graphOf f = .running)
    (met : ((c.node e.node).flags ||| e.bits) &&& c.mask e.node = c.mask e.node) :
    ∃ now traced, State.Stepped f s (t.event f e) ((c.accepting.flagging e.node e.bits).enter e.node
      (({ c.node e.node with flags := (c.node e.node).flags ||| e.bits } : NodeRun).fired (c.mask e.node) (c.fireDecl e.node) now traced)) d := by
  have set := h.applyEvent_flags free node left (by rw [waits]; exact NodeState.noConfusion)
  have fires : (c.accepting.flagging e.node e.bits).Fires e.node :=
    ⟨node, by rw [Cistern.node_flagging]; exact waits, by rw [Cistern.node_flagging]; exact met, by rw [Cistern.exhausted_flagging]; exact left⟩
  have fired := set.fireNode_fires runs fires e.src
  rw [Cistern.node_flagging] at fired
  exact ⟨_, _, fired⟩

/-- In every case the event is counted, and the memory and the other nodes are as they were. -/
theorem event (h : State.Stepped f s t c d) (hf : f < 72) (free : t.detMode = false) (e : NodeEvent) :
    ∃ c' d', State.Stepped f s (t.event f e) c' d' ∧ c'.accepted = (c.accepted + 1) % 2 ^ 32 ∧ c'.mem = c.mem ∧
      ∀ m, m ≠ e.node → c'.node m = c.node m := by
  obtain ⟨c', d', set, accepted, mem, others⟩ := h.applyEvent hf free e
  unfold State.event
  by_cases fires : s.graphOf f = .running ∧ c'.Fires e.node
  · exact ⟨_, _, set.fireNode_fires fires.1 fires.2 e.src, by rw [Cistern.enter_accepted, accepted], by rw [Cistern.enter_mem, mem],
      fun m other => by rw [Cistern.node_enter_of_ne _ other, others m other]⟩
  · rw [set.fireNode_rests fires]
    exact ⟨c', d', set, accepted, mem, others⟩

end State.Stepped

/-- Settles O20: the event is applied by one of three cases (no node, ended, flags set), and the node's readiness is then checked. -/
theorem eventsSetFlags : Obligations.EventsSetFlags := by
  unfold Obligations.EventsSetFlags Claims.EventsSetFlags
  intro s f k g n b p r hf here src dst body healthy on free hn hb
  have start : State.Stepped f (s.take k) (s.take k) (Claims.cis s f) s.faultCount := State.Stepped.refl f (s.take k)
  have accept := exec_cisternEventAccept hf here src dst body healthy on
  rw [show recEvent r.toNat 3 = { node := n, bits := b, src := 3 } by rw [hn, hb]; rfl] at accept
  obtain ⟨c', d', done, accepted, mem, others⟩ := start.event hf free { node := n, bits := b, src := 3 }
  have cis : Claims.cis ((s.take k).event f { node := n, bits := b, src := 3 }) f = c' := done.cis
  refine ⟨_, accept, done.net, done.others, done.cores, by rw [cis, accepted], by rw [cis, mem], fun m other => by rw [cis, others m other], ?_, ?_, ?_, ?_⟩
  · intro none
    have set := start.event_noNode (e := { node := n, bits := b, src := 3 }) hf none
    rw [Claims.cis, set.cis]
    exact ⟨rfl, rfl, rfl, set.faults⟩
  · intro node ended
    have set := start.event_discards (e := { node := n, bits := b, src := 3 }) node ended
    rw [Claims.cis, set.cis]
    exact ⟨rfl, rfl, set.faults⟩
  · intro node left waits runs met room empty
    obtain ⟨now, traced, set⟩ := start.event_fires (e := { node := n, bits := b, src := 3 }) free node left waits runs met
    obtain ⟨pool, entered⟩ := Cistern.enter_pool (c := (Claims.cis s f).accepting.flagging n b) (n := n) (r :=
      ({ (Claims.cis s f).node n with flags := ((Claims.cis s f).node n).flags ||| b } : NodeRun).fired ((Claims.cis s f).mask n)
        ((Claims.cis s f).fireDecl n) now traced) room empty
    have fired := (entered n).trans (if_pos rfl)
    rw [Claims.cis, set.cis, fired]
    exact ⟨pool, rfl, congrArg (_ - ·) met, rfl, rfl⟩
  · intro node left busy
    have set := start.event_flags (e := { node := n, bits := b, src := 3 }) free node left
      (by rintro gone; rw [gone] at busy; exact busy.elim NodeState.noConfusion NodeState.noConfusion)
      (by rintro waits; rw [waits] at busy; exact busy.elim NodeState.noConfusion NodeState.noConfusion)
    rw [Claims.cis, set.cis]
    exact ⟨Cistern.node_flagging _ n b, rfl⟩

end Sys2Proof.Machine
end

section
/-! PROOFS. O21: from the overflow chain to the pool, to a core's staged slot, and to RUNNING (R65 to R70, R83, R137, R496). -/

namespace Sys2Proof.Machine

/-! ### The overflow chain (R65) -/

/-- A change of a Cistern changes its field's Cistern alone. -/
theorem State.modCis_eq (s : State) (f : Nat) (g : Cistern → Cistern) :
    s.modCis f g = s.setField f { s.field f with cis := Claims.cis (s.modCis f g) f } := by
  rw [Claims.cis, ((State.Stepped.refl f s).modCis g).cis]
  rfl

theorem Claims.cis_modCis (s : State) (f : Nat) (g : Cistern → Cistern) : Claims.cis (s.modCis f g) f = g (Claims.cis s f) :=
  ((State.Stepped.refl f s).modCis g).cis

/-- The head of the chain moves to the end of the pool. -/
def Cistern.advancing (c : Cistern) (n : Nat) (rest : List Nat) : Cistern :=
  { c.setNode n { c.node n with state := .ready } with
    chain := rest, pool := c.pool ++ [n], hwm := max c.hwm (c.pool.length + 1), poolHwmIv := max c.poolHwmIv (c.pool.length + 1) }

theorem exec_overflowChainAdvance {s : State} {f n : Nat} {rest : List Nat} (hf : f < 72) (chain : (Claims.cis s f).chain = n :: rest)
    (room : (Claims.cis s f).pool.length < 1024) (on : (s.field f).clk.md = .on) (runs : s.graphOf f = .running) :
    exec (.overflowChainAdvance f) s = .next (s.modCis f fun c => c.advancing n rest) := by
  have go : ¬ (1024 ≤ (s.field f).cis.pool.length ∨ (s.field f).clk.md ≠ .on ∨ s.graphOf f ≠ .running) := by
    rintro (full | off | idle)
    · exact Nat.not_le.mpr room full
    · exact off on
    · exact idle runs
  change execOverflowChainAdvance f s = _
  rw [execOverflowChainAdvance, onField, if_pos (by exact hf)]
  dsimp only
  rw [show (s.field f).cis.chain = n :: rest from chain]
  dsimp only
  rw [if_neg go]
  rfl

theorem overflowChainAdvance_claim {s : State} {f n : Nat} {rest : List Nat} (hf : f < 72) (chain : (Claims.cis s f).chain = n :: rest)
    (room : (Claims.cis s f).pool.length < 1024) (on : (s.field f).clk.md = .on) (runs : s.graphOf f = .running) :
    ∃ t, exec (.overflowChainAdvance f) s = .next t ∧ t = s.setField f { s.field f with cis := Claims.cis t f } ∧
      (Claims.cis t f).chain = rest ∧ (Claims.cis t f).pool = (Claims.cis s f).pool ++ [n] ∧
      ∀ m, (Claims.cis t f).node m = if m = n then { (Claims.cis s f).node n with state := .ready } else (Claims.cis s f).node m := by
  refine ⟨_, exec_overflowChainAdvance hf chain room on runs, s.modCis_eq f _, ?_⟩
  rw [Claims.cis_modCis]
  exact ⟨rfl, rfl, fun m => Cistern.node_setNode _ n m _⟩

/-! ### Assignment (R66, R67, R69, R70, R83) -/

/-- A node leaves the pool. -/
def Cistern.unpooled (c : Cistern) (n : Nat) : Cistern := { c with pool := c.pool.filter (fun m => !decide (m = n)) }

theorem Cistern.not_mem_unpooled (c : Cistern) (n : Nat) : n ∉ (c.unpooled n).pool := by
  simp [Cistern.unpooled]

/-- A node is STAGED on a core, with a run state that it is given. -/
def Cistern.staging (c : Cistern) (n li : Nat) (r : NodeRun) : Cistern :=
  { (c.setNode n r).setSlot li { c.slot li with staged := some n } with dispatched := (c.dispatched + 1) % 2 ^ 32 }

/-- The run state of a node that is STAGED on a core. -/
def Cistern.staged (c : Cistern) (n li : Nat) : NodeRun :=
  { c.node n with state := .staged, core := li, outRead := if c.outCount n = 0 then .good else .reading }

/-- A pool entry of a RUNNING graph may be assigned to an idle core of its placement set. -/
structure State.MayAssign (s : State) (f n li : Nat) : Prop where
  field : f < 72
  runs : s.graphOf f = .running
  on : (s.field f).clk.cd = .on
  pooled : n ∈ (Claims.cis s f).pool
  placed : (Claims.cis s f).psetHas ((Claims.cis s f).psetOf n) li = true
  idle : (Claims.cis s f).idleCore li = true

/-- The state with a node taken out of the pool. -/
def State.unpool (s : State) (f n : Nat) : State := (s.modCis f fun c => c.unpooled n).countCev f

theorem State.stepped_unpool (s : State) (f n : Nat) : State.Stepped f s (s.unpool f n) ((Claims.cis s f).unpooled n) s.faultCount :=
  ((State.Stepped.refl f s).modCis fun c => c.unpooled n).countCev

/-- How an assignment goes on from there. -/
theorem exec_taskAssign {s : State} {f n li : Nat} (may : s.MayAssign f n li) (rf : Bool) :
    exec (.taskAssign f n { li := li, readFirst := rf }) s = .next (match (Claims.cis s f).badStart n with
      | some w =>
        ((if rf then s.unpool f n
          else ((s.unpool f n).modCis f fun c =>
            { c.setNode n { c.node n with core := li } with dispatched := (c.dispatched + 1) % 2 ^ 32 }).progress f).tableError f n w).failNode f n 0x3141
      | none =>
        ((((s.unpool f n).modCis f fun c => c.staging n li ((Claims.cis s f).staged n li)).modCore (coreId f li) fun k =>
          { k with staged := some ((s.unpool f n).startDesc f n) }).progress f).traceNode f n 2 (coreId f li <<< 32 + b2n (!true) <<< 15 + li)) := by
  have pooled : n ∈ (s.field f).cis.pool := may.pooled
  have placed : (s.field f).cis.psetHas ((s.field f).cis.psetOf n) li = true := may.placed
  have idle : (s.field f).cis.idleCore li = true := may.idle
  change execTaskAssign f n { li := li, readFirst := rf } s = _
  rw [execTaskAssign, onField, if_pos (by exact may.field)]
  dsimp only
  rw [if_neg (by simp [may.runs, may.on, pooled, placed, idle]), idle]
  rfl

theorem State.startDesc_unpool (s : State) (f n : Nat) : (s.unpool f n).startDesc f n = s.startDesc f n := by
  unfold State.startDesc State.taskOf
  rw [(s.stepped_unpool f n).cis]
  rfl

/-- A core's staged descriptor is written, and nothing else. -/
theorem State.modCore_staged (s : State) (c : Nat) (x : StartDesc) :
    s.modCore c (fun k => { k with staged := some x }) = { s with cores := Tab.write s.cores Core.reset c { s.core c with staged := some x } } :=
  s.setCore_quiet c _ rfl rfl rfl rfl rfl

theorem taskAssign_stages {s : State} {f n li : Nat} (may : s.MayAssign f n li) (good : (Claims.cis s f).badStart n = none) (rf : Bool) :
    ∃ t, exec (.taskAssign f n { li := li, readFirst := rf }) s = .next t ∧ t.net = s.net ∧ (∀ g, g ≠ f → t.field g = s.field g) ∧
      (∀ c, c ≠ coreId f li → t.core c = s.core c) ∧
      t.core (coreId f li) = { s.core (coreId f li) with staged := some (s.startDesc f n) } ∧
      n ∉ (Claims.cis t f).pool ∧ (Claims.cis t f).mem = (Claims.cis s f).mem ∧
      (∀ l, (Claims.cis t f).slot l = if l = li then { (Claims.cis s f).slot li with staged := some n } else (Claims.cis s f).slot l) ∧
      (∀ m, (Claims.cis t f).node m =
        if m = n then { (Claims.cis s f).node n with
          state := .staged, core := li, outRead := if (Claims.cis s f).outCount n = 0 then .good else .reading }
        else (Claims.cis s f).node m) ∧
      (Claims.cis t f).dispatched = ((Claims.cis s f).dispatched + 1) % 2 ^ 32 := by
  have run := exec_taskAssign may rf
  rw [good] at run
  dsimp only at run
  rw [State.modCore_staged, State.startDesc_unpool] at run
  have staged := (s.stepped_unpool f n).modCis fun c => c.staging n li ((Claims.cis s f).staged n li)
  generalize (s.unpool f n).modCis f _ = u at run staged
  have done := ((State.Stepped.refl f { u with cores := Tab.write u.cores Core.reset (coreId f li) { u.core (coreId f li) with
    staged := some (s.startDesc f n) } }).progress).traceNode n 2 (coreId f li <<< 32 + b2n (!true) <<< 15 + li)
  have cis := done.cis.trans staged.cis
  have core : ∀ c, _ = if c = coreId f li then { s.core (coreId f li) with staged := some (s.startDesc f n) } else s.core c := fun c =>
    (done.core c).trans ((Tab.read_write _ _ _ _ c).trans (by rw [staged.core]; exact if_congr Iff.rfl rfl (staged.core c)))
  refine ⟨_, run, done.net.trans staged.net, fun g other => (done.others g other).trans (staged.others g other),
    fun c other => (core c).trans (if_neg other), (core _).trans (if_pos rfl), ?_⟩
  rw [Claims.cis, cis]
  exact ⟨Cistern.not_mem_unpooled _ n, rfl, fun l => Cistern.slot_setSlot _ li l _, fun m => Cistern.node_setNode _ n m _, rfl⟩

/-- A node dispatched or not as its start meets an uncorrectable word. -/
theorem State.stepped_badStart (s : State) (f n li : Nat) (rf : Bool) :
    ∃ c, State.Stepped f s (if rf then s.unpool f n
      else ((s.unpool f n).modCis f fun c => { c.setNode n { c.node n with core := li } with dispatched := (c.dispatched + 1) % 2 ^ 32 }).progress f) c
        s.faultCount ∧
      c.pool = ((Claims.cis s f).unpooled n).pool ∧ c.slots = (Claims.cis s f).slots ∧ ∀ m, m ≠ n → c.node m = (Claims.cis s f).node m := by
  cases rf with
  | true => exact ⟨_, s.stepped_unpool f n, rfl, rfl, fun _ _ => rfl⟩
  | false =>
    exact ⟨_, ((s.stepped_unpool f n).modCis fun c =>
      { c.setNode n { c.node n with core := li } with dispatched := (c.dispatched + 1) % 2 ^ 32 }).progress, rfl, rfl,
      fun m other => (Cistern.node_setNode _ n m _).trans (if_neg other)⟩

theorem taskAssign_fails {s : State} {f n li x : Nat} (may : s.MayAssign f n li) (bad : (Claims.cis s f).badStart n = some x) (rf : Bool) :
    ∃ t, exec (.taskAssign f n { li := li, readFirst := rf }) s = .next t ∧ t.net = s.net ∧ t.cores = s.cores ∧ (∀ g, g ≠ f → t.field g = s.field g) ∧
      n ∉ (Claims.cis t f).pool ∧ (∀ l, (Claims.cis t f).slot l = (Claims.cis s f).slot l) ∧
      ((Claims.cis t f).node n).state = .failed ∧ ((Claims.cis t f).node n).cause = 0x3141 ∧
      (∀ m, m ≠ n → (Claims.cis t f).node m = (Claims.cis s f).node m) := by
  have run := exec_taskAssign may rf
  rw [bad] at run
  obtain ⟨c, left, pool, slots, others⟩ := s.stepped_badStart f n li rf
  obtain ⟨d, found⟩ := left.tableError may.field n x
  have done := found.failNode n 0x3141
  have node : ∀ m, ((c.error 2 0x3141 n).setNode n { (c.error 2 0x3141 n).node n with state := .failed, cause := 0x3141, wdogEnd := none }).node m =
      if m = n then { c.node n with state := .failed, cause := 0x3141, wdogEnd := none } else c.node m := fun m => Cistern.node_setNode _ n m _
  refine ⟨_, run, done.net, done.cores, done.others, ?_⟩
  rw [Claims.cis, done.cis]
  refine ⟨?_, fun l => congrArg (Tab.read · CoreSlot.idle l) slots, ?_, ?_, fun m other => ?_⟩
  · change n ∉ c.pool
    rw [pool]
    exact Cistern.not_mem_unpooled _ n
  · rw [node, if_pos rfl]
  · rw [node, if_pos rfl]
  · rw [node, if_neg other, others m other]

/-! ### Reports of cores -/

theorem localOf_coreId {f li : Nat} (small : li < 1280) : localOf (coreId f li) = li := by
  unfold localOf coreId
  omega

/-- A report on the field bus, as its field takes it. -/
theorem State.report?_of {s : State} {f k li : Nat} {p : Packet} (small : li < 1280) (here : s.arriving k = some p) (src : p.src = .core (coreId f li))
    (dst : p.dst = .field f) (bus : p.bus = true) : s.report? k = some (f, li, p.task, p.body) := by
  simp only [State.report?, here, src, dst, bus, fieldOf_coreId small, localOf_coreId small, and_self, if_true]

/-- When the watchdog of a firing started at a time ends (R496, R497). -/
def State.startDog (s : State) (f n at' : Nat) : Option Nat :=
  if (Claims.cis s f).wdog n ≠ 0 then some (at' + (Claims.cis s f).wdog n * 1000)
  else if s.graphOf f = .stopping then some (s.tstamp + 100000000) else none

theorem startReport_runs {s : State} {f n li k begun : Nat} {p : Packet} (small : li < 1280) (here : s.arriving k = some p)
    (src : p.src = .core (coreId f li)) (dst : p.dst = .field f) (bus : p.bus = true) (body : p.body = .startReport begun) (of : taskNode p.task = n)
    (task : s.taskOf f n = p.task) (held : ((Claims.cis s f).slot li).staged = some n) (staged : ((Claims.cis s f).node n).state = .staged) :
    ∃ t, exec (.startReport k) s = .next t ∧ t.net = dropAt s.net k ∧ t.cores = s.cores ∧ (∀ g, g ≠ f → t.field g = s.field g) ∧
      (∀ l, (Claims.cis t f).slot l =
        if l = li then { (Claims.cis s f).slot li with running := some n, staged := none } else (Claims.cis s f).slot l) ∧
      ((Claims.cis t f).node n).state = .running ∧ ((Claims.cis t f).node n).wdogEnd = s.startDog f n p.at' := by
  have report := State.report?_of small here src dst bus
  have mine : ((((s.take k).field f).cis.slot li).staged = some (taskNode p.task) ∧ (s.take k).taskOf f (taskNode p.task) = p.task ∧
      (((s.take k).field f).cis.node (taskNode p.task)).state = .staged) := by
    rw [of]
    exact ⟨held, task, staged⟩
  obtain ⟨t, run, done⟩ : ∃ t, exec (.startReport k) s = .next t ∧ State.Stepped f (s.take k) t
      (((Claims.cis s f).setNode n { (Claims.cis s f).node n with state := .running, wdogEnd := s.startDog f n p.at' }).setSlot li
        { (Claims.cis s f).slot li with running := some n, staged := none }) s.faultCount := by
    change ∃ t, execStartReport k s = .next t ∧ _
    rw [execStartReport, report, body]
    dsimp only
    rw [if_pos mine, of, here]
    exact ⟨_, rfl, (((State.Stepped.refl f (s.take k)).modCis fun c => (c.setNode n { (Claims.cis s f).node n with
      state := .running, wdogEnd := s.startDog f n p.at' }).setSlot li { c.slot li with running := some n, staged := none }).progress).traceAt n 3 p.at' _⟩
  refine ⟨t, run, done.net, done.cores, done.others, ?_⟩
  have node : ∀ (c : Cistern) x, ((c.setNode n x).setSlot li { c.slot li with running := some n, staged := none }).node n = x :=
    fun c x => (c.node_setNode n n x).trans (if_pos rfl)
  rw [Claims.cis, done.cis, node]
  exact ⟨fun l => Cistern.slot_setSlot _ li l _, rfl, rfl⟩

/-- Settles O21: the head of the chain, an assignment whose start reads well or meets an uncorrectable word, and the start report. -/
theorem dispatchSteps : Obligations.DispatchSteps := by
  unfold Obligations.DispatchSteps Claims.DispatchSteps
  intro s f n li k hf small
  refine ⟨fun rest chain room on runs => overflowChainAdvance_claim hf chain room on runs,
    fun runs on pooled placed idle good rf => taskAssign_stages ⟨hf, runs, on, pooled, placed, idle⟩ good rf,
    fun x runs on pooled placed idle bad rf => taskAssign_fails ⟨hf, runs, on, pooled, placed, idle⟩ bad rf,
    fun p begun here src dst bus body of task held staged => ?_⟩
  obtain ⟨t, run, net, cores, others, slot, state, dog⟩ := startReport_runs small here src dst bus body of task held staged
  refine ⟨t, run, net, cores, others, slot, state, fun set => ?_, fun unset going => ?_⟩
  · rw [dog, State.startDog, if_pos set]
  · rw [dog, State.startDog, if_neg fun set => set unset, if_neg going]

end Sys2Proof.Machine
end

section
/-! PROOFS. O22: reports that end a firing (R72, R75, R76, R490, R496 to R498). -/

namespace Sys2Proof.Machine

/-! ### Completion (R72, R75) -/

/-- A core's running slot is free. -/
def Cistern.freeing (c : Cistern) (li : Nat) : Cistern := c.setSlot li { c.slot li with running := none, aborting := none }

/-- A firing's completion is counted, and its POSTs wait for no further answer. -/
def Cistern.completing (c : Cistern) (n aflags : Nat) (task : DWord) : Cistern :=
  { c.setNode n { c.node n with aflags := aflags, wdogEnd := none, cause := 0 } with
    completed := (c.completed + 1) % 2 ^ 32
    xtags := c.xtags.map fun x => if x.post.elim false (fun y => decide (y.1 = task)) then { x with post := none } else x }

/-- The node of a completed firing waits again, or is DONE, and its output records wait for the emission port. -/
def Cistern.rearming (c : Cistern) (n : Nat) (em : Emission) : Cistern :=
  { c.setNode n { c.node n with state := if c.exhausted n then .done else .waiting } with
    emit := if c.outCount n = 0 then c.emit else c.emit ++ [em] }

theorem Cistern.slot_freeing (c : Cistern) (li l : Nat) :
    (c.freeing li).slot l = if l = li then { c.slot li with running := none, aborting := none } else c.slot l := Cistern.slot_setSlot c li l _

theorem Cistern.node_completing (c : Cistern) (n aflags : Nat) (task : DWord) (m : Nat) :
    (c.completing n aflags task).node m = if m = n then { c.node n with aflags := aflags, wdogEnd := none, cause := 0 } else c.node m :=
  c.node_setNode n m _

theorem Cistern.exhausted_completing (c : Cistern) (n aflags : Nat) (task : DWord) : (c.completing n aflags task).exhausted n = c.exhausted n :=
  Cistern.exhausted_congr n rfl (by rw [Cistern.node_completing, if_pos rfl])

theorem Cistern.node_rearming (c : Cistern) (n : Nat) (em : Emission) (m : Nat) :
    (c.rearming n em).node m = if m = n then { c.node n with state := if c.exhausted n then .done else .waiting } else c.node m :=
  c.node_setNode n m _

/-- What the completion of node `n` on the core at `li` makes of its Cistern. -/
def Cistern.finishing (c : Cistern) (li n aflags : Nat) (task : DWord) (em : Emission) : Cistern :=
  ((c.freeing li).completing n aflags task).rearming n em

theorem Cistern.node_finishing (c : Cistern) (li n aflags : Nat) (task : DWord) (em : Emission) (m : Nat) :
    (c.finishing li n aflags task em).node m = if m = n then { c.node n with
      aflags := aflags, wdogEnd := none, cause := 0, state := if c.exhausted n then .done else .waiting } else c.node m := by
  have left : ((c.freeing li).completing n aflags task).exhausted n = c.exhausted n := Cistern.exhausted_completing _ n aflags task
  rw [Cistern.finishing, Cistern.node_rearming, left, Cistern.node_completing, if_pos rfl, Cistern.node_completing]
  split <;> rfl

theorem Cistern.emit_finishing (c : Cistern) (li n aflags : Nat) (task : DWord) (em : Emission) :
    (c.finishing li n aflags task em).emit = if c.outCount n = 0 then c.emit else c.emit ++ [em] := rfl

theorem Cistern.slot_finishing (c : Cistern) (li n aflags : Nat) (task : DWord) (em : Emission) (l : Nat) :
    (c.finishing li n aflags task em).slot l = if l = li then { c.slot li with running := none, aborting := none } else c.slot l :=
  c.slot_freeing li l

/-- A node that is done, or whose mask is not met, does not fire as it completes. -/
theorem Cistern.finishing_rests {c : Cistern} {n : Nat} (li aflags : Nat) (task : DWord) (em : Emission)
    (rests : (c.node n).flags &&& c.mask n ≠ c.mask n ∨ c.exhausted n = true) : ¬ (c.finishing li n aflags task em).Fires n := by
  rintro ⟨-, waits, met, -⟩
  rw [Cistern.node_finishing, if_pos rfl] at waits met
  rcases rests with unmet | ended
  · exact unmet met
  · rw [ended] at waits
    exact NodeState.noConfusion waits

/-- What leaves the emission port for a completed firing whose output records were read well (R73, R75). -/
def State.emission (s : State) (f n aflags : Nat) : Emission :=
  let c := (s.field f).cis
  { node := n, ready := true, aflags := aflags, task := s.taskOf f n, layerOper := BitVec.ofNat 32 (c.word n 0x10), ts := s.tstamp,
    stopping := decide (s.graphOf f = .stopping), recs := (c.node n).outRecs }

/-- A completed firing whose output records were read well, and whose node may not fire at once. -/
theorem State.Stepped.complete {f li n aflags : Nat} {s t : State} {c : Cistern} {d : Nat} (h : State.Stepped f s t c d)
    (sound : (c.node n).scrubBad = false) (read : (c.node n).outRead = .good)
    (rests : (c.node n).flags &&& c.mask n ≠ c.mask n ∨ c.exhausted n = true) :
    State.Stepped f s (t.complete f li n aflags) (c.finishing li n aflags (t.taskOf f n) (t.emission f n aflags)) d := by
  obtain rfl := h.cis
  unfold State.complete
  extract_lets c r task late s0 bad s1 s2 s3 s4 s4' em s5
  have onTime : late = none := if_neg (by rw [read]; exact OutRead.noConfusion)
  have good : ¬ bad = true := by simp [bad, onTime, r, c, sound, read]
  have sent : em = t.emission f n aflags := by
    simp only [em, r, c, read]
    rfl
  have h0 : State.Stepped f s s0 c d := by
    simp only [s0, onTime]
    exact h
  have h2 : State.Stepped f s s2 ((c.freeing li).completing n aflags task) d :=
    ((h0.freeRunning li).addFieldCtr 0x58 1).progress.modCis fun x => { x.setNode n { r with aflags := aflags, wdogEnd := none, cause := 0 } with
      completed := (x.completed + 1) % 2 ^ 32
      xtags := x.xtags.map fun y => if y.post.elim false (fun z => decide (z.1 = task)) then { y with post := none } else y }
  have h3 : State.Stepped f s s3 ((c.freeing li).completing n aflags task) d := by
    dsimp only [s3]
    split
    · exact .modPart h2 (fun _ => rfl) fun _ => rfl
    · exact h2
  have h5 : State.Stepped f s s5 (c.finishing li n aflags task em) d :=
    (h3.traceNode n 4 (aflags <<< 32 + c.outCount n <<< 16 + li)).modCis fun c => c.rearming n em
  rw [if_neg good, h5.fireNode_rests fun fires => Cistern.finishing_rests li aflags task em rests fires.2, ← sent]
  exact h5

/-! ### Reports (R72, R76, R498) -/

/-- What a report of a RUNNING firing says, as its field takes it. -/
structure State.Report (s : State) (f k n li : Nat) (task : DWord) (b : Payload) : Prop where
  field : f < 72
  taken : s.report? k = some (f, li, task, b)
  node : taskNode task = n
  firing : s.taskOf f n = task
  slot : ((Claims.cis s f).slot li).running = some n
  state : ((Claims.cis s f).node n).state = .running

theorem State.report_of_claim {s : State} {f k n li : Nat} {b : Payload} (h : Claims.reports s f k n li b) : ∃ task, s.Report f k n li task b := by
  obtain ⟨hf, small, ⟨p, here, src, dst, bus, body, node, firing⟩, slot, state⟩ := h
  exact ⟨p.task, hf, body ▸ State.report?_of small here src dst bus, node, firing, slot, state⟩

theorem State.Report.runningNode {s : State} {f k n li : Nat} {task : DWord} {b : Payload} (h : s.Report f k n li task b) :
    (s.take k).runningNode f li task = some n := by
  obtain ⟨hf, taken, rfl, firing, slot, state⟩ := h
  exact if_pos ⟨slot, firing, state⟩

theorem completionReport_claim {s : State} {f k n li aflags : Nat} (runs : s.graphOf f = .running)
    (report : Claims.reports s f k n li (.completion aflags)) (sound : ((Claims.cis s f).node n).scrubBad = false)
    (read : ((Claims.cis s f).node n).outRead = .good)
    (rests : ((Claims.cis s f).node n).flags &&& (Claims.cis s f).mask n ≠ (Claims.cis s f).mask n ∨ (Claims.cis s f).exhausted n = true) :
    ∃ t, exec (.completionReport k) s = .next t ∧ t.net = dropAt s.net k ∧ t.cores = s.cores ∧ (∀ g, g ≠ f → t.field g = s.field g) ∧
      ((Claims.cis t f).slot li).running = none ∧ (∀ l, l ≠ li → (Claims.cis t f).slot l = (Claims.cis s f).slot l) ∧
      ((Claims.cis t f).node n).state = (if (Claims.cis s f).exhausted n then .done else .waiting) ∧
      ((Claims.cis t f).node n).aflags = aflags ∧ (∀ m, m ≠ n → (Claims.cis t f).node m = (Claims.cis s f).node m) ∧
      (Claims.cis t f).completed = ((Claims.cis s f).completed + 1) % 2 ^ 32 ∧
      ((Claims.cis s f).outCount n = 0 → (Claims.cis t f).emit = (Claims.cis s f).emit) ∧
      ((Claims.cis s f).outCount n ≠ 0 → ∃ e, (Claims.cis t f).emit = (Claims.cis s f).emit ++ [e] ∧ e.node = n ∧ e.ready = true ∧
        e.aflags = aflags ∧ e.recs = ((Claims.cis s f).node n).outRecs) := by
  obtain ⟨task, r⟩ := State.report_of_claim report
  obtain ⟨t, run, done⟩ : ∃ t, exec (.completionReport k) s = .next t ∧ State.Stepped f (s.take k) t
      ((Claims.cis s f).finishing li n aflags (s.taskOf f n) (s.emission f n aflags)) s.faultCount := by
    change ∃ t, execCompletionReport k s = .next t ∧ _
    rw [execCompletionReport, r.taken]
    dsimp only
    rw [r.runningNode]
    exact ⟨_, rfl, ((State.Stepped.refl f (s.take k)).complete sound read rests).idleCheckOf
      (by rw [show (s.take k).graphOf f = .running from runs]; exact GraphState.noConfusion)⟩
  refine ⟨t, run, done.net, done.cores, done.others, ?_⟩
  rw [Claims.cis, done.cis]
  have slot := Cistern.slot_finishing (Claims.cis s f) li n aflags (s.taskOf f n) (s.emission f n aflags)
  have node := Cistern.node_finishing (Claims.cis s f) li n aflags (s.taskOf f n) (s.emission f n aflags)
  refine ⟨congrArg CoreSlot.running ((slot li).trans (if_pos rfl)), fun l other => (slot l).trans (if_neg other), ?_, ?_, fun m other => ?_, rfl,
    fun none => ?_, fun some => ⟨s.emission f n aflags, ?_, rfl, rfl, rfl, rfl⟩⟩
  · rw [node, if_pos rfl]
  · rw [node, if_pos rfl]
  · rw [node, if_neg other]
  · rw [Cistern.emit_finishing, if_pos none]
  · rw [Cistern.emit_finishing, if_neg some]

theorem failureReport_claim {s : State} {f k n li cause pc addr : Nat} (runs : s.graphOf f = .running)
    (report : Claims.reports s f k n li (.failure cause pc addr)) (counted : countedHere cause = true) :
    ∃ t, exec (.failureReport k) s = .next t ∧ t.net = dropAt s.net k ∧ t.cores = s.cores ∧ (∀ g, g ≠ f → t.field g = s.field g) ∧
      ((Claims.cis t f).slot li).running = none ∧ ((Claims.cis t f).node n).state = .failed ∧ ((Claims.cis t f).node n).cause = cause ∧
      (∀ m, m ≠ n → (Claims.cis t f).node m = (Claims.cis s f).node m) ∧ t.faultCount = (s.faultCount + 1) % 2 ^ 32 := by
  obtain ⟨task, r⟩ := State.report_of_claim report
  obtain ⟨t, run, done⟩ : ∃ t, exec (.failureReport k) s = .next t ∧ State.Stepped f (s.take k) t
      (((Claims.cis s f).setNode n { (Claims.cis s f).node n with state := .failed, cause := cause, wdogEnd := none }).freeing li)
      ((s.faultCount + 1) % 2 ^ 32) := by
    change ∃ t, execFailureReport k s = .next t ∧ _
    rw [execFailureReport, r.taken]
    dsimp only
    rw [r.runningNode]
    exact ⟨_, rfl, ((((State.Stepped.refl f (s.take k)).taskFault r.field counted li task pc addr).failNode n cause).freeRunning li).idleCheckOf
      (by rw [show (s.take k).graphOf f = .running from runs]; exact GraphState.noConfusion)⟩
  refine ⟨t, run, done.net, done.cores, done.others, ?_⟩
  rw [Claims.cis, done.cis]
  have node : ∀ m, _ = _ := Cistern.node_setNode (Claims.cis s f) n (r := { (Claims.cis s f).node n with state := .failed, cause := cause, wdogEnd := none })
  refine ⟨congrArg CoreSlot.running ((Cistern.slot_freeing _ li li).trans (if_pos rfl)), congrArg NodeRun.state ((node n).trans (if_pos rfl)),
    congrArg NodeRun.cause ((node n).trans (if_pos rfl)), fun m other => (node m).trans (if_neg other), done.faults⟩

theorem abortReport_claim {s : State} {f k n li : Nat} (runs : s.graphOf f = .running) (report : Claims.reports s f k n li .abortReport) :
    ∃ t, exec (.abortReport k) s = .next t ∧ t.net = dropAt s.net k ∧ t.cores = s.cores ∧
      ((Claims.cis t f).slot li).running = none ∧ ∀ m, (Claims.cis t f).node m = (Claims.cis s f).node m := by
  obtain ⟨task, r⟩ := State.report_of_claim report
  obtain ⟨t, run, done⟩ : ∃ t, exec (.abortReport k) s = .next t ∧ State.Stepped f (s.take k) t ((Claims.cis s f).freeing li) s.faultCount := by
    change ∃ t, execAbortReport k s = .next t ∧ _
    rw [execAbortReport, r.taken]
    dsimp only
    rw [State.freeEnded, if_pos (by rw [r.node]; exact r.slot)]
    exact ⟨_, rfl, ((State.Stepped.refl f (s.take k)).freeRunning li).idleCheckOf
      (by rw [show (s.take k).graphOf f = .running from runs]; exact GraphState.noConfusion)⟩
  refine ⟨t, run, done.net, done.cores, ?_⟩
  rw [Claims.cis, done.cis]
  exact ⟨congrArg CoreSlot.running ((Cistern.slot_freeing _ li li).trans (if_pos rfl)), fun _ => rfl⟩

theorem commitNotice_claim {s : State} {f k n li : Nat} (report : Claims.reports s f k n li .commitNotice) :
    ∃ t, exec (.commitNotice k) s = .next t ∧ t.net = dropAt s.net k ∧ t.cores = s.cores ∧
      ((Claims.cis t f).node n).commit = true ∧ ∀ m, m ≠ n → (Claims.cis t f).node m = (Claims.cis s f).node m := by
  obtain ⟨task, r⟩ := State.report_of_claim report
  obtain ⟨t, run, done⟩ : ∃ t, exec (.commitNotice k) s = .next t ∧ State.Stepped f (s.take k) t
      ((Claims.cis s f).setNode n { (Claims.cis s f).node n with commit := true }) s.faultCount := by
    change ∃ t, execCommitNotice k s = .next t ∧ _
    rw [execCommitNotice, r.taken]
    dsimp only
    rw [r.node, if_pos (by exact r.firing)]
    exact ⟨_, rfl, (State.Stepped.refl f (s.take k)).modCis fun c => c.setNode n { c.node n with commit := true }⟩
  refine ⟨t, run, done.net, done.cores, ?_⟩
  rw [Claims.cis, done.cis]
  have node : ∀ m, _ = _ := Cistern.node_setNode (Claims.cis s f) n (r := { (Claims.cis s f).node n with commit := true })
  exact ⟨congrArg NodeRun.commit ((node n).trans (if_pos rfl)), fun m other => (node m).trans (if_neg other)⟩

/-- Settles O22: one case for each report of the core. -/
theorem reportsEndFirings : Obligations.ReportsEndFirings := by
  unfold Obligations.ReportsEndFirings Claims.ReportsEndFirings
  intro s f k n li runs
  exact ⟨fun _ report sound read rests => completionReport_claim runs report sound read rests,
    fun _ _ _ report counted => failureReport_claim runs report counted, abortReport_claim runs, commitNotice_claim⟩

end Sys2Proof.Machine
end

section
/-! PROOFS. O23, first part: output records leave by the mesh, a Sluice gateway or to a host (R73, R74, R78, R83, R271). -/

namespace Sys2Proof.Machine

/-! ### The read of a firing's output records (R83) -/

theorem exec_outputRecordReadEnd {s : State} {f n : Nat} (hf : f < 72) (on : (s.field f).clk.md = .on) (empty : (Claims.cis s f).emit = [])
    (reading : ((Claims.cis s f).node n).outRead = .reading)
    (going : ((Claims.cis s f).node n).state = .running ∨ ((Claims.cis s f).node n).state = .staged) :
    exec (.outputRecordReadEnd f n) s = .next (match (Claims.cis s f).badOut n with
      | some w => (s.tableError f n w).modCis f fun c => c.setNode n { c.node n with outRead := .bad }
      | none => s.modCis f fun c => c.setNode n { (Claims.cis s f).node n with outRead := .good, outRecs := c.outRecs n }) := by
  have unheld : ¬ ((s.field f).cis.emit.any fun e => decide (e.node = n) && !e.ready) = true := by
    rw [show (s.field f).cis.emit = [] from empty]
    exact Bool.noConfusion
  change execOutputRecordReadEnd f n s = _
  rw [execOutputRecordReadEnd, onField, if_pos (by exact hf)]
  dsimp only
  rw [if_neg (fun off => off on), if_neg unheld, if_pos ⟨reading, going.symm⟩]
  rfl

theorem outputRecordReadEnd_good {s : State} {f n : Nat} (hf : f < 72) (on : (s.field f).clk.md = .on) (empty : (Claims.cis s f).emit = [])
    (reading : ((Claims.cis s f).node n).outRead = .reading)
    (going : ((Claims.cis s f).node n).state = .running ∨ ((Claims.cis s f).node n).state = .staged) (good : (Claims.cis s f).badOut n = none) :
    ∃ t, exec (.outputRecordReadEnd f n) s = .next t ∧ t = s.setField f { s.field f with cis := Claims.cis t f } ∧
      (Claims.cis t f).node n = { (Claims.cis s f).node n with outRead := .good, outRecs := (Claims.cis s f).outRecs n } := by
  have run := exec_outputRecordReadEnd hf on empty reading going
  rw [good] at run
  refine ⟨_, run, s.modCis_eq f _, ?_⟩
  rw [Claims.cis_modCis]
  exact (Cistern.node_setNode _ n n _).trans (if_pos rfl)

theorem outputRecordReadEnd_bad {s : State} {f n w : Nat} (hf : f < 72) (on : (s.field f).clk.md = .on) (empty : (Claims.cis s f).emit = [])
    (reading : ((Claims.cis s f).node n).outRead = .reading)
    (going : ((Claims.cis s f).node n).state = .running ∨ ((Claims.cis s f).node n).state = .staged) (bad : (Claims.cis s f).badOut n = some w) :
    ∃ t, exec (.outputRecordReadEnd f n) s = .next t ∧ t.cores = s.cores ∧ t.net = s.net ∧
      (Claims.cis t f).node n = { (Claims.cis s f).node n with outRead := .bad } ∧ bit (Claims.cis t f).err 2 = true := by
  have run := exec_outputRecordReadEnd hf on empty reading going
  rw [bad] at run
  obtain ⟨d, found⟩ := (State.Stepped.refl f s).tableError hf n w
  have done := found.modCis fun c => c.setNode n { c.node n with outRead := .bad }
  refine ⟨_, run, done.cores, done.net, ?_⟩
  rw [Claims.cis, done.cis]
  refine ⟨(Cistern.node_setNode _ n n _).trans (if_pos rfl), ?_⟩
  change Nat.testBit ((s.field f).cis.err ||| 1 <<< 2) 2 = true
  rw [Nat.testBit_or]
  exact Bool.or_eq_true_iff.mpr (.inr (by decide))

/-- The records of a completed firing whose read ends become ready to leave. -/
theorem exec_outputRecordReadEnd_completed {s : State} {f n : Nat} {e : Emission} {rest : List Emission} (hf : f < 72) (on : (s.field f).clk.md = .on)
    (first : (Claims.cis s f).emit = e :: rest) (mine : e.node = n) (held : e.ready = false) :
    exec (.outputRecordReadEnd f n) s =
      .next (s.setField f { s.field f with cis := { Claims.cis s f with emit := { e with ready := true } :: rest } }) := by
  have waits : ((s.field f).cis.emit.any fun e => decide (e.node = n) && !e.ready) = true := by
    rw [show (s.field f).cis.emit = e :: rest from first]
    simp [mine, held]
  have ready : readyFirst (Claims.cis s f).emit n = { e with ready := true } :: rest := by
    rw [first]
    exact if_pos ⟨mine, by rw [held]; rfl⟩
  change execOutputRecordReadEnd f n s = _
  rw [execOutputRecordReadEnd, onField, if_pos (by exact hf)]
  dsimp only
  rw [if_neg (fun off => off on), if_pos waits, ← ready]
  rfl

/-! ### The emission port (R73, R74, R78, R271) -/

/-- The packet by which a field sends an output record of a completion. -/
structure State.SendsRecord (s : State) (f : Nat) (e : Emission) (r : DWord) (p : Packet) : Prop where
  src : p.src = .field f
  task : p.task = e.task
  part : p.part = s.partOf f
  field : bits r.toNat 63 62 = 0 → p.dst = .field (bits r.toNat 46 40) ∧ p.body = .event r
  engine : ∀ q, bits r.toNat 63 62 = 1 → s.routeOf (bits r.toNat 61 50) = some q →
    p.dst = .sluice q ∧ p.body = .xevent r (match s.partOf f with | some o => (s.part o).job | none => 0)
  host : 2 ≤ bits r.toNat 63 62 → p.dst = .ingress (bits r.toNat 47 46) ∧ p.body = .hostNote r e.aflags e.layerOper.toNat e.ts e.stopping

/-- A record for another field, for an engine with a route, or for a host leaves as one packet. -/
theorem State.emitRecord_sends {s : State} {f : Nat} {r : DWord} (e : Emission)
    (leaves : bits r.toNat 63 62 = 0 ∧ bits r.toNat 46 40 ≠ f ∨ bits r.toNat 63 62 = 1 ∧ (s.routeOf (bits r.toNat 61 50)).isSome = true ∨
      2 ≤ bits r.toNat 63 62) :
    ∃ v c p, s.emitRecord f e r = (v.inject [p], []) ∧ State.Stepped f s v c s.faultCount ∧ c.emit = (Claims.cis s f).emit ∧
      (∀ m, c.node m = (Claims.cis s f).node m) ∧ s.SendsRecord f e r p := by
  unfold State.emitRecord
  dsimp only
  split
  next field =>
    have other : bits r.toNat 46 40 ≠ f := by omega
    rw [if_neg other]
    exact ⟨s, _, _, rfl, .refl f s, rfl, fun _ => rfl, rfl, rfl, rfl, fun _ => ⟨rfl, rfl⟩, fun _ engine => absurd (field.symm.trans engine) (by decide),
      fun host => absurd host (by omega)⟩
  next engine =>
    have routed : (s.routeOf (bits r.toNat 61 50)).isSome = true := by
      rcases leaves with ⟨field, -⟩ | ⟨-, routed⟩ | host
      · omega
      · exact routed
      · omega
    obtain ⟨q, route⟩ := Option.isSome_iff_exists.mp routed
    rw [route]
    refine ⟨_, _, _, rfl, (State.Stepped.refl f s).modCis _, rfl, fun _ => rfl, rfl, rfl, rfl,
      fun field => absurd (engine.symm.trans field) (by decide), fun q' _ same => ?_,
      fun host => absurd host (by omega)⟩
    obtain rfl := Option.some.inj (route.symm.trans same)
    exact ⟨rfl, rfl⟩
  next notField notEngine =>
    exact ⟨s, _, _, rfl, .refl f s, rfl, fun _ => rfl, rfl, rfl, rfl, fun field => absurd field notField, fun _ engine => absurd engine notEngine,
      fun _ => ⟨rfl, rfl⟩⟩

/-- The emission port takes the next record of the oldest completion, which goes when none is left (R73). -/
theorem exec_outputRecordEmit {s : State} {f : Nat} {e : Emission} {rest : List Emission} {r : DWord} {more : List DWord} (hf : f < 72)
    (first : (Claims.cis s f).emit = e :: rest) (ready : e.ready = true) (on : (s.field f).clk.md = .on) (recs : e.recs = r :: more) {t : State}
    (sends : (s.modCis f fun c => { c with emit := if more.isEmpty then rest else { e with recs := more } :: rest }).emitRecord f e r = (t, [])) :
    exec (.outputRecordEmit f none) s = .next t := by
  have go : ¬ ((!e.ready) = true ∨ (s.field f).clk.md ≠ .on) := by simp [ready, on]
  change execOutputRecordEmit f none s = _
  rw [execOutputRecordEmit, onField, if_pos (by exact hf)]
  dsimp only
  rw [show (s.field f).cis.emit = e :: rest from first]
  dsimp only
  rw [if_neg go, recs]
  dsimp only [State.takeMesh]
  rw [sends]
  rfl

theorem outputRecordEmit_claim {s : State} {f : Nat} {e : Emission} {rest : List Emission} {r : DWord} {more : List DWord} (hf : f < 72)
    (first : (Claims.cis s f).emit = e :: rest) (ready : e.ready = true) (on : (s.field f).clk.md = .on) (recs : e.recs = r :: more)
    (leaves : bits r.toNat 63 62 = 0 ∧ bits r.toNat 46 40 ≠ f ∨ bits r.toNat 63 62 = 1 ∧ (s.routeOf (bits r.toNat 61 50)).isSome = true ∨
      2 ≤ bits r.toNat 63 62) :
    ∃ t, exec (.outputRecordEmit f none) s = .next t ∧ t.cores = s.cores ∧ (∀ g, g ≠ f → t.field g = s.field g) ∧
      (Claims.cis t f).emit = (if more = [] then rest else { e with recs := more } :: rest) ∧
      (∀ m, (Claims.cis t f).node m = (Claims.cis s f).node m) ∧
      ∃ p, t.net = s.net ++ [p] ∧ p.at' = s.tstamp ∧ s.SendsRecord f e r p := by
  have taken := (State.Stepped.refl f s).modCis fun c => { c with emit := if more.isEmpty then rest else { e with recs := more } :: rest }
  obtain ⟨v, c, p, sends, done, emit, node, packet⟩ := State.emitRecord_sends
    (s := s.modCis f fun c => { c with emit := if more.isEmpty then rest else { e with recs := more } :: rest }) e leaves
  have cis : Claims.cis (v.inject [p]) f = c := done.cis
  have stamp : v.tstamp = s.tstamp := done.tstamp
  refine ⟨_, exec_outputRecordEmit hf first ready on recs sends, done.cores, fun g other => (done.others g other).trans (taken.others g other), ?_,
    fun m => ?_, { p with at' := s.tstamp }, ?_, rfl, packet.src, packet.task, packet.part, packet.field, packet.engine, packet.host⟩
  · rw [cis, emit, Claims.cis_modCis]
    cases more <;> rfl
  · rw [cis, node, Claims.cis_modCis]
    rfl
  · change v.net ++ [{ p with at' := v.tstamp }] = _
    rw [stamp, done.net]
    rfl

theorem outputRecordsLeave : Claims.OutputRecordsLeave := by
  intro s f n hf
  refine ⟨fun on empty reading going =>
    ⟨outputRecordReadEnd_good hf on empty reading going, fun w bad => outputRecordReadEnd_bad hf on empty reading going bad⟩,
    fun e rest on first mine held => ⟨_, exec_outputRecordReadEnd_completed hf on first mine held, rfl⟩,
    fun e rest r more first ready on recs leaves => ?_⟩
  obtain ⟨t, run, cores, others, emit, node, p, net, at', packet⟩ := outputRecordEmit_claim hf first ready on recs leaves
  exact ⟨t, run, cores, others, emit, node, p, net, packet.src, packet.task, at', packet.part, packet.field, packet.engine, packet.host⟩

end Sys2Proof.Machine
end

section
/-! PROOFS. O23, second part: POSTs, lost events and CS_ERR (R80, R82, R93). -/

namespace Sys2Proof.Machine

/-! ### POST (R80) -/

/-- A POST for a field is refused where the field is none of the partition's, and sent there where it is another of them. -/
theorem exec_postReceive {s : State} {f k li : Nat} {task r : DWord} (taken : s.report? k = some (f, li, task, .post r))
    (field : bits r.toNat 63 62 = 0) (other : bits r.toNat 46 40 ≠ f) :
    exec (.postReceive k none) s = .next ((s.take k).inject [
      if bits r.toNat 46 40 < 72 ∧ s.partOf f ≠ none ∧ s.partOf (bits r.toNat 46 40) = s.partOf f then
        ctlPacket (.field f) (.field (bits r.toNat 46 40)) 3 (s.partOf f) task 0 (.event r)
      else busPacket (.field f) (.core (coreId f li)) task 0 (.syncAns 0x3132 0 0 0)]) := by
  change execPostReceive k none s = _
  rw [execPostReceive, taken]
  dsimp only [Option.bind, State.takeMesh]
  rw [if_pos field, if_neg other]
  by_cases mine : bits r.toNat 46 40 < 72 ∧ s.partOf f ≠ none ∧ s.partOf (bits r.toNat 46 40) = s.partOf f
  · rw [if_pos (by exact mine), if_pos mine]
    rfl
  · rw [if_neg (by exact mine), if_neg mine]
    rfl

/-! ### Lost events (R82) -/

/-- A check whether a graph reaches IDLE changes partitions, ports and the root's counts alone. -/
theorem State.idleCheck_frame (s : State) (q : Nat) : ∃ ps x rd, s.idleCheck q = { s with parts := ps, ports := x, rd := rd } := by
  unfold State.idleCheck
  split
  · obtain ⟨x, is⟩ := s.idlePart_frame q
    exact ⟨_, _, _, by rw [is]; rfl⟩
  · exact ⟨s.parts, s.ports, s.rd, rfl⟩

theorem State.err_modCis {s : State} {f : Nat} {g : Cistern → Cistern} (same : ∀ c, (g c).err = c.err) (e : Nat) :
    (Claims.cis (s.modCis f g) e).err = (Claims.cis s e).err := by
  have changed := (State.Stepped.refl f s).modCis g
  by_cases here : e = f
  · subst here
    rw [Claims.cis, changed.cis, same, Claims.cis]
  · rw [Claims.cis, changed.others e here, Claims.cis]

/-- A field that stops keeps its CS_ERR. -/
theorem State.err_stopField (s : State) (f e : Nat) : (Claims.cis (s.stopField f) e).err = (Claims.cis s e).err := by
  unfold State.stopField
  refine List.foldlRecOn (motive := fun t : State => (Claims.cis t e).err = (Claims.cis s e).err) _ _ rfl fun t ht x _ => ?_
  have dogs : (Claims.cis (match x.2.running with
      | some n => t.modCis f fun c => if (c.node n).state = .running ∧ c.wdog n = 0 then
          c.setNode n { c.node n with wdogEnd := some (t.tstamp + 100000000) } else c
      | none => t) e).err = (Claims.cis s e).err := by
    split
    · rw [State.err_modCis fun c => by split <;> rfl, ht]
    · exact ht
  dsimp only
  split
  · exact dogs
  · exact dogs

/-- As its graph stops, a partition's fields keep CS_ERR, and no fault is counted. -/
theorem State.stopPartition_errs {s : State} {q : Nat} (runs : (s.part q).graph = .running) (e : Nat) :
    (Claims.cis (s.stopPartition q) e).err = (Claims.cis s e).err ∧ (s.stopPartition q).faultCount = s.faultCount := by
  rw [State.stopPartition_running runs]
  have errs : ∀ (l : List Nat) (u : State), (Claims.cis (l.foldl State.stopField u) e).err = (Claims.cis u e).err := fun l u =>
    List.foldlRecOn (motive := fun t : State => (Claims.cis t e).err = (Claims.cis u e).err) l _ rfl fun t ht f _ =>
      (t.err_stopField f e).trans ht
  have err := errs ((s.modPart q Part.stopped).partFields q) (s.modPart q Part.stopped)
  obtain ⟨fl, nt, frame⟩ := (s.modPart q Part.stopped).stopFields_frame ((s.modPart q Part.stopped).partFields q)
  rw [frame] at err ⊢
  obtain ⟨ps, x, rd, idle⟩ := State.idleCheck_frame { s.modPart q Part.stopped with fields := fl, net := nt } q
  rw [idle]
  exact ⟨err, rfl⟩

theorem eventLost_claim {s : State} {f k q : Nat} {p : Packet} {r : DWord} {target : Agent} (hf : f < 72) (here : s.arriving k = some p)
    (dst : p.dst = .field f) (body : p.body = .lost 0x3143 target (.event r)) (mine : s.partOf f = some q) (runs : (s.part q).graph = .running) :
    ∃ t, exec (.eventLost k) s = .next t ∧ (Claims.cis t f).err = (Claims.cis s f).err ||| 2 ∧ t.faultCount = (s.faultCount + 1) % 2 ^ 32 ∧
      ((t.part q).graph = .stopping ∨ (t.part q).graph = .idle) := by
  have lost := ((State.Stepped.refl f (s.take k)).addFieldCtr 0x20 1).modCis fun c => c.error 1 0x3140 (bits r.toNat 39 24)
  have fault := lost.partFault hf q (bits r.toNat 39 24) 0x3140
  have run : exec (.eventLost k) s = .next (((((s.take k).addFieldCtr f 0x20 1).modCis f fun c => c.error 1 0x3140 (bits r.toNat 39 24)).partFault q f
      (bits r.toNat 39 24) 0x3140).stopPartition q) := by
    change execEventLost k s = _
    rw [execEventLost, here]
    dsimp only
    rw [dst, body]
    dsimp only
    have acts : (s.take k).actLost p 0x3143 target (.event r) = ((s.take k).addFieldCtr f 0x20 1).eventLost f (bits r.toNat 39 24) 0x3140 := by
      unfold State.actLost
      rw [dst]
    rw [acts, State.eventLost, State.stopFault, lost.partOf, show (s.take k).partOf f = some q from mine]
  generalize State.partFault _ q f _ 0x3140 = u at fault run
  have running : (u.part q).graph = .running := (fault.parts q).1.trans runs
  obtain ⟨err, count⟩ := State.stopPartition_errs running f
  refine ⟨_, run, ?_, count.trans fault.faults, (State.stopPartition_spec running).1⟩
  rw [err, Claims.cis, fault.cis]
  rfl

/-! ### CS_ERR (R93) -/

theorem exec_csErrClear {s : State} {f : Nat} (hf : f < 72) (v : Nat) :
    exec (.csErrClear f v) s = .next (if (s.field f).clk.md = .on ∧ s.graphOf f = .idle then s.modCis f fun c => c.clearErr v else s) := by
  change execCsErrClear f v s = _
  rw [execCsErrClear, onField, if_pos (by exact hf)]

theorem postsAndErrors : Claims.PostsAndErrors := by
  intro s f k li g v p r hf small here
  refine ⟨fun src dst bus body field hg => ?_, fun target q dst body mine runs => eventLost_claim hf here dst body mine runs,
    fun busy => ?_, fun on idle => ?_⟩
  · subst hg
    have taken : s.report? k = some (f, li, p.task, .post r) := body ▸ State.report?_of small here src dst bus
    refine ⟨fun inside other enabled same => ?_, fun outside => ?_⟩
    · have run := exec_postReceive taken field other
      rw [if_pos ⟨inside, enabled, same⟩] at run
      exact ⟨_, run, rfl, rfl, rfl⟩
    · have run := exec_postReceive taken field (by omega)
      rw [if_neg fun mine => Nat.not_lt.mpr outside mine.1] at run
      exact ⟨_, run, rfl, rfl, rfl⟩
  · rw [exec_csErrClear hf, if_neg fun idle => busy idle.2]
  · refine ⟨_, (exec_csErrClear hf v).trans (by rw [if_pos ⟨on, idle⟩]), s.modCis_eq f _, ?_⟩
    rw [Claims.cis_modCis]
    exact ⟨rfl, rfl, rfl⟩

/-- Settles O23: output records, and then POSTs, lost events and CS_ERR. -/
theorem outputsAndPosts : Obligations.OutputsAndPosts := ⟨outputRecordsLeave, postsAndErrors⟩

end Sys2Proof.Machine
end

section
/-! PROOFS. O24: withdrawn nodes, expired watchdogs and lost cores (R91, R142, R143, R496, R498, R500, R501). -/

namespace Sys2Proof.Machine

/-! ### Withdrawal (R91, R142) -/

theorem withdrawAnswer_claim {s : State} {f n li k : Nat} {p : Packet} (small : li < 1280) (here : s.arriving k = some p)
    (src : p.src = .core (coreId f li)) (dst : p.dst = .field f) (bus : p.bus = true) (body : p.body = .withdrawAns false) (of : taskNode p.task = n)
    (task : s.taskOf f n = p.task) (held : ((Claims.cis s f).slot li).staged = some n) (runs : s.graphOf f = .running) :
    ∃ t, exec (.withdrawAnswer k) s = .next t ∧ t.net = dropAt s.net k ∧ t.cores = s.cores ∧
      ((Claims.cis t f).slot li).staged = none ∧ ((Claims.cis t f).node n).state = .waiting ∧
      ((Claims.cis t f).node n).firing = ((Claims.cis s f).node n).firing ∧ ((Claims.cis t f).node n).fireLeft = ((Claims.cis s f).node n).fireLeft := by
  have report := State.report?_of small here src dst bus
  have mine : (((s.take k).field f).cis.slot li).staged = some (taskNode p.task) ∧ (s.take k).taskOf f (taskNode p.task) = p.task := by
    rw [of]
    exact ⟨held, task⟩
  obtain ⟨t, run, done⟩ : ∃ t, exec (.withdrawAnswer k) s = .next t ∧ State.Stepped f (s.take k) t
      (((Claims.cis s f).setSlot li { (Claims.cis s f).slot li with staged := none }).setNode n
        { (Claims.cis s f).node n with state := .waiting, outRead := .none }) s.faultCount := by
    change ∃ t, execWithdrawAnswer k s = .next t ∧ _
    rw [execWithdrawAnswer, report, body]
    dsimp only
    rw [if_pos mine, of, if_neg Bool.noConfusion]
    exact ⟨_, rfl, ((((State.Stepped.refl f (s.take k)).modCis fun c => c.setSlot li { c.slot li with staged := none }).modCis fun c =>
      c.setNode n { c.node n with state := .waiting, outRead := .none }).traceNode n 5 li).idleCheckOf
      (by rw [show (s.take k).graphOf f = .running from runs]; exact GraphState.noConfusion)⟩
  have slot := Cistern.slot_setSlot (Claims.cis s f) li li { (Claims.cis s f).slot li with staged := none }
  rw [if_pos rfl] at slot
  have node : ∀ (c : Cistern) x, (c.setNode n x).node n = x := fun c x => (c.node_setNode n n x).trans (if_pos rfl)
  refine ⟨t, run, done.net, done.cores, ?_⟩
  rw [Claims.cis, done.cis, Cistern.slot_setNode, slot, node]
  exact ⟨rfl, rfl, rfl, rfl⟩

/-! ### WAITs of a core removed (R113) -/

/-- A field without the WAITs of a core. -/
def Field.unwaiting (x : Field) (c : Nat) : Field :=
  { x with syn := { x.syn with pairs := x.syn.pairs.map fun p =>
      (p.1, { p.2 with waitP := if (p.2.waitP.map Waiter.core) = some c then none else p.2.waitP,
                       waitC := if (p.2.waitC.map Waiter.core) = some c then none else p.2.waitC }) } }

/-- Every field loses the WAITs of the core. -/
theorem State.field_dropWaits (s : State) (c g : Nat) : (s.dropWaits c).field g = (s.field g).unwaiting c := by
  have read := Tab.read_map s.fields Field.reset (fun _ x => x.unwaiting c) g
  rw [State.field, State.field]
  refine read.trans ?_
  split
  · rfl
  · next outside => rw [Tab.read_of_not_mem outside]; rfl

/-- The removal of WAITs is no step of a Cistern. -/
theorem State.stepped_dropWaits (s : State) (c f : Nat) : State.Stepped f (s.dropWaits c) (s.dropWaits c) (Claims.cis s f) s.faultCount := by
  have same := State.Stepped.refl f (s.dropWaits c)
  rwa [State.field_dropWaits] at same

/-! ### Watchdogs (R143, R496, R498) -/

/-- The watchdog of a RUNNING firing has run out: the firing fails, and its core is sent an abort. -/
theorem exec_taskWatchdog {s : State} {f n m : Nat} (hf : f < 72) (on : (s.field f).clk.md = .on)
    (set : ((Claims.cis s f).node n).wdogEnd = some m) (runs : ((Claims.cis s f).node n).state = .running) (due : m ≤ s.tstamp) :
    exec (.taskWatchdog f n) s = .next ((((s.taskFault f ((Claims.cis s f).node n).core (s.taskOf f n) 0x3151 0 0).failNode f n 0x3151).dropWaits
      (coreId f ((Claims.cis s f).node n).core)).abortCore f ((Claims.cis s f).node n).core (s.taskOf f n)) := by
  change execTaskWatchdog f n s = _
  rw [execTaskWatchdog, onField, if_pos (by exact hf)]
  dsimp only
  rw [show ((s.field f).cis.node n).wdogEnd = some m from set]
  dsimp only
  rw [if_pos ⟨runs, due, on⟩]
  rfl

theorem taskWatchdog_claim {s : State} {f n m : Nat} (hf : f < 72) (on : (s.field f).clk.md = .on)
    (set : ((Claims.cis s f).node n).wdogEnd = some m) (runs : ((Claims.cis s f).node n).state = .running) (due : m ≤ s.tstamp) :
    ∃ t, exec (.taskWatchdog f n) s = .next t ∧ t.cores = s.cores ∧ ((Claims.cis t f).node n).state = .failed ∧
      ((Claims.cis t f).node n).cause = 0x3151 ∧ ((Claims.cis t f).node n).wdogEnd = none ∧ t.faultCount = (s.faultCount + 1) % 2 ^ 32 ∧
      t.net = s.net ++ [{ busPacket (.field f) (.core (coreId f ((Claims.cis s f).node n).core)) (s.taskOf f n) 0 .abortReq with at' := s.tstamp }] ∧
      ((Claims.cis t f).slot ((Claims.cis s f).node n).core).aborting = some (s.field f).clk.halfCclk := by
  have run := exec_taskWatchdog hf on set runs due
  generalize ((Claims.cis s f).node n).core = li at run ⊢
  have failed := ((State.Stepped.refl f s).taskFault hf (cause := 0x3151) (by decide) li (s.taskOf f n) 0 0).failNode n 0x3151
  generalize State.failNode _ f n 0x3151 = u at run failed
  have clk : ((u.dropWaits (coreId f li)).field f).clk = (s.field f).clk := by rw [State.field_dropWaits]; exact failed.clk
  have cisU : Claims.cis u f = _ := failed.cis
  have aborts := (u.stepped_dropWaits (coreId f li) f).modCis fun c =>
    c.setSlot li { c.slot li with aborting := some ((u.dropWaits (coreId f li)).field f).clk.halfCclk }
  rw [cisU] at aborts
  have cis : Claims.cis ((u.dropWaits (coreId f li)).abortCore f li (s.taskOf f n)) f = _ := aborts.cis
  have node := Cistern.node_setNode (Claims.cis s f) n n { (Claims.cis s f).node n with state := .failed, cause := 0x3151, wdogEnd := none }
  rw [if_pos rfl] at node
  refine ⟨_, run, failed.cores, ?_, ?_, ?_, failed.faults, ?_, ?_⟩
  · rw [cis]; exact congrArg NodeRun.state node
  · rw [cis]; exact congrArg NodeRun.cause node
  · rw [cis]; exact congrArg NodeRun.wdogEnd node
  · change u.net ++ [{ busPacket (.field f) (.core (coreId f li)) (s.taskOf f n) 0 .abortReq with at' := u.tstamp }] = _
    rw [failed.net, failed.tstamp]
  · rw [cis, Cistern.slot_setSlot, if_pos rfl, clk]

/-! ### Lost cores (R500, R501) -/

namespace State.Stepped
variable {f : Nat} {s t : State} {c : Cistern} {d : Nat}

/-- Nodes fail one after another; the slots stay. -/
theorem failNodes (h : State.Stepped f s t c d) (cause : Nat) (ns : List Nat) :
    ∃ c', State.Stepped f s (ns.foldl (fun s n => s.failNode f n cause) t) c' d ∧ ∀ l, c'.slot l = c.slot l :=
  List.foldlRecOn (motive := fun u : State => ∃ c', State.Stepped f s u c' d ∧ ∀ l, c'.slot l = c.slot l) ns _ ⟨c, h, fun _ => rfl⟩
    fun _ ⟨_, held, slots⟩ n _ => ⟨_, held.failNode n cause, slots⟩

theorem restartNode (h : State.Stepped f s t c d) (n : Nat) : ∃ c', State.Stepped f s (t.restartNode f n) c' d ∧ ∀ l, c'.slot l = c.slot l := by
  unfold State.restartNode
  dsimp only
  split
  · exact ⟨_, (h.modCis fun c => c.enter n _).traceNode n 6 _, fun l => c.enter_slot n _ l⟩
  · exact ⟨c, h, fun _ => rfl⟩

/-- Nodes restart one after another; the slots stay. -/
theorem restartNodes (h : State.Stepped f s t c d) (ns : List Nat) :
    ∃ c', State.Stepped f s (ns.foldl (fun s n => s.restartNode f n) t) c' d ∧ ∀ l, c'.slot l = c.slot l :=
  List.foldlRecOn (motive := fun u : State => ∃ c', State.Stepped f s u c' d ∧ ∀ l, c'.slot l = c.slot l) ns _ ⟨c, h, fun _ => rfl⟩
    fun _ ⟨_, held, slots⟩ n _ => by
      obtain ⟨c', again, same⟩ := held.restartNode n
      exact ⟨c', again, fun l => (same l).trans (slots l)⟩

end State.Stepped

theorem State.idleCheckOf_frame (s : State) (f : Nat) : ∃ ps x rd, s.idleCheckOf f = { s with parts := ps, ports := x, rd := rd } := by
  unfold State.idleCheckOf
  split
  · exact s.idleCheck_frame _
  · exact ⟨s.parts, s.ports, s.rd, rfl⟩

/-- What a core is after its loss is declared; `v` is the repair entry of its position. -/
def Core.declaredLost (k : Core) (v now : Nat) : Core :=
  { k with run := .off, lost := true, autoAdd := some v, staged := none, sbuf := [], uq := [], outq := [], blocked := none,
           asyncErr := none, ending := .none, finHold := false, lostAt := now }

/-- A core put back keeps all but its time counters and what its readers found. -/
theorem State.stored_frame (s : State) (c : Nat) (k : Core) :
    ∃ ctr m, s.stored c k = { k with counters := ctr, mark := m, found := (s.core c).found } := by
  unfold State.stored
  dsimp only
  split
  · exact ⟨k.counters, k.mark, rfl⟩
  · split
    · exact ⟨_, _, rfl⟩
    · exact ⟨k.counters, _, rfl⟩

/-- Putting back a core whose uncorrectable words are as they were, and whose readers found none, changes it alone, and the count of correctable words. -/
theorem State.setCore_unfound {s : State} {c : Nat} {k : Core} (found : k.found = (s.core c).found) (ue : (s.core c).ue = k.ue)
    (iue : (s.core c).iue = k.iue) : ∃ tot, s.setCore c k = { s with totals := tot, cores := Tab.write s.cores Core.reset c (s.stored c k) } := by
  have count : ∃ tot, (if (s.stored c k).counter 15 - (s.core c).counter 15 = 0 then s
      else s.addTotal 1 ((s.stored c k).counter 15 - (s.core c).counter 15)) = { s with totals := tot } := by
    split
    · exact ⟨s.totals, rfl⟩
    · exact ⟨_, rfl⟩
  obtain ⟨tot, counted⟩ := count
  refine ⟨tot, ?_⟩
  unfold State.setCore
  dsimp only
  rw [counted, found, List.drop_length, State.forgetUe, if_pos ⟨ue, iue⟩]
  rfl

/-- A core declared lost: a fault is counted, its slots are empty, and it is OFF. -/
theorem State.declareLost_claim {s : State} {f li : Nat} (hf : f < 72) (here : ((Claims.cis s f).slot li).lost = false) (reason : Nat) :
    (∃ ctr m, (s.declareLost f li reason).core (coreId f li) =
      { (s.core (coreId f li)).declaredLost (repairEntry f (li / 32) (s.physCol f (li / 32) (li % 32))) s.tstamp with counters := ctr, mark := m }) ∧
    (∀ c, c ≠ coreId f li → (s.declareLost f li reason).core c = s.core c) ∧
    (Claims.cis (s.declareLost f li reason) f).slot li = { CoreSlot.idle with lost := true } ∧
    (s.declareLost f li reason).faultCount = (s.faultCount + 1) % 2 ^ 32 := by
  unfold State.declareLost
  extract_lets c x row info fault s1 lostSlot s2 s3 ns
  have h2 : State.Stepped f s s2 ((Claims.cis s f).setSlot li { CoreSlot.idle with lost := true }) ((s.faultCount + 1) % 2 ^ 32) :=
    ((State.Stepped.refl f s).report hf _).modCis fun c => c.setSlot li { CoreSlot.idle with lost := true }
  have core2 : ∀ i, (s2.dropWaits c).core i = s.core i := h2.core
  obtain ⟨tot, put⟩ := State.setCore_unfound (s := s2.dropWaits c) (c := c)
    (k := ((s2.dropWaits c).core c).declaredLost (repairEntry f row (s.physCol f row (li % 32))) s.tstamp) rfl rfl rfl
  have h3 : State.Stepped f s3 s3 ((Claims.cis s f).setSlot li { CoreSlot.idle with lost := true }) ((s.faultCount + 1) % 2 ^ 32) := by
    have same := s2.stepped_dropWaits c f
    rw [Claims.cis, h2.cis, h2.faults] at same
    have is : s3 = _ := put
    rw [is]
    exact ⟨same.cis, fun _ _ => rfl, rfl, rfl, rfl, rfl, same.faults, fun _ => ⟨rfl, rfl⟩⟩
  have core3 : ∀ i, s3.core i = if i = c then (s2.dropWaits c).stored c (((s2.dropWaits c).core c).declaredLost
      (repairEntry f row (s.physCol f row (li % 32))) s.tstamp) else (s2.dropWaits c).core i := fun i => (s2.dropWaits c).core_setCore c i _
  obtain ⟨c4, h4, slots4⟩ := h3.failNodes 0x3153 ns
  obtain ⟨c5, h5, slots5⟩ := h4.restartNodes ns
  rw [if_neg (by rw [show x.lost = false from here]; exact Bool.noConfusion)]
  generalize ns.foldl _ _ = u at h5
  obtain ⟨ps, ports, rd, idle⟩ := u.idleCheckOf_frame f
  rw [idle]
  have cis : (u.field f).cis = c5 := h5.cis
  obtain ⟨ctr, m, frame⟩ := (s2.dropWaits c).stored_frame c
    (((s2.dropWaits c).core c).declaredLost (repairEntry f row (s.physCol f row (li % 32))) s.tstamp)
  refine ⟨⟨ctr, m, ?_⟩, fun i other => ?_, ?_, h5.faults⟩
  · change u.core c = _
    rw [h5.core, core3, if_pos rfl, frame, core2]
    rfl
  · change u.core i = _
    rw [h5.core, core3, if_neg other, core2]
  · change (u.field f).cis.slot li = _
    rw [cis, slots5, slots4, Cistern.slot_setSlot, if_pos rfl]

/-- The two ways in which a field finds a core lost: no answer to an abort, and a bus error. -/
theorem exec_declaresLost {s : State} {f li : Nat} {i : Instr} (hf : f < 72) (small : li < 1280)
    (finds : (i = .abortNoAnswer f li ∧ ∃ m, ((Claims.cis s f).slot li).aborting = some m ∧ m + 2048 ≤ (s.field f).clk.halfCclk) ∨
      i = .coreLost (coreId f li) 1 ∧ coreId f li < nCores) (on : (s.field f).clk.cd = .on) :
    ∃ reason, exec i s = .next (s.declareLost f li reason) := by
  rcases finds with ⟨rfl, m, aborting, late⟩ | ⟨rfl, small'⟩
  · refine ⟨2, ?_⟩
    change execAbortNoAnswer f li s = _
    rw [execAbortNoAnswer, onField, if_pos (by exact hf)]
    rw [show ((s.field f).cis.slot li).aborting = some m from aborting]
    dsimp only
    rw [if_pos ⟨late, on⟩]
  · refine ⟨1, ?_⟩
    change execCoreLost (coreId f li) 1 s = _
    rw [execCoreLost, onCore, if_pos small', fieldOf_coreId small, localOf_coreId small, if_pos ⟨.inl rfl, on⟩]

theorem coreLost_claim {s : State} {f li : Nat} {i : Instr} (hf : f < 72) (small : li < 1280)
    (finds : (i = .abortNoAnswer f li ∧ ∃ m, ((Claims.cis s f).slot li).aborting = some m ∧ m + 2048 ≤ (s.field f).clk.halfCclk) ∨
      i = .coreLost (coreId f li) 1 ∧ coreId f li < nCores) (on : (s.field f).clk.cd = .on) (here : ((Claims.cis s f).slot li).lost = false) :
    ∃ t, exec i s = .next t ∧ (t.core (coreId f li)).run = .off ∧ (t.core (coreId f li)).lost = true ∧
      (t.core (coreId f li)).autoAdd = some (f * 2 ^ 16 + li / 32 * 2 ^ 8 + s.physCol f (li / 32) (li % 32)) ∧ (t.core (coreId f li)).staged = none ∧
      (t.core (coreId f li)).sram = (s.core (coreId f li)).sram ∧ (t.core (coreId f li)).nif = (s.core (coreId f li)).nif ∧
      (∀ c', c' ≠ coreId f li → t.core c' = s.core c') ∧ (Claims.cis t f).slot li = { CoreSlot.idle with lost := true } ∧
      (Claims.cis t f).idleCore li = false ∧ t.faultCount = (s.faultCount + 1) % 2 ^ 32 := by
  obtain ⟨reason, run⟩ := exec_declaresLost hf small finds on
  obtain ⟨⟨ctr, m, core⟩, others, slot, count⟩ := State.declareLost_claim hf here reason
  refine ⟨_, run, ?_⟩
  rw [core, Cistern.idleCore, slot]
  exact ⟨rfl, rfl, by simp only [Core.declaredLost, repairEntry, Nat.shiftLeft_eq], rfl, rfl, rfl, others, rfl, rfl, count⟩

/-- Settles O24: a withdrawal answered, a watchdog run out, and a core lost in either of two ways. -/
theorem withdrawalAndLoss : Obligations.WithdrawalAndLoss := by
  unfold Obligations.WithdrawalAndLoss Claims.WithdrawalAndLoss
  rintro s f n li k c hf small rfl
  refine ⟨fun p here src dst bus body of task held runs => withdrawAnswer_claim small here src dst bus body of task held runs,
    fun m on set runs core due => ?_, fun i finds on here => coreLost_claim hf small finds on here⟩
  subst core
  exact taskWatchdog_claim hf on set runs due

end Sys2Proof.Machine
end

section
/-! PROOFS. A core that issues an instruction: what the state after it is, case by case of what issuing comes to (R123, R144, R151, R519). -/

namespace Sys2Proof.Machine

/-! ### What issuing comes to -/

section
variable {s : State} {c w : Nat} {op : CoreOp} {run : State → Core → Nat → Issue}

theorem Issues.stalls (h : Issues s c w op) (ran : run s (s.core c) w = .stall) : issue op c s run = .next s := by
  rw [issue_runs op c s run w h.core h.may h.fetched h.decoded h.clean, ran]

theorem Issues.traps {k : Core} {cause addr : Nat} (h : Issues s c w op) (ran : run s (s.core c) w = .trap k cause addr) :
    issue op c s run = .next (s.trapCore c cause (s.core c).pc addr k) := by
  rw [issue_runs op c s run w h.core h.may h.fetched h.decoded h.clean, ran]

theorem Issues.completes {k : Core} {out : List Packet} (h : Issues s c w op) (ran : run s (s.core c) w = .done k out) :
    issue op c s run = .next ((s.setCore c (k.addCounter 6 1)).inject out) := by
  rw [issue_runs op c s run w h.core h.may h.fetched h.decoded h.clean, ran]

theorem Issues.sleeps {k : Core} {out : List Packet} (h : Issues s c w op) (ran : run s (s.core c) w = .sleep k out) :
    issue op c s run = .next ((s.setCore c k).inject out) := by
  rw [issue_runs op c s run w h.core h.may h.fetched h.decoded h.clean, ran]

/-- A program counter that fetches a word lies in the instruction store (R132). -/
theorem Issues.pc_lt (h : Issues s c w op) : (s.core c).pc + 4 < 2 ^ 32 := by
  have fetched := h.fetched
  unfold Core.fetch at fetched
  split at fetched
  · cases fetched
  · next inside =>
    unfold istoreBase istoreSize at inside
    omega

/-- A core that may issue runs a task that has no end pending and no refusal to deliver. -/
theorem Issues.runs (h : Issues s c w op) : (s.core c).run = .run := by
  have may := h.may
  simp only [State.canIssue, Bool.and_eq_true, decide_eq_true_eq] at may
  obtain ⟨⟨⟨⟨running, -⟩, -⟩, -⟩, -⟩ := may
  exact running

end

/-! ### Registers that queued instructions are to write (R123) -/

theorem whenFree_of_free {k : Core} {rs : List Nat} (h : k.free rs) (r : Issue) : whenFree k rs r = r :=
  if_pos (List.all_eq_true.mpr h)

theorem whenFree_of_not_free {k : Core} {rs : List Nat} (h : ¬ k.free rs) (r : Issue) : whenFree k rs r = .stall :=
  if_neg fun all => h (List.all_eq_true.mp all)

theorem Core.free_of_idle {k : Core} (idle : k.uq = []) (rs : List Nat) : k.free rs := fun r _ => by
  rw [Core.sregFree, idle]
  rfl

/-! ### The core put back -/

/-- What putting a core back looks at beyond the core itself: its run state, its uncorrectable words and what its readers found. -/
structure Core.Keeps (old k : Core) : Prop where
  run : k.run = old.run
  found : k.found = old.found
  ue : k.ue = old.ue
  iue : k.iue = old.iue

theorem Core.Keeps.refl (k : Core) : k.Keeps k := ⟨rfl, rfl, rfl, rfl⟩

theorem Core.Keeps.trans {k k1 k2 : Core} (h : k.Keeps k1) (h' : k1.Keeps k2) : k.Keeps k2 :=
  ⟨h'.run.trans h.run, h'.found.trans h.found, h'.ue.trans h.ue, h'.iue.trans h.iue⟩

section
variable {s : State} {c : Nat} {k : Core}

theorem State.core_setCore_keeps (h : (s.core c).Keeps k) : (s.setCore c k).core c = k := by
  rw [State.core_setCore, if_pos rfl, State.stored_same s c k h.run h.found]

theorem State.core_setCore_other (c' : Nat) (other : c' ≠ c) : (s.setCore c k).core c' = s.core c' := by
  rw [State.core_setCore, if_neg other]

/-- Correctable words are met, or not: only the core and the totals differ. -/
theorem State.onlyCoreTotals_setCore (h : (s.core c).Keeps k) : OnlyCoreTotals s (s.setCore c k) c := by
  obtain ⟨tot, put⟩ := State.setCore_unfound (s := s) (c := c) (k := k) h.found h.ue.symm h.iue.symm
  exact ⟨by rw [put], fun c' other => State.core_setCore_other c' other⟩

/-- No correctable word is met: only the core differs. -/
theorem State.onlyCore_setCore (h : (s.core c).Keeps k) (unmet : k.counter 15 = (s.core c).counter 15) : OnlyCore s (s.setCore c k) c :=
  ⟨by rw [State.setCore_quiet s c k h.run unmet h.found h.ue h.iue], fun c' other => State.core_setCore_other c' other⟩

end

/-- Only the six counters of time change with a change of the run state (R519). -/
theorem State.counter_stored (s : State) (c : Nat) (k : Core) {i : Nat} (other : 5 < i) : (s.stored c k).counter i = k.counter i := by
  unfold State.stored
  dsimp only
  split
  · rfl
  · split
    next j timed =>
      have small : j ≤ 5 := by
        unfold RunState.counter at timed
        split at timed <;> simp_all <;> omega
      exact (Core.counter_addCounter k j i _).trans (if_neg (by omega))
    next => rfl

/-- The same of a core that may have changed its run state. -/
theorem State.onlyCore_setCore_stored {s : State} {c : Nat} {k : Core} (found : k.found = (s.core c).found) (ue : k.ue = (s.core c).ue)
    (iue : k.iue = (s.core c).iue) (unmet : k.counter 15 = (s.core c).counter 15) :
    OnlyCore s (s.setCore c k) c ∧ (s.setCore c k).core c = s.stored c k := by
  have none : (s.stored c k).counter 15 - (s.core c).counter 15 = 0 := by rw [State.counter_stored s c k (by decide), unmet, Nat.sub_self]
  refine ⟨⟨?_, fun c' other => State.core_setCore_other c' other⟩, by rw [State.core_setCore, if_pos rfl]⟩
  unfold State.setCore
  dsimp only
  rw [none, if_pos rfl, found, List.drop_length, State.forgetUe, if_pos ⟨ue.symm, iue.symm⟩]
  rfl

/-! ### An instruction that completes -/

section
variable {s : State} {c w : Nat} {op : CoreOp} {run : State → Core → Nat → Issue} {k : Core}

theorem Core.Keeps.counted {old : Core} (h : old.Keeps k) (i n : Nat) : old.Keeps (k.addCounter i n) := ⟨h.run, h.found, h.ue, h.iue⟩
theorem Core.Keeps.goto {old : Core} (h : old.Keeps k) (pc : Nat) : old.Keeps (k.goto pc) := ⟨h.run, h.found, h.ue, h.iue⟩

/-- It has met no correctable word and sends nothing. -/
theorem Issues.onlyCore (h : Issues s c w op) (keeps : (s.core c).Keeps k) (unmet : k.counter 15 = (s.core c).counter 15)
    (ran : run s (s.core c) w = .done k []) :
    ∃ t, issue op c s run = .next t ∧ OnlyCore s t c ∧ t.core c = k.addCounter 6 1 := by
  refine ⟨_, h.completes ran, ?_, ?_⟩
  · rw [State.inject_nil]
    exact State.onlyCore_setCore (keeps.counted 6 1) ((Core.counter_addCounter k 6 15 1).trans unmet)
  · rw [State.inject_nil]
    exact State.core_setCore_keeps (keeps.counted 6 1)

/-- It may have met correctable words, and sends nothing. -/
theorem Issues.onlyCoreTotals (h : Issues s c w op) (keeps : (s.core c).Keeps k) (ran : run s (s.core c) w = .done k []) :
    ∃ t, issue op c s run = .next t ∧ OnlyCoreTotals s t c ∧ t.core c = k.addCounter 6 1 := by
  refine ⟨_, h.completes ran, ?_, ?_⟩
  · rw [State.inject_nil]
    exact State.onlyCoreTotals_setCore (keeps.counted 6 1)
  · rw [State.inject_nil]
    exact State.core_setCore_keeps (keeps.counted 6 1)

/-- An instruction that only goes on to `pc`, and one that goes on to the next. -/
theorem Core.goto_counted (k : Core) (pc : Nat) : (k.goto pc).addCounter 6 1 = k.issued (pc % 2 ^ 32) := rfl

theorem Issues.advance_counted (h : Issues s c w op) (pc : k.pc = (s.core c).pc) : k.advance.addCounter 6 1 = k.issued ((s.core c).pc + 4) := by
  rw [Core.advance, Core.goto_counted, pc, Nat.mod_eq_of_lt h.pc_lt]

/-- It goes on to the next instruction, and has met no correctable word. -/
theorem Issues.advances (h : Issues s c w op) (keeps : (s.core c).Keeps k) (pc : k.pc = (s.core c).pc)
    (unmet : k.counter 15 = (s.core c).counter 15) (ran : run s (s.core c) w = .done k.advance []) :
    ∃ t, issue op c s run = .next t ∧ OnlyCore s t c ∧ t.core c = k.issued ((s.core c).pc + 4) := by
  obtain ⟨t, issued, only, core⟩ := h.onlyCore (keeps.goto _) unmet ran
  exact ⟨t, issued, only, core.trans (h.advance_counted pc)⟩

/-- It goes on to the next instruction, and may have met correctable words. -/
theorem Issues.advancesTotals (h : Issues s c w op) (keeps : (s.core c).Keeps k) (pc : k.pc = (s.core c).pc)
    (ran : run s (s.core c) w = .done k.advance []) :
    ∃ t, issue op c s run = .next t ∧ OnlyCoreTotals s t c ∧ t.core c = k.issued ((s.core c).pc + 4) := by
  obtain ⟨t, issued, only, core⟩ := h.onlyCoreTotals (keeps.goto _) ran
  exact ⟨t, issued, only, core.trans (h.advance_counted pc)⟩

/-- It goes on to the next instruction and sends packets, and has met no correctable word. -/
theorem Issues.advancesSending {out : List Packet} (h : Issues s c w op) (keeps : (s.core c).Keeps k) (pc : k.pc = (s.core c).pc)
    (unmet : k.counter 15 = (s.core c).counter 15) (ran : run s (s.core c) w = .done k.advance out) :
    ∃ t, issue op c s run = .next t ∧ t = { s with cores := t.cores, net := t.net } ∧ (∀ c', c' ≠ c → t.core c' = s.core c') ∧
      t.core c = k.issued ((s.core c).pc + 4) ∧ t.net = s.net ++ out.map (fun p => { p with at' := s.tstamp }) := by
  have keeps' := (keeps.goto (k.pc + 4)).counted 6 1
  have issued := h.completes ran
  have put := State.setCore_quiet s c (k.advance.addCounter 6 1) keeps'.run ((Core.counter_addCounter k 6 15 1).trans unmet) keeps'.found keeps'.ue keeps'.iue
  have core : (s.setCore c (k.advance.addCounter 6 1)).core c = k.advance.addCounter 6 1 := State.core_setCore_keeps keeps'
  have others := State.core_setCore_other (s := s) (c := c) (k := k.advance.addCounter 6 1)
  rw [put] at issued core others
  exact ⟨_, issued, rfl, others, core.trans (h.advance_counted pc), rfl⟩

/-- It sleeps at the instruction, in another run state, and sends nothing. -/
theorem Issues.fallsAsleep (h : Issues s c w op) (found : k.found = (s.core c).found) (ue : k.ue = (s.core c).ue) (iue : k.iue = (s.core c).iue)
    (unmet : k.counter 15 = (s.core c).counter 15) (ran : run s (s.core c) w = .sleep k []) :
    ∃ t, issue op c s run = .next t ∧ OnlyCore s t c ∧ t.core c = s.stored c k := by
  obtain ⟨only, core⟩ := State.onlyCore_setCore_stored found ue iue unmet
  refine ⟨_, h.sleeps ran, ?_, ?_⟩
  · rw [State.inject_nil]
    exact only
  · rw [State.inject_nil]
    exact core

theorem Core.counter_issued (k : Core) (pc i : Nat) : (k.issued pc).counter i = if i = 6 then k.counter 6 + 1 else k.counter i :=
  Tab.read_write k.counters 0 (k.counter 6 + 1) 6 i

end

end Sys2Proof.Machine
end

section
/-! PROOFS. O1: scalar instructions, branches and jumps (R156 to R160). -/

namespace Sys2Proof.Machine

/-! ### Words and the natural numbers that stand for them -/

theorem Core.sreg_eq_toNat (k : Core) (n : Nat) : k.sreg n = (k.reg n).toNat := by
  have small : k.sreg n < 2 ^ 32 := by
    unfold Core.sreg
    split
    · decide
    · exact (Tab.read k.regs.s 0 n).isLt
  rw [Core.reg, BitVec.toNat_ofNat, Nat.mod_eq_of_lt small]

theorem ofNat_toNat (a : Word) : BitVec.ofNat 32 a.toNat = a := BitVec.eq_of_toNat_eq (by rw [BitVec.toNat_ofNat, Nat.mod_eq_of_lt a.isLt])

/-- The signed value of the low bits, as of a word of that many bits. -/
theorem signed_eq_toInt {n : Nat} (pos : 0 < n) (v : Nat) : signed n v = (BitVec.ofNat n v).toInt := by
  obtain ⟨m, rfl⟩ : ∃ m, n = m + 1 := ⟨n - 1, by omega⟩
  rw [BitVec.toInt_eq_toNat_cond, BitVec.toNat_ofNat]
  simp only [signed, Nat.add_sub_cancel, pow_succ, Int.natCast_pow, Int.natCast_mul, Nat.cast_ofNat]
  split <;> split <;> omega

theorem signed_toNat (a : Word) : signed 32 a.toNat = a.toInt := by
  rw [signed_eq_toInt (by decide), ofNat_toNat]

theorem ofNat_wrap (x : Int) : BitVec.ofNat 32 (wrap 32 x) = BitVec.ofInt 32 x := by
  apply BitVec.eq_of_toNat_eq
  rw [BitVec.toNat_ofNat, BitVec.toNat_ofInt, wrap]
  omega

theorem wrap_lt (x : Int) : wrap 32 x < 2 ^ 32 := by
  unfold wrap
  omega

theorem wrap_eq_toNat (x : Int) : wrap 32 x = (BitVec.ofInt 32 x).toNat := by
  rw [← ofNat_wrap, BitVec.toNat_ofNat, Nat.mod_eq_of_lt (wrap_lt x)]

/-- A whole number congruent to that of a word stands for the word. -/
theorem ofInt_toNat (a : Word) : BitVec.ofInt 32 (a.toNat : Int) = a := by
  rw [BitVec.ofInt_natCast, ofNat_toNat]

/-! ### Results of the arithmetic, on words (R156, R157) -/

theorem sltW_toNat (a b : Word) : sltW a.toNat b.toNat = decide (a.toInt < b.toInt) := by
  rw [sltW, signed_toNat, signed_toNat]

theorem ofNat_b2n (P : Prop) [Decidable P] : BitVec.ofNat 32 (b2n (decide P)) = if P then 1 else 0 := by
  by_cases h : P
  · simp [h, b2n]
  · simp [h, b2n]

theorem ofNat_ite (P : Prop) [Decidable P] (a b : Word) : BitVec.ofNat 32 (if P then a.toNat else b.toNat) = if P then a else b := by
  rw [apply_ite (BitVec.ofNat 32), ofNat_toNat, ofNat_toNat]

theorem ofNat_sub_wrapped (a b : Word) : BitVec.ofNat 32 (a.toNat + 2 ^ 32 - b.toNat) = a - b := by
  apply BitVec.eq_of_toNat_eq
  rw [BitVec.toNat_ofNat, BitVec.toNat_sub]
  omega

theorem ofNat_sraW (a : Word) (n : Nat) : BitVec.ofNat 32 (sraW a.toNat n) = a.sshiftRight n := by
  rw [sraW, ofNat_wrap, signed_toNat, BitVec.sshiftRight, Int.shiftRight_eq_div_pow]
  rfl

theorem ofNat_shiftLeft (a : Word) (n : Nat) : BitVec.ofNat 32 (a.toNat <<< n) = a <<< n :=
  BitVec.eq_of_toNat_eq (by rw [BitVec.toNat_ofNat, BitVec.toNat_shiftLeft])

theorem ofNat_shiftRight (a : Word) (n : Nat) : BitVec.ofNat 32 (a.toNat >>> n) = a >>> n := by
  rw [← BitVec.toNat_ushiftRight, ofNat_toNat]

theorem ofNat_minMaxW (fn : Nat) (a b : Word) : BitVec.ofNat 32 (minMaxW fn a.toNat b.toNat) =
    if fn = 0x0B then (if a.toInt < b.toInt then a else b) else if fn = 0x0C then (if a.toInt < b.toInt then b else a)
    else if fn = 0x0D then (if a.toNat < b.toNat then a else b) else (if a.toNat < b.toNat then b else a) := by
  unfold minMaxW
  simp only [sltW_toNat, decide_eq_true_eq]
  split
  next => exact ofNat_ite ..
  next => exact ofNat_ite ..
  next => exact ofNat_ite ..
  next notMin notMax notMinu => rw [ofNat_ite, if_neg notMin, if_neg notMax, if_neg notMinu]

/-- The high word of a signed product. -/
theorem ofNat_mulh (a b : Word) : BitVec.ofNat 32 (wrap 32 (signed 32 a.toNat * signed 32 b.toNat / 2 ^ 32)) =
    (a.signExtend 64 * b.signExtend 64).extractLsb' 32 32 := by
  rw [ofNat_wrap, signed_toNat, signed_toNat, BitVec.signExtend, BitVec.signExtend, ← BitVec.ofInt_mul]
  generalize a.toInt * b.toInt = x
  apply BitVec.eq_of_toNat_eq
  rw [BitVec.extractLsb'_toNat, BitVec.toNat_ofInt, BitVec.toNat_ofInt, Nat.shiftRight_eq_div_pow]
  omega

/-- The high word of an unsigned product. -/
theorem ofNat_mulhu (a b : Word) : BitVec.ofNat 32 ((a.toNat * b.toNat) >>> 32) = (a.zeroExtend 64 * b.zeroExtend 64).extractLsb' 32 32 := by
  have small : a.toNat * b.toNat < 2 ^ 32 * 2 ^ 32 := Nat.mul_lt_mul'' a.isLt b.isLt
  apply BitVec.eq_of_toNat_eq
  rw [BitVec.extractLsb'_toNat, BitVec.toNat_mul, BitVec.toNat_setWidth, BitVec.toNat_setWidth, BitVec.toNat_ofNat,
    Nat.mod_eq_of_lt (Nat.lt_trans a.isLt (by decide)), Nat.mod_eq_of_lt (Nat.lt_trans b.isLt (by decide)), Nat.mod_eq_of_lt (b := 2 ^ 64) (by omega)]

theorem toNat_eq_iff (a : Word) (n : Nat) (small : n < 2 ^ 32) : a.toNat = n ↔ a = BitVec.ofNat 32 n := by
  rw [← BitVec.toNat_inj, BitVec.toNat_ofNat, Nat.mod_eq_of_lt small]

theorem toNat_eq_zero_iff (a : Word) : a.toNat = 0 ↔ a = 0 := toNat_eq_iff a 0 (by decide)

theorem overflows_iff (a b : Word) : a.toNat = 0x80000000 ∧ b.toNat = 0xFFFFFFFF ↔ a = 0x80000000 ∧ b = 0xFFFFFFFF :=
  and_congr (toNat_eq_iff a _ (by decide)) (toNat_eq_iff b _ (by decide))

/-- Signed division, 0x80000000 by −1 included: the quotient there is 2^31, which is 0x80000000 as a word. -/
theorem ofNat_divW (a b : Word) : BitVec.ofNat 32 (divW a.toNat b.toNat) = if b = 0 then BitVec.allOnes 32 else a.sdiv b := by
  simp only [divW, toNat_eq_zero_iff, overflows_iff]
  by_cases zero : b = 0
  · rw [if_pos zero, if_pos zero]
    rfl
  · rw [if_neg zero, if_neg zero]
    split
    next overflow =>
      rw [overflow.1, overflow.2]
      decide
    next =>
      rw [ofNat_wrap, signed_toNat, signed_toNat]
      apply BitVec.eq_of_toInt_eq
      rw [BitVec.toInt_sdiv, BitVec.toInt_ofInt]

theorem ofNat_remW (a b : Word) : BitVec.ofNat 32 (remW a.toNat b.toNat) = if b = 0 then a else a.srem b := by
  simp only [remW, toNat_eq_zero_iff, overflows_iff]
  by_cases zero : b = 0
  · rw [if_pos zero, if_pos zero, ofNat_toNat]
  · rw [if_neg zero, if_neg zero]
    split
    next overflow =>
      rw [overflow.1, overflow.2]
      decide
    next => rw [ofNat_wrap, signed_toNat, signed_toNat, ← BitVec.toInt_srem, BitVec.ofInt_toInt]

theorem ofNat_divuW (a b : Word) : BitVec.ofNat 32 (divuW a.toNat b.toNat) = if b = 0 then BitVec.allOnes 32 else a / b := by
  simp only [divuW, toNat_eq_zero_iff]
  by_cases zero : b = 0
  · rw [if_pos zero, if_pos zero]
    rfl
  · rw [if_neg zero, if_neg zero, ← BitVec.toNat_udiv, ofNat_toNat]

theorem ofNat_remuW (a b : Word) : BitVec.ofNat 32 (remuW a.toNat b.toNat) = if b = 0 then a else a % b := by
  simp only [remuW, toNat_eq_zero_iff, ← BitVec.toNat_umod]
  exact ofNat_ite ..

theorem ofNat_divRemW (fn : Nat) (a b : Word) : BitVec.ofNat 32 (divRemW fn a.toNat b.toNat) =
    if fn = 0x14 then (if b = 0 then BitVec.allOnes 32 else a.sdiv b)
    else if fn = 0x15 then (if b = 0 then BitVec.allOnes 32 else a / b)
    else if fn = 0x16 then (if b = 0 then a else a.srem b) else (if b = 0 then a else a % b) := by
  unfold divRemW
  split
  next => exact ofNat_divW a b
  next => exact ofNat_divuW a b
  next => exact ofNat_remW a b
  next notDiv notDivu notRem => rw [if_neg notDiv, if_neg notDivu, if_neg notRem, ofNat_remuW]

/-- The leading zeros of a word are the bits above its highest set one. -/
theorem clzW_toNat (a : Word) : clzW a.toNat = (List.range 32).findIdx (fun i => a.getLsbD (31 - i)) := by
  symm
  unfold clzW clzW.bitLen32
  rw [Nat.mod_eq_of_lt a.isLt]
  split
  next zero =>
    rw [show a = 0 from BitVec.eq_of_toNat_eq zero]
    decide
  next nonzero =>
    have high : Nat.log2 a.toNat < 32 := (Nat.log2_lt nonzero).mpr a.isLt
    rw [List.findIdx_eq (by rw [List.length_range]; omega)]
    refine ⟨?_, fun j before => ?_⟩
    · rw [List.getElem_range, show 31 - (32 - (Nat.log2 a.toNat + 1)) = Nat.log2 a.toNat by omega]
      exact Nat.testBit_log2 nonzero
    · rw [List.getElem_range]
      exact Nat.testBit_lt_two_pow (Nat.lt_of_lt_of_le Nat.lt_log2_self (Nat.pow_le_pow_right (by decide) (by omega)))

theorem popW_toNat (a : Word) : popW a.toNat = (List.range 32).countP (fun i => a.getLsbD i) := by
  rw [List.countP_eq_length_filter]
  rfl

/-! ### Immediates (R158) -/

theorem ofNat_sext16 (i : Nat) : BitVec.ofNat 32 (sext16 i) = (BitVec.ofNat 16 i).signExtend 32 := by
  rw [sext16, ofNat_wrap, signed_eq_toInt (by decide), BitVec.signExtend]

theorem sext16_imm16 (w : Nat) : sext16 (imm16 w) = (Claims.simm w).toNat := by
  rw [sext16, wrap_eq_toNat, signed_eq_toInt (by decide), imm16, Claims.simm, BitVec.signExtend,
    show BitVec.ofNat 16 (w % 65536) = BitVec.ofNat 16 w from BitVec.eq_of_toNat_eq (by simp)]

theorem imm16_eq_toNat (w : Nat) : imm16 w = (Claims.uimm w).toNat := by
  rw [Claims.uimm, BitVec.toNat_ofNat, imm16]
  omega

theorem bits_imm16 (w hi lo : Nat) (low : hi < 16) : bits (imm16 w) hi lo = bits w hi lo := by
  apply Nat.eq_of_testBit_eq
  intro i
  simp only [bits, imm16, Nat.testBit_mod_two_pow, Nat.testBit_shiftRight, show (65536 : Nat) = 2 ^ 16 from rfl]
  by_cases h : i < hi + 1 - lo
  · simp [show lo + i < 16 by omega]
  · simp [h]

theorem bits_lt (v hi lo : Nat) : bits v hi lo < 2 ^ (hi + 1 - lo) := Nat.mod_lt _ (Nat.two_pow_pos _)

theorem ofNat_shiW (w : Nat) (a : Word) : BitVec.ofNat 32 (shiW a.toNat (imm16 w)) =
    if bits w 15 14 = 0 then a <<< bits w 4 0 else if bits w 15 14 = 1 then a >>> bits w 4 0 else a.sshiftRight (bits w 4 0) := by
  unfold shiW
  rw [bits_imm16 w 15 14 (by decide), bits_imm16 w 4 0 (by decide)]
  split
  next left => rw [if_pos left, ofNat_shiftLeft]
  next right => rw [right, if_neg (by decide), if_pos rfl, ofNat_shiftRight]
  next notLeft notRight => rw [if_neg notLeft, if_neg notRight, ofNat_sraW]

/-! ### Registers after a write -/

/-- A write to a scalar register changes the scalar registers alone. -/
theorem Core.reg_setS (k : Core) (n m v : Nat) : (k.setS n v).reg m = if m = n ∧ n ≠ 0 then BitVec.ofNat 32 v else k.reg m := by
  simp only [Core.reg, Core.sreg_setS, apply_ite (BitVec.ofNat 32)]
  congr 1
  exact BitVec.eq_of_toNat_eq (by simp)

theorem Core.reg_zero (k : Core) : k.reg 0 = 0 := rfl

theorem Core.Keeps.setS {old k : Core} (h : old.Keeps k) (n v : Nat) : old.Keeps (k.setS n v) := by
  rw [Core.setS_fields]
  exact ⟨h.run, h.found, h.ue, h.iue⟩

theorem Core.counter_setS (k : Core) (n v i : Nat) : (k.setS n v).counter i = k.counter i := by
  rw [Core.setS_fields]
  rfl

/-- `k` with other scalar registers. -/
def Core.withS (k : Core) (x : Tab Word) : Core := { k with regs := { k.regs with s := x } }

theorem Core.setS_withS (k : Core) (n v : Nat) : k.setS n v = k.withS (k.setS n v).regs.s := Core.setS_fields k n v

theorem Core.okNext_setS (k : Core) (n v : Nat) : (k.setS n v).okNext = .done ((k.setS n v).goto (k.pc + 4)) [] := by
  rw [Core.okNext, Core.advance, Core.setS_withS]
  rfl

/-! ### Scalar instructions as they issue (R156 to R160) -/

section
variable {s : State} {c w : Nat} {op : CoreOp} {run : State → Core → Nat → Issue}

/-- An instruction that writes `v` to one register and goes on to `pc`. -/
theorem Issues.writesRegister {d v pc : Nat} (h : Issues s c w op) (small : pc < 2 ^ 32)
    (ran : run s (s.core c) w = .done (((s.core c).setS d v).goto pc) []) :
    ∃ t, issue op c s run = .next t ∧ OnlyCore s t c ∧
      t.core c = { (s.core c).issued pc with regs := { (s.core c).regs with s := (t.core c).regs.s } } ∧
      ∀ n, (t.core c).reg n = if n = d ∧ n ≠ 0 then BitVec.ofNat 32 v else (s.core c).reg n := by
  obtain ⟨t, issued, only, core⟩ := h.onlyCore (((Core.Keeps.refl _).setS d v).goto pc) (Core.counter_setS _ d v 15) ran
  refine ⟨t, issued, only, ?_, fun n => ?_⟩
  · rw [core, Core.goto_counted, Core.setS_fields, Nat.mod_eq_of_lt small]
    rfl
  · rw [core]
    refine (Core.reg_setS _ d n v).trans (if_congr ?_ rfl rfl)
    exact and_congr_right fun same => by rw [same]

theorem issue_rr {f : Nat → Nat → Nat} {g : Word → Word → Word} (h : Issues s c w op) (free : (s.core c).free [aField w, bField w, dField w])
    (ran : run s (s.core c) w = rrOp f s (s.core c) w) (agrees : ∀ a b : Word, BitVec.ofNat 32 (f a.toNat b.toNat) = g a b) :
    ∃ t, issue op c s run = .next t ∧ OnlyCore s t c ∧
      t.core c = { (s.core c).issued ((s.core c).pc + 4) with regs := { (s.core c).regs with s := (t.core c).regs.s } } ∧
      ∀ n, (t.core c).reg n =
        if n = dField w ∧ n ≠ 0 then g ((s.core c).reg (aField w)) ((s.core c).reg (bField w)) else (s.core c).reg n := by
  rw [rrOp, whenFree_of_free free, Core.sreg_eq_toNat, Core.sreg_eq_toNat] at ran
  have wrote := h.writesRegister (d := dField w) h.pc_lt (ran.trans (Core.okNext_setS ..))
  rwa [agrees] at wrote

theorem issue_ri {f : Nat → Nat → Nat} {g : Word → Word} (h : Issues s c w op) (free : (s.core c).free [aField w, dField w])
    (ran : run s (s.core c) w = riOp f s (s.core c) w) (agrees : ∀ a : Word, BitVec.ofNat 32 (f a.toNat (imm16 w)) = g a) :
    ∃ t, issue op c s run = .next t ∧ OnlyCore s t c ∧
      t.core c = { (s.core c).issued ((s.core c).pc + 4) with regs := { (s.core c).regs with s := (t.core c).regs.s } } ∧
      ∀ n, (t.core c).reg n = if n = dField w ∧ n ≠ 0 then g ((s.core c).reg (aField w)) else (s.core c).reg n := by
  rw [riOp, whenFree_of_free free, Core.sreg_eq_toNat] at ran
  have wrote := h.writesRegister (d := dField w) h.pc_lt (ran.trans (Core.okNext_setS ..))
  rwa [agrees] at wrote

theorem issue_branch {f : Nat → Nat → Bool} {taken : Word → Word → Bool} (h : Issues s c w op) (free : (s.core c).free [dField w, aField w])
    (ran : run s (s.core c) w = brOp f s (s.core c) w) (agrees : ∀ a b : Word, f a.toNat b.toNat = taken a b) :
    ∃ t, issue op c s run = .next t ∧ OnlyCore s t c ∧
      t.core c = (s.core c).issued
        (if taken ((s.core c).reg (dField w)) ((s.core c).reg (aField w)) then
          (BitVec.ofNat 32 (s.core c).pc + (BitVec.ofNat 16 w).signExtend 32 * 4).toNat
        else (s.core c).pc + 4) := by
  have target : wrap 32 (((s.core c).pc : Int) + simm16 w * 4) =
      (BitVec.ofNat 32 (s.core c).pc + (BitVec.ofNat 16 w).signExtend 32 * 4).toNat := by
    rw [wrap_eq_toNat, BitVec.ofInt_add, BitVec.ofInt_mul, BitVec.ofInt_natCast, simm16, signed_eq_toInt (by decide), BitVec.signExtend]
    rfl
  rw [brOp, whenFree_of_free free, Core.sreg_eq_toNat, Core.sreg_eq_toNat, agrees, target] at ran
  cases way : taken ((s.core c).reg (dField w)) ((s.core c).reg (aField w)) with
  | true =>
    rw [way, if_pos rfl] at ran
    obtain ⟨t, issued, only, core⟩ := h.onlyCore ((Core.Keeps.refl _).goto _) rfl ran
    refine ⟨t, issued, only, ?_⟩
    rw [core, if_pos rfl, Core.goto_counted, Nat.mod_eq_of_lt (BitVec.isLt _)]
  | false =>
    rw [way, if_neg Bool.false_ne_true] at ran
    obtain ⟨t, issued, only, core⟩ := h.onlyCore ((Core.Keeps.refl _).goto _) rfl ran
    refine ⟨t, issued, only, ?_⟩
    rw [core, if_neg Bool.false_ne_true, Core.goto_counted, Nat.mod_eq_of_lt h.pc_lt]

end

/-- The address s(A) + IMM16 (R160, R161). -/
theorem wrap_sreg_simm16 (k : Core) (w n : Nat) : wrap 32 ((k.sreg n : Int) + simm16 w) = (k.reg n + Claims.simm w).toNat := by
  rw [wrap_eq_toNat, BitVec.ofInt_add, Core.sreg_eq_toNat, ofInt_toNat, simm16, signed_eq_toInt (by decide), Claims.simm, BitVec.signExtend]

theorem toNat_clear_low (a : Word) : a.toNat - a.toNat % 4 = (a &&& 0xFFFFFFFC).toNat := by
  have mask : a &&& (0xFFFFFFFC : Word) = (a >>> 2) <<< 2 := by
    have bit : ∀ i : Fin 32, (0xFFFFFFFC : Word).getLsbD i = decide (2 ≤ i.val) := by decide
    refine BitVec.eq_of_getLsbD_eq fun i small => ?_
    rw [BitVec.getLsbD_and, bit ⟨i, small⟩, BitVec.getLsbD_shiftLeft, BitVec.getLsbD_ushiftRight]
    by_cases low : i < 2
    · simp [low]
    · simp [small, low, show 2 ≤ i by omega, show 2 + (i - 2) = i by omega]
  rw [mask, BitVec.toNat_shiftLeft, BitVec.toNat_ushiftRight, Nat.shiftLeft_eq, Nat.shiftRight_eq_div_pow]
  have small := a.isLt
  omega

/-! ### Each instruction issues by the rule of its form, with its result on words -/

/-- An RR instruction (R156, R157). -/
def RunsRR (run : State → Core → Nat → Issue) (g : Nat → Word → Word → Word) : Prop :=
  ∀ s k w, ∃ f, run s k w = rrOp f s k w ∧ ∀ a b : Word, BitVec.ofNat 32 (f a.toNat b.toNat) = g (bits w 10 0) a b

/-- An RI instruction (R158). -/
def RunsRI (run : State → Core → Nat → Issue) (g : Nat → Word → Word) : Prop :=
  ∃ f, run = riOp f ∧ ∀ (w : Nat) (a : Word), BitVec.ofNat 32 (f a.toNat (imm16 w)) = g w a

/-- A branch (R159). -/
def RunsBranch (run : State → Core → Nat → Issue) (taken : Word → Word → Bool) : Prop :=
  ∃ f, run = brOp f ∧ ∀ a b : Word, f a.toNat b.toNat = taken a b

theorem exec_rr : ∀ e ∈ Claims.rr, ∃ run, RunsRR run e.2.2 ∧ ∀ c s, exec (e.1 c) s = issue e.2.1 c s run := by
  intro e mem
  simp only [Claims.rr, List.mem_cons, List.not_mem_nil, or_false] at mem
  rcases mem with rfl | rfl | rfl | rfl | rfl | rfl | rfl | rfl | rfl | rfl | rfl | rfl | rfl | rfl | rfl | rfl | rfl
  case _ => exact ⟨_, fun s k w => ⟨_, rfl, fun a b => by rw [BitVec.ofNat_add, ofNat_toNat, ofNat_toNat]⟩, fun c s => rfl⟩
  case _ => exact ⟨_, fun s k w => ⟨_, rfl, ofNat_sub_wrapped⟩, fun c s => rfl⟩
  case _ => exact ⟨_, fun s k w => ⟨_, rfl, fun a b => by rw [← BitVec.toNat_and, ofNat_toNat]⟩, fun c s => rfl⟩
  case _ => exact ⟨_, fun s k w => ⟨_, rfl, fun a b => by rw [← BitVec.toNat_or, ofNat_toNat]⟩, fun c s => rfl⟩
  case _ => exact ⟨_, fun s k w => ⟨_, rfl, fun a b => by rw [← BitVec.toNat_xor, ofNat_toNat]⟩, fun c s => rfl⟩
  case _ => exact ⟨_, fun s k w => ⟨_, rfl, fun a b => ofNat_shiftLeft a _⟩, fun c s => rfl⟩
  case _ => exact ⟨_, fun s k w => ⟨_, rfl, fun a b => ofNat_shiftRight a _⟩, fun c s => rfl⟩
  case _ => exact ⟨_, fun s k w => ⟨_, rfl, fun a b => ofNat_sraW a _⟩, fun c s => rfl⟩
  case _ => exact ⟨_, fun s k w => ⟨_, rfl, fun a b => by rw [sltW_toNat, ofNat_b2n]⟩, fun c s => rfl⟩
  case _ => exact ⟨_, fun s k w => ⟨_, rfl, fun a b => ofNat_b2n _⟩, fun c s => rfl⟩
  case _ => exact ⟨_, fun s k w => ⟨_, rfl, ofNat_minMaxW _⟩, fun c s => rfl⟩
  case _ => exact ⟨_, fun s k w => ⟨_, rfl, fun a b => by rw [BitVec.ofNat_mul, ofNat_toNat, ofNat_toNat]⟩, fun c s => rfl⟩
  case _ => exact ⟨_, fun s k w => ⟨_, rfl, ofNat_mulh⟩, fun c s => rfl⟩
  case _ => exact ⟨_, fun s k w => ⟨_, rfl, ofNat_mulhu⟩, fun c s => rfl⟩
  case _ => exact ⟨_, fun s k w => ⟨_, rfl, ofNat_divRemW _⟩, fun c s => rfl⟩
  case _ => exact ⟨_, fun s k w => ⟨_, rfl, fun a b => by rw [clzW_toNat]⟩, fun c s => rfl⟩
  case _ => exact ⟨_, fun s k w => ⟨_, rfl, fun a b => by rw [popW_toNat]⟩, fun c s => rfl⟩

theorem exec_ri : ∀ e ∈ Claims.ri, ∃ run, RunsRI run e.2.2 ∧ ∀ c s, exec (e.1 c) s = issue e.2.1 c s run := by
  intro e mem
  simp only [Claims.ri, List.mem_cons, List.not_mem_nil, or_false] at mem
  rcases mem with rfl | rfl | rfl | rfl | rfl | rfl | rfl | rfl
  case _ => exact ⟨_, ⟨_, rfl, fun w a => by rw [sext16_imm16, BitVec.ofNat_add, ofNat_toNat, ofNat_toNat]⟩, fun c s => rfl⟩
  case _ => exact ⟨_, ⟨_, rfl, fun w a => by rw [imm16_eq_toNat, ← BitVec.toNat_and, ofNat_toNat]⟩, fun c s => rfl⟩
  case _ => exact ⟨_, ⟨_, rfl, fun w a => by rw [imm16_eq_toNat, ← BitVec.toNat_or, ofNat_toNat]⟩, fun c s => rfl⟩
  case _ => exact ⟨_, ⟨_, rfl, fun w a => by rw [imm16_eq_toNat, ← BitVec.toNat_xor, ofNat_toNat]⟩, fun c s => rfl⟩
  case _ => exact ⟨_, ⟨_, rfl, ofNat_shiW⟩, fun c s => rfl⟩
  case _ => exact ⟨_, ⟨_, rfl, fun w a => by rw [sext16_imm16, sltW_toNat, ofNat_b2n]⟩, fun c s => rfl⟩
  case _ => exact ⟨_, ⟨_, rfl, fun w a => by rw [sext16_imm16, ofNat_b2n]⟩, fun c s => rfl⟩
  case _ => exact ⟨_, ⟨_, rfl, fun w a => by rw [imm16_eq_toNat, ofNat_shiftLeft]⟩, fun c s => rfl⟩

theorem exec_branch : ∀ e ∈ Claims.branches, ∃ run, RunsBranch run e.2.2 ∧ ∀ c s, exec (e.1 c) s = issue e.2.1 c s run := by
  intro e mem
  simp only [Claims.branches, List.mem_cons, List.not_mem_nil, or_false] at mem
  rcases mem with rfl | rfl | rfl | rfl | rfl | rfl
  case _ => exact ⟨_, ⟨_, rfl, fun a b => decide_eq_decide.mpr BitVec.toNat_inj⟩, fun c s => rfl⟩
  case _ => exact ⟨_, ⟨_, rfl, fun a b => (decide_eq_decide.mpr (not_congr BitVec.toNat_inj)).trans decide_not⟩, fun c s => rfl⟩
  case _ => exact ⟨_, ⟨_, rfl, sltW_toNat⟩, fun c s => rfl⟩
  case _ => exact ⟨_, ⟨_, rfl, fun a b => by rw [sltW_toNat, ← decide_not, decide_eq_decide, Int.not_lt]⟩, fun c s => rfl⟩
  case _ => exact ⟨_, ⟨_, rfl, fun a b => rfl⟩, fun c s => rfl⟩
  case _ => exact ⟨_, ⟨_, rfl, fun a b => rfl⟩, fun c s => rfl⟩

/-! ### The statements -/

theorem scalarRegisterResults : Claims.ScalarRegisterResults := by
  intro e mem s c w h free
  obtain ⟨run, runs, exec_eq⟩ := exec_rr e mem
  obtain ⟨f, ran, agrees⟩ := runs s (s.core c) w
  rw [exec_eq]
  exact issue_rr h free ran agrees

theorem scalarImmediateResults : Claims.ScalarImmediateResults := by
  intro e mem s c w h free
  obtain ⟨run, ⟨f, rfl, agrees⟩, exec_eq⟩ := exec_ri e mem
  rw [exec_eq]
  exact issue_ri h free rfl (agrees w)

theorem branchTargets : Claims.BranchTargets := by
  intro e mem s c w h free
  obtain ⟨run, ⟨f, rfl, agrees⟩, exec_eq⟩ := exec_branch e mem
  rw [exec_eq]
  exact issue_branch h free rfl agrees

theorem jumpTargets : Claims.JumpTargets := by
  refine fun s c w => ⟨fun h free => ?jal, fun h free => ?jalr⟩
  case jal =>
    have target : wrap 32 (((s.core c).pc : Int) + soff21 w * 4) =
        (BitVec.ofNat 32 (s.core c).pc + (BitVec.ofNat 21 w).signExtend 32 * 4).toNat := by
      rw [wrap_eq_toNat, BitVec.ofInt_add, BitVec.ofInt_mul, BitVec.ofInt_natCast, soff21, signed_eq_toInt (by decide), BitVec.signExtend]
      rfl
    change ∃ t, execJal c s = _ ∧ _
    refine h.writesRegister (BitVec.isLt _) ?_
    rw [whenFree_of_free free, target]
  case jalr =>
    change ∃ t, execJalr c s = _ ∧ _
    refine h.writesRegister (BitVec.isLt _) ?_
    rw [whenFree_of_free free, wrap_sreg_simm16]
    dsimp only
    rw [toNat_clear_low]

theorem scalarWaitsForQueuedWriter : Claims.ScalarWaitsForQueuedWriter := by
  refine fun s c w => ⟨fun e mem h held => ?rr, fun e mem h held => ?ri, fun e mem h held => ?branch⟩
  case rr =>
    obtain ⟨run, runs, exec_eq⟩ := exec_rr e mem
    obtain ⟨f, ran, -⟩ := runs s (s.core c) w
    exact (exec_eq c s).trans (h.stalls (ran.trans (whenFree_of_not_free held _)))
  case ri =>
    obtain ⟨run, ⟨f, rfl, -⟩, exec_eq⟩ := exec_ri e mem
    exact (exec_eq c s).trans (h.stalls (whenFree_of_not_free held _))
  case branch =>
    obtain ⟨run, ⟨f, rfl, -⟩, exec_eq⟩ := exec_branch e mem
    exact (exec_eq c s).trans (h.stalls (whenFree_of_not_free held _))

/-- Settles O1: each instruction is issued by the rule of its form, and its result on natural numbers agrees with that on words. -/
theorem scalarInstructions : Obligations.ScalarInstructions :=
  ⟨scalarRegisterResults, scalarImmediateResults, branchTargets, jumpTargets, scalarWaitsForQueuedWriter⟩

end Sys2Proof.Machine
end

section
/-! PROOFS. Data SRAM as a core sees it: bytes and values of memory, the store buffer draining, words read and words written (R6, R128 to R132). -/

namespace Sys2Proof.Machine

/-! ### Little-endian values (R6) -/

theorem toBytes_getD {n v i : Nat} (h : i < n) : (toBytes n v).getD i 0 = BitVec.ofNat 8 (v >>> (8 * i)) := by
  induction n generalizing v i with
  | zero => exact absurd h (Nat.not_lt_zero i)
  | succ n ih =>
    cases i with
    | zero => rfl
    | succ i =>
      rw [toBytes, List.getD_cons_succ, ih (Nat.lt_of_succ_lt_succ h), show 8 * (i + 1) = 8 + 8 * i by omega, Nat.shiftRight_add,
        Nat.shiftRight_eq_div_pow v 8]

/-- A byte after a store: that byte of the value inside, the old one outside. -/
theorem Memory.byte_setValue (m : Memory) (a n v b : Nat) :
    Memory.byte (Memory.setValue m a n v) b = if a ≤ b ∧ b < a + n then BitVec.ofNat 8 (v >>> (8 * (b - a))) else Memory.byte m b := by
  unfold Memory.setValue
  rw [Memory.byte_setBytes, toBytes_length]
  split
  next inside => rw [toBytes_getD (by omega)]
  next => rfl

theorem Memory.value_succ (m : Memory) (a n : Nat) : Memory.value m a (n + 1) = (Memory.byte m a).toNat + 256 * Memory.value m (a + 1) n := rfl

theorem Memory.value_lt (m : Memory) (a n : Nat) : Memory.value m a n < 2 ^ (8 * n) := by
  induction n generalizing a with
  | zero => exact Nat.one_pos
  | succ n ih =>
    rw [Memory.value_succ, show 8 * (n + 1) = 8 * n + 8 by omega, Nat.pow_add]
    have low := (Memory.byte m a).isLt
    have high := ih (a + 1)
    omega

/-- The value of a range is determined by its bytes. -/
theorem Memory.value_congr {m m' : Memory} {a n : Nat} (same : ∀ b, a ≤ b → b < a + n → Memory.byte m b = Memory.byte m' b) :
    Memory.value m a n = Memory.value m' a n := by
  induction n generalizing a with
  | zero => rfl
  | succ n ih =>
    rw [Memory.value_succ, Memory.value_succ, same a (Nat.le_refl a) (by omega), ih fun b after within => same b (by omega) (by omega)]

/-- A range whose bytes are those of `v` has the value of the low bytes of `v`. -/
theorem Memory.value_eq_of_bytes {m : Memory} {a n v : Nat} (bytes : ∀ i, i < n → Memory.byte m (a + i) = BitVec.ofNat 8 (v >>> (8 * i))) :
    Memory.value m a n = v % 2 ^ (8 * n) := by
  induction n generalizing a v with
  | zero => exact (Nat.mod_one v).symm
  | succ n ih =>
    have rest : Memory.value m (a + 1) n = (v / 256) % 2 ^ (8 * n) := ih fun i within => by
      rw [Nat.add_assoc, Nat.add_comm 1 i, bytes (i + 1) (by omega), show 8 * (i + 1) = 8 + 8 * i by omega, Nat.shiftRight_add,
        Nat.shiftRight_eq_div_pow v 8]
    rw [Memory.value_succ, rest, show Memory.byte m a = _ from bytes 0 (Nat.succ_pos n), show 8 * (n + 1) = 8 + 8 * n by omega, Nat.pow_add,
      Nat.mod_mul, BitVec.toNat_ofNat]
    rfl

theorem Memory.value_setValue (m : Memory) (a n v : Nat) : Memory.value (Memory.setValue m a n v) a n = v % 2 ^ (8 * n) :=
  Memory.value_eq_of_bytes fun i within => by
    rw [Memory.byte_setValue, if_pos (by omega), Nat.add_sub_cancel_left]

theorem Memory.value_add (m : Memory) (a i n : Nat) : Memory.value m a (i + n) = Memory.value m a i + 2 ^ (8 * i) * Memory.value m (a + i) n := by
  induction i generalizing a with
  | zero => simp [Memory.value, Memory.bytes, ofBytes]
  | succ i ih =>
    rw [show i + 1 + n = (i + n) + 1 by omega, Memory.value_succ, ih, Memory.value_succ, show 8 * (i + 1) = 8 + 8 * i by omega, Nat.pow_add,
      show a + 1 + i = a + (i + 1) by omega]
    ring

/-- A part of a value is the value of that part of the range. -/
theorem Memory.value_part {m : Memory} {a i j n : Nat} (within : i + j ≤ n) :
    Memory.value m a n >>> (8 * i) % 2 ^ (8 * j) = Memory.value m (a + i) j := by
  obtain ⟨r, rfl⟩ : ∃ r, n = i + (j + r) := ⟨n - (i + j), by omega⟩
  rw [Memory.value_add, Memory.value_add, Nat.shiftRight_eq_div_pow, Nat.add_mul_div_left _ _ (Nat.two_pow_pos _),
    Nat.div_eq_of_lt (Memory.value_lt m a i), Nat.zero_add, Nat.add_mul_mod_self_left, Nat.mod_eq_of_lt (Memory.value_lt ..)]

theorem Memory.bytes_length (m : Memory) (a n : Nat) : (Memory.bytes m a n).length = n := by
  induction n generalizing a with
  | zero => rfl
  | succ n ih => rw [Memory.bytes, List.length_cons, ih]

/-! ### The store buffer laid over memory (R128, R129) -/

/-- Store-buffer entries written over memory, oldest first. -/
def overlay (m : Memory) (l : List SbEntry) : Memory := l.foldl (fun m e => Memory.setValue m e.addr e.size e.val) m

theorem Core.seen_eq (k : Core) : k.seen = overlay k.sram k.sbuf := rfl
theorem overlay_append (m : Memory) (l l' : List SbEntry) : overlay m (l ++ l') = overlay (overlay m l) l' := List.foldl_append

theorem overlay_congr {m m' : Memory} {b : Nat} (same : Memory.byte m b = Memory.byte m' b) (l : List SbEntry) :
    Memory.byte (overlay m l) b = Memory.byte (overlay m' l) b := by
  induction l generalizing m m' with
  | nil => exact same
  | cons e r ih =>
    refine ih ?_
    rw [Memory.byte_setValue, Memory.byte_setValue, same]

/-- None of the entries overlaps a range. -/
def Apart (l : List SbEntry) (a n : Nat) : Prop := ∀ e ∈ l, overlaps e.addr e.size a n = false

theorem Apart.drop {l : List SbEntry} {a n : Nat} (h : Apart l a n) (d : Nat) : Apart (l.drop d) a n := fun e mem => h e (List.mem_of_mem_drop mem)

theorem Apart.byte_overlay {l : List SbEntry} {a n b : Nat} (h : Apart l a n) (after : a ≤ b) (within : b < a + n) (m : Memory) :
    Memory.byte (overlay m l) b = Memory.byte m b := by
  induction l generalizing m with
  | nil => rfl
  | cons e r ih =>
    have first := h e List.mem_cons_self
    simp only [overlaps, Bool.and_eq_false_iff, decide_eq_false_iff_not] at first
    rw [overlay, List.foldl_cons]
    refine (ih (fun e' mem => h e' (List.mem_cons_of_mem e mem)) _).trans (Memory.byte_setValue_outside m _ _ _ b ?_)
    omega

/-- What drains for an access leaves no entry that overlaps it (R130). -/
theorem apart_drop_overlapDepth (l : List SbEntry) (a n : Nat) : Apart (l.drop (overlapDepth l a n)) a n := by
  induction l with
  | nil => exact fun e mem => absurd mem List.not_mem_nil
  | cons e r ih =>
    simp only [overlapDepth]
    split
    next deeper => exact ih
    next none =>
      rw [Classical.not_not] at none
      rw [none, List.drop_zero] at ih
      split
      · exact ih
      next clear =>
        intro x mem
        rcases List.mem_cons.mp mem with rfl | later
        · exact Bool.eq_false_iff.mpr clear
        · exact ih x later

/-! ### Draining -/

/-- No word that a store-buffer entry writes is uncorrectable (R132). -/
def Core.bufferSound (k : Core) : Prop := ∀ e ∈ k.sbuf, ∀ x ∈ wordsOf e.addr e.size, x ∉ k.ue

/-- `k'` is `k` with entries of its store buffer drained: its program sees the same memory. -/
structure Core.Drains (k k' : Core) : Prop where
  rest : k' = { k with sbuf := k'.sbuf, sram := k'.sram, ce := k'.ce, wback := k'.wback }
  seen : k'.seen = k.seen
  suffix : ∃ d, k'.sbuf = k.sbuf.drop d

theorem Core.Drains.refl (k : Core) : k.Drains k := ⟨rfl, rfl, 0, rfl⟩

theorem Core.Drains.trans {k k1 k2 : Core} (h : k.Drains k1) (h' : k1.Drains k2) : k.Drains k2 := by
  obtain ⟨d, first⟩ := h.suffix
  obtain ⟨d', second⟩ := h'.suffix
  refine ⟨?_, h'.seen.trans h.seen, d + d', by rw [second, first, List.drop_drop]⟩
  rw [h'.rest, h.rest]

theorem Core.Drains.keeps {k k' : Core} (h : k.Drains k') : k.Keeps k' := by
  rw [h.rest]
  exact ⟨rfl, rfl, rfl, rfl⟩

theorem Core.Drains.pc {k k' : Core} (h : k.Drains k') : k'.pc = k.pc := by rw [h.rest]
theorem Core.Drains.ue {k k' : Core} (h : k.Drains k') : k'.ue = k.ue := h.keeps.ue
theorem Core.Drains.uq {k k' : Core} (h : k.Drains k') : k'.uq = k.uq := by rw [h.rest]
theorem Core.Drains.regs {k k' : Core} (h : k.Drains k') : k'.regs = k.regs := by rw [h.rest]
theorem Core.Drains.counters {k k' : Core} (h : k.Drains k') : k'.counters = k.counters := by rw [h.rest]

theorem Core.Drains.bufferSound {k k' : Core} (h : k.Drains k') (sound : k.bufferSound) : k'.bufferSound := by
  obtain ⟨d, drained⟩ := h.suffix
  intro e mem x word
  rw [h.ue]
  exact sound e (List.mem_of_mem_drop (drained ▸ mem)) x word

theorem Core.Drains.apart {k k' : Core} {a n : Nat} (h : k.Drains k') (apart : Apart k.sbuf a n) : Apart k'.sbuf a n := by
  obtain ⟨d, drained⟩ := h.suffix
  rw [drained]
  exact apart.drop d

/-- An entry drains, if there is one. -/
theorem Core.drainOne_drains {k : Core} (sound : k.bufferSound) : k.Drains k.drainOne ∧ k.drainOne.sbuf = k.sbuf.drop 1 := by
  unfold Core.drainOne
  split
  next empty => exact ⟨.refl k, by rw [empty]; rfl⟩
  next e r held =>
    have good : ∀ x ∈ wordsOf e.addr e.size, x ∉ k.ue := sound e (held ▸ List.mem_cons_self)
    have wholeGood : ∀ x ∈ (wordsOf e.addr e.size).filter (fun w => decide (e.addr ≤ 8 * w) && decide (8 * w + 8 ≤ e.addr + e.size)), x ∉ k.ue :=
      fun x mem => good x (List.mem_of_mem_filter mem)
    have none : ∀ l : List Nat, (wordsOf e.addr e.size).filter (fun w => k.ue.contains w && !l.contains w) = [] := fun l =>
      List.filter_eq_nil_iff.mpr fun x mem => by simp [good x mem]
    simp only [none, filter_not_contains_of_disjoint wholeGood]
    refine ⟨⟨rfl, ?_, 1, by rw [held]; rfl⟩, by rw [held]; rfl⟩
    rw [Core.seen_eq, Core.seen_eq, held]
    rfl

theorem Core.drain_drains {k : Core} (sound : k.bufferSound) (n : Nat) : k.Drains (k.drain n) ∧ (k.drain n).sbuf = k.sbuf.drop n := by
  induction n generalizing k with
  | zero => exact ⟨.refl k, rfl⟩
  | succ n ih =>
    obtain ⟨one, held⟩ := Core.drainOne_drains sound
    obtain ⟨rest, heldRest⟩ := ih (one.bufferSound sound)
    exact ⟨one.trans rest, by rw [Core.drain, heldRest, held, List.drop_drop, Nat.add_comm]⟩

theorem Core.drainFor_drains {k : Core} (sound : k.bufferSound) (a n : Nat) : k.Drains (k.drainFor a n) := (Core.drain_drains sound _).1

/-- Nothing that stays in the buffer overlaps the access (R130). -/
theorem Core.drainFor_apart {k : Core} (sound : k.bufferSound) (a n : Nat) : Apart (k.drainFor a n).sbuf a n := by
  rw [Core.drainFor, (Core.drain_drains sound _).2]
  exact apart_drop_overlapDepth _ a n

/-- Where nothing in the buffer overlaps, the program sees data SRAM. -/
theorem Core.byte_seen_of_apart {k : Core} {a n b : Nat} (apart : Apart k.sbuf a n) (after : a ≤ b) (within : b < a + n) :
    Memory.byte k.seen b = Memory.byte k.sram b := apart.byte_overlay after within k.sram

theorem Core.value_seen_of_apart {k : Core} {a n a' n' : Nat} (apart : Apart k.sbuf a n) (after : a ≤ a') (within : a' + n' ≤ a + n) :
    Memory.value k.seen a' n' = Memory.value k.sram a' n' :=
  Memory.value_congr fun _ from' to' => Core.byte_seen_of_apart apart (by omega) (by omega)

/-! ### Reading words (R131, R132) -/

/-- `k'` is `k` after its program or a unit has read: entries may have drained, correctable words been met; its program sees the same memory. -/
structure Core.Reads (k k' : Core) : Prop where
  rest : k' = { k with sbuf := k'.sbuf, sram := k'.sram, ce := k'.ce, wback := k'.wback, counters := k'.counters }
  seen : k'.seen = k.seen
  counter : ∀ i, i ≠ 15 → k'.counter i = k.counter i

theorem Core.Drains.reads {k k' : Core} (h : k.Drains k') : k.Reads k' :=
  ⟨by rw [h.rest], h.seen, fun _ _ => by rw [Core.counter, h.counters, Core.counter]⟩

theorem Core.Reads.trans {k k1 k2 : Core} (h : k.Reads k1) (h' : k1.Reads k2) : k.Reads k2 :=
  ⟨by rw [h'.rest, h.rest], h'.seen.trans h.seen, fun i other => (h'.counter i other).trans (h.counter i other)⟩

theorem Core.Reads.keeps {k k' : Core} (h : k.Reads k') : k.Keeps k' := by
  rw [h.rest]
  exact ⟨rfl, rfl, rfl, rfl⟩

theorem Core.Reads.pc {k k' : Core} (h : k.Reads k') : k'.pc = k.pc := by rw [h.rest]
theorem Core.Reads.regs {k k' : Core} (h : k.Reads k') : k'.regs = k.regs := by rw [h.rest]
theorem Core.Reads.uq {k k' : Core} (h : k.Reads k') : k'.uq = k.uq := by rw [h.rest]

theorem Core.readCe_reads (k : Core) (ws : List Nat) : k.Reads (k.readCe ws) ∧ (k.readCe ws).sbuf = k.sbuf := by
  have spec : ∃ wb ctr, k.readCe ws = { k with wback := wb, counters := ctr } ∧ ∀ i, i ≠ 15 → Tab.read ctr 0 i = k.counter i := by
    unfold Core.readCe
    refine List.foldlRecOn (motive := fun k' : Core => ∃ wb ctr, k' = { k with wback := wb, counters := ctr } ∧
      ∀ i, i ≠ 15 → Tab.read ctr 0 i = k.counter i) ws _ ⟨k.wback, k.counters, rfl, fun _ _ => rfl⟩ ?_
    rintro k' ⟨wb, ctr, rfl, same⟩ x -
    have counted : ∀ i, i ≠ 15 → Tab.read (Tab.write ctr 0 15 (Tab.read ctr 0 15 + 1)) 0 i = k.counter i := fun i other => by
      rw [Tab.read_write, if_neg other, same i other]
    split
    · dsimp only
      split
      · exact ⟨wb, _, rfl, counted⟩
      · exact ⟨_, _, rfl, counted⟩
    · exact ⟨wb, ctr, rfl, same⟩
  obtain ⟨wb, ctr, eq, same⟩ := spec
  rw [eq]
  exact ⟨⟨rfl, rfl, same⟩, rfl⟩

theorem Core.firstUe_none {k : Core} {ws : List Nat} (good : ∀ x ∈ ws, x ∉ k.ue) : k.firstUe ws = none :=
  List.find?_eq_none.mpr fun x mem => by simp [good x mem]

/-! ### Writing for a unit (R132) -/

/-- A write to words without uncorrectable errors, of bytes that no buffered store overlaps. -/
theorem Core.unitWrite_writes {k : Core} {a : Nat} {bs : List Byte} (apart : Apart k.sbuf a bs.length)
    (good : ∀ x ∈ wordsOf a bs.length, a ≤ 8 * x → 8 * x + 8 ≤ a + bs.length → x ∉ k.ue) :
    k.unitWrite a bs = { k with sram := (k.unitWrite a bs).sram, ce := (k.unitWrite a bs).ce, wback := (k.unitWrite a bs).wback } ∧
    ∀ b, Memory.byte (k.unitWrite a bs).seen b = if a ≤ b ∧ b < a + bs.length then bs.getD (b - a) 0 else Memory.byte k.seen b := by
  refine ⟨?_, fun b => ?_⟩
  · unfold Core.unitWrite
    dsimp only
    rw [filter_not_contains_of_disjoint (ws := List.filter _ _) (l := k.ue)]
    intro x mem
    obtain ⟨word, whole⟩ := List.mem_filter.mp mem
    simp only [Bool.and_eq_true, decide_eq_true_eq] at whole
    exact good x word whole.1 whole.2
  · have written := Memory.byte_setBytes k.sram a b bs
    split
    next inside =>
      rw [if_pos inside] at written
      rw [← written]
      exact apart.byte_overlay inside.1 inside.2 _
    next outside =>
      rw [if_neg outside] at written
      exact overlay_congr written k.sbuf

/-- `k` with another store buffer and data SRAM, and other words in error or to be written back. -/
def Core.withMemory (k : Core) (sb : List SbEntry) (m : Memory) (ce wb : List Nat) : Core := { k with sbuf := sb, sram := m, ce := ce, wback := wb }

/-- The same once the buffered stores that the bytes overlap have drained (R130). -/
theorem Core.drainFor_unitWrite {k : Core} {a : Nat} {bs : List Byte} (sound : k.sound a bs.length) :
    (∃ sb m ce wb, (k.drainFor a bs.length).unitWrite a bs = k.withMemory sb m ce wb) ∧
    ∀ b, Memory.byte ((k.drainFor a bs.length).unitWrite a bs).seen b =
      if a ≤ b ∧ b < a + bs.length then bs.getD (b - a) 0 else Memory.byte k.seen b := by
  have drains := Core.drainFor_drains sound.2 a bs.length
  obtain ⟨wrote, seen⟩ := Core.unitWrite_writes (Core.drainFor_apart sound.2 a bs.length) fun x word _ _ => by
    rw [drains.ue]
    exact sound.1 x word
  refine ⟨⟨(k.drainFor a bs.length).sbuf, _, _, _, by rw [wrote, drains.rest]; rfl⟩, fun b => ?_⟩
  rw [seen, drains.seen]

end Sys2Proof.Machine
end

section
/-! PROOFS. O4: loads and stores of the steward (R125, R128, R129, R144, R150, R161). -/

namespace Sys2Proof.Machine

theorem ofNat_wrap_signed {n : Nat} (pos : 0 < n) (v : Nat) : BitVec.ofNat 32 (wrap 32 (signed n v)) = (BitVec.ofNat n v).signExtend 32 := by
  rw [ofNat_wrap, signed_eq_toInt pos, BitVec.signExtend]

/-! ### What a load reads -/

theorem Core.sound_buffer {k : Core} {a n : Nat} (h : k.sound a n) : k.bufferSound := h.2

theorem overlapDepth_le (l : List SbEntry) (a n : Nat) : overlapDepth l a n ≤ l.length := by
  induction l with
  | nil => exact Nat.le_refl 0
  | cons e r ih =>
    simp only [overlapDepth, List.length_cons]
    split
    · omega
    · split <;> omega

/-- The youngest of the entries that an access overlaps stands last of those that drain for it. -/
theorem exists_youngest {l : List SbEntry} {a n : Nat} (overlapped : overlapDepth l a n ≠ 0) :
    ∃ l' e, l = l' ++ e :: l.drop (overlapDepth l a n) ∧ l[overlapDepth l a n - 1]? = some e := by
  have last : overlapDepth l a n - 1 < l.length := by have := overlapDepth_le l a n; omega
  refine ⟨l.take (overlapDepth l a n - 1), l[overlapDepth l a n - 1], ?_, List.getElem?_eq_getElem last⟩
  have rest := List.drop_eq_getElem_cons last
  rw [show overlapDepth l a n - 1 + 1 = overlapDepth l a n by omega] at rest
  rw [← rest, List.take_append_drop]

/-- A load's value is that of the memory its program sees, forwarded or read after the drains it needs. -/
theorem Core.loadValue_reads {k : Core} {a n : Nat} (sound : k.sound a n) :
    ∃ k', k.loadValue a n = (k', Memory.value k.seen a n, none) ∧ k.Reads k' := by
  have fromSram : ∀ k1 : Core, k.Drains k1 → Apart k1.sbuf a n →
      ∃ k', (k1.readCe (wordsOf a n), Memory.value k1.sram a n, k1.firstUe (wordsOf a n)) = (k', Memory.value k.seen a n, none) ∧ k.Reads k' := by
    intro k1 drains apart
    refine ⟨_, ?_, drains.reads.trans (Core.readCe_reads k1 (wordsOf a n)).1⟩
    rw [Core.firstUe_none (by rw [drains.ue]; exact sound.1), ← drains.seen, Core.value_seen_of_apart apart (Nat.le_refl a) (Nat.le_refl _)]
  have settled := apart_drop_overlapDepth k.sbuf a n
  unfold Core.loadValue
  dsimp only
  split
  next none =>
    rw [none, List.drop_zero] at settled
    exact fromSram k (.refl k) settled
  next overlapped =>
    obtain ⟨l, e, buffer, youngest⟩ := exists_youngest overlapped
    rw [youngest]
    dsimp only
    split
    next within =>
      refine ⟨k, ?_, (Core.Drains.refl k).reads⟩
      have value : Memory.value k.seen a n = e.val >>> (8 * (a - e.addr)) % 2 ^ (8 * n) := by
        refine Memory.value_eq_of_bytes fun i small => ?_
        rw [Core.seen_eq, buffer, overlay_append]
        refine (Apart.byte_overlay settled (by omega) (by omega) _).trans ?_
        rw [Memory.byte_setValue, if_pos (by omega), ← Nat.shiftRight_add]
        congr 2
        omega
      rw [value]
    next =>
      obtain ⟨drains, rest⟩ := Core.drain_drains sound.2 (overlapDepth k.sbuf a n)
      exact fromSram _ drains (rest ▸ settled)

/-! ### The registers that loads write and stores read (R150) -/

theorem Core.setPair_withS (k : Core) (n v : Nat) : k.setPair n v = k.withS (k.setPair n v).regs.s := by
  rw [Core.setPair, Core.setS_withS (k.setS n v), Core.setS_withS k]
  rfl

theorem Core.setQuad_withS (k : Core) (n v : Nat) : k.setQuad n v = k.withS (k.setQuad n v).regs.s := by
  rw [Core.setQuad, Core.setPair_withS (k.setPair n v), Core.setPair_withS k]
  rfl

/-- Consecutive registers from `d` after words are written to them; s0 stays as it is. -/
def PutsWords (put : Core → Nat → Nat → Core) (words : Nat → List Word) : Prop :=
  ∀ k d v, put k d v = k.withS (put k d v).regs.s ∧ ∀ m, (put k d v).reg m =
    if m ≠ 0 ∧ d ≤ m ∧ m < d + (words 0).length then (words v).getD (m - d) 0 else k.reg m

theorem putsWords_one {v' : Nat → Nat} {words : Nat → List Word} (is : ∀ v, words v = [BitVec.ofNat 32 (v' v)]) :
    PutsWords (fun k d v => k.setS d (v' v)) words := by
  refine fun k d v => ⟨Core.setS_withS k d _, fun m => ?_⟩
  rw [Core.reg_setS, is, is]
  by_cases at' : m = d
  · subst at'
    by_cases zero : m = 0 <;> simp [zero]
  · rw [if_neg fun h => at' h.1, if_neg]
    simp only [List.length_singleton]
    omega

theorem Core.reg_setPair (k : Core) (d v m : Nat) : (k.setPair d v).reg m =
    if m = d + 1 then BitVec.ofNat 32 (v / 2 ^ 32) else if m = d ∧ d ≠ 0 then BitVec.ofNat 32 v else k.reg m := by
  rw [Core.setPair, Core.reg_setS, Core.reg_setS, Nat.shiftRight_eq_div_pow]
  exact if_congr (and_iff_left (Nat.succ_ne_zero d)) rfl rfl

theorem putsWords_pair : PutsWords Core.setPair fun v => [BitVec.ofNat 32 v, BitVec.ofNat 32 (v / 2 ^ 32)] := by
  refine fun k d v => ⟨Core.setPair_withS k d v, fun m => ?_⟩
  rw [Core.reg_setPair]
  simp only [List.length_cons, List.length_nil]
  by_cases second : m = d + 1
  · subst second
    simp
  · by_cases first : m = d
    · subst first
      by_cases zero : m = 0 <;> simp [zero]
    · rw [if_neg second, if_neg fun h => first h.1, if_neg (by omega)]

theorem putsWords_quad : PutsWords Core.setQuad fun v =>
    [BitVec.ofNat 32 v, BitVec.ofNat 32 (v / 2 ^ 32), BitVec.ofNat 32 (v / 2 ^ 64), BitVec.ofNat 32 (v / 2 ^ 96)] := by
  refine fun k d v => ⟨Core.setQuad_withS k d v, fun m => ?_⟩
  rw [Core.setQuad, Core.reg_setPair, Core.reg_setPair, Nat.shiftRight_eq_div_pow, Nat.div_div_eq_div_mul, ← Nat.pow_add]
  simp only [List.length_cons, List.length_nil]
  by_cases fourth : m = d + 2 + 1
  · subst fourth
    simp [show d + 2 + 1 - d = 3 by omega]
    omega
  · by_cases third : m = d + 2
    · subst third
      simp
    · by_cases second : m = d + 1
      · subst second
        simp
      · by_cases first : m = d
        · subst first
          rw [if_neg fourth, if_neg fun h => third h.1, if_neg second]
          by_cases zero : m = 0 <;> simp [zero]
        · rw [if_neg fourth, if_neg fun h => third h.1, if_neg second, if_neg fun h => first h.1, if_neg (by omega)]

/-- What a store takes from consecutive registers from `r`: byte `i` is byte `i % 4` of register `r + i / 4`. -/
def TakesBytes (get : Core → Nat → Nat) (n : Nat) : Prop :=
  ∀ k r i, i < n → BitVec.ofNat 8 (get k r >>> (8 * i)) = (k.reg (r + i / 4)).extractLsb' (8 * (i % 4)) 8

/-- Byte `i` of a register. -/
theorem Core.byte_reg (k : Core) (r i : Nat) : BitVec.ofNat 8 (k.sreg r >>> (8 * i)) = (k.reg r).extractLsb' (8 * i) 8 := by
  rw [Core.sreg_eq_toNat]
  apply BitVec.eq_of_toNat_eq
  rw [BitVec.toNat_ofNat, BitVec.extractLsb'_toNat]

/-- Of two values side by side, `x` of `b` bytes below `y`, the bytes are those of `x` and then those of `y`. -/
theorem byte_beside {x b : Nat} (y i : Nat) (small : x < 2 ^ (8 * b)) :
    BitVec.ofNat 8 ((x + y * 2 ^ (8 * b)) >>> (8 * i)) = if i < b then BitVec.ofNat 8 (x >>> (8 * i)) else BitVec.ofNat 8 (y >>> (8 * (i - b))) := by
  rw [Nat.shiftRight_eq_div_pow]
  split
  next low =>
    obtain ⟨r, rfl⟩ : ∃ r, b = i + 1 + r := ⟨b - (i + 1), by omega⟩
    rw [show y * 2 ^ (8 * (i + 1 + r)) = 2 ^ (8 * i) * (2 ^ 8 * (2 ^ (8 * r) * y)) by rw [show 8 * (i + 1 + r) = 8 * i + 8 + 8 * r by omega]; ring,
      Nat.add_mul_div_left _ _ (Nat.two_pow_pos _), Nat.shiftRight_eq_div_pow]
    apply BitVec.eq_of_toNat_eq
    rw [BitVec.toNat_ofNat, BitVec.toNat_ofNat, Nat.add_mul_mod_self_left]
  next high =>
    obtain ⟨j, rfl⟩ : ∃ j, i = b + j := ⟨i - b, by omega⟩
    rw [Nat.mul_add 8 b j, Nat.pow_add, ← Nat.div_div_eq_div_mul, Nat.add_mul_div_right _ _ (Nat.two_pow_pos _), Nat.div_eq_of_lt small,
      Nat.zero_add, Nat.add_sub_cancel_left, Nat.shiftRight_eq_div_pow]

/-- Cutting a value to `n` bytes keeps each of them. -/
theorem byte_mod {n i : Nat} (v : Nat) (within : i < n) : BitVec.ofNat 8 ((v % 2 ^ (8 * n)) >>> (8 * i)) = BitVec.ofNat 8 (v >>> (8 * i)) := by
  have small : v % 2 ^ (8 * n) < 2 ^ (8 * n) := Nat.mod_lt _ (Nat.two_pow_pos _)
  have parts := byte_beside (v / 2 ^ (8 * n)) i small
  rwa [Nat.mod_add_div', if_pos within, eq_comm] at parts

theorem Core.sreg_lt (k : Core) (n : Nat) : k.sreg n < 2 ^ 32 := by
  rw [Core.sreg_eq_toNat]
  exact BitVec.isLt _

theorem Core.pair_lt (k : Core) (n : Nat) : k.pair n < 2 ^ 64 := by
  have low := k.sreg_lt n
  have high := k.sreg_lt (n + 1)
  unfold Core.pair
  omega

theorem takesBytes_one {n : Nat} (small : n ≤ 4) : TakesBytes (fun k r => k.sreg r) n := by
  intro k r i within
  rw [Core.byte_reg, Nat.div_eq_of_lt (by omega), Nat.mod_eq_of_lt (by omega)]
  rfl

theorem takesBytes_pair : TakesBytes (fun k r => k.pair r) 8 := by
  intro k r i within
  dsimp only
  rw [Core.pair, show (2 : Nat) ^ 32 = 2 ^ (8 * 4) from rfl, byte_beside _ i (k.sreg_lt r)]
  split
  next low => exact takesBytes_one (Nat.le_refl 4) k r i low
  next high =>
    rw [Core.byte_reg, show i / 4 = 1 by omega, show i - 4 = i % 4 by omega]

theorem takesBytes_quad : TakesBytes (fun k r => k.pair r + k.pair (r + 2) * 2 ^ 64) 16 := by
  intro k r i within
  dsimp only
  rw [show (2 : Nat) ^ 64 = 2 ^ (8 * 8) from rfl, byte_beside _ i (k.pair_lt r)]
  split
  next low => exact takesBytes_pair k r i low
  next high =>
    rw [takesBytes_pair k (r + 2) (i - 8) (by omega), show r + 2 + (i - 8) / 4 = r + i / 4 by omega, show (i - 8) % 4 = i % 4 by omega]

/-! ### Loads and stores as they issue (R125, R128, R129, R161) -/

theorem memAddr_eq (k : Core) (w : Nat) : memAddr k w = (k.reg (aField w) + Claims.simm w).toNat := wrap_sreg_simm16 k w (aField w)

theorem accessFault_none {a n : Nat} (inside : a + n ≤ 0x50000) (aligned : a % n = 0) : accessFault a n = none := by
  rw [accessFault, if_neg (by rw [sramSize]; omega), if_neg (by rw [aligned]; exact fun h => h rfl)]

theorem accessFault_bad {a n : Nat} (bad : 0x50000 < a + n ∨ a % n ≠ 0) : accessFault a n = some (if 0x50000 < a + n then 0x3180 else 0x3181) := by
  rw [accessFault, sramSize]
  split
  · rfl
  · rw [if_pos (bad.resolve_left ‹_›)]

section
variable {s : State} {c w n : Nat} {op : CoreOp}

theorem loadOp_done {put : Core → Nat → Nat → Core} {k : Core} (free : k.free (Claims.named w n)) (inside : memAddr k w + n ≤ 0x50000)
    (aligned : memAddr k w % n = 0) (open' : k.readBlocked (memAddr k w) n = false) (sound : k.sound (memAddr k w) n) :
    ∃ k', loadOp n put s k w = .done (put k' (dField w) (Memory.value k.seen (memAddr k w) n)).advance [] ∧ k.Reads k' := by
  obtain ⟨k', loaded, reads⟩ := Core.loadValue_reads sound
  refine ⟨k', ?_, reads⟩
  refine (whenFree_of_free free _).trans ?_
  rw [accessFault_none inside aligned]
  dsimp only
  rw [open', loaded]
  rfl

theorem loadOp_trap {put : Core → Nat → Nat → Core} {k : Core} (free : k.free (Claims.named w n))
    (bad : 0x50000 < memAddr k w + n ∨ memAddr k w % n ≠ 0) :
    loadOp n put s k w = .trap k (if 0x50000 < memAddr k w + n then 0x3180 else 0x3181) (memAddr k w) := by
  refine (whenFree_of_free free _).trans ?_
  rw [accessFault_bad bad]

theorem storeOp_trap {get : Core → Nat → Nat} {k : Core} (free : k.free (Claims.named w n))
    (bad : 0x50000 < memAddr k w + n ∨ memAddr k w % n ≠ 0) :
    storeOp n get s k w = .trap k (if 0x50000 < memAddr k w + n then 0x3180 else 0x3181) (memAddr k w) := by
  refine (whenFree_of_free free _).trans ?_
  rw [accessFault_bad bad]

/-- `k` with a younger entry in its store buffer. -/
def Core.push (k : Core) (e : SbEntry) : Core := { k with sbuf := k.sbuf ++ [e] }

theorem Core.seen_push (k : Core) (e : SbEntry) : (k.push e).seen = Memory.setValue k.seen e.addr e.size e.val := overlay_append k.sram k.sbuf [e]

/-- A store enters the buffer, whose oldest entry drains first where it is full (R128). -/
theorem storeOp_done {get : Core → Nat → Nat} {k : Core} (free : k.free (Claims.named w n)) (inside : memAddr k w + n ≤ 0x50000)
    (aligned : memAddr k w % n = 0) (open' : k.writeBlocked (memAddr k w) n = false) (sound : k.bufferSound) :
    ∃ k1 e, storeOp n get s k w = .done (k1.push e).advance [] ∧ k.Drains k1 ∧
      e.addr = memAddr k w ∧ e.size = n ∧ e.val = get k (dField w) % 2 ^ (8 * n) := by
  have room : k.Drains (if k.sbuf.length < 8 then k else k.drainOne) := by
    split
    · exact .refl k
    · exact (Core.drainOne_drains sound).1
  refine ⟨_, { addr := memAddr k w, size := n, val := get k (dField w) % 2 ^ (8 * n), pc := k.pc, nth := k.counter 6 },
    (whenFree_of_free free _).trans ?_, room, rfl, rfl, rfl⟩
  rw [accessFault_none inside aligned]
  dsimp only
  rw [open']
  rfl

end

/-- A load (R161) of `n` bytes that gives its registers these words. -/
def RunsLoad (run : State → Core → Nat → Issue) (n : Nat) (words : Nat → List Word) : Prop :=
  ∃ put, run = loadOp n put ∧ PutsWords put words

/-- A store (R161) of `n` bytes. -/
def RunsStore (run : State → Core → Nat → Issue) (n : Nat) : Prop :=
  ∃ get, run = storeOp n get ∧ TakesBytes get n

theorem exec_load : ∀ e ∈ Claims.loads, ∃ run, RunsLoad run e.2.2.1 e.2.2.2 ∧ ∀ c s, exec (e.1 c) s = issue e.2.1 c s run := by
  intro e mem
  simp only [Claims.loads, List.mem_cons, List.not_mem_nil, or_false] at mem
  rcases mem with rfl | rfl | rfl | rfl | rfl | rfl | rfl
  case _ => exact ⟨_, ⟨_, rfl, putsWords_one fun v => congrArg (fun x => [x]) (ofNat_wrap_signed (by decide) v).symm⟩, fun c s => rfl⟩
  case _ => exact ⟨_, ⟨_, rfl, putsWords_one fun v => rfl⟩, fun c s => rfl⟩
  case _ => exact ⟨_, ⟨_, rfl, putsWords_one fun v => congrArg (fun x => [x]) (ofNat_wrap_signed (by decide) v).symm⟩, fun c s => rfl⟩
  case _ => exact ⟨_, ⟨_, rfl, putsWords_one fun v => rfl⟩, fun c s => rfl⟩
  case _ => exact ⟨_, ⟨_, rfl, putsWords_one fun v => rfl⟩, fun c s => rfl⟩
  case _ => exact ⟨_, ⟨_, rfl, putsWords_pair⟩, fun c s => rfl⟩
  case _ => exact ⟨_, ⟨_, rfl, putsWords_quad⟩, fun c s => rfl⟩

theorem exec_store : ∀ e ∈ Claims.stores, e.2.2 ≤ 16 ∧ ∃ run, RunsStore run e.2.2 ∧ ∀ c s, exec (e.1 c) s = issue e.2.1 c s run := by
  intro e mem
  simp only [Claims.stores, List.mem_cons, List.not_mem_nil, or_false] at mem
  rcases mem with rfl | rfl | rfl | rfl | rfl
  case _ => exact ⟨by decide, _, ⟨_, rfl, takesBytes_one (by decide)⟩, fun c s => rfl⟩
  case _ => exact ⟨by decide, _, ⟨_, rfl, takesBytes_one (by decide)⟩, fun c s => rfl⟩
  case _ => exact ⟨by decide, _, ⟨_, rfl, takesBytes_one (by decide)⟩, fun c s => rfl⟩
  case _ => exact ⟨by decide, _, ⟨_, rfl, takesBytes_pair⟩, fun c s => rfl⟩
  case _ => exact ⟨by decide, _, ⟨_, rfl, takesBytes_quad⟩, fun c s => rfl⟩

/-! ### The statements -/

theorem loadsReadSeenMemory : Claims.LoadsReadSeenMemory := by
  intro e mem s c w h free a is inside aligned open' sound
  obtain ⟨run, ⟨put, rfl, puts⟩, exec_eq⟩ := exec_load e mem
  obtain rfl : a = memAddr (s.core c) w := is.trans (memAddr_eq _ w).symm
  obtain ⟨k', ran, reads⟩ := loadOp_done (s := s) (put := put) free inside aligned open' sound
  obtain ⟨wrote, regs⟩ := puts k' (dField w) (Memory.value (s.core c).seen (memAddr (s.core c) w) e.2.2.1)
  generalize put k' (dField w) (Memory.value (s.core c).seen (memAddr (s.core c) w) e.2.2.1) = k2 at ran wrote regs
  generalize k2.regs.s = x at wrote
  subst wrote
  obtain ⟨t, issued, only, core⟩ := h.advancesTotals (k := k'.withS x) ⟨reads.keeps.run, reads.keeps.found, reads.keeps.ue, reads.keeps.iue⟩ reads.pc ran
  refine ⟨t, (exec_eq c s).trans issued, only, ?_, ?_, ?_, ?_⟩
  · rw [core]
    conv_lhs => rw [reads.rest]
    rfl
  · rw [core, ← reads.counter 6 (by decide)]
    exact Core.counter_issued k' ((s.core c).pc + 4) 6
  · intro b
    rw [core]
    exact congrArg (Memory.byte · b) reads.seen
  · intro m
    rw [core]
    refine (regs m).trans (if_congr Iff.rfl rfl ?_)
    rw [Core.reg, Core.sreg, reads.regs]
    rfl

theorem storesWriteSeenMemory : Claims.StoresWriteSeenMemory := by
  intro e mem s c w h free a is inside aligned open' sound
  obtain ⟨-, run, ⟨get, rfl, takes⟩, exec_eq⟩ := exec_store e mem
  obtain rfl : a = memAddr (s.core c) w := is.trans (memAddr_eq _ w).symm
  obtain ⟨k1, x, ran, drains, addr, size, val⟩ := storeOp_done (s := s) (get := get) free inside aligned open' sound.2
  obtain ⟨t, issued, only, core⟩ := h.advances (k := k1.push x)
    ⟨drains.keeps.run, drains.keeps.found, drains.keeps.ue, drains.keeps.iue⟩ drains.pc (congrArg (Tab.read · 0 15) drains.counters) ran
  refine ⟨t, (exec_eq c s).trans issued, only, ?_, fun b => ?_⟩
  · rw [core]
    conv_lhs => rw [drains.rest]
    rfl
  · rw [core]
    rw [show ((k1.push x).issued ((s.core c).pc + 4)).seen = Memory.setValue (s.core c).seen x.addr x.size x.val by
      rw [← drains.seen, ← Core.seen_push]
      rfl, Memory.byte_setValue, addr, size, val]
    refine ite_congr rfl (fun within => ?_) fun _ => rfl
    rw [← takes (s.core c) (dField w) (b - memAddr (s.core c) w) (by omega)]
    exact byte_mod _ (by omega)

theorem badAccessEndsTask : Claims.BadAccessEndsTask := by
  intro e mem s c w h free a is bad
  obtain rfl : a = memAddr (s.core c) w := is.trans (memAddr_eq _ w).symm
  rcases List.mem_append.mp mem with load | store
  · obtain ⟨x, listed, rfl⟩ := List.mem_map.mp load
    obtain ⟨run, ⟨put, rfl, -⟩, exec_eq⟩ := exec_load x listed
    exact (exec_eq c s).trans (h.traps (loadOp_trap free bad))
  · obtain ⟨-, run, ⟨get, rfl, -⟩, exec_eq⟩ := exec_store e store
    exact (exec_eq c s).trans (h.traps (storeOp_trap free bad))

/-- Settles O4: a load reads what its program sees (`Core.loadValue_reads`), a store enters the buffer laid over it, and a bad address traps before either. -/
theorem loadsAndStores : Obligations.LoadsAndStores := ⟨loadsReadSeenMemory, storesWriteSeenMemory, badAccessEndsTask⟩

end Sys2Proof.Machine
end

section
/-! PROOFS. O5 fails: CSRR with W64 makes one value of two words (R162), and `Csrs.flags` is a natural number that no statement bounds. -/

namespace Sys2Proof.Machine

/-- CSRR s2, 0x020 with W64: `c.flags` to s2 and `c.tflags` to s3. -/
def csrrFlagsPair : Nat := 0x78401020

/-- Core 0 runs that instruction; its flags stand at 2^32, beyond a word. -/
def flagsBeyondWord : State :=
  { State.reset with
    cores := [(0, { Core.reset with run := .run, istore := Memory.setValue [] 0 4 csrrFlagsPair, csr := { Csrs.reset with flags := 2 ^ 32 } })],
    fields := [(0, { Field.reset with clk := { FieldClock.reset with md := .on, cd := .on } })] }

/-- The value that a command leaves in a scalar register of core 0. -/
def registerAfter (o : Out) (n : Nat) : Option Word :=
  match o with
  | .next t => some ((t.core 0).reg n)
  | _ => none

theorem flagsBeyondWord_issues : Issues flagsBeyondWord 0 csrrFlagsPair .csrr where
  core := by decide
  may := by decide +kernel
  fetched := by decide +kernel
  decoded := by decide +kernel
  clean := by decide +kernel

/-- The bit of `c.flags` beyond its word is added to the word of `c.tflags`. -/
theorem flagsBeyondWord_carries : registerAfter (exec (.csrr 0) flagsBeyondWord) 3 = some 1 := by decide +kernel

/-- Refutes O5: with `c.flags` at 2^32 the pair that CSRR delivers from 0x020 has 1 in its upper word, where `c.tflags` reads 0. -/
theorem not_csrAccess : ¬ Obligations.CsrAccess := by
  rintro ⟨reads, -, -⟩
  have untimed : ¬ ((flagsBeyondWord.core 0).csr.det = true ∧ ∃ o ∈ csrOffsets csrrFlagsPair, csrTimed o = true) := fun h => absurd h.1 (by decide +kernel)
  obtain ⟨t, ran, -, -, regs⟩ := ((reads flagsBeyondWord 0 csrrFlagsPair flagsBeyondWord_issues).2 untimed
    (Core.free_of_idle (by decide +kernel) _)).2 (by decide +kernel)
  have upper : (t.core 0).reg 3 = 0 := (regs 3).trans (by decide +kernel)
  have carried := flagsBeyondWord_carries
  rw [ran] at carried
  exact absurd (upper.symm.trans (Option.some.inj carried)) (by decide)

end Sys2Proof.Machine
end

section
/-! PROOFS. O13: RECV and RPEEK (R133, R173, R175, R181, R241). -/

namespace Sys2Proof.Machine

/-! ### The oldest message of a queue (R133, R241) -/

theorem Core.popMsg_none {k : Core} {vc : Nat} (s : State) (c : Nat) (empty : (k.queue vc).msgs = []) : k.popMsg s c vc = none := by
  unfold Core.popMsg
  simp only [empty]

/-- Taking a message changes its queue and the count of messages received. -/
theorem Core.popMsg_takes {k k1 : Core} {s : State} {c vc : Nat} {m : Msg} {out : List Packet} (popped : k.popMsg s c vc = some (m, k1, out)) :
    k1 = { k with inq := k1.inq, counters := k1.counters } ∧ ∀ i, k1.counter i = if i = 12 then k.counter 12 + 1 else k.counter i := by
  unfold Core.popMsg at popped
  dsimp only at popped
  split at popped
  · cases popped
  · injection popped with popped
    rw [← (Prod.mk.inj (Prod.mk.inj popped).2).1]
    exact ⟨rfl, fun i => Core.counter_addCounter (k.setQueue vc _) 12 i 1⟩

/-- Two registers written one after the other. -/
theorem Core.setS_setS (k : Core) (n v m u : Nat) : ∃ x, (k.setS n v).setS m u = k.withS x ∧
    ∀ i, (k.withS x).reg i = if i = m ∧ m ≠ 0 then BitVec.ofNat 32 u else if i = n ∧ n ≠ 0 then BitVec.ofNat 32 v else k.reg i := by
  have both : (k.setS n v).setS m u = k.withS ((k.setS n v).setS m u).regs.s := by
    rw [Core.setS_withS (k.setS n v), Core.setS_withS k]
    rfl
  refine ⟨_, both, fun i => ?_⟩
  rw [← both, Core.reg_setS, Core.reg_setS]

/-! ### RECV and RPEEK as they issue (R173, R175, R181) -/

section
variable {s : State} {c w : Nat}

theorem recvBody_sleeps {k : Core} (inside : k.sreg (aField w) + k.sreg (bField w) ≤ 0x50000) (below : k.sreg (aField w) < 0x50000)
    (aligned : k.sreg (aField w) % 8 = 0) (open' : k.arrivalPending (msVc w) = false) (empty : (k.queue (msVc w)).msgs = []) :
    recvBody c s k w = .sleep { k with run := .sleepRecv } [] := by
  unfold recvBody
  dsimp only
  rw [if_neg (by rw [sramSize]; omega), if_neg (by omega), open', if_neg Bool.false_ne_true, Core.popMsg_none s c empty]

/-- The message is written over the memory its program sees. -/
theorem recvBody_delivers {k k1 : Core} {m : Msg} {out : List Packet} (inside : k.sreg (aField w) + k.sreg (bField w) ≤ 0x50000)
    (below : k.sreg (aField w) < 0x50000) (aligned : k.sreg (aField w) % 8 = 0) (open' : k.arrivalPending (msVc w) = false)
    (popped : k.popMsg s c (msVc w) = some (m, k1, out)) (fits : m.data.length ≤ k.sreg (bField w))
    (clear : k.writeBlocked (k.sreg (aField w)) m.data.length = false) (running : k1.run = .run) (sound : k1.sound (k.sreg (aField w)) m.data.length) :
    ∃ sb mem ce wb, recvBody c s k w =
        .done (((k1.withMemory sb mem ce wb).setS (dField w) m.data.length).setS (dField w + 1) m.sender).advance out ∧
      ∀ b, Memory.byte (overlay mem sb) b = if k.sreg (aField w) ≤ b ∧ b < k.sreg (aField w) + m.data.length then
        m.data.getD (b - k.sreg (aField w)) 0 else Memory.byte k1.seen b := by
  obtain ⟨⟨sb, mem, ce, wb, wrote⟩, seen⟩ := Core.drainFor_unitWrite sound
  rw [wrote] at seen
  refine ⟨sb, mem, ce, wb, ?_, seen⟩
  unfold recvBody
  dsimp only
  rw [if_neg (by rw [sramSize]; omega), if_neg (by omega), open', if_neg Bool.false_ne_true, popped]
  dsimp only
  rw [if_neg (by omega), clear, if_neg Bool.false_ne_true, wrote, ← running]
  rfl

end

theorem receiveDelivers : Claims.ReceiveDelivers := by
  intro s c w a cap h free isA isCap inside below aligned open'
  rw [← Core.sreg_eq_toNat] at isA isCap
  subst isA isCap
  refine ⟨fun empty => ?sleeps, fun m k out popped fits clear sound => ?delivers⟩
  case sleeps =>
    obtain ⟨t, issued, only, core⟩ := h.fallsAsleep (run := fun s k w => whenFree k [aField w, bField w, dField w, dField w + 1] (recvBody c s k w))
      (k := { s.core c with run := .sleepRecv }) rfl rfl rfl rfl
      ((whenFree_of_free free _).trans (recvBody_sleeps inside below aligned open' empty))
    obtain ⟨ctr, mark, same⟩ := State.stored_frame s c { s.core c with run := .sleepRecv }
    refine ⟨t, issued, only, core, ?_, ?_⟩
    · rw [core, same]
    · rw [core, same]
  case delivers =>
    obtain ⟨takes, received⟩ := Core.popMsg_takes popped
    have soundNow : k.sound ((s.core c).sreg (aField w)) m.data.length := by
      rw [takes]
      exact sound
    have running : k.run = .run := by
      rw [takes]
      exact h.runs
    obtain ⟨sb, mem, ce, wb, ran, seen⟩ := recvBody_delivers inside below aligned open' popped fits clear running soundNow
    obtain ⟨x, wrote, regs⟩ := Core.setS_setS (k.withMemory sb mem ce wb) (dField w) m.data.length (dField w + 1) m.sender
    rw [wrote] at ran
    obtain ⟨t, issued, rest, others, core, net⟩ := h.advancesSending
      (run := fun s k w => whenFree k [aField w, bField w, dField w, dField w + 1] (recvBody c s k w))
      (k := (k.withMemory sb mem ce wb).withS x) (by rw [takes]; exact ⟨rfl, rfl, rfl, rfl⟩) (by rw [takes]; rfl)
      (received 15) ((whenFree_of_free free _).trans ran)
    refine ⟨t, issued, rest, others, ?_, ?_, net, fun b => ?_, fun n => ?_⟩
    · rw [core]
      conv_lhs => rw [takes]
      rfl
    · rw [core, Core.counter_issued, if_neg (by decide)]
      exact received 12
    · rw [core, show (s.core c).seen = k.seen by rw [takes]; rfl]
      exact seen b
    · rw [core]
      refine (regs n).trans (if_congr (and_iff_left (Nat.succ_ne_zero _)) rfl (if_congr ?_ rfl ?_))
      · exact and_congr_right fun same => by rw [same]
      · rw [takes]
        rfl

theorem peekReadsLength : Claims.PeekReadsLength := by
  refine fun s c w h => ⟨fun det => ?refused, fun det open' free => ?reads⟩
  case refused =>
    change execRpeek c s = _
    exact h.traps (if_pos det)
  case reads =>
    change ∃ t, execRpeek c s = _ ∧ _
    cases listed : ((s.core c).queue (msVc w)).msgs with
    | nil =>
      refine h.writesRegister h.pc_lt ?_
      rw [det, if_neg Bool.false_ne_true, open', if_neg Bool.false_ne_true, whenFree_of_free free, listed]
      exact Core.okNext_setS ..
    | cons m r =>
      refine h.writesRegister h.pc_lt ?_
      rw [det, if_neg Bool.false_ne_true, open', if_neg Bool.false_ne_true, whenFree_of_free free, listed]
      exact Core.okNext_setS ..

/-- Settles O13: what RECV and RPEEK do is read off their rules; a message is written over the memory its program sees. -/
theorem receivesAndPeeks : Obligations.ReceivesAndPeeks := ⟨receiveDelivers, peekReadsLength⟩

end Sys2Proof.Machine
end

section
/-! PROOFS. O17: messages that arrive, and acknowledgements (R133, R219, R244, R245, R519). -/

namespace Sys2Proof.Machine

/-! ### A message joins its queue (R133, R245) -/

theorem State.reachable_exists {s : State} {c : Nat} (reach : s.reachable c = true) : c < nCores := by
  simp only [State.reachable, Bool.and_eq_true, decide_eq_true_eq] at reach
  exact reach.1.1.1

theorem InQueue.occupied_append (q : InQueue) (m : Msg) :
    InQueue.occupied { q with msgs := q.msgs ++ [m] } = q.occupied + slotsFor m.data.length := by
  simp [InQueue.occupied, List.foldl_append]

/-- The queue with a message behind the others; it remembers its highest level. -/
def InQueue.join (q : InQueue) (m : Msg) : InQueue :=
  { q with msgs := q.msgs ++ [m], hwm := max q.hwm (q.occupied + slotsFor m.data.length) }

theorem Core.queue_setQueue (k : Core) (vc vc' : Nat) (q : InQueue) : (k.setQueue vc q).queue vc' = if vc' = vc then q else k.queue vc' :=
  Tab.read_write _ _ _ _ _

/-- Core `c` replaced, and nothing else of the state. -/
def State.withCore (s : State) (c : Nat) (k : Core) : State := { s with cores := Tab.write s.cores Core.reset c k }

theorem State.core_withCore (s : State) (c c' : Nat) (k : Core) : (s.withCore c k).core c' = if c' = c then k else s.core c' :=
  Tab.read_write _ _ _ _ _

theorem State.modCore_setQueue (s : State) (c vc : Nat) (q : InQueue) :
    s.modCore c (fun k => k.setQueue vc q) = s.withCore c ((s.core c).setQueue vc q) :=
  s.setCore_quiet c _ rfl rfl rfl rfl rfl

/-- Progress is counted in the field, and noted for its partition's detector. -/
theorem State.progress_counts (s : State) (f : Nat) : (∃ fs ps, s.progress f = { s with fields := fs, parts := ps }) ∧
    ((s.progress f).field f).syn.progress = ((s.field f).syn.progress + 1) % 2 ^ 32 := by
  have counted : ((s.modSyn f fun y => { y with progress := (y.progress + 1) % 2 ^ 32 }).field f).syn.progress =
      ((s.field f).syn.progress + 1) % 2 ^ 32 := by
    rw [State.modSyn, State.field_modField, if_pos rfl]
  unfold State.progress
  dsimp only
  split
  · exact ⟨⟨_, s.parts, rfl⟩, counted⟩
  · exact ⟨⟨_, _, rfl⟩, counted⟩

theorem exec_messageAccept {s : State} {k c src : Nat} {p : Packet} {data : List Byte} (here : s.arriving k = some p) (dst : p.dst = .core c)
    (src' : p.src = .core src) (body : p.body = .msg data) (reach : s.reachable c = true) :
    exec (.messageAccept k) s = .next ((((s.take k).modCore c fun x => x.setQueue p.vc (((s.core c).queue p.vc).join { sender := src, data := data })).progress
      (fieldOf c)).inject [{ corePacket s c src p.vc true p.task p.tag .ack with part := p.part }]) := by
  change execMessageAccept k s = _
  unfold execMessageAccept
  rw [here]
  dsimp only
  rw [dst, src', body]
  dsimp only
  rw [State.acceptable, reach, Bool.true_or]
  rw [if_neg (by decide : ¬ (!true) = true), InQueue.occupied_append]
  rfl

theorem messageAccepted : Claims.MessageAccepted := by
  intro s k c src p data here dst src' body reach
  have run := exec_messageAccept here dst src' body reach
  rw [State.modCore_setQueue] at run
  obtain ⟨⟨fs, ps, counts⟩, counted⟩ := State.progress_counts
    ((s.take k).withCore c (((s.take k).core c).setQueue p.vc (((s.core c).queue p.vc).join { sender := src, data := data }))) (fieldOf c)
  rw [counts] at run counted
  refine ⟨_, run, rfl, fun c' other => (Tab.read_write _ _ _ _ _).trans (if_neg other), ?_, fun vc => ?_, counted, rfl⟩
  · exact (State.core_withCore (s.take k) c c _).trans (if_pos rfl) ▸ rfl
  · refine (congrArg (Core.queue · vc) ((State.core_withCore (s.take k) c c _).trans (if_pos rfl))).trans ((Core.queue_setQueue _ _ _ _).trans ?_)
    by_cases same : vc = p.vc
    · rw [if_pos same, if_pos same, same]; rfl
    · rw [if_neg same, if_neg same]; rfl

/-! ### A message is retired (R219, R244, R519) -/

theorem Core.holdsTask_congr {k k' : Core} (run : k'.run = k.run) (desc : k'.desc = k.desc) (task : DWord) : k'.holdsTask task = k.holdsTask task := by
  rw [Core.holdsTask, Core.holdsTask, run, desc]

theorem Core.post_of_unlost {k : Core} (unlost : k.lostSeq = none) (e : OutEntry) : k.post e = { k with outq := k.outq ++ [e] } := by
  rw [Core.post, unlost]

/-- What retiring a message posts: the producer ADVANCE of a finish-send of the running task. -/
def Core.posts (k : Core) (u : Unacked) : List OutEntry :=
  match u.bind with
  | some (i, r) => if k.holdsTask u.task then [{ op := .sadv i 1 false, after := u.seq + 1, rpc := some r }] else []
  | none => []

/-- A core that sent message `u`, now that it is acknowledged. -/
def Core.sentOff (k : Core) (u : Unacked) : Core :=
  ({ k with nif := { k.nif with unacked := k.nif.unacked.filter (fun x => !decide (x.tag = u.tag)) } }.addCounter 11 1).addCounter 13 u.len

/-- The same with what that posts. -/
def Core.retired (k : Core) (u : Unacked) : Core :=
  { k with nif := { k.nif with unacked := k.nif.unacked.filter (fun x => !decide (x.tag = u.tag)) }, counters := (k.sentOff u).counters,
           outq := k.outq ++ k.posts u }

theorem Core.retire_eq {k : Core} (unlost : k.lostSeq = none) (u : Unacked) : k.retire u = k.retired u := by
  have holds : (k.sentOff u).holdsTask u.task = k.holdsTask u.task := Core.holdsTask_congr rfl rfl u.task
  change (match u.bind with
    | some (i, r) => if (k.sentOff u).holdsTask u.task then (k.sentOff u).post { op := .sadv i 1 false, after := u.seq + 1, rpc := some r }
        else k.sentOff u
    | none => k.sentOff u) = _
  rw [holds]
  unfold Core.retired Core.posts
  split
  · split
    · exact Core.post_of_unlost (k := k.sentOff u) unlost _
    · rw [List.append_nil]; rfl
  · rw [List.append_nil]; rfl

theorem Core.counter_sentOff (k : Core) (u : Unacked) (i : Nat) :
    (k.sentOff u).counter i = if i = 13 then k.counter i + u.len else if i = 11 then k.counter i + 1 else k.counter i := by
  unfold Core.sentOff
  rw [Core.counter_addCounter]
  by_cases at13 : i = 13
  · subst at13
    rw [if_pos rfl, if_pos rfl, Core.counter_addCounter, if_neg (by decide)]
    rfl
  · rw [if_neg at13, if_neg at13, Core.counter_addCounter]
    by_cases at11 : i = 11
    · subst at11; rfl
    · rw [if_neg at11, if_neg at11]; rfl

theorem Core.counter_retired (k : Core) (u : Unacked) (i : Nat) :
    (k.retired u).counter i = if i = 13 then k.counter i + u.len else if i = 11 then k.counter i + 1 else k.counter i := by
  have counters : (k.retired u).counters = (k.sentOff u).counters := rfl
  rw [Core.counter, counters]
  exact k.counter_sentOff u i

theorem exec_ack {s : State} {k c : Nat} {p : Packet} {u : Unacked} (here : s.arriving k = some p) (dst : p.dst = .core c) (body : p.body = .ack)
    (alive : (s.core c).lost = false) (found : (s.core c).nif.unacked.find? (fun x => decide (x.tag = p.tag)) = some u) :
    exec (.ack k) s = .next ((s.take k).setCore c ((s.core c).retire u)) := by
  change execAck k s = _
  unfold execAck
  rw [here]
  dsimp only
  rw [dst, body]
  dsimp only
  rw [show (s.take k).core c = s.core c from rfl, alive, if_neg Bool.false_ne_true, found]

theorem ackRetiresMessage : Claims.AckRetiresMessage := by
  intro s k c p u here dst body alive found unlost
  have run := exec_ack here dst body alive found
  have unmet : ((s.core c).retired u).counter 15 = ((s.take k).core c).counter 15 := by
    rw [State.core_take, Core.counter_retired, if_neg (by decide), if_neg (by decide)]
  rw [Core.retire_eq unlost, State.setCore_quiet (s.take k) c ((s.core c).retired u) rfl unmet rfl rfl rfl] at run
  have now := State.core_withCore (s.take k) c c ((s.core c).retired u)
  rw [if_pos rfl] at now
  refine ⟨(s.take k).withCore c _, run, rfl, fun c' other => (State.core_withCore _ _ _ _).trans (if_neg other), ?_⟩
  rw [now]
  refine ⟨rfl, ?_, ?_, rfl, rfl⟩
  · rw [Core.counter_retired, if_neg (by decide), if_pos rfl]
  · rw [Core.counter_retired, if_pos rfl]

/-- Settles O17. -/
theorem messagesAccepted : Obligations.MessagesAccepted := ⟨messageAccepted, ackRetiresMessage⟩

end Sys2Proof.Machine
end

section
/-! PROOFS. O11: a recipe's finish-sends, its end and its faults (R145, R213, R215, R219, R224, R242, R244, R519). -/

namespace Sys2Proof.Machine

/-! ### The recipe that runs -/

theorem activeRecipe_head {r : Recipe} (begun : r.mem.isSome = true) (rest : List UnitItem) : activeRecipe [] (.recipe r :: rest) = some ([], r, rest) :=
  if_pos begun

/-- Putting back a core that has met nothing new, in a state where no failed task ends, changes only that core. -/
theorem State.onlyCore_setCore_finishFail {s : State} {c : Nat} {k : Core} (keeps : (s.core c).Keeps k) (unmet : k.counter 15 = (s.core c).counter 15)
    (going : k.ending = .none) : OnlyCore s ((s.setCore c k).finishFail c) c ∧ ((s.setCore c k).finishFail c).core c = k := by
  have core : (s.setCore c k).core c = k := State.core_setCore_keeps keeps
  rw [State.finishFail_none (by rw [core, going])]
  exact ⟨State.onlyCore_setCore keeps unmet, core⟩

/-! ### Finish-sends (R219, R242, R244) -/

/-- The credit entries replaced. -/
def Core.withCredits (k : Core) (l : List CreditEntry) : Core := { k with nif := { k.nif with credits := l } }

theorem NetIf.entry_names {n : NetIf} {dst vc : Nat} {e : CreditEntry} (found : n.entry dst vc = some e) : e.dst = dst ∧ e.vc = vc :=
  of_decide_eq_true (List.find?_some found :)

/-- The entry a message took its credit from is used last. -/
theorem NetIf.entry_placed {n : NetIf} {dst vc : Nat} {e : CreditEntry} (names : e.dst = dst ∧ e.vc = vc) (l : NetIf)
    (credits : l.credits = n.others dst vc ++ [e]) : l.entry dst vc = some e := by
  have beside : (n.others dst vc).find? (fun x => decide (x.dst = dst ∧ x.vc = vc)) = none := by
    simpa [NetIf.others] using fun x _ other at' => other.resolve_left (not_not_intro at')
  rw [NetIf.entry, credits, List.find?_append, beside, List.find?_cons_of_pos (by simpa using names)]
  rfl

theorem Core.sendCredit_taken {k : Core} {s : State} {c dst vc n : Nat} {recipe : Bool} {e : CreditEntry} (found : k.nif.entry dst vc = some e)
    (enough : n ≤ e.held) (alone : e.waiter ≠ some !recipe) :
    k.sendCredit s c dst vc n recipe =
      (true, k.withCredits (k.nif.others dst vc ++ [{ e with held := e.held - n, lastUse := s.half c, waiter := none }]), []) := by
  unfold Core.sendCredit
  dsimp only
  rw [found]
  dsimp only
  rw [if_neg alone, if_pos enough]
  rfl

/-- What stands in the table for a message just handed over (R244). -/
def Core.unackedNow (k : Core) (s : State) (dst vc : Nat) (data : List Byte) (bind : Option (Nat × Nat × Nat)) : Unacked :=
  { tag := k.nif.nextTag % 65536, seq := k.nif.sendSeq, dst := dst, vc := vc, at' := s.tstamp, len := data.length, task := k.desc.taskId, bind := bind }

theorem Core.handOver_committed {k : Core} (committed : k.commit = true) (s : State) (c dst vc : Nat) (data : List Byte)
    (bind : Option (Nat × Nat × Nat)) :
    k.handOver s c dst vc data bind =
      ({ k with nif := { k.nif with unacked := k.nif.unacked ++ [k.unackedNow s dst vc data bind], sendSeq := k.nif.sendSeq + 1,
                                    nextTag := (k.nif.nextTag % 65536 + 1) % 65536 } },
       [corePacket s c dst vc false k.desc.taskId (k.nif.nextTag % 65536) (.msg data)]) := by
  have first : k.commitFirst c = (k, []) := if_pos committed
  unfold Core.handOver
  rw [first]
  rfl

theorem Core.endHold_of_not_held {k : Core} (free : k.finHold = false) : k.endHold = k := by
  rw [Core.endHold, free, if_neg Bool.false_ne_true]

/-- The core whose recipe `r`, ahead of `rest`, has sent its next block. -/
def Core.finishSent (k : Core) (s : State) (r : Recipe) (rest : List UnitItem) (e : CreditEntry) : Core :=
  { k with
    uq := .recipe { r with sent := r.sent + 1 } :: rest,
    nif := { k.nif with
      credits := k.nif.others (rFsDest r.block) (rFsVc r.block) ++ [e],
      unacked := k.nif.unacked ++ [k.unackedNow s (rFsDest r.block) (rFsVc r.block) (messageBytes r r.sent)
        (if rFsBen r.block then some (rFsBind r.block, r.pc, r.nth) else none)],
      sendSeq := k.nif.sendSeq + 1, nextTag := (k.nif.nextTag % 65536 + 1) % 65536 } }

section
variable {s : State} {c : Nat} {r : Recipe} {rest : List UnitItem}

theorem exec_finishSend_holds (running : Claims.running s c r rest) (slices : rSlices r.block ≤ r.slices.length) (more : r.sent < rMsgs r.block)
    (full : 16 ≤ (s.core c).nif.unacked.length) (runs : (s.core c).run = .run) (going : (s.core c).ending = .none) (clean : (s.core c).asyncErr = none) :
    exec (.finishSend c) s = .next (s.setCore c { s.core c with run := .sleepSend, finHold := true }) := by
  obtain ⟨hc, queue, begun, sound⟩ := running
  refine (if_pos hc).trans (congrArg Host.Outcome.next ?_)
  dsimp only
  rw [queue, activeRecipe_head begun]
  dsimp only
  rw [if_neg (by rw [sound]; simp only [Option.isSome_none, Bool.false_eq_true, or_false]; omega), if_pos full, if_pos ⟨runs, going, by rw [clean]; rfl⟩]

theorem exec_finishSend_sends {e : CreditEntry} (running : Claims.running s c r rest) (slices : rSlices r.block ≤ r.slices.length)
    (more : r.sent < rMsgs r.block) (room : (s.core c).nif.unacked.length < 16) (only : rFs r.block = 1)
    (found : (s.core c).nif.entry (rFsDest r.block) (rFsVc r.block) = some e) (enough : slotsFor (sendBytes r.block) ≤ e.held)
    (alone : e.waiter ≠ some false) (committed : (s.core c).commit = true) (free : (s.core c).finHold = false) :
    exec (.finishSend c) s = .next ((s.setCore c ((s.core c).finishSent s r rest
        { e with held := e.held - slotsFor (sendBytes r.block), lastUse := s.half c, waiter := none })).inject
      [corePacket s c (rFsDest r.block) (rFsVc r.block) false (s.core c).desc.taskId ((s.core c).nif.nextTag % 65536)
        (.msg (messageBytes r r.sent))]) := by
  obtain ⟨hc, queue, begun, sound⟩ := running
  refine (if_pos hc).trans (congrArg Host.Outcome.next ?_)
  dsimp only
  rw [queue, activeRecipe_head begun]
  dsimp only
  rw [if_neg (by rw [sound]; simp only [Option.isSome_none, Bool.false_eq_true, or_false]; omega), if_neg (by omega),
    Core.sendCredit_taken (recipe := true) found enough alone]
  generalize credited : (s.core c).nif.others (rFsDest r.block) (rFsVc r.block) ++
    [{ e with held := e.held - slotsFor (sendBytes r.block), lastUse := s.half c, waiter := none }] = credits
  dsimp only
  rw [if_pos rfl, if_neg (by omega), Core.endHold_of_not_held (k := (s.core c).withCredits credits) free,
    Core.handOver_committed (k := (s.core c).withCredits credits) committed, ← credited]
  rfl

end

theorem finishSendLeaves : Claims.FinishSendLeaves := by
  intro s c r rest e running slices more
  refine ⟨fun full runs going clean => ?_, fun room only found enough alone committed free => ?_⟩
  · obtain ⟨frame, core⟩ := State.onlyCore_setCore_stored (s := s) (c := c) (k := { s.core c with run := .sleepSend, finHold := true }) rfl rfl rfl rfl
    exact ⟨_, exec_finishSend_holds running slices more full runs going clean, frame, core⟩
  · have run := exec_finishSend_sends running slices more room only found enough alone committed free
    generalize spent : ({ e with held := e.held - slotsFor (sendBytes r.block), lastUse := s.half c, waiter := none } : CreditEntry) = e' at run ⊢
    have names : e'.dst = rFsDest r.block ∧ e'.vc = rFsVc r.block := by rw [← spent]; exact NetIf.entry_names (e := e) found
    rw [State.setCore_quiet s c ((s.core c).finishSent s r rest e') rfl rfl rfl rfl rfl] at run
    have now : ∀ ps, ((s.withCore c ((s.core c).finishSent s r rest e')).inject ps).core c = (s.core c).finishSent s r rest e' :=
      fun ps => (State.core_withCore s c c _).trans (if_pos rfl)
    refine ⟨(s.withCore c _).inject _, run, rfl, fun c' other => (State.core_withCore s c c' _).trans (if_neg other), ?_⟩
    rw [now]
    exact ⟨rfl, NetIf.entry_placed names _ rfl, rfl, rfl⟩

/-! ### The end of a recipe (R213, R215, R519) -/

/-- Only data SRAM and the words in error or to be written back differ. -/
def Core.StoresOnly (k k' : Core) : Prop := k' = { k with sram := k'.sram, ue := k'.ue, ce := k'.ce, wback := k'.wback }

theorem Core.StoresOnly.refl (k : Core) : k.StoresOnly k := rfl

theorem Core.StoresOnly.trans {k k1 k2 : Core} (h : k.StoresOnly k1) (h' : k1.StoresOnly k2) : k.StoresOnly k2 := by
  unfold Core.StoresOnly at *
  rw [h', h]

theorem Core.StoresOnly.foldl {α : Type} {g : Core → α → Core} (stores : ∀ (k : Core) x, k.StoresOnly (g k x)) (l : List α) (k : Core) :
    k.StoresOnly (l.foldl g k) := by
  induction l generalizing k with
  | nil => exact .refl k
  | cons x l ih => exact (stores k x).trans (ih (g k x))

theorem Core.unitWrite_storesOnly (k : Core) (a : Nat) (bs : List Byte) : k.StoresOnly (k.unitWrite a bs) := rfl

theorem Core.writeTile_storesOnly (k : Core) (td c0 cols : Nat) (els : List Nat) : k.StoresOnly (k.writeTile td c0 cols els) := by
  refine Core.StoresOnly.foldl (fun k r => ?_) _ k
  dsimp only
  split
  · exact Core.StoresOnly.foldl (fun k p => k.unitWrite_storesOnly _ _) _ k
  · exact k.unitWrite_storesOnly _ _

theorem Core.storeBlock_storesOnly (k : Core) (r : Recipe) (n : Nat) : k.StoresOnly (k.storeBlock r n) := by
  unfold Core.storeBlock
  split
  · exact k.writeTile_storesOnly _ _ _ _
  · exact k.writeTile_storesOnly _ _ _ _

/-- What a recipe stores when it ends. -/
def Core.recipeStored (k : Core) (r : Recipe) : Core :=
  let k1 := if rFs r.block = 0 then
    (if rChain r.block then k.storeBlock r 0 else (upTo (rBlocks r.block)).foldl (fun k n => k.storeBlock r n) k) else k
  if rChain r.block && rRowfn r.block && decide (rFs r.block ≠ 1) then k1.unitWrite (rStats r.block) (chainStats (chainRows r)) else k1

theorem Core.recipeStored_storesOnly (k : Core) (r : Recipe) : k.StoresOnly (k.recipeStored r) := by
  have blocks : k.StoresOnly (if rFs r.block = 0 then
      (if rChain r.block then k.storeBlock r 0 else (upTo (rBlocks r.block)).foldl (fun k n => k.storeBlock r n) k) else k) := by
    split
    · split
      · exact k.storeBlock_storesOnly r 0
      · exact Core.StoresOnly.foldl (fun k n => k.storeBlock_storesOnly r n) _ k
    · exact .refl k
  unfold Core.recipeStored
  dsimp only
  split
  · exact blocks.trans (Core.unitWrite_storesOnly _ _ _)
  · exact blocks

theorem Core.recipeStored_of_sends (k : Core) {r : Recipe} (only : rFs r.block = 1) : k.recipeStored r = k := by
  unfold Core.recipeStored
  dsimp only
  rw [only, if_neg (c := (rChain r.block && rRowfn r.block && decide (1 ≠ 1)) = true) (by simp), if_neg (by decide)]

theorem Core.addSteps_counts (k : Core) (kind n : Nat) : k.addSteps kind n = { k with counters := (k.addSteps kind n).counters } ∧
    (k.addSteps kind n).counter 8 = k.counter 8 + n ∧ (k.addSteps kind n).counter 15 = k.counter 15 := by
  unfold Core.addSteps
  split
  · exact ⟨rfl, Core.counter_addCounter k 8 8 n, Core.counter_addCounter k 8 15 n⟩
  · exact ⟨rfl, (Core.counter_addCounter (k.addCounter 8 n) 17 8 n).trans (Core.counter_addCounter k 8 8 n),
      (Core.counter_addCounter (k.addCounter 8 n) 17 15 n).trans (Core.counter_addCounter k 8 15 n)⟩

/-- Multiplier steps are counted, and nothing else changes. -/
theorem Core.foldl_addSteps (l : List (Nat × Nat)) (k : Core) :
    l.foldl (fun k (p : Nat × Nat) => k.addSteps p.1 p.2) k = { k with counters := (l.foldl (fun k (p : Nat × Nat) => k.addSteps p.1 p.2) k).counters } ∧
    (l.foldl (fun k (p : Nat × Nat) => k.addSteps p.1 p.2) k).counter 8 = k.counter 8 + (l.map (fun x => x.2)).sum ∧
    (l.foldl (fun k (p : Nat × Nat) => k.addSteps p.1 p.2) k).counter 15 = k.counter 15 := by
  induction l generalizing k with
  | nil => exact ⟨rfl, rfl, rfl⟩
  | cons p l ih =>
    obtain ⟨first, steps, unmet⟩ := k.addSteps_counts p.1 p.2
    obtain ⟨rest, more, still⟩ := ih (k.addSteps p.1 p.2)
    rw [List.foldl_cons, List.map_cons, List.sum_cons]
    refine ⟨?_, by rw [more, steps, Nat.add_assoc], still.trans unmet⟩
    rw [rest, first]

theorem Core.runUnits_idle {k : Core} (idle : k.uq = []) (fuel : Nat) : k.runUnits fuel = k := by
  cases fuel with
  | zero => rfl
  | succ n =>
    rw [Core.runUnits, idle]
    rfl

/-- The core whose recipe has ended, its steps not yet counted. -/
def Core.recipeEnded (k : Core) (r : Recipe) : Core :=
  ({ k.recipeStored r with regs := { (k.recipeStored r).regs with a := [] }, uq := [] } : Core).raise (recipeFlags r)

theorem exec_recipeFinish {s : State} {c : Nat} {r : Recipe} (running : Claims.running s c r []) (slices : rSlices r.block ≤ r.slices.length)
    (sent : rMsgs r.block ≤ r.sent) :
    exec (.recipeFinish c) s = .next ((s.setCore c (((s.core c).recipeEnded r).recipeCount r)).finishFail c) := by
  obtain ⟨hc, queue, begun, sound⟩ := running
  have idle : (((s.core c).recipeEnded r).recipeCount r).uq = [] := by
    rw [Core.recipeCount, (Core.foldl_addSteps _ _).1]
    rfl
  refine (if_pos hc).trans (congrArg Host.Outcome.next ?_)
  dsimp only
  rw [queue, activeRecipe_head begun]
  dsimp only
  rw [if_neg (by rw [sound]; simp only [Option.isSome_none, Bool.false_eq_true, or_false]; omega)]
  exact congrArg (fun k => (s.setCore c k).finishFail c) (Core.runUnits_idle idle 16)

theorem Core.recipeEnded_eq (k : Core) (r : Recipe) : k.recipeEnded r = { k with
    sram := (k.recipeStored r).sram, ue := (k.recipeStored r).ue, ce := (k.recipeStored r).ce, wback := (k.recipeStored r).wback,
    regs := { k.regs with a := [] }, uq := [],
    csr := { k.csr with flags := k.csr.flags ||| recipeFlags r, tflags := k.csr.tflags ||| recipeFlags r } } := by
  have stores := k.recipeStored_storesOnly r
  unfold Core.recipeEnded
  generalize k.recipeStored r = k' at stores ⊢
  rw [stores]
  rfl

theorem recipeFinishes : Claims.RecipeFinishes := by
  intro s c r running slices sent going
  obtain ⟨counted, steps, unmet⟩ := Core.foldl_addSteps (recipeSteps r) ((s.core c).recipeEnded r)
  change ((s.core c).recipeEnded r).recipeCount r = _ at counted
  have core : ((s.setCore c (((s.core c).recipeEnded r).recipeCount r)).finishFail c).core c = ((s.core c).recipeEnded r).recipeCount r := by
    have put : (s.setCore c (((s.core c).recipeEnded r).recipeCount r)).core c = ((s.core c).recipeEnded r).recipeCount r := by
      rw [State.core_setCore, if_pos rfl, State.stored_same s c]
      · rw [counted, Core.recipeEnded_eq]
      · rw [counted, Core.recipeEnded_eq]
    rw [State.finishFail_none, put]
    rw [put, counted, Core.recipeEnded_eq]
    exact going
  refine ⟨_, exec_recipeFinish running slices sent, ?_⟩
  rw [core]
  have sends (only : rFs r.block = 1) : ((s.core c).recipeEnded r).recipeCount r = { s.core c with
      regs := { (s.core c).regs with a := [] }, uq := [], counters := (((s.core c).recipeEnded r).recipeCount r).counters,
      csr := { (s.core c).csr with flags := (s.core c).csr.flags ||| recipeFlags r, tflags := (s.core c).csr.tflags ||| recipeFlags r } } := by
    rw [counted, Core.recipeEnded_eq, Core.recipeStored_of_sends _ only]
  refine ⟨?_, ?_, ?_, ?_, ?_, ?_, ?_, fun only => ⟨?_, ?_, ?_⟩⟩
  · rw [counted, Core.recipeEnded_eq]
  · rw [counted, Core.recipeEnded_eq]
    exact fun _ _ _ => rfl
  · rw [counted, Core.recipeEnded_eq]
  · rw [counted, Core.recipeEnded_eq]
  · rw [Core.recipeCount, steps, Core.recipeEnded_eq]
    rfl
  · rw [counted, Core.recipeEnded_eq]
  · rw [counted, Core.recipeEnded_eq]
  · refine (State.onlyCore_setCore_finishFail ?_ ?_ ?_).1
    · rw [sends only]
      exact ⟨rfl, rfl, rfl, rfl⟩
    · rw [Core.recipeCount, unmet, Core.recipeEnded_eq]
      rfl
    · rw [sends only]
      exact going
  · rw [sends only]
  · rw [sends only]

/-! ### A recipe's fault (R145, R219, R224) -/

/-- What a fault leaves of a message's entry: one that the recipe sent posts no ADVANCE. -/
def Unacked.quiet (nth : Nat) (u : Unacked) : Unacked :=
  match u.bind with
  | some (_, _, n) => if n = nth then { u with bind := none } else u
  | none => u

theorem Unacked.quiet_eq (nth : Nat) : Unacked.quiet nth = fun u => if u.bind.any (fun b => decide (b.2.2 = nth)) then { u with bind := none } else u := by
  funext u
  unfold Unacked.quiet
  cases u.bind with
  | none => rfl
  | some b => simp

/-- The core without the recipe and what waits behind it. -/
def Core.halted (k : Core) (r : Recipe) : Core :=
  { k with uq := [], nif := { k.nif.stopWaiting true with unacked := k.nif.unacked.map (Unacked.quiet r.nth) } }

/-- The core whose recipe `r` a fault has stopped. -/
def Core.recipeStopped (k : Core) (r : Recipe) (cause addr : Nat) : Core :=
  { k with
    uq := [],
    nif := { k.nif.stopWaiting true with unacked := k.nif.unacked.map (Unacked.quiet r.nth) },
    asyncErr := if k.asyncErr = none ∨ r.nth < k.errAt then some (cause, some r.pc, addr) else k.asyncErr,
    errAt := if k.asyncErr = none ∨ r.nth < k.errAt then r.nth else k.errAt }

/-- A fault pends unless the error of an earlier instruction does. -/
theorem Core.pend_eq (k : Core) (cause : Nat) (pc : Option Nat) (addr nth : Nat) :
    k.pend cause pc addr nth = { k with
      asyncErr := if k.asyncErr = none ∨ nth < k.errAt then some (cause, pc, addr) else k.asyncErr,
      errAt := if k.asyncErr = none ∨ nth < k.errAt then nth else k.errAt } := by
  unfold Core.pend
  cases waits : k.asyncErr with
  | none => simp
  | some e =>
    by_cases earlier : nth < k.errAt
    · simp [earlier]
    · simp only [earlier, reduceCtorEq, or_self, if_false]
      rw [← waits]

theorem Core.deliver_of_going {k : Core} (going : k.ending = .none) (cause pc addr nth : Nat) : k.deliver cause pc addr nth = k.pend cause (some pc) addr nth := by
  rw [Core.deliver, going]

theorem Core.failRecipe_eq {k : Core} (going : k.ending = .none) (r : Recipe) {cause : Nat} (other : cause ≠ 0x3183) (addr : Nat) :
    k.failRecipe [] r (cause, addr) = k.recipeStopped r cause addr := by
  have halts : k.failRecipe [] r (cause, addr) = (k.halted r).deliver cause r.pc addr r.nth := if_neg other
  rw [halts, Core.deliver_of_going (k := k.halted r) going, Core.pend_eq]
  rfl

theorem recipeFaultStops : Claims.RecipeFaultStops := by
  intro s c r rest cause addr hc queue begun fault other going
  obtain ⟨frame, core⟩ := State.onlyCore_setCore_finishFail (s := s) (c := c) (k := (s.core c).recipeStopped r cause addr) ⟨rfl, rfl, rfl, rfl⟩ rfl going
  refine ⟨_, (if_pos hc).trans (congrArg Host.Outcome.next ?_), frame, by rw [core, Core.recipeStopped, Unacked.quiet_eq]⟩
  dsimp only
  rw [queue, activeRecipe_head begun]
  dsimp only
  rw [fault, ← Core.failRecipe_eq going r other]

/-- Settles O11. -/
theorem recipeEnds : Obligations.RecipeEnds := ⟨finishSendLeaves, recipeFinishes, recipeFaultStops⟩

end Sys2Proof.Machine
end

section
/-! PROOFS. O53, scrubs: rows of the cores' memories and slots of the Cisterns (R131, R515 to R517). -/

namespace Sys2Proof.Machine

/-! ### A word counted as uncorrectable (R517) -/

/-- The fault cause of an uncorrectable word, and the running total it counts in. -/
def UeSpace.cause : UeSpace → Nat
  | .sram => 0x3183
  | .istore => 0x3184
  | .cistern => 0x3141
def UeSpace.total : UeSpace → Nat
  | .sram => 2
  | .istore => 2
  | .cistern => 4

/-- The record last added is the one a report brings. -/
theorem State.lastRecord_report {s : State} {f : Nat} (hf : f < 72) (r : FaultRec) :
    Claims.lastRecord (s.field f).faults ((s.report f r).field f).faults r.cause r.scope r.id s.tstamp := fun room => by
  rw [State.field_report hf, if_pos room]
  exact ⟨_, rfl, rfl, rfl, rfl, rfl⟩

/-- The record of an uncorrectable word. -/
def UeSpace.record (sp : UeSpace) (f unit w : Nat) (task : Option DWord) : FaultRec :=
  match sp with
  | .sram => { plainFault 0x3183 2 f w with core := some unit, task := task }
  | .istore => { plainFault 0x3184 2 f (1 <<< 30 + w) with core := some unit, task := task }
  | .cistern => { plainFault 0x3141 2 f (1 <<< 31 + w) with task := task }

theorem UeSpace.record_names (sp : UeSpace) (f unit w : Nat) (task : Option DWord) :
    (sp.record f unit w task).cause = sp.cause ∧ (sp.record f unit w task).scope = 2 ∧ (sp.record f unit w task).id = f := by
  cases sp <;> exact ⟨rfl, rfl, rfl⟩

/-- The field's table names one word more. -/
def Field.lists (x : Field) (e : UeSpace × Nat × Nat) : Field := { x with ueTab := x.ueTab ++ [e] }

/-- A field that has counted no word yet counts this one, and records it. -/
theorem State.countUe_fresh {s : State} {f : Nat} (new : (s.field f).ueTab = []) (sp : UeSpace) (unit w : Nat) (task : Option DWord) :
    s.countUe f sp unit w task = ((s.addTotal sp.total 1).modField f (·.lists (sp, unit, w))).report f (sp.record f unit w task) := by
  unfold State.countUe
  dsimp only
  rw [new, if_neg (by simp), if_pos (by decide)]
  cases sp <;> rfl

section
variable {s : State} {f : Nat} (hf : f < 72) (new : (s.field f).ueTab = []) (sp : UeSpace) (unit w : Nat) (task : Option DWord)
include new

theorem State.faultCount_countUe : (s.countUe f sp unit w task).faultCount = (s.faultCount + 1) % 2 ^ 32 := by
  rw [State.countUe_fresh new, State.report_faultCount]
  rfl

theorem State.totals_countUe : Tab.read (s.countUe f sp unit w task).totals 0 sp.total = (Tab.read s.totals 0 sp.total + 1) % 2 ^ 64 := by
  rw [State.countUe_fresh new, State.report_frame]
  exact (Tab.read_write _ _ _ _ _).trans (if_pos rfl)

include hf

theorem State.field_countUe :
    (s.countUe f sp unit w task).field f = { s.field f with ueTab := [(sp, unit, w)], faults := ((s.countUe f sp unit w task).field f).faults } := by
  have put : ((s.addTotal sp.total 1).modField f (·.lists (sp, unit, w))).field f = { s.field f with ueTab := [(sp, unit, w)] } := by
    rw [State.field_modField, if_pos rfl, Field.lists, show (s.addTotal sp.total 1).field f = s.field f from rfl, new, List.nil_append]
  rw [State.countUe_fresh new, State.field_report hf, put]

theorem State.lastRecord_countUe :
    Claims.lastRecord (s.field f).faults ((s.countUe f sp unit w task).field f).faults sp.cause 2 f s.tstamp := by
  have last := State.lastRecord_report (s := (s.addTotal sp.total 1).modField f (·.lists (sp, unit, w))) hf (sp.record f unit w task)
  obtain ⟨cause, scope, id⟩ := sp.record_names f unit w task
  rw [cause, scope, id, ← State.countUe_fresh new, State.field_modField, if_pos rfl] at last
  exact last

end

/-! ### The row read (R515, R517) -/

/-- A row that is not a pass's last is followed by the next, an interval later. -/
theorem Scrub.next_mid (x : Scrub) {rows : Nat} (more : x.row + 1 < rows) (now gap : Nat) :
    (x.next now rows gap).row = x.row + 1 ∧ (x.next now rows gap).due = (if x.due = 0 then now else x.due) + gap := by
  have mid : x.next now rows gap =
      { x with row := x.row + 1, due := (if x.due = 0 then now else x.due) + gap, since := if x.row = 0 then now else x.since } :=
    if_neg (by simpa using more)
  rw [mid]
  exact ⟨rfl, rfl⟩

theorem joinBad_nil (l : List Nat) (base : Nat) (ue : Bool) : joinBad l base [] ue = l := rfl

/-- One word of the row is found uncorrectable, in a memory that had none in error. -/
theorem joinBad_one {j : Nat} (hj : j < 8) (base : Nat) :
    joinBad [] base [(j, true)] true = [base + j] ∧ joinBad [] base [(j, true)] false = [] := by
  simp [joinBad, hj]

/-- That word alone of the row is in error. -/
theorem row_filter_one {j : Nat} (hj : j < 8) (base : Nat) :
    ((upTo 8).map (fun i => base + i)).filter (fun w => [base + j].contains w) = [base + j] := by
  have only : ∀ j < 8, (List.range 8).filter (fun i => decide (i = j)) = [j] := by decide
  have same : (fun w => [base + j].contains w) ∘ (fun i => base + i) = fun i => decide (i = j) := by
    funext i
    simp [Function.comp]
  rw [List.filter_map, same, upTo, only j hj]
  rfl

theorem Core.readCe_of_clean {k : Core} (clean : k.ce = []) (ws : List Nat) : k.readCe ws = k := by
  unfold Core.readCe
  induction ws with
  | nil => rfl
  | cons w ws ih => rw [List.foldl_cons, clean]; exact ih

/-- A core whose bank has been read, with what is now uncorrectable in it. -/
def Core.scrubbed (k : Core) (bank now : Nat) (ue : List Nat) : Core :=
  { k with scrub := Tab.write k.scrub Scrub.reset bank ((Tab.read k.scrub Scrub.reset bank).next now 512 195300), ue := ue }

section
variable {s : State} {c bank : Nat}

/-- A row of data SRAM in which nothing correctable is met. -/
theorem State.scrubRow_sram (data : bank < 10) (clean : (s.core c).ce = []) {found : List (Nat × Bool)} {row : Nat} {bad : List Nat}
    (at' : row = bank * 4096 + 8 * (Tab.read (s.core c).scrub Scrub.reset bank).row)
    (ue : joinBad (s.core c).ue row found true = bad) (ce : joinBad [] row found false = []) :
    s.scrubRow c bank found = (((upTo 8).map (fun j => row + j)).filter (fun w => bad.contains w)).foldl
      (fun s w => s.countUe (fieldOf c) .sram c w none) (s.setCore c ((s.core c).scrubbed bank s.tstamp bad)) := by
  have not_store : ¬ bank = 10 := by omega
  unfold State.scrubRow
  simp only [not_store, decide_false, Bool.false_eq_true, if_false, ← at', clean, ue, ce, List.filter_nil]
  rw [Core.readCe_of_clean rfl, Nat.sub_self, if_pos rfl, Core.scrubbed, ← clean]

/-- With uncorrectable words newly noted only the core differs while its field's table is empty. -/
theorem State.setCore_bad {k : Core} (run : k.run = (s.core c).run) (unmet : k.counter 15 = (s.core c).counter 15) (found : k.found = (s.core c).found)
    (none : (s.field (fieldOf c)).ueTab = []) :
    ∃ fs, s.setCore c k = { s with cores := Tab.write s.cores Core.reset c k, fields := fs } ∧ (s.setCore c k).field (fieldOf c) = s.field (fieldOf c) := by
  have forgets : ∃ fs, s.forgetUe (fieldOf c) c (s.core c) k = { s with fields := fs } ∧
      (s.forgetUe (fieldOf c) c (s.core c) k).field (fieldOf c) = s.field (fieldOf c) := by
    unfold State.forgetUe
    split
    · exact ⟨s.fields, rfl, rfl⟩
    · refine ⟨_, rfl, ?_⟩
      rw [State.field_modField, if_pos rfl, none, List.filter_nil, ← none]
  obtain ⟨fs, forgot, field⟩ := forgets
  have put : s.setCore c k = { s.forgetUe (fieldOf c) c (s.core c) k with cores := Tab.write s.cores Core.reset c k } := by
    unfold State.setCore
    dsimp only
    rw [State.stored_same s c k run found, unmet, Nat.sub_self, if_pos rfl, found, List.drop_length, ← s.forgetUe_cores (fieldOf c) c (s.core c) k]
    rfl
  exact ⟨fs, by rw [put, forgot], by rw [put]; exact field⟩

/-- The two ways in which a row that is due is read. -/
theorem exec_scrubs {found : List (Nat × Bool)} {cmd : Instr} (hc : c < nCores) (may : s.scrubs c bank = true)
    (due : cmd = .sramScrubRow c bank found ∧ (Tab.read (s.core c).scrub Scrub.reset bank).due ≤ s.tstamp ∨
      cmd = .forcedScrubCycle c bank found ∧ (Tab.read (s.core c).scrub Scrub.reset bank).due ≠ 0 ∧
        (Tab.read (s.core c).scrub Scrub.reset bank).due + 512 / (24 - (s.field (fieldOf c)).clk.fstate) ≤ s.tstamp) :
    exec cmd s = .next (s.scrubRow c bank found) := by
  obtain ⟨rfl, passed⟩ | ⟨rfl, waiting, passed⟩ := due
  · exact (if_pos hc).trans (congrArg Host.Outcome.next (if_pos ⟨may, passed⟩))
  · exact (if_pos hc).trans (congrArg Host.Outcome.next (if_pos ⟨may, waiting, passed⟩))

/-- Nothing is found: the core goes on to the next row. -/
theorem State.scrubRow_clean (data : bank < 10) (sound : (s.core c).ue = []) (clean : (s.core c).ce = []) :
    OnlyCore s (s.scrubRow c bank []) c ∧ (s.scrubRow c bank []).core c = (s.core c).scrubbed bank s.tstamp [] := by
  have row : s.scrubRow c bank [] = s.setCore c ((s.core c).scrubbed bank s.tstamp []) := by
    rw [State.scrubRow_sram data clean rfl rfl (joinBad_nil _ _ _), joinBad_nil, sound]
    simp
  have keeps : (s.core c).Keeps ((s.core c).scrubbed bank s.tstamp []) := ⟨rfl, rfl, sound.symm, rfl⟩
  rw [row]
  exact ⟨State.onlyCore_setCore keeps rfl, State.core_setCore_keeps keeps⟩

/-- A word is found uncorrectable: it is the core's one, and counted and recorded. -/
theorem State.scrubRow_bad (data : bank < 10) (sound : (s.core c).ue = []) (clean : (s.core c).ce = []) {j w : Nat} (hj : j < 8)
    (word : w = bank * 4096 + 8 * (Tab.read (s.core c).scrub Scrub.reset bank).row + j) (new : (s.field (fieldOf c)).ueTab = []) :
    ∃ fs, s.scrubRow c bank [(j, true)] = ({ s with
        cores := Tab.write s.cores Core.reset c ((s.core c).scrubbed bank s.tstamp [w]), fields := fs } : State).countUe (fieldOf c) .sram c w none ∧
      Tab.read fs Field.reset (fieldOf c) = s.field (fieldOf c) := by
  obtain ⟨bad, none⟩ := joinBad_one hj (bank * 4096 + 8 * (Tab.read (s.core c).scrub Scrub.reset bank).row)
  rw [← word] at bad
  obtain ⟨fs, put, field⟩ := State.setCore_bad (s := s) (c := c) (k := (s.core c).scrubbed bank s.tstamp [w]) rfl rfl rfl new
  refine ⟨fs, ?_, by rw [← field, put]; rfl⟩
  rw [State.scrubRow_sram data clean rfl rfl none, sound, bad, word, row_filter_one hj, ← word, List.foldl_cons, List.foldl_nil, put]

end

/-! ### A Cistern's slot read (R93, R516, R517) -/

/-- The Cistern whose slot has been read, with what is now uncorrectable in it. -/
def Cistern.scrubbed (x : Cistern) (now : Nat) (ue : List Nat) : Cistern := { x with ue := ue, ce := [], scrub := x.scrub.next now 65536 1500 }

section
variable {s : State} {f : Nat} (hf : f < 72) (on : (s.field f).clk.md = .on) (due : (s.field f).cis.scrub.due ≤ s.tstamp) (sound : (s.field f).cis.ue = [])
  (clean : (s.field f).cis.ce = [])
include hf on due sound clean

theorem exec_tableScrubSlot_clean : exec (.tableScrubSlot f []) s = .next (s.modCis f (·.scrubbed s.tstamp [])) := by
  refine (if_pos hf).trans (congrArg Host.Outcome.next ?_)
  dsimp only
  rw [if_neg (by rw [on]; simp only [ne_eq, not_true, false_or]; omega)]
  simp only [joinBad_nil, sound, clean, List.contains_nil, Bool.false_and, List.filter_false, List.isEmpty_nil, if_true, List.filter_nil]
  rfl

theorem exec_tableScrubSlot_bad {j : Nat} (hj : j < 8) (free : (s.field f).cis.isNode (s.field f).cis.scrub.row = false) :
    exec (.tableScrubSlot f [(j, true)]) s = .next ((((s.modCis f (·.scrubbed s.tstamp [8 * (s.field f).cis.scrub.row + j])).countUe f .cistern 0
      (8 * (s.field f).cis.scrub.row + j) none)).modCis f (fun x => x.error 2 0x3141 (s.field f).cis.scrub.row)) := by
  obtain ⟨bad, none⟩ := joinBad_one hj (8 * (s.field f).cis.scrub.row)
  refine (if_pos hf).trans (congrArg Host.Outcome.next ?_)
  dsimp only
  rw [if_neg (by rw [on]; simp only [ne_eq, not_true, false_or]; omega)]
  simp only [sound, clean, bad, none, row_filter_one hj, free, List.contains_nil, Bool.false_and, List.filter_false, List.isEmpty_nil, if_true,
    List.filter_nil, List.isEmpty_cons, Bool.false_eq_true, if_false, List.foldl_cons, List.foldl_nil]
  rfl

end

theorem scrubbersRead : Claims.ScrubbersRead := by
  intro s
  refine ⟨?_, ?_⟩
  · intro c bank x cmd hc data may is mid sound clean found due
    subst is
    have run := exec_scrubs hc may due
    refine ⟨fun none => ?_, fun j w one hj word new => ?_⟩
    · subst none
      obtain ⟨frame, core⟩ := State.scrubRow_clean (s := s) (c := c) data sound clean
      refine ⟨_, run, frame, ?_⟩
      have next : Tab.read ((s.core c).scrubbed bank s.tstamp []).scrub Scrub.reset bank =
          (Tab.read (s.core c).scrub Scrub.reset bank).next s.tstamp 512 195300 := (Tab.read_write _ _ _ _ _).trans (if_pos rfl)
      rw [core, next]
      refine ⟨?_, Scrub.next_mid _ (by omega) _ _⟩
      rw [Core.scrubbed, ← sound]
    · subst one
      obtain ⟨fs, row, field⟩ := State.scrubRow_bad data sound clean hj word new
      rw [row] at run
      generalize marked : ({ s with cores := Tab.write s.cores Core.reset c ((s.core c).scrubbed bank s.tstamp [w]), fields := fs } : State) = s1 at run
      have core : (s1.countUe (fieldOf c) .sram c w none).core c = (s.core c).scrubbed bank s.tstamp [w] := by
        rw [State.core, State.countUe_cores, ← marked]
        exact (Tab.read_write _ _ _ _ _).trans (if_pos rfl)
      have same : s1.field (fieldOf c) = s.field (fieldOf c) := by rw [← marked]; exact field
      rw [← same] at new
      have hf := fieldOf_lt hc
      refine ⟨_, run, ?_⟩
      have last := State.lastRecord_countUe hf new .sram c w none
      rw [same, ← marked] at last
      rw [core]
      exact ⟨rfl, rfl, rfl, (State.faultCount_countUe new .sram c w none).trans (by rw [← marked]),
        (State.totals_countUe new .sram c w none).trans (by rw [← marked]; rfl), by rw [State.field_countUe hf new], by rw [← marked]; exact last⟩
  · intro f x hf on is due mid sound clean
    subst is
    have here (ue : List Nat) : (s.modCis f (·.scrubbed s.tstamp ue)).field f = { s.field f with cis := (s.field f).cis.scrubbed s.tstamp ue } :=
      (State.field_modField _ _ _ _).trans (if_pos rfl)
    refine ⟨⟨_, exec_tableScrubSlot_clean hf on due sound clean, rfl, fun g other => (State.field_modField _ _ _ _).trans (if_neg other), ?_⟩,
      fun j hj free new => ?_⟩
    · rw [here]
      exact ⟨rfl, rfl, Scrub.next_mid (s.field f).cis.scrub (by omega) _ _⟩
    · refine ⟨_, exec_tableScrubSlot_bad hf on due sound clean hj free, ?_⟩
      generalize word : 8 * (s.field f).cis.scrub.row + j = w
      have new1 : ((s.modCis f (·.scrubbed s.tstamp [w])).field f).ueTab = [] := by rw [here]; exact new
      have last := State.lastRecord_countUe hf new1 .cistern 0 w none
      have met := State.field_countUe hf new1 .cistern 0 w none
      rw [here] at last met
      rw [State.modCis, State.field_modField, if_pos rfl, met]
      exact ⟨rfl, rfl, State.faultCount_countUe new1 .cistern 0 w none, rfl, last⟩

end Sys2Proof.Machine
end

section
/-! PROOFS. O53, statistics and the trace stream (R521, R526 to R531). -/

namespace Sys2Proof.Machine

theorem State.traceDest_setTraceDest (s : State) (p : Nat) (d : TraceDest) : (s.setTraceDest p d).traceDest p = d :=
  (Tab.read_write _ _ _ _ _).trans (if_pos rfl)

/-! ### The end of an interval (R521, R526) -/

/-- What an interval's end leaves of a state: nothing that another field's end looks at changes, and a snapshot waiting keeps waiting. -/
structure State.Snapped (s t : State) : Prop where
  rd : t.rd = s.rd
  hostOut : t.hostOut = s.hostOut
  clk : ∀ f, (t.field f).clk = (s.field f).clk
  cores : ∀ c, (t.core c).run = (s.core c).run ∧ (t.core c).lost = (s.core c).lost
  partial' : ∀ f, (s.field f).obs.partialIv = false → (t.field f).obs.partialIv = false
  stats : ∀ f x, (s.field f).obs.stats = some x → (t.field f).obs.stats = some x

theorem State.Snapped.refl (s : State) : s.Snapped s := ⟨rfl, rfl, fun _ => rfl, fun _ => ⟨rfl, rfl⟩, fun _ h => h, fun _ _ h => h⟩

theorem State.Snapped.trans {s t u : State} (h : s.Snapped t) (h' : t.Snapped u) : s.Snapped u :=
  ⟨h'.rd.trans h.rd, h'.hostOut.trans h.hostOut, fun f => (h'.clk f).trans (h.clk f),
    fun c => ⟨(h'.cores c).1.trans (h.cores c).1, (h'.cores c).2.trans (h.cores c).2⟩,
    fun f clear => h'.partial' f (h.partial' f clear), fun f x waits => h'.stats f x (h.stats f x waits)⟩

/-- The cores that statistics cover are the same. -/
theorem State.Snapped.statCores {s t : State} (h : s.Snapped t) (f : Nat) : t.statCores f = s.statCores f := by
  unfold State.statCores
  exact congrArg (fun p => (upTo 1280).filter p) (funext fun li => by rw [(h.cores _).1, (h.cores _).2])

/-- The queues' highest levels start anew: only inboxes of cores change. -/
theorem State.newLevels_frame (f : Nat) (g : Core → Core) (inboxes : ∀ k : Core, g k = { k with inq := (g k).inq }) (lis : List Nat) (s : State) :
    ∃ cs, lis.foldl (fun s li => s.modCore (coreId f li) g) s = { s with cores := cs } ∧
      ∀ c, (Tab.read cs Core.reset c).run = (s.core c).run ∧ (Tab.read cs Core.reset c).lost = (s.core c).lost := by
  induction lis generalizing s with
  | nil => exact ⟨s.cores, rfl, fun _ => ⟨rfl, rfl⟩⟩
  | cons li lis ih =>
    have one : s.modCore (coreId f li) g = s.withCore (coreId f li) (g (s.core (coreId f li))) := by
      rw [State.modCore, inboxes]
      exact State.setCore_quiet s _ { s.core (coreId f li) with inq := _ } rfl rfl rfl rfl rfl
    have same (c : Nat) : ((s.withCore (coreId f li) (g (s.core (coreId f li)))).core c).run = (s.core c).run ∧
        ((s.withCore (coreId f li) (g (s.core (coreId f li)))).core c).lost = (s.core c).lost := by
      rw [State.core_withCore]
      split
      next at' => rw [inboxes, at']; exact ⟨rfl, rfl⟩
      next => exact ⟨rfl, rfl⟩
    obtain ⟨cs, rest, kept⟩ := ih (s.withCore (coreId f li) (g (s.core (coreId f li))))
    refine ⟨cs, ?_, fun c => ⟨(kept c).1.trans (same c).1, (kept c).2.trans (same c).2⟩⟩
    rw [List.foldl_cons, one, rest]
    rfl

theorem length_flatMap {α β : Type} {g : α → List β} {n : Nat} (each : ∀ a, (g a).length = n) (l : List α) : (l.flatMap g).length = l.length * n := by
  rw [List.length_flatMap, List.map_congr_left fun a _ => each a, List.map_const', List.sum_replicate, smul_eq_mul]

/-- A field counter changes nothing else of any field. -/
theorem State.field_addFieldCtr (s : State) (f off n g : Nat) :
    ∃ cs, (s.addFieldCtr f off n).field g = { s.field g with obs := { (s.field g).obs with counters := cs } } := by
  unfold State.addFieldCtr
  rw [State.field_modField]
  split
  next same => rw [same]; exact ⟨_, rfl⟩
  next => exact ⟨_, rfl⟩

/-- The records of a field's interval: two of each core that statistics cover, and one of the field. -/
def State.intervalRecs (s : State) (p f ts : Nat) (part : Bool) : List TraceRec :=
  (s.statCores f).flatMap (fun li => s.coreStats p f li ts (part || (s.field f).obs.partialIv)) ++ [s.fieldStats p f ts]

theorem State.intervalRecs_length (s : State) (p f ts : Nat) (part : Bool) :
    (s.intervalRecs p f ts part).length = 2 * (s.statCores f).length + 1 := by
  rw [State.intervalRecs, List.length_append, length_flatMap (n := 2) fun _ => rfl, Nat.mul_comm]
  rfl

/-- What the end of an interval leaves in each field, and elsewhere. -/
theorem State.endInterval_frame (s : State) (p f ts : Nat) (make part : Bool) : ∃ cs fs, s.endInterval p f ts make part = { s with cores := cs, fields := fs } ∧
    (∀ c, (Tab.read cs Core.reset c).run = (s.core c).run ∧ (Tab.read cs Core.reset c).lost = (s.core c).lost) ∧
    (∀ g, (Tab.read fs Field.reset g).clk = (s.field g).clk ∧
      (Tab.read fs Field.reset g).obs.stats = (if g = f ∧ (make && (s.field f).obs.stats.isNone) = true then some { endTs := ts, recs := s.intervalRecs p f ts part }
        else (s.field g).obs.stats) ∧
      (Tab.read fs Field.reset g).obs.partialIv = if g = f then false else (s.field g).obs.partialIv) := by
  obtain ⟨cs, levels, kept⟩ := s.newLevels_frame f
    (fun k => { k with inq := k.inq.map (fun (e : Nat × InQueue) => (e.1, { e.2 with hwm := e.2.occupied })) }) (fun _ => rfl) (s.statCores f)
  unfold State.endInterval
  dsimp only
  rw [levels]
  generalize going : (make && (s.field f).obs.stats.isNone) = go
  have counted : ∃ fs, (if go = true then ({ s with cores := cs } : State).addFieldCtr f 0x68 (s.intervalRecs p f ts part).length else { s with cores := cs }) =
      { s with cores := cs, fields := fs } ∧ ∀ g, (Tab.read fs Field.reset g).clk = (s.field g).clk ∧
        (Tab.read fs Field.reset g).obs.stats = (s.field g).obs.stats ∧ (Tab.read fs Field.reset g).obs.partialIv = (s.field g).obs.partialIv := by
    split
    · refine ⟨_, rfl, fun g => ?_⟩
      obtain ⟨ctr, counts⟩ := State.field_addFieldCtr { s with cores := cs } f 0x68 (s.intervalRecs p f ts part).length g
      exact ⟨congrArg (·.clk) counts, congrArg (·.obs.stats) counts, congrArg (·.obs.partialIv) counts⟩
    · exact ⟨s.fields, rfl, fun g => ⟨rfl, rfl, rfl⟩⟩
  obtain ⟨fs, counts, same⟩ := counted
  unfold State.intervalRecs at counts
  rw [counts]
  refine ⟨cs, _, rfl, kept, fun g => ?_⟩
  obtain ⟨clk, stats, part'⟩ := same g
  rw [Tab.read_write]
  by_cases mine : g = f
  · rw [if_pos mine, if_pos mine, ← mine]
    exact ⟨clk, by simp only [true_and, ← stats]; rfl, rfl⟩
  · rw [if_neg mine, if_neg mine, if_neg fun both => mine both.1]
    exact ⟨clk, stats, part'⟩

/-- The interval of one field ends. -/
theorem State.endInterval_snapped (s : State) (p f ts : Nat) (make part : Bool) :
    s.Snapped (s.endInterval p f ts make part) ∧ ((s.endInterval p f ts make part).field f).obs.partialIv = false ∧
    (make = true → (s.field f).obs.stats = none → ∃ l, ((s.endInterval p f ts make part).field f).obs.stats = some { endTs := ts, recs := l } ∧
      l.length = 2 * (s.statCores f).length + 1) := by
  obtain ⟨cs, fs, is, cores, fields⟩ := s.endInterval_frame p f ts make part
  rw [is]
  refine ⟨⟨rfl, rfl, fun g => (fields g).1, cores, fun g clear => ?_, fun g x waits => ?_⟩, ?_, fun makes none => ?_⟩
  · exact (fields g).2.2.trans (by rw [clear, ite_self])
  · refine (fields g).2.1.trans ((if_neg ?_).trans waits)
    rintro ⟨rfl, free⟩
    rw [waits, Option.isNone_some, Bool.and_false] at free
    exact Bool.false_ne_true free
  · exact (fields f).2.2.trans (if_pos rfl)
  · exact ⟨_, (fields f).2.1.trans (if_pos ⟨rfl, by rw [makes, none]; rfl⟩), s.intervalRecs_length p f ts part⟩

theorem State.endInterval_stats_other (s : State) (p ts : Nat) (make part : Bool) {f g : Nat} (other : f ≠ g) :
    ((s.endInterval p g ts make part).field f).obs.stats = (s.field f).obs.stats := by
  obtain ⟨cs, fs, is, -, fields⟩ := s.endInterval_frame p g ts make part
  rw [is]
  exact (fields f).2.1.trans (if_neg fun both => other both.1)

/-- The fields of a partition whose MD is on, one after the other. -/
def State.endIntervals (s : State) (p ts : Nat) (make part : Bool) (l : List Nat) : State :=
  l.foldl (fun s f => if (s.field f).clk.md = .on then s.endInterval p f ts make part else s) s

theorem State.endIntervals_snapped (p ts : Nat) (make part : Bool) (l : List Nat) (s : State) : s.Snapped (s.endIntervals p ts make part l) ∧
    ∀ f ∈ l, (s.field f).clk.md = .on → ((s.endIntervals p ts make part l).field f).obs.partialIv = false ∧
      (make = true → (s.field f).obs.stats = none → ∃ r, ((s.endIntervals p ts make part l).field f).obs.stats = some { endTs := ts, recs := r } ∧
        r.length = 2 * (s.statCores f).length + 1) := by
  induction l generalizing s with
  | nil => exact ⟨.refl s, fun f mem => absurd mem List.not_mem_nil⟩
  | cons g l ih =>
    have first : s.Snapped (if (s.field g).clk.md = .on then s.endInterval p g ts make part else s) := by
      split
      · exact (s.endInterval_snapped p g ts make part).1
      · exact .refl s
    obtain ⟨rest, ended⟩ := ih (if (s.field g).clk.md = .on then s.endInterval p g ts make part else s)
    change State.Snapped _ (s.endIntervals p ts make part (g :: l)) at rest
    refine ⟨first.trans rest, fun f mem on => ?_⟩
    by_cases same : f = g
    · subst same
      obtain ⟨-, clear, snaps⟩ := s.endInterval_snapped p f ts make part
      rw [if_pos on] at rest
      refine ⟨rest.partial' f clear, fun makes none => ?_⟩
      obtain ⟨r, taken, length⟩ := snaps makes none
      exact ⟨r, rest.stats f _ taken, length⟩
    · have kept : ((if (s.field g).clk.md = .on then s.endInterval p g ts make part else s).field f).obs.stats = (s.field f).obs.stats := by
        split
        · exact State.endInterval_stats_other s p ts make part same
        · rfl
      obtain ⟨clear, snaps⟩ := ended f ((List.mem_cons.mp mem).resolve_left same) (by rw [first.clk]; exact on)
      rw [kept, first.statCores] at snaps
      exact ⟨clear, snaps⟩

/-! ### The host's memory written (R528, R529) -/

theorem State.traceDest_hostWrite (s : State) (q a p : Nat) (data : List Byte) : (s.hostWrite q a data).traceDest p = s.traceDest p := rfl

/-- One record waits and the ring has room: it is written at its place, and the ring's index goes on. -/
theorem State.writeRecs_one {s : State} {p n : Nat} {r : TraceRec} (waits : (s.traceDest p).staging = [r]) (room : 0 < n) :
    (s.writeRecs p n).traceDest p = { s.traceDest p with staging := [], index := ((s.traceDest p).index + 1) % 2 ^ 32 } ∧
    (s.writeRecs p n).hostOut = s.hostOut ++
      [.write ((s.traceDest p).cfg % 4) ((s.traceDest p).base + 32 * ((s.traceDest p).index % (s.traceDest p).size)) r.bytes] := by
  obtain ⟨n, rfl⟩ := Nat.exists_eq_succ_of_ne_zero (Nat.pos_iff_ne_zero.mp room)
  rw [Nat.succ_eq_add_one, State.writeRecs]
  dsimp only
  rw [waits]
  dsimp only
  generalize written : ((s.hostWrite ((s.traceDest p).cfg % 4) ((s.traceDest p).base + 32 * ((s.traceDest p).index % (s.traceDest p).size))
    r.bytes).setTraceDest p { s.traceDest p with staging := [], index := ((s.traceDest p).index + 1) % 2 ^ 32 }).addRdCtr 0x10 1 = t
  have dest : t.traceDest p = { s.traceDest p with staging := [], index := ((s.traceDest p).index + 1) % 2 ^ 32 } := by
    rw [← written]
    exact State.traceDest_setTraceDest _ p _
  have stops : t.writeRecs p n = t := by
    cases n with
    | zero => rfl
    | succ n => rw [State.writeRecs]; simp only [dest]
  rw [stops]
  exact ⟨dest, by rw [← written]; rfl⟩

theorem exec_traceRecordWrite {s : State} {p : Nat} (hp : p < 16) (on : (s.traceDest p).en = true) (rd : s.rd.state = .on)
    (off : ∀ f ∈ s.partFields p, (s.field f).clk.md ≠ .on) (up : s.portUp ((s.traceDest p).cfg % 4) = true) :
    exec (.traceRecordWrite p) s = .next (s.writeRecs p ((s.traceDest p).size - (s.traceDest p).held)) := by
  have none : (s.partFields p).foldl (fun s f => if (s.field f).clk.md = .on then s.chain p f else s) s = s :=
    List.foldlRecOn (motive := fun t => t = s) _ _ rfl fun t same f mem => by rw [same, if_neg (off f mem)]
  refine (if_pos hp).trans (congrArg Host.Outcome.next ?_)
  dsimp only
  rw [none, if_neg (by rw [on, rd]; decide), if_pos up]

theorem bits_traceWord0 {kind p : Nat} (small : kind < 32) (hp : p < 16) : bits (traceWord0 kind p 0 0x7F 0 0) 63 59 = kind := by
  unfold traceWord0 bits
  simp only [Nat.shiftLeft_eq, Nat.shiftRight_eq_div_pow]
  omega

/-- Records that a field drops are counted in it and in its partition. -/
theorem State.fieldDropped_counts (s : State) (f p n : Nat) : ((s.fieldDropped f p n).field f).obs.stats = (s.field f).obs.stats ∧
    ((s.fieldDropped f p n).field f).obs.dropped = (s.field f).obs.dropped + n ∧
    ((s.fieldDropped f p n).part p).traceDropped = ((s.part p).traceDropped + n) % 2 ^ 32 := by
  obtain ⟨ctr, counts⟩ := s.field_addFieldCtr f 0x70 n f
  have here : ((s.addFieldCtr f 0x70 n).addRdCtr 0x18 n).field f = { s.field f with obs := { (s.field f).obs with counters := ctr } } := counts
  refine ⟨?_, ?_, congrArg Part.traceDropped (State.part_modPart_same _ p _)⟩
  · rw [State.fieldDropped, State.modPart, State.field_setPart, State.field_modField, if_pos rfl, here]
  · rw [State.fieldDropped, State.modPart, State.field_setPart, State.field_modField, if_pos rfl, here]

/-- The partition's interval is over: its end is noted. -/
def State.intervalEnded (s : State) (p ts : Nat) : State := s.setTraceDest p { s.traceDest p with statsAt := ts, newBit := false }

/-- What waited of the snapshot is gone. -/
def Field.noStats (x : Field) : Field := { x with obs := { x.obs with stats := none } }

theorem traceStream : Claims.TraceStream := by
  intro s p d hp is
  subst is
  refine ⟨fun ts enabled rd at' later => ?_, fun f x hf waits mine old => ?_, fun r on rd off waits room up => ?_, fun on behind up => ?_,
    fun on due up => ⟨fun v small => ?_, fun e => ?_⟩, fun on wanted lost room => ?_⟩
  · obtain ⟨snapped, ended⟩ := State.endIntervals_snapped p ts ((s.traceDest p).en && bit (s.setting 0x2A00 (p + 1)) 1) (s.traceDest p).newBit
      (s.partFields p) s
    have run : exec (.statsIntervalEnd p) s = .next (State.intervalEnded (s.endIntervals p ts ((s.traceDest p).en && bit (s.setting 0x2A00 (p + 1)) 1)
        (s.traceDest p).newBit (s.partFields p)) p ts) := by
      refine (if_pos hp).trans (congrArg Host.Outcome.next ?_)
      dsimp only
      rw [← at', if_neg (by rw [enabled, rd]; simpa using later)]
      rfl
    have same : State.traceDest _ p = s.traceDest p := congrArg (fun rd : RingDomain => Tab.read rd.traces TraceDest.reset p) snapped.rd
    refine ⟨_, run, ?_, snapped.hostOut, fun f mem on => ?_⟩
    · rw [State.intervalEnded, State.traceDest_setTraceDest, same]
    · obtain ⟨clear, snaps⟩ := ended f mem on
      exact ⟨clear, fun en wanted none => snaps (by rw [en, wanted]; rfl) none⟩
  · refine ⟨_, (if_pos hf).trans (congrArg Host.Outcome.next (?_ : _ = ((s.modField f (·.noStats)).fieldDropped f p x.recs.length))), ?_⟩
    · dsimp only
      rw [waits, mine]
      dsimp only
      rw [if_neg (by omega)]
      rfl
    · have field : (s.modField f (·.noStats)).field f = (s.field f).noStats := (State.field_modField s f f _).trans (if_pos rfl)
      obtain ⟨stats, dropped, counted⟩ := (s.modField f (·.noStats)).fieldDropped_counts f p x.recs.length
      rw [field] at stats dropped
      exact ⟨stats, dropped, counted⟩
  · obtain ⟨dest, out⟩ := State.writeRecs_one waits (Nat.sub_pos_of_lt room)
    exact ⟨_, exec_traceRecordWrite hp on rd off up, dest, out⟩
  · refine ⟨_, (if_pos hp).trans (congrArg Host.Outcome.next (if_pos ⟨on, behind, up⟩)), ?_, rfl⟩
    exact State.traceDest_setTraceDest s p _
  · refine ⟨_, (if_pos hp).trans (congrArg Host.Outcome.next (if_pos ?_)), ?_, rfl⟩
    · simp [on, due, up]
    · exact (State.traceDest_setTraceDest _ p _).trans (by rw [Nat.mod_eq_of_lt small])
  · refine ⟨_, (if_pos hp).trans (congrArg Host.Outcome.next (if_pos ?_)), ?_⟩
    · simp [on, due, up]
    · rw [State.traceDest_setTraceDest, State.traceDisable, State.traceDest_setTraceDest]
      exact ⟨rfl, rfl, rfl⟩
  · refine ⟨_, _, (if_pos hp).trans (congrArg Host.Outcome.next ((if_pos rfl).trans (if_pos ?_))), State.traceDest_setTraceDest s p _, rfl, rfl, rfl,
      bits_traceWord0 (by decide) hp⟩
    simp [on, wanted, lost, room]

/-- Settles O53. -/
theorem scrubsAndTraces : Obligations.ScrubsAndTraces := ⟨scrubbersRead, traceStream⟩

end Sys2Proof.Machine
end

section
/-! PROOFS. The units' instructions: which word they are, one entry alone in the queues, lanes, accumulators and flags (R122, R149, R152, R163, R170). -/

namespace Sys2Proof.Machine

/-! ### The word of an instruction of a unit (R152, R153) -/

theorem whenZero_eq_some {z : Bool} {o op : CoreOp} (is : whenZero z o = some op) : op = o := by
  unfold whenZero at is
  split at is
  · exact (Option.some.inj is).symm
  · cases is

/-- The major opcode of the instructions of the units that are told apart by it, or by one bit besides. -/
def CoreOp.major : CoreOp → Option Nat
  | .vld => some 0x21
  | .vst => some 0x22
  | .tdesc => some 0x28
  | .mma => some 0x29
  | .ast => some 0x2A
  | .ald => some 0x2B
  | .azero => some 0x2C
  | .axv => some 0x2D
  | .avx => some 0x2D
  | _ => none

theorem major_decodeRR {w : Nat} {op : CoreOp} (decoded : decodeRR w = some op) : op.major = none := by
  unfold decodeRR at decoded
  split at decoded <;> grind [CoreOp.major]

theorem major_decodeVR {w : Nat} {op : CoreOp} (decoded : decodeVR w = some op) : op.major = none := by
  unfold decodeVR at decoded
  split at decoded <;> grind [CoreOp.major, whenZero]

theorem major_decodeSY {w : Nat} {op : CoreOp} (decoded : decodeSY w = some op) : op.major = none := by
  unfold decodeSY at decoded
  grind [CoreOp.major, whenZero]

theorem opField_of_major {w n : Nat} {op : CoreOp} (decoded : decodeOp w = some op) (major : op.major = some n) : opField w = n := by
  unfold decodeOp at decoded
  split at decoded <;> grind [CoreOp.major, whenZero, major_decodeRR, major_decodeVR, major_decodeSY]

/-- AVX and AXV are told apart by bit 23. -/
theorem bit_of_rowMove {w : Nat} {op : CoreOp} (decoded : decodeOp w = some op) (major : op.major = some 0x2D) : bit w 23 = decide (op = .avx) := by
  have opcode := opField_of_major decoded major
  unfold decodeOp at decoded
  simp only [opcode] at decoded
  split at decoded
  · split at decoded
    next set => rw [set, ← Option.some.inj decoded]; rfl
    next clear => rw [Bool.eq_false_iff.mpr clear, ← Option.some.inj decoded]; rfl
  · cases decoded

/-! ### An entry alone in the unit queues (R122) -/

theorem Core.unitLen_idle {k : Core} (idle : k.uq = []) (mixer : Bool) : k.unitLen mixer = 0 := by
  rw [Core.unitLen, idle]
  rfl

/-- Runs a queued instruction in its unit. -/
def Core.runQueued (k : Core) (q : QOp) : Core := if q.mixer then k.runMixer q else k.runVector q

/-- With idle units an instruction runs as it issues. -/
theorem Core.enqueue_idle {k : Core} {q : QOp} (idle : k.uq = []) (done : (k.runQueued q).uq = []) : k.enqueue q = .done (k.runQueued q).advance [] := by
  have room : ¬ (if q.mixer then 4 else 8) ≤ k.unitLen q.mixer := by
    rw [Core.unitLen_idle idle]
    split <;> decide
  have alone : ({ k with uq := k.uq ++ [.op q] } : Core).runOne [] (k.uq ++ [.op q]) = some (k.runQueued q) := by
    rw [idle, Core.runQueued]
    unfold Core.runOne
    have same : ({ k with uq := [] } : Core) = k := by rw [← idle]
    simp only [List.any_nil, Bool.false_eq_true, if_false, List.nil_append, same]
  rw [Core.enqueue, if_neg room, Core.runUnits, alone]
  exact congrArg (fun k => Issue.done (Core.advance k) []) (Core.runUnits_idle done 15)

/-- The entry of an instruction that draws nothing. -/
def Core.entry (k : Core) (mixer : Bool) (w sA : Nat) (td : List Nat) : QOp :=
  { mixer := mixer, word := w, pc := k.pc, sA := sA, rm := k.csr.rm, satur := k.csr.satur, base := 0, td := td, nth := k.counter 6 }

theorem mixerEntry_plain (k : Core) (w : Nat) (td : List Nat) : mixerEntry k w false td = (k, k.entry true w 0 td) := by
  rw [mixerEntry, if_neg (by simp)]
  rfl

theorem vectorEntry_plain (k : Core) (w sA : Nat) : vectorEntry k w sA false = (k, k.entry false w sA []) := by
  rw [vectorEntry, if_neg (by simp)]
  rfl

theorem Core.tdNow_idle {k : Core} (idle : k.uq = []) (n : Nat) : k.tdNow n = k.treg n := by
  rw [Core.tdNow, idle]
  rfl

/-- A unit reads words of which none is uncorrectable. -/
theorem Core.unitRead_good {k : Core} {ws : List Nat} (good : ∀ x ∈ ws, x ∉ k.ue) (pc nth : Nat) (then_ : Core → Core) :
    k.unitRead pc nth ws then_ = then_ (k.readCe ws) := by
  have still : ∀ x ∈ ws, x ∉ (k.readCe ws).ue := by
    rw [(Core.readCe_reads k ws).1.keeps.ue]
    exact good
  unfold Core.unitRead
  dsimp only
  rw [Core.firstUe_none still]

/-! ### Lanes (R149, R163) -/

theorem setV_regs (k : Core) (n v : Nat) : k.setV n v = { k with regs := { k.regs with v := (k.setV n v).regs.v } } := rfl

theorem extractLsb'_ofNat {n i : Nat} (v : Nat) (within : 32 * i + 32 ≤ n) : (BitVec.ofNat n v).extractLsb' (32 * i) 32 = BitVec.ofNat 32 (v >>> (32 * i)) := by
  apply BitVec.eq_of_getLsbD_eq
  intro j hj
  have inside : 32 * i + j < n := by omega
  rw [BitVec.getLsbD_extractLsb', BitVec.getLsbD_ofNat, BitVec.getLsbD_ofNat, Nat.testBit_shiftRight, decide_eq_true hj, decide_eq_true inside,
    Bool.true_and]

theorem Core.lane_setV (k : Core) (n m v i : Nat) (hi : i < 32) :
    (k.setV n v).lane m i = if m = n then BitVec.ofNat 32 (v >>> (32 * i)) else k.lane m i := by
  unfold Core.setV Core.lane
  rw [Tab.read_write]
  split
  · exact extractLsb'_ofNat v (by omega)
  · rfl

/-- A lane of a value put together from lanes. -/
theorem ofLanes_lane (l : List Nat) (i : Nat) : (ofLanes l >>> (32 * i)) % 2 ^ 32 = l.getD i 0 % 2 ^ 32 := by
  induction l generalizing i with
  | nil => simp [ofLanes]
  | cons x l ih =>
    have shape : ofLanes (x :: l) = x % 2 ^ 32 + ofLanes l * 2 ^ 32 := List.foldr_cons ..
    cases i with
    | zero => rw [shape, Nat.mul_zero, Nat.shiftRight_zero, Nat.add_mul_mod_self_right, Nat.mod_mod, List.getD_cons_zero]
    | succ i =>
      have pos : 0 < 2 ^ 32 := Nat.two_pow_pos 32
      rw [shape, Nat.mul_succ, Nat.add_comm (32 * i), Nat.shiftRight_add, Nat.shiftRight_eq_div_pow (_ + _),
        Nat.add_mul_div_right _ _ pos, Nat.div_eq_of_lt (Nat.mod_lt _ pos), Nat.zero_add, ih, List.getD_cons_succ]

theorem Core.lanes_vreg (k : Core) (n i : Nat) (hi : i < 32) : (lanes (k.vreg n)).getD i 0 = (k.lane n i).toNat := by
  rw [Core.vreg, Core.lane, lanes, upTo, List.getD_eq_getElem?_getD, List.getElem?_map, List.getElem?_range hi, BitVec.extractLsb'_toNat]
  rfl

theorem lanes_length (v : Nat) : (lanes v).length = 32 := by rw [lanes, upTo, List.length_map, List.length_range]

/-! ### Accumulators (R149) -/

theorem setAccFrom_regs (k : Core) (a i : Nat) (l : List Nat) :
    k.setAccFrom a i l = { k with regs := { k.regs with a := (k.setAccFrom a i l).regs.a } } := by
  induction l generalizing k i with
  | nil => rfl
  | cons v l ih => rw [Core.setAccFrom, ih]

theorem read_setAccFrom (k : Core) (a i : Nat) (l : List Nat) (n : Nat) : Tab.read (k.setAccFrom a i l).regs.a 0 n =
    if a * 128 + i ≤ n ∧ n < a * 128 + i + l.length then BitVec.ofNat 32 (l.getD (n - (a * 128 + i)) 0) else Tab.read k.regs.a 0 n := by
  induction l generalizing k i with
  | nil => rw [if_neg (by simp only [List.length_nil]; omega)]; rfl
  | cons v l ih =>
    rw [Core.setAccFrom, ih, Tab.read_write, List.length_cons]
    by_cases first : n = a * 128 + i
    · rw [if_neg (by omega), if_pos first, if_pos (by omega), first, Nat.sub_self]
      rfl
    · by_cases later : a * 128 + (i + 1) ≤ n ∧ n < a * 128 + (i + 1) + l.length
      · obtain ⟨d, place⟩ : ∃ d, n - (a * 128 + i) = d + 1 := ⟨n - (a * 128 + i) - 1, by omega⟩
        rw [if_pos later, if_pos (by omega), place, List.getD_cons_succ, show n - (a * 128 + (i + 1)) = d by omega]
      · rw [if_neg later, if_neg first, if_neg (by omega)]

/-- Elements written from row `i` on: those of accumulator `a` from there, as far as the list goes. -/
theorem Core.acc_setAccFrom (k : Core) (a i : Nat) (l : List Nat) (q r j : Nat) (hr : r < 8) (hj : j < 16) (fits : i * 16 + l.length ≤ 128) :
    (k.setAccFrom a (i * 16) l).acc q r j =
      if q = a ∧ i * 16 ≤ r * 16 + j ∧ r * 16 + j < i * 16 + l.length then l.getD (r * 16 + j - i * 16) 0 % 2 ^ 32 else k.acc q r j := by
  rw [Core.acc, read_setAccFrom]
  by_cases inside : q = a ∧ i * 16 ≤ r * 16 + j ∧ r * 16 + j < i * 16 + l.length
  · obtain ⟨rfl, from', to'⟩ := inside
    rw [if_pos (by omega), if_pos ⟨rfl, from', to'⟩, BitVec.toNat_ofNat, show q * 128 + r * 16 + j - (q * 128 + i * 16) = r * 16 + j - i * 16 by omega]
  · rw [if_neg (by omega), if_neg inside]
    rfl

/-- All 128 elements written. -/
theorem Core.acc_setAcc (k : Core) (a : Nat) {l : List Nat} (all : l.length = 128) (q r j : Nat) (hr : r < 8) (hj : j < 16) :
    (k.setAccFrom a 0 l).acc q r j = if q = a then l.getD (r * 16 + j) 0 % 2 ^ 32 else k.acc q r j := by
  have written := k.acc_setAccFrom a 0 l q r j hr hj (by omega)
  rw [Nat.zero_mul] at written
  rw [written]
  by_cases same : q = a
  · rw [if_pos ⟨same, by omega, by omega⟩, if_pos same]
    rfl
  · rw [if_neg fun h => same h.1, if_neg same]

/-! ### Element results and their flags (R170, R198) -/

theorem mapIdx_map_upTo {α β : Type} (n : Nat) (g : Nat → α) (f : Nat → α → β) : ((upTo n).map g).mapIdx f = (upTo n).map fun i => f i (g i) := by
  apply List.ext_getElem
  · simp [upTo]
  · intro i h h'
    simp [upTo]

theorem flagUnion_map_upTo (n : Nat) (r : Nat → FRes) : flagUnion ((upTo n).map r) = (List.range n).foldl (fun x i => x ||| (r i).2) 0 := by
  rw [flagUnion, List.foldl_map]
  rfl

theorem codes_map_upTo (n : Nat) (r : Nat → FRes) : codes ((upTo n).map r) = (upTo n).map fun i => (r i).1 := by
  rw [codes, List.map_map]
  rfl

theorem length_map_upTo {α : Type} (n : Nat) (g : Nat → α) : ((upTo n).map g).length = n := by rw [List.length_map, upTo, List.length_range]

theorem getD_map_upTo {n i : Nat} (g : Nat → Nat) (hi : i < n) : ((upTo n).map g).getD i 0 = g i := by
  rw [upTo, List.getD_eq_getElem?_getD, List.getElem?_map, List.getElem?_range hi]
  rfl

theorem Core.accList_eq (k : Core) (a : Nat) : k.accList a = (upTo 128).map fun i => k.acc a (i / 16) (i % 16) := by
  unfold Core.accList Core.acc
  refine List.map_congr_left fun i _ => ?_
  rw [show a * 128 + i / 16 * 16 + i % 16 = a * 128 + i by omega]

end Sys2Proof.Machine
end

section
/-! PROOFS. Tiles in data SRAM: where their elements lie, and how the mixer reads and writes them (R130, R132, R167, R168, R171). -/

namespace Sys2Proof.Machine

/-! ### Where an element lies (R167) -/

/-- In a row of a tile that is not transposed elements follow one another. -/
theorem tdAddr_row {td : Nat} (straight : tdTr td = false) (r c : Nat) : tdAddr td r c = tdAddr td r 0 + c * fmtSize (tdFmt td) := by
  simp only [tdAddr, straight, Bool.false_eq_true, if_false, Nat.zero_mul, Nat.add_zero]

/-- The line an element lies in, and its place there. -/
def tdLine (td r c : Nat) : Nat := if tdTr td then c else r
def tdPlace (td r c : Nat) : Nat := if tdTr td then r else c

theorem tdAddr_eq (td r c : Nat) : tdAddr td r c = tdBase td + tdLine td r c * tdStride td + tdPlace td r c * fmtSize (tdFmt td) := by
  unfold tdAddr tdLine tdPlace
  split <;> rfl

theorem tdLine_lt {td r c : Nat} (hr : r < tdRows td) (hc : c < tdCols td) : tdLine td r c < tdLines td := by
  unfold tdLine tdLines
  split
  · exact hc
  · exact hr

theorem tdPlace_end {td r c : Nat} (hr : r < tdRows td) (hc : c < tdCols td) :
    tdPlace td r c * fmtSize (tdFmt td) + fmtSize (tdFmt td) ≤ tdLineLen td := by
  have inside : tdPlace td r c + 1 ≤ if tdTr td then tdRows td else tdCols td := by
    unfold tdPlace
    split
    · exact hr
    · exact hc
  rw [← Nat.succ_mul]
  exact Nat.mul_le_mul_right _ inside

theorem fmtSize_pos (f : Nat) : 0 < fmtSize f := by
  unfold fmtSize
  split <;> decide

theorem fmtSize_le (f : Nat) : fmtSize f ≤ 4 := by
  unfold fmtSize
  split <;> decide

theorem tileSpan_eq (td : Nat) : tileSpan td = (tdBase td, (tdLines td - 1) * tdStride td + tdLineLen td) := rfl

/-- Every line lies in the tile's span. -/
theorem line_within {td i : Nat} (hi : i < tdLines td) : i * tdStride td + tdLineLen td ≤ (tileSpan td).2 := by
  rw [tileSpan_eq]
  exact Nat.add_le_add_right (Nat.mul_le_mul_right _ (by omega)) _

/-- So does every element. -/
theorem elem_within {td r c : Nat} (hr : r < tdRows td) (hc : c < tdCols td) :
    (tileSpan td).1 ≤ tdAddr td r c ∧ tdAddr td r c + fmtSize (tdFmt td) ≤ (tileSpan td).1 + (tileSpan td).2 := by
  have line := line_within (tdLine_lt hr hc)
  have place := tdPlace_end hr hc
  have base : (tileSpan td).1 = tdBase td := rfl
  rw [tdAddr_eq, base]
  omega

theorem wordsOf_line_mem {td i x : Nat} (hi : i < tdLines td) (word : x ∈ wordsOf (tdBase td + i * tdStride td) (tdLineLen td)) : x ∈ tdWords td :=
  List.mem_flatMap.mpr ⟨i, List.mem_range.mpr hi, word⟩

/-- A descriptor that passes TDESC's checks keeps the lines of a tile of data SRAM apart (R168). -/
theorem tdescFault_none_lines {td : Nat} (good : tdescFault td = none) (sram : tdSrc td = 0) (many : 1 < tdLines td) : tdLineLen td ≤ tdStride td := by
  by_contra short
  unfold tdescFault at good
  dsimp only at good
  split at good
  · cases good
  · split at good
    · cases good
    · rw [if_pos ⟨sram, many, by omega⟩] at good
      cases good

/-- Two numbers in base `n` are the same digit by digit. -/
theorem digits_unique {n a a' b b' : Nat} (hb : b < n) (hb' : b' < n) (same : a * n + b = a' * n + b') : a = a' ∧ b = b' := by
  have quotient (x y : Nat) (hy : y < n) : (x * n + y) / n = x := by
    rw [Nat.add_comm, Nat.add_mul_div_right _ _ (by omega), Nat.div_eq_of_lt hy, Nat.zero_add]
  have first : a = a' := by rw [← quotient a b hb, same, quotient a' b' hb']
  subst first
  exact ⟨rfl, by omega⟩

/-- A byte of a tile whose lines are apart belongs to one element. -/
theorem elem_byte_unique {td r c r' c' x x' : Nat} (good : tdescFault td = none) (sram : tdSrc td = 0) (many : 1 < tdLines td)
    (hr : r < tdRows td) (hc : c < tdCols td) (hr' : r' < tdRows td) (hc' : c' < tdCols td) (hx : x < fmtSize (tdFmt td)) (hx' : x' < fmtSize (tdFmt td))
    (same : tdAddr td r c + x = tdAddr td r' c' + x') : r = r' ∧ c = c' ∧ x = x' := by
  have apart := tdescFault_none_lines good sram many
  have place := tdPlace_end hr hc
  have place' := tdPlace_end hr' hc'
  rw [tdAddr_eq, tdAddr_eq] at same
  obtain ⟨line, within⟩ := digits_unique (n := tdStride td) (a := tdLine td r c) (a' := tdLine td r' c')
    (b := tdPlace td r c * fmtSize (tdFmt td) + x) (b' := tdPlace td r' c' * fmtSize (tdFmt td) + x') (by omega) (by omega) (by omega)
  obtain ⟨spot, byte⟩ := digits_unique hx hx' within
  unfold tdLine at line
  unfold tdPlace at spot
  split at line
  next turned =>
    rw [if_pos turned, if_pos turned] at spot
    exact ⟨spot, line, byte⟩
  next straight =>
    rw [if_neg straight, if_neg straight] at spot
    exact ⟨line, spot, byte⟩

/-! ### Draining and reading (R130, R132) -/

theorem Apart.within {l : List SbEntry} {a n a' n' : Nat} (h : Apart l a n) (after : a ≤ a') (inside : a' + n' ≤ a + n) : Apart l a' n' := fun e mem => by
  have apart := h e mem
  simp only [overlaps, Bool.and_eq_false_iff, decide_eq_false_iff_not] at apart ⊢
  omega

/-- The stores that any of the spans overlap drain. -/
theorem Core.drainSpans_drains {k : Core} (sound : k.bufferSound) (l : List (Nat × Nat)) :
    k.Drains (k.drainSpans l) ∧ ∀ r ∈ l, Apart (k.drainSpans l).sbuf r.1 r.2 := by
  induction l generalizing k with
  | nil => exact ⟨.refl k, fun r mem => absurd mem List.not_mem_nil⟩
  | cons r l ih =>
    have first := Core.drainFor_drains sound r.1 r.2
    obtain ⟨rest, apart⟩ := ih (first.bufferSound sound)
    refine ⟨first.trans rest, fun r' mem => ?_⟩
    obtain rfl | later := List.mem_cons.mp mem
    · exact rest.apart (Core.drainFor_apart sound _ _)
    · exact apart r' later

/-- Where nothing buffered overlaps a tile, its elements are those its program sees. -/
theorem tdElem_seen {k : Core} {td r c : Nat} (apart : Apart k.sbuf (tileSpan td).1 (tileSpan td).2) (hr : r < tdRows td) (hc : c < tdCols td) :
    tdElem k.sram td r c = tdElem k.seen td r c :=
  (Core.value_seen_of_apart apart (elem_within hr hc).1 (elem_within hr hc).2).symm

/-- The mixer reads the words of tiles: what it does with them it does with the elements its program sees. -/
theorem Core.Reads.tile {k k' : Core} {td r c : Nat} (reads : k.Reads k') (apart : Apart k'.sbuf (tileSpan td).1 (tileSpan td).2)
    (hr : r < tdRows td) (hc : c < tdCols td) : tdElem k'.sram td r c = tdElem k.seen td r c := by
  rw [tdElem_seen apart hr hc, reads.seen]

/-! ### Writing (R132, R171) -/

/-- Byte `b` lies in a write. -/
def Covers (p : Nat × List Byte) (b : Nat) : Prop := p.1 ≤ b ∧ b < p.1 + p.2.length

/-- Writes of a unit, one after the other. -/
def Core.unitWrites (k : Core) (ws : List (Nat × List Byte)) : Core := ws.foldl (fun k p => k.unitWrite p.1 p.2) k

/-- Writes to words without uncorrectable errors, of bytes that no buffered store overlaps: each byte is as the writes that cover it have it, and as it was
where none does. -/
theorem Core.unitWrites_writes {ws : List (Nat × List Byte)} {k : Core} (apart : ∀ p ∈ ws, Apart k.sbuf p.1 p.2.length)
    (good : ∀ p ∈ ws, ∀ x ∈ wordsOf p.1 p.2.length, p.1 ≤ 8 * x → 8 * x + 8 ≤ p.1 + p.2.length → x ∉ k.ue) :
    k.unitWrites ws = { k with sram := (k.unitWrites ws).sram, ce := (k.unitWrites ws).ce, wback := (k.unitWrites ws).wback } ∧
    (∀ b, (∀ p ∈ ws, ¬ Covers p b) → Memory.byte (k.unitWrites ws).seen b = Memory.byte k.seen b) ∧
    ∀ b v, (∃ p ∈ ws, Covers p b) → (∀ p ∈ ws, Covers p b → p.2.getD (b - p.1) 0 = v) → Memory.byte (k.unitWrites ws).seen b = v := by
  induction ws generalizing k with
  | nil => exact ⟨rfl, fun _ _ => rfl, fun _ _ some _ => absurd some (by simp)⟩
  | cons p ws ih =>
    obtain ⟨wrote, seen⟩ := Core.unitWrite_writes (apart p List.mem_cons_self) (good p List.mem_cons_self)
    have sbuf : (k.unitWrite p.1 p.2).sbuf = k.sbuf := rfl
    have ue : (k.unitWrite p.1 p.2).ue = k.ue := by rw [wrote]
    obtain ⟨rest, outside, inside⟩ := ih (k := k.unitWrite p.1 p.2) (fun q mem => by rw [sbuf]; exact apart q (List.mem_cons_of_mem p mem))
      (fun q mem => by rw [ue]; exact good q (List.mem_cons_of_mem p mem))
    have steps : k.unitWrites (p :: ws) = (k.unitWrite p.1 p.2).unitWrites ws := rfl
    rw [steps]
    refine ⟨?_, fun b none => ?_, fun b v some agree => ?_⟩
    · rw [rest, wrote]
    · rw [outside b fun q mem => none q (List.mem_cons_of_mem p mem), seen]
      exact if_neg (none p List.mem_cons_self)
    · by_cases later : ∃ q ∈ ws, Covers q b
      · exact inside b v later fun q mem => agree q (List.mem_cons_of_mem p mem)
      · have here : Covers p b := by
          obtain ⟨q, mem, covers⟩ := some
          obtain rfl | mem := List.mem_cons.mp mem
          · exact covers
          · exact absurd ⟨q, mem, covers⟩ later
        rw [outside b fun q mem covers => later ⟨q, mem, covers⟩, seen]
        exact (if_pos here).trans (agree p List.mem_cons_self here)

/-! ### A tile of 8 × 16 elements written (R171) -/

theorem getD_flatMap {α β : Type} {g : α → List β} {n : Nat} (each : ∀ a, (g a).length = n) (l : List α) (a : α) (d : β) {i x : Nat} (hi : i < l.length)
    (hx : x < n) : (l.flatMap g).getD (i * n + x) d = (g (l.getD i a)).getD x d := by
  induction l generalizing i with
  | nil => exact absurd hi (Nat.not_lt_zero i)
  | cons b l ih =>
    rw [List.flatMap_cons, List.getD_eq_getElem?_getD, List.getElem?_append, each]
    cases i with
    | zero =>
      rw [Nat.zero_mul, Nat.zero_add, if_pos hx, List.getD_cons_zero, ← List.getD_eq_getElem?_getD]
    | succ i =>
      rw [if_neg (by rw [Nat.succ_mul]; omega), show (i + 1) * n + x - n = i * n + x by rw [Nat.succ_mul]; omega, ← List.getD_eq_getElem?_getD,
        ih (Nat.lt_of_succ_lt_succ hi), List.getD_cons_succ]

/-- Row `r` of 16 elements. -/
def rowOf (els : List Nat) (r : Nat) : List Nat := (els.drop (r * 16)).take 16

theorem getElem?_rowOf (els : List Nat) (r c : Nat) (hc : c < 16) : (rowOf els r)[c]? = els[r * 16 + c]? := by
  rw [rowOf, List.getElem?_take_of_lt hc, List.getElem?_drop]

/-- The writes of a row: element by element when the tile is transposed, else in one run. -/
def rowWrites (td : Nat) (els : List Nat) (r : Nat) : List (Nat × List Byte) :=
  if tdTr td then (rowOf els r).zipIdx.map fun p => (tdAddr td r p.2, toBytes (fmtSize (tdFmt td)) p.1)
  else [(tdAddr td r 0, (rowOf els r).flatMap (toBytes (fmtSize (tdFmt td))))]

def tileWrites (td : Nat) (els : List Nat) : List (Nat × List Byte) := (upTo 8).flatMap (rowWrites td els)

section
variable {td : Nat} {els : List Nat} (all : els.length = 128)
include all

theorem Core.writeTile_eq (k : Core) : k.writeTile td 0 16 els = k.unitWrites (tileWrites td els) := by
  unfold Core.writeTile Core.unitWrites tileWrites
  rw [List.foldl_flatMap, all]
  refine congrArg (fun g => (upTo 8).foldl g k) (funext fun k => funext fun r => ?_)
  unfold rowWrites
  split
  · rw [List.foldl_map]
    simp only [Nat.zero_add]
    rfl
  · rfl

theorem rowOf_length {r : Nat} (hr : r < 8) : (rowOf els r).length = 16 := by
  rw [rowOf, List.length_take, List.length_drop, all]
  omega

omit all in
theorem getD_rowOf {r c : Nat} (hc : c < 16) : (rowOf els r).getD c 0 = els.getD (r * 16 + c) 0 := by
  rw [List.getD_eq_getElem?_getD, List.getD_eq_getElem?_getD, getElem?_rowOf els r c hc]

/-- What a write of a row is. -/
theorem mem_rowWrites {r : Nat} (hr : r < 8) {p : Nat × List Byte} : p ∈ rowWrites td els r ↔
    (tdTr td = true ∧ ∃ c < 16, p = (tdAddr td r c, toBytes (fmtSize (tdFmt td)) (els.getD (r * 16 + c) 0))) ∨
    (tdTr td = false ∧ p = (tdAddr td r 0, (rowOf els r).flatMap (toBytes (fmtSize (tdFmt td))))) := by
  unfold rowWrites
  by_cases turned : tdTr td = true
  · simp only [turned, if_true, List.mem_map, true_and, Bool.true_eq_false, false_and, or_false]
    constructor
    · rintro ⟨⟨v, c⟩, mem, rfl⟩
      have place := List.mem_zipIdx_iff_getElem?.mp mem
      have hc : c < 16 := by
        rw [← rowOf_length all hr]
        exact (List.getElem?_eq_some_iff.mp place).1
      refine ⟨c, hc, ?_⟩
      rw [List.getD_eq_getElem?_getD, ← getElem?_rowOf els r c hc, place]
      rfl
    · rintro ⟨c, hc, rfl⟩
      refine ⟨(els.getD (r * 16 + c) 0, c), List.mem_zipIdx_iff_getElem?.mpr ?_, rfl⟩
      have inside : r * 16 + c < els.length := by omega
      rw [getElem?_rowOf els r c hc, List.getD_eq_getElem?_getD, List.getElem?_eq_getElem inside]
      rfl
  · simp [turned]

/-- Each byte of an element is written by a write of its row, as that byte of the element; a row's writes write nothing else. -/
theorem rowWrites_covers {r : Nat} (hr : r < 8) {p : Nat × List Byte} (mem : p ∈ rowWrites td els r) (b : Nat) : Covers p b →
    ∃ c x, c < 16 ∧ x < fmtSize (tdFmt td) ∧ b = tdAddr td r c + x ∧
      p.2.getD (b - p.1) 0 = BitVec.ofNat 8 (els.getD (r * 16 + c) 0 >>> (8 * x)) := by
  rintro ⟨after, within⟩
  obtain ⟨turned, c, hc, rfl⟩ | ⟨straight, rfl⟩ := (mem_rowWrites all hr).mp mem
  · rw [toBytes_length] at within
    exact ⟨c, b - tdAddr td r c, hc, by omega, by omega, toBytes_getD (by omega)⟩
  · have pos := fmtSize_pos (tdFmt td)
    rw [length_flatMap (toBytes_length _), rowOf_length all hr] at within
    generalize size : fmtSize (tdFmt td) = sz at *
    have column : (b - tdAddr td r 0) / sz < 16 := Nat.div_lt_of_lt_mul (by rw [Nat.mul_comm]; omega)
    have byte : (b - tdAddr td r 0) % sz < sz := Nat.mod_lt _ pos
    have split' : (b - tdAddr td r 0) / sz * sz + (b - tdAddr td r 0) % sz = b - tdAddr td r 0 := Nat.div_add_mod' _ _
    refine ⟨(b - tdAddr td r 0) / sz, (b - tdAddr td r 0) % sz, column, byte, ?_, ?_⟩
    · rw [tdAddr_row straight r, size]
      omega
    · rw [← split', getD_flatMap (toBytes_length sz) _ 0 _ (by rw [rowOf_length all hr]; omega) byte, toBytes_getD byte, split',
        getD_rowOf column]

theorem rowWrites_covered {r c x : Nat} (hr : r < 8) (hc : c < 16) (hx : x < fmtSize (tdFmt td)) :
    ∃ p ∈ rowWrites td els r, Covers p (tdAddr td r c + x) := by
  by_cases turned : tdTr td = true
  · refine ⟨_, (mem_rowWrites all hr).mpr (.inl ⟨turned, c, hc, rfl⟩), Nat.le_add_right _ _, ?_⟩
    rw [toBytes_length]
    omega
  · have straight := Bool.eq_false_iff.mpr turned
    refine ⟨_, (mem_rowWrites all hr).mpr (.inr ⟨straight, rfl⟩), ?_⟩
    rw [Covers, length_flatMap (toBytes_length _), rowOf_length all hr, tdAddr_row straight r c]
    have inside : c * fmtSize (tdFmt td) + fmtSize (tdFmt td) ≤ 16 * fmtSize (tdFmt td) := by
      rw [← Nat.succ_mul]
      exact Nat.mul_le_mul_right _ hc
    omega

/-- The words that a row's writes write whole are words of the tile. -/
theorem rowWrites_whole (rows : tdRows td = 8) (cols : tdCols td = 16) {r : Nat} (hr : r < 8) {p : Nat × List Byte} (mem : p ∈ rowWrites td els r) {x : Nat}
    (word : x ∈ wordsOf p.1 p.2.length) (after : p.1 ≤ 8 * x) (within : 8 * x + 8 ≤ p.1 + p.2.length) : x ∈ tdWords td := by
  obtain ⟨turned, c, hc, rfl⟩ | ⟨straight, rfl⟩ := (mem_rowWrites all hr).mp mem
  · rw [toBytes_length] at within
    have small := fmtSize_le (tdFmt td)
    omega
  · have line : tdLineLen td = 16 * fmtSize (tdFmt td) := by rw [tdLineLen, straight, if_neg Bool.false_ne_true, cols]
    have lines : tdLines td = 8 := by rw [tdLines, straight, if_neg Bool.false_ne_true, rows]
    rw [length_flatMap (toBytes_length _), rowOf_length all hr, ← line, tdAddr_eq, tdLine, tdPlace, straight, if_neg Bool.false_ne_true,
      if_neg Bool.false_ne_true, Nat.zero_mul, Nat.add_zero] at word
    exact wordsOf_line_mem (by omega) word

/-- A row's writes stay in the tile's span. -/
theorem rowWrites_within (rows : tdRows td = 8) (cols : tdCols td = 16) {r : Nat} (hr : r < 8) {p : Nat × List Byte} (mem : p ∈ rowWrites td els r) :
    (tileSpan td).1 ≤ p.1 ∧ p.1 + p.2.length ≤ (tileSpan td).1 + (tileSpan td).2 := by
  obtain ⟨turned, c, hc, rfl⟩ | ⟨straight, rfl⟩ := (mem_rowWrites all hr).mp mem
  · rw [toBytes_length]
    exact elem_within (by omega) (by omega)
  · have first := elem_within (td := td) (r := r) (c := 0) (by omega) (by omega)
    have last := elem_within (td := td) (r := r) (c := 15) (by omega) (by omega)
    rw [tdAddr_row straight r 15] at last
    rw [length_flatMap (toBytes_length _), rowOf_length all hr]
    omega

/-- An 8 × 16 block written over a tile in which no word is uncorrectable and that no buffered store overlaps: bytes of no element stay as they were, and where the
lines are apart each element is as the block has it. -/
theorem Core.writeTile_writes {k : Core} (rows : tdRows td = 8) (cols : tdCols td = 16) (apart : Apart k.sbuf (tileSpan td).1 (tileSpan td).2)
    (good : ∀ x ∈ tdWords td, x ∉ k.ue) :
    k.writeTile td 0 16 els = { k with
      sram := (k.writeTile td 0 16 els).sram, ce := (k.writeTile td 0 16 els).ce, wback := (k.writeTile td 0 16 els).wback } ∧
    (∀ b, (∀ i j, i < 8 → j < 16 → ¬ (tdAddr td i j ≤ b ∧ b < tdAddr td i j + fmtSize (tdFmt td))) →
      Memory.byte (k.writeTile td 0 16 els).seen b = Memory.byte k.seen b) ∧
    (tdescFault td = none → tdSrc td = 0 → ∀ i j, i < 8 → j < 16 →
      tdElem (k.writeTile td 0 16 els).seen td i j = els.getD (i * 16 + j) 0 % 2 ^ (8 * fmtSize (tdFmt td))) := by
  have ofRow {p : Nat × List Byte} (mem : p ∈ tileWrites td els) : ∃ r < 8, p ∈ rowWrites td els r := by
    obtain ⟨r, hr, mem⟩ := List.mem_flatMap.mp mem
    exact ⟨r, List.mem_range.mp hr, mem⟩
  rw [Core.writeTile_eq all]
  obtain ⟨rest, outside, inside⟩ := Core.unitWrites_writes (ws := tileWrites td els) (k := k)
    (fun p mem => by
      obtain ⟨r, hr, mem⟩ := ofRow mem
      exact apart.within (rowWrites_within all rows cols hr mem).1 (rowWrites_within all rows cols hr mem).2)
    (fun p mem x word after within => by
      obtain ⟨r, hr, mem⟩ := ofRow mem
      exact good x (rowWrites_whole all rows cols hr mem word after within))
  refine ⟨rest, fun b beside => outside b fun p mem covers => ?_, fun checked sram i j hi hj => Memory.value_eq_of_bytes fun x hx => inside _ _ ?_ ?_⟩
  · obtain ⟨r, hr, mem⟩ := ofRow mem
    obtain ⟨c, x, hc, hx, place, -⟩ := rowWrites_covers all hr mem b covers
    exact beside r c hr hc (by omega)
  · obtain ⟨p, mem, covers⟩ := rowWrites_covered (els := els) all hi hj hx
    exact ⟨p, List.mem_flatMap.mpr ⟨i, List.mem_range.mpr hi, mem⟩, covers⟩
  · intro p mem covers
    obtain ⟨r, hr, mem⟩ := ofRow mem
    obtain ⟨c, x', hc, hx', place, byte⟩ := rowWrites_covers all hr mem _ covers
    have many : 1 < tdLines td := by
      unfold tdLines
      split <;> omega
    obtain ⟨rfl, rfl, rfl⟩ := elem_byte_unique checked sram many (by omega) (by omega) (by omega) (by omega) hx hx' place
    exact byte

end

end Sys2Proof.Machine
end

section
/-! PROOFS. O9: TDESC, MMA and the accumulator moves (R122, R167, R168, R170, R171). -/

namespace Sys2Proof.Machine

/-! ### What the mixer does by the major opcode (R170, R171) -/

section
variable {q : QOp} (k : Core)

theorem Core.runMixer_tdesc (op : opField q.word = 0x28) : k.runMixer q = k.setT (bits q.word 25 23) (wordAt q.td 0) := by
  simp only [Core.runMixer, op]

theorem Core.runMixer_mma (op : opField q.word = 0x29) : k.runMixer q = k.runMma q := by
  simp only [Core.runMixer, op]

theorem Core.runMixer_ast (op : opField q.word = 0x2A) : k.runMixer q = k.runAst q := by
  simp only [Core.runMixer, op]

theorem Core.runMixer_ald (op : opField q.word = 0x2B) : k.runMixer q = k.runAld q := by
  simp only [Core.runMixer, op]

theorem Core.runMixer_azero (op : opField q.word = 0x2C) : k.runMixer q = k.setAccFrom (accField q.word) 0 (List.replicate 128 0) := by
  simp only [Core.runMixer, op]

theorem Core.runMixer_avx (op : opField q.word = 0x2D) (set : bit q.word 23 = true) :
    k.runMixer q = k.setAccFrom (accField q.word) (bits q.word 22 21 * 2 * 16) (lanes (k.vreg (aField q.word))) := by
  simp only [Core.runMixer, op, set, if_true]

theorem Core.runMixer_axv (op : opField q.word = 0x2D) (clear : bit q.word 23 = false) :
    k.runMixer q = k.setV (aField q.word) (ofLanes ((upTo 32).map fun i => k.acc (accField q.word) (bits q.word 22 21 * 2 + i / 16) (i % 16))) := by
  simp only [Core.runMixer, op, clear, Bool.false_eq_true, if_false]

end

/-! ### Registers read (R149) -/

section
variable {k k' : Core}

theorem Core.acc_congr (same : k'.regs.a = k.regs.a) (q i j : Nat) : k'.acc q i j = k.acc q i j := by rw [Core.acc, same, Core.acc]
theorem Core.lane_congr (same : k'.regs.v = k.regs.v) (v i : Nat) : k'.lane v i = k.lane v i := by rw [Core.lane, same, Core.lane]
theorem Core.treg_congr (same : k'.regs.t = k.regs.t) (n : Nat) : k'.treg n = k.treg n := by rw [Core.treg, same, Core.treg]

end

/-! ### An instruction of the mixer that changes registers only -/

section
variable {s : State} {c w : Nat} {op : CoreOp} {run : State → Core → Nat → Issue}

theorem Issues.changesRegs (h : Issues s c w op) {r : Regs} (ran : run s (s.core c) w = .done ({ s.core c with regs := r } : Core).advance []) :
    ∃ t, issue op c s run = .next t ∧ OnlyCore s t c ∧ t.core c = { (s.core c).issued ((s.core c).pc + 4) with regs := r } := by
  obtain ⟨t, issued, only, core⟩ := h.advances (k := { s.core c with regs := r }) ⟨rfl, rfl, rfl, rfl⟩ rfl rfl ran
  exact ⟨t, issued, only, core⟩

/-- With an idle mixer an instruction that names no descriptor runs as it issues. -/
theorem mixerOp_idle {k : Core} (idle : k.uq = []) (done : (k.runMixer (k.entry true w 0 [])).uq = []) :
    mixerOp s k w = .done (k.runMixer (k.entry true w 0 [])).advance [] := by
  rw [mixerOp, Core.unitLen_idle idle, if_neg (by decide), mixerEntry_plain]
  exact Core.enqueue_idle idle done

theorem Core.setAccFrom_uq (k : Core) (a i : Nat) (l : List Nat) : (k.setAccFrom a i l).uq = k.uq := by rw [setAccFrom_regs]

end

theorem accumulatorMoves : Claims.AccumulatorMoves := by
  intro s c w row idle is
  refine ⟨fun h => ?_, fun h => ?_, fun h => ?_⟩
  · have runs : (s.core c).runMixer ((s.core c).entry true w 0 []) = (s.core c).setAccFrom (accField w) 0 (List.replicate 128 0) :=
      (s.core c).runMixer_azero (opField_of_major h.decoded rfl)
    have ran := mixerOp_idle (s := s) (w := w) idle (by rw [runs, Core.setAccFrom_uq, idle])
    rw [runs, setAccFrom_regs] at ran
    obtain ⟨t, issued, only, core⟩ := h.changesRegs ran
    have acc : (t.core c).regs.a = ((s.core c).setAccFrom (accField w) 0 (List.replicate 128 0)).regs.a := by rw [core]
    refine ⟨t, issued, only, by rw [core], fun q i j hi hj => ?_⟩
    rw [Core.acc_congr acc, Core.acc_setAcc _ _ (List.length_replicate ..) q i j hi hj, List.getD_replicate _ (by omega), Nat.zero_mod]
  · have runs : (s.core c).runMixer ((s.core c).entry true w 0 []) = (s.core c).setV (aField w) (ofLanes ((upTo 32).map fun i =>
        (s.core c).acc (accField w) (bits w 22 21 * 2 + i / 16) (i % 16))) :=
      (s.core c).runMixer_axv (opField_of_major h.decoded rfl) (bit_of_rowMove h.decoded rfl)
    have ran := mixerOp_idle (s := s) (w := w) idle (by rw [runs, setV_regs]; exact idle)
    rw [runs, setV_regs] at ran
    obtain ⟨t, issued, only, core⟩ := h.changesRegs ran
    have lane : (t.core c).regs.v = ((s.core c).setV (aField w) (ofLanes ((upTo 32).map fun i =>
        (s.core c).acc (accField w) (bits w 22 21 * 2 + i / 16) (i % 16)))).regs.v := by rw [core]
    refine ⟨t, issued, only, by rw [core], fun v i hi => ?_⟩
    rw [Core.lane_congr lane, Core.lane_setV _ _ _ _ _ hi, is]
    split
    · apply BitVec.eq_of_toNat_eq
      rw [BitVec.toNat_ofNat, BitVec.toNat_ofNat, ofLanes_lane, getD_map_upTo _ hi, Nat.mul_comm 2]
    · rfl
  · have runs : (s.core c).runMixer ((s.core c).entry true w 0 []) =
        (s.core c).setAccFrom (accField w) (bits w 22 21 * 2 * 16) (lanes ((s.core c).vreg (aField w))) :=
      (s.core c).runMixer_avx (opField_of_major h.decoded rfl) (bit_of_rowMove h.decoded rfl)
    have ran := mixerOp_idle (s := s) (w := w) idle (by rw [runs, Core.setAccFrom_uq, idle])
    rw [runs, setAccFrom_regs] at ran
    obtain ⟨t, issued, only, core⟩ := h.changesRegs ran
    have acc : (t.core c).regs.a =
        ((s.core c).setAccFrom (accField w) (bits w 22 21 * 2 * 16) (lanes ((s.core c).vreg (aField w)))).regs.a := by rw [core]
    refine ⟨t, issued, only, by rw [core], fun q i j hi hj => ?_⟩
    have small : bits w 22 21 < 4 := Nat.mod_lt _ (by decide)
    rw [Core.acc_congr acc, Core.acc_setAccFrom _ _ _ _ q i j hi hj (by rw [lanes_length]; omega), lanes_length]
    by_cases mine : q = accField w ∧ (i = row ∨ i = row + 1)
    · rw [if_pos (by omega), if_pos mine, Core.lanes_vreg _ _ _ (by omega), Nat.mod_eq_of_lt (BitVec.isLt _),
        show i * 16 + j - bits w 22 21 * 2 * 16 = (i - row) * 16 + j by omega]
    · rw [if_neg (by omega), if_neg mine]

theorem Core.treg_setT (k : Core) (n v m : Nat) : (k.setT n v).treg m = if m = n then v % 2 ^ 64 else k.treg m := by
  unfold Core.setT Core.treg
  rw [Tab.read_write]
  split
  · exact BitVec.toNat_ofNat v 64
  · rfl

/-- What TDESC comes to as it issues. -/
def tdescIssue (_ : State) (k : Core) (w : Nat) : Issue :=
  if 4 ≤ k.unitLen true then .stall
  else whenFree k [aField w, aField w + 1]
    (let v := k.pair (aField w)
     match tdescFault v with
     | some f => .trap k f.1 f.2
     | none => let e := mixerEntry k w false [v]; e.1.enqueue e.2)

theorem exec_tdesc (c : Nat) (s : State) : exec (.tdesc c) s = issue .tdesc c s tdescIssue := rfl

section
variable {k : Core} {w v : Nat} (room : k.unitLen true < 4) (free : k.free [aField w, aField w + 1]) (value : k.pair (aField w) = v)
include room free value

theorem tdescIssue_traps (s : State) {cause addr : Nat} (bad : tdescFault v = some (cause, addr)) : tdescIssue s k w = .trap k cause addr := by
  unfold tdescIssue
  simp only [value, bad, whenFree_of_free free, Nat.not_le.mpr room, if_false]

theorem tdescIssue_queues (s : State) (good : tdescFault v = none) : tdescIssue s k w = k.enqueue (k.entry true w 0 [v]) := by
  unfold tdescIssue
  simp only [value, good, whenFree_of_free free, Nat.not_le.mpr room, if_false, mixerEntry_plain]

end

theorem tileDescriptorLoad : Claims.TileDescriptorLoad := by
  intro s c w h
  rw [exec_tdesc]
  refine ⟨fun full => h.stalls (if_pos full), fun room free v is => ?_⟩
  have pair : (s.core c).pair (aField w) = v := by rw [is, Core.pair, Core.sreg_eq_toNat, Core.sreg_eq_toNat]
  refine ⟨fun cause addr bad => h.traps (tdescIssue_traps room free pair s bad), fun good idle => ?_⟩
  · have small : v < 2 ^ 64 := pair ▸ (s.core c).pair_lt (aField w)
    have runs : (s.core c).runMixer ((s.core c).entry true w 0 [v]) = (s.core c).setT (bits w 25 23) v :=
      (s.core c).runMixer_tdesc (opField_of_major h.decoded rfl)
    have ran : tdescIssue s (s.core c) w = .done ((s.core c).setT (bits w 25 23) v).advance [] := by
      rw [tdescIssue_queues room free pair s good, ← runs]
      exact Core.enqueue_idle idle (by rw [Core.runQueued, Core.entry, if_pos rfl]; exact (congrArg Core.uq runs).trans idle)
    obtain ⟨t, issued, only, core⟩ := h.changesRegs ran
    have desc : (t.core c).regs.t = ((s.core c).setT (bits w 25 23) v).regs.t := by rw [core]; rfl
    refine ⟨t, issued, only, by rw [core], fun n => ?_⟩
    rw [Core.treg_congr desc, Core.treg_setT, Nat.mod_eq_of_lt small]

end Sys2Proof.Machine
end

section
/-! PROOFS. O9: the product of two tiles (R132, R170, R198). -/

namespace Sys2Proof.Machine

/-! ### A product reads its operands up to its depth (R170) -/

theorem mmaElem_congr {a a' b b' : Nat → Nat} {kk : Nat} (left : ∀ x < kk, a x = a' x) (right : ∀ x < kk, b x = b' x) (kind fa fb acc : Nat) :
    mmaElem kind fa fb a b kk acc = mmaElem kind fa fb a' b' kk acc := by
  unfold mmaElem
  refine List.foldl_ext _ _ _ fun st i _ => ?_
  dsimp only
  have within : ∀ x ∈ ((upTo (stepWidth kind)).map fun j => i * stepWidth kind + j).filter (fun k => decide (k < kk)), x < kk :=
    fun x mem => of_decide_eq_true (List.mem_filter.mp mem).2
  split
  · rw [List.foldl_ext _ _ _ fun t x mem => by rw [left x (within x mem), right x (within x mem)]]
  · rw [List.map_congr_left fun x mem => by rw [left x (within x mem), right x (within x mem)]]

theorem mmaTile_map_upTo (kind fa fb : Nat) (a b : Nat → Nat → Nat) (kk : Nat) (g : Nat → Nat) :
    mmaTile kind fa fb a b kk ((upTo 128).map g) =
      (upTo 128).map fun i => mmaElem kind fa fb (fun k => a (i / 16) k) (fun k => b k (i % 16)) kk (g i) := mapIdx_map_upTo ..

/-! ### The mixer's result put into an accumulator -/

/-- A core that a unit has read for, with elements of an accumulator written and flags raised. -/
theorem Core.Reads.written {k k' : Core} (reads : k.Reads k') (a : Nat) (l : List Nat) :
    k'.setAccFrom a 0 l = { k with
      regs := { k.regs with a := (k'.setAccFrom a 0 l).regs.a }, sbuf := k'.sbuf, sram := k'.sram, ce := k'.ce, wback := k'.wback,
      counters := k'.counters } := by
  rw [setAccFrom_regs]
  generalize (k'.setAccFrom a 0 l).regs.a = x
  rw [reads.rest]

theorem Core.counter_addSteps (k : Core) (kind n : Nat) {i : Nat} (not8 : i ≠ 8) (not17 : i ≠ 17) : (k.addSteps kind n).counter i = k.counter i := by
  unfold Core.addSteps
  split
  · rw [Core.counter_addCounter, if_neg not8]
  · rw [Core.counter_addCounter, if_neg not17, Core.counter_addCounter, if_neg not8]

/-- The words of the tiles and of the buffered stores are free of uncorrectable errors: after draining, nothing buffered overlaps the tiles, and they are read. -/
theorem Core.drainSpans_reads {k : Core} {tds : List Nat} (sound : Claims.tileSound k tds) (ws : List Nat) :
    k.Reads ((k.drainSpans (tds.map tileSpan)).readCe ws) ∧
    ∀ td ∈ tds, Apart ((k.drainSpans (tds.map tileSpan)).readCe ws).sbuf (tileSpan td).1 (tileSpan td).2 := by
  obtain ⟨drains, apart⟩ := Core.drainSpans_drains sound.2 (tds.map tileSpan)
  obtain ⟨reads, sbuf⟩ := Core.readCe_reads (k.drainSpans (tds.map tileSpan)) ws
  refine ⟨drains.reads.trans reads, fun td mem => ?_⟩
  rw [sbuf]
  exact apart _ (List.mem_map_of_mem mem)

/-! ### MMA (R170) -/

/-- What the mixer computes for element `i` of a product, from the memory that a program sees. -/
def mmaResult (k : Core) (w ta tb kind i : Nat) : FRes :=
  mmaElem kind (tdFmt ta) (tdFmt tb) (fun x => tdElem k.seen ta (i / 16) x) (fun x => tdElem k.seen tb x (i % 16)) (tdCols ta)
    (if bit w 23 then 0 else k.acc (accField w) (i / 16) (i % 16))

section
variable {k : Core} {w ta tb kind : Nat} (rowsA : tdRows ta = 8) (colsB : tdCols tb = 16) (inner : tdCols ta = tdRows tb)

include rowsA colsB inner

/-- The whole product, from data SRAM as it stands once the tiles are drained and read. -/
theorem mmaTile_eq {k' : Core} (reads : k.Reads k') (apart : ∀ td ∈ [ta, tb], Apart k'.sbuf (tileSpan td).1 (tileSpan td).2) :
    mmaTile kind (tdFmt ta) (tdFmt tb) (fun i x => tdElem k'.sram ta i x) (fun x j => tdElem k'.sram tb x j) (tdCols ta)
      (if bit w 23 then List.replicate 128 0 else k'.accList (accField w)) = (upTo 128).map (mmaResult k w ta tb kind) := by
  have start : (if bit w 23 then List.replicate 128 0 else k'.accList (accField w)) =
      (upTo 128).map fun i => if bit w 23 then 0 else k.acc (accField w) (i / 16) (i % 16) := by
    have accs (q i j : Nat) : k'.acc q i j = k.acc q i j := Core.acc_congr (by rw [reads.regs]) q i j
    split
    · rw [List.map_const', upTo, List.length_range]
    · rw [Core.accList_eq]
      simp only [accs]
  rw [start, mmaTile_map_upTo]
  refine List.map_congr_left fun i mem => ?_
  have small : i < 128 := List.mem_range.mp mem
  exact mmaElem_congr (fun x hx => reads.tile (apart ta (by simp)) (by omega) hx) (fun x hx => reads.tile (apart tb (by simp)) (by omega) (by omega)) _ _ _ _

/-- MMA in the mixer: the product goes to the accumulator, its flags are raised and its steps counted. -/
theorem Core.runMma_eq (sound : Claims.tileSound k [ta, tb]) (pair : pairKind (tdFmt ta) (tdFmt tb) = some kind) {q : QOp} (word : q.word = w)
    (td : q.td = [ta, tb]) {k' : Core} (is : k' = (k.drainSpans [tileSpan ta, tileSpan tb]).readCe (tdWords ta ++ tdWords tb)) :
    (k.drainSpans [tileSpan ta, tileSpan tb]).runMma q =
      ((k'.setAccFrom (accField w) 0 ((upTo 128).map fun i => (mmaResult k w ta tb kind i).1)).raise
        ((List.range 128).foldl (fun x i => x ||| (mmaResult k w ta tb kind i).2) 0)).addSteps kind (mmaSteps kind (tdCols ta)) := by
  obtain ⟨reads, apart⟩ := Core.drainSpans_reads sound (tdWords ta ++ tdWords tb)
  have good : ∀ x ∈ tdWords ta ++ tdWords tb, x ∉ (k.drainSpans [tileSpan ta, tileSpan tb]).ue := fun x mem => by
    rw [(Core.drainSpans_drains sound.2 _).1.ue]
    obtain inA | inB := List.mem_append.mp mem
    · exact sound.1 ta (by simp) x inA
    · exact sound.1 tb (by simp) x inB
  have first : wordAt [ta, tb] 0 = ta := rfl
  have second : wordAt [ta, tb] 1 = tb := rfl
  have kinds : (some kind).getD 0 = kind := rfl
  have product := mmaTile_eq (w := w) (kind := kind) rowsA colsB inner reads apart
  rw [List.map_cons, List.map_cons, List.map_nil, ← is] at product
  unfold Core.runMma
  dsimp only
  rw [td, first, second, pair, kinds, Core.unitRead_good good, ← is, word, product, codes_map_upTo, flagUnion_map_upTo]

end

/-- An instruction of an idle mixer leaves the core that running it does. -/
theorem Core.enqueue_mixer {k k' : Core} {w sA : Nat} {td : List Nat} (idle : k.uq = []) (runs : k.runMixer (k.entry true w sA td) = k') (done : k'.uq = []) :
    k.enqueue (k.entry true w sA td) = .done k'.advance [] := by
  have queued : k.runQueued (k.entry true w sA td) = k' := (if_pos rfl).trans runs
  rw [← queued] at done ⊢
  exact Core.enqueue_idle idle done

/-- What MMA comes to as it issues. -/
def mmaIssue (_ : State) (k : Core) (w : Nat) : Issue :=
  let ta := k.tdNow (bits w 21 19)
  let tb := k.tdNow (bits w 18 16)
  if tdSrc ta ≠ 0 ∨ tdSrc tb ≠ 0 ∨ tdRows ta ≠ 8 ∨ tdCols tb ≠ 16 ∨ tdCols ta ≠ tdRows tb ∨
     (pairKind (tdFmt ta) (tdFmt tb)).isNone then .trap k 0x3182 0
  else if 4 ≤ k.unitLen true then .stall
  else let e := mixerEntry (k.drainSpans [tileSpan ta, tileSpan tb]) w false [ta, tb]; e.1.enqueue e.2

theorem exec_mma (c : Nat) (s : State) : exec (.mma c) s = issue .mma c s mmaIssue := rfl

theorem mmaIssue_queues {k : Core} {w ta tb kind : Nat} (idle : k.uq = []) (a : ta = k.treg (bits w 21 19)) (b : tb = k.treg (bits w 18 16))
    (srcA : tdSrc ta = 0) (srcB : tdSrc tb = 0) (rowsA : tdRows ta = 8) (colsB : tdCols tb = 16) (inner : tdCols ta = tdRows tb)
    (pair : pairKind (tdFmt ta) (tdFmt tb) = some kind) (s : State) :
    mmaIssue s k w = (k.drainSpans [tileSpan ta, tileSpan tb]).enqueue ((k.drainSpans [tileSpan ta, tileSpan tb]).entry true w 0 [ta, tb]) := by
  unfold mmaIssue
  rw [Core.tdNow_idle idle, Core.tdNow_idle idle, ← a, ← b]
  dsimp only
  rw [if_neg (by simp [srcA, srcB, rowsA, colsB, inner, pair]), Core.unitLen_idle idle, if_neg (by decide), mixerEntry_plain]

/-- The core that a unit leaves behind after it has read, written an accumulator, raised flags and counted its steps. -/
theorem Core.Reads.finished {k k' : Core} (reads : k.Reads k') (a : Nat) (l : List Nat) (fl kind n : Nat) :
    ((k'.setAccFrom a 0 l).raise fl).addSteps kind n = { k with
    regs := { k.regs with a := (k'.setAccFrom a 0 l).regs.a }, sbuf := k'.sbuf, sram := k'.sram, ce := k'.ce, wback := k'.wback,
    csr := { k.csr with flags := k.csr.flags ||| fl, tflags := k.csr.tflags ||| fl },
    counters := (((k'.setAccFrom a 0 l).raise fl).addSteps kind n).counters } := by
  have steps := (Core.addSteps_counts ((k'.setAccFrom a 0 l).raise fl) kind n).1
  generalize (((k'.setAccFrom a 0 l).raise fl).addSteps kind n).counters = ctr at steps ⊢
  rw [steps, Core.raise, reads.written]

theorem Core.seen_congr {k k' : Core} (sbuf : k'.sbuf = k.sbuf) (sram : k'.sram = k.sram) : k'.seen = k.seen := by
  rw [Core.seen, sbuf, sram, Core.seen]

theorem matrixProduct : Claims.MatrixProduct := by
  intro s c w ta tb kind h idle isA isB srcA srcB rowsA colsB inner pair sound r isR
  rw [exec_mma]
  generalize is : ((s.core c).drainSpans [tileSpan ta, tileSpan tb]).readCe (tdWords ta ++ tdWords tb) = k'
  have reads : (s.core c).Reads k' := is ▸ (Core.drainSpans_reads sound (tdWords ta ++ tdWords tb)).1
  have runs := Core.runMma_eq (w := w) rowsA colsB inner sound pair (q := ((s.core c).drainSpans [tileSpan ta, tileSpan tb]).entry true w 0 [ta, tb]) rfl rfl is.symm
  have same : mmaResult (s.core c) w ta tb kind = r := isR.symm
  rw [same] at runs
  have length : ((upTo 128).map fun i => (r i).1).length = 128 := length_map_upTo 128 _
  have element (i : Nat) (hi : i < 128) : ((upTo 128).map fun i => (r i).1).getD i 0 = (r i).1 := getD_map_upTo _ hi
  generalize (upTo 128).map (fun i => (r i).1) = l at runs length element
  generalize (List.range 128).foldl (fun x i => x ||| (r i).2) 0 = fl at runs ⊢
  generalize mmaSteps kind (tdCols ta) = n at runs ⊢
  have finished := reads.finished (accField w) l fl kind n
  have steps : (((k'.setAccFrom (accField w) 0 l).raise fl).addSteps kind n).counter 8 = (s.core c).counter 8 + n := by
    rw [(Core.addSteps_counts _ kind n).2.1, ← reads.counter 8 (by decide), reads.written]
    rfl
  have others : (((k'.setAccFrom (accField w) 0 l).raise fl).addSteps kind n).counter 6 = (s.core c).counter 6 := by
    rw [Core.counter_addSteps _ kind n (by decide) (by decide), ← reads.counter 6 (by decide), reads.written]
    rfl
  have accs : (((k'.setAccFrom (accField w) 0 l).raise fl).addSteps kind n).regs.a = (k'.setAccFrom (accField w) 0 l).regs.a := by
    rw [finished]
  generalize ((k'.setAccFrom (accField w) 0 l).raise fl).addSteps kind n = k3 at *
  have ran : mmaIssue s (s.core c) w = .done k3.advance [] := by
    have drained : ((s.core c).drainSpans [tileSpan ta, tileSpan tb]).uq = [] := (Core.drainSpans_drains sound.2 _).1.uq.trans idle
    have opcode : opField w = 0x29 := opField_of_major h.decoded rfl
    rw [mmaIssue_queues idle isA isB srcA srcB rowsA colsB inner pair s]
    generalize (s.core c).drainSpans [tileSpan ta, tileSpan tb] = kd at runs drained ⊢
    exact Core.enqueue_mixer drained ((kd.runMixer_mma (q := kd.entry true w 0 [ta, tb]) opcode).trans runs) (by rw [finished, idle])
  obtain ⟨t, issued, only, core⟩ := h.advancesTotals (k := k3) (by rw [finished]; exact ⟨rfl, rfl, rfl, rfl⟩) (by rw [finished]) ran
  have acc : (t.core c).regs.a = (k'.setAccFrom (accField w) 0 l).regs.a := by rw [core]; exact accs
  refine ⟨t, issued, only, ?_, ?_, ?_, ?_, fun q i j hi hj => ?_⟩
  · rw [core, finished]
    rfl
  · rw [core, Core.counter_issued, if_pos rfl, others]
  · rw [core, Core.counter_issued, if_neg (by decide), steps]
  · have seen : (t.core c).seen = k'.seen := Core.seen_congr (by rw [core, finished]; rfl) (by rw [core, finished]; rfl)
    rw [seen, reads.seen]
    exact fun _ => rfl
  · rw [Core.acc_congr acc, Core.acc_setAcc _ _ length q i j hi hj, element _ (by omega),
      Core.acc_congr (k := s.core c) (k' := k') (by rw [reads.regs])]

/-- Settles O9. -/
theorem tilesAndProducts : Obligations.TilesAndProducts := ⟨tileDescriptorLoad, matrixProduct, accumulatorMoves⟩

end Sys2Proof.Machine
end

section
/-! PROOFS. O8: VLD, VST, AST and ALD (R124, R130, R166, R171). -/

namespace Sys2Proof.Machine

/-! ### VLD and VST (R166) -/

theorem Core.runVector_vld (k : Core) {q : QOp} (op : opField q.word = 0x21) : k.runVector q =
    (k.addCounter 7 1).unitRead q.pc q.nth (wordsOf q.sA 128) (fun k => k.setV (dField q.word) (Memory.value k.sram q.sA 128)) := by
  simp only [Core.runVector, op]

theorem Core.runVector_vst (k : Core) {q : QOp} (op : opField q.word = 0x22) : k.runVector q =
    (k.addCounter 7 1).unitWrite q.sA (toBytes 128 ((k.addCounter 7 1).vreg (dField q.word))) := by
  simp only [Core.runVector, op]

/-- An instruction of an idle vector unit leaves the core that running it does. -/
theorem Core.enqueue_vector {k k' : Core} {w sA : Nat} {td : List Nat} (idle : k.uq = []) (runs : k.runVector (k.entry false w sA td) = k')
    (done : k'.uq = []) : k.enqueue (k.entry false w sA td) = .done k'.advance [] := by
  have queued : k.runQueued (k.entry false w sA td) = k' := (if_neg Bool.false_ne_true).trans runs
  rw [← queued] at done ⊢
  exact Core.enqueue_idle idle done

theorem vectorMemOp_queues {k : Core} {w a : Nat} (idle : k.uq = []) (is : a = (k.reg (aField w) + Claims.simm w).toNat) (inside : a + 128 ≤ 0x50000)
    (aligned : a % 128 = 0) (s : State) : vectorMemOp s k w = (k.drainFor a 128).enqueue ((k.drainFor a 128).entry false w a []) := by
  unfold vectorMemOp
  dsimp only
  rw [whenFree_of_free (Core.free_of_idle idle _), memAddr_eq, ← is, accessFault_none inside aligned]
  dsimp only
  rw [vectorEntry_plain]

theorem Core.counter_setV (k : Core) (n v i : Nat) : (k.setV n v).counter i = k.counter i := rfl

/-- The core that a VLD leaves behind: it has read, counted one vector instruction, and put the 128 bytes its program sees in a vector register. -/
theorem Core.runVld {k : Core} {w a : Nat} (sound : k.sound a 128) {q : QOp} (op : opField w = 0x21) (word : q.word = w) (addr : q.sA = a) :
    ∃ k' : Core, k' = { k with sbuf := k'.sbuf, sram := k'.sram, ce := k'.ce, wback := k'.wback, counters := k'.counters } ∧ k'.seen = k.seen ∧
      k'.counter 6 = k.counter 6 ∧ k'.counter 7 = k.counter 7 + 1 ∧
      (k.drainFor a 128).runVector q = k'.setV (dField w) (Memory.value k.seen a 128) := by
  have drains := Core.drainFor_drains sound.2 a 128
  have counters (i : Nat) : (k.drainFor a 128).counter i = k.counter i := by rw [Core.counter, drains.counters, Core.counter]
  obtain ⟨reads, sbuf⟩ := Core.readCe_reads ((k.drainFor a 128).addCounter 7 1) (wordsOf a 128)
  have good : ∀ x ∈ wordsOf a 128, x ∉ ((k.drainFor a 128).addCounter 7 1).ue := fun x word => by
    rw [show ((k.drainFor a 128).addCounter 7 1).ue = (k.drainFor a 128).ue from rfl, drains.ue]
    exact sound.1 x word
  have apart : Apart (((k.drainFor a 128).addCounter 7 1).readCe (wordsOf a 128)).sbuf a 128 := by
    rw [sbuf]
    exact Core.drainFor_apart sound.2 a 128
  have seen : (((k.drainFor a 128).addCounter 7 1).readCe (wordsOf a 128)).seen = k.seen := reads.seen.trans drains.seen
  have value := Core.value_seen_of_apart apart (Nat.le_refl a) (Nat.le_refl (a + 128))
  rw [seen] at value
  refine ⟨((k.drainFor a 128).addCounter 7 1).readCe (wordsOf a 128), ?_, seen, ?_, ?_, ?_⟩
  · rw [reads.rest, Core.addCounter, drains.rest]
  · rw [reads.counter 6 (by decide), Core.counter_addCounter, if_neg (by decide), counters]
  · rw [reads.counter 7 (by decide), Core.counter_addCounter, if_pos rfl, counters]
  · rw [Core.runVector_vld _ (word ▸ op), addr, Core.unitRead_good good, word, value]

/-- A byte of a vector register (R149). -/
theorem Core.byte_vreg (k : Core) (v i : Nat) : BitVec.ofNat 8 (k.vreg v >>> (8 * i)) = (k.lane v (i / 4)).extractLsb' (8 * (i % 4)) 8 := by
  have low := byte_mod (n := 4) (i := i % 4) (k.vreg v >>> (32 * (i / 4))) (Nat.mod_lt _ (by decide))
  apply BitVec.eq_of_toNat_eq
  rw [← Nat.shiftRight_add, show 32 * (i / 4) + 8 * (i % 4) = 8 * i by omega] at low
  rw [← low, BitVec.extractLsb'_toNat, Core.lane, BitVec.extractLsb'_toNat, BitVec.toNat_ofNat]
  rfl

/-- The core that a VST leaves behind: its program sees the bytes of the vector register at the address. -/
theorem Core.runVst {k : Core} {w a : Nat} (sound : k.sound a 128) {q : QOp} (op : opField w = 0x22) (word : q.word = w) (addr : q.sA = a) :
    ∃ sb mem ce wb, (k.drainFor a 128).runVector q = (k.withMemory sb mem ce wb).addCounter 7 1 ∧
      ∀ b, Memory.byte (overlay mem sb) b = if a ≤ b ∧ b < a + 128 then (k.lane (dField w) ((b - a) / 4)).extractLsb' (8 * ((b - a) % 4)) 8
        else Memory.byte k.seen b := by
  have reg : ((k.drainFor a 128).addCounter 7 1).vreg (dField w) = k.vreg (dField w) := by
    rw [show ((k.drainFor a 128).addCounter 7 1).vreg (dField w) = (k.drainFor a 128).vreg (dField w) from rfl, Core.vreg,
      (Core.drainFor_drains sound.2 a 128).regs, Core.vreg]
  obtain ⟨⟨sb, mem, ce, wb, wrote⟩, seen⟩ := Core.drainFor_unitWrite (k := k) (a := a) (bs := toBytes 128 (k.vreg (dField w)))
    (by rw [toBytes_length]; exact sound)
  rw [toBytes_length] at wrote seen
  rw [wrote] at seen
  refine ⟨sb, mem, ce, wb, ?_, fun b => (seen b).trans ?_⟩
  · rw [Core.runVector_vst _ (word ▸ op), addr, word, reg, ← wrote]
    rfl
  · split
    · rw [toBytes_getD (by omega), Core.byte_vreg]
    · rfl

theorem vectorMemory : Claims.VectorMemory := by
  intro s c w a is inside aligned idle sound
  have drains := Core.drainFor_drains sound.2 a 128
  have drained : ((s.core c).drainFor a 128).uq = [] := drains.uq.trans idle
  have queues := vectorMemOp_queues idle is inside aligned s
  refine ⟨fun h => ?_, fun h => ?_⟩
  · obtain ⟨k', rest, seen, count6, count7, runs⟩ := Core.runVld sound (q := ((s.core c).drainFor a 128).entry false w a [])
      (opField_of_major h.decoded rfl) rfl rfl
    generalize (s.core c).drainFor a 128 = kd at *
    have ran : vectorMemOp s (s.core c) w = .done (k'.setV (dField w) (Memory.value (s.core c).seen a 128)).advance [] := by
      rw [queues]
      exact Core.enqueue_vector drained runs (by rw [setV_regs, rest]; exact idle)
    have finished : k'.setV (dField w) (Memory.value (s.core c).seen a 128) = { s.core c with
        regs := { (s.core c).regs with v := (k'.setV (dField w) (Memory.value (s.core c).seen a 128)).regs.v },
        sbuf := k'.sbuf, sram := k'.sram, ce := k'.ce, wback := k'.wback, counters := k'.counters } := by
      rw [setV_regs]
      generalize (k'.setV (dField w) (Memory.value (s.core c).seen a 128)).regs.v = x
      rw [rest]
    have lanes (v i : Nat) (hi : i < 32) : (k'.setV (dField w) (Memory.value (s.core c).seen a 128)).lane v i =
        if v = dField w then BitVec.ofNat 32 (Memory.value (s.core c).seen (a + 4 * i) 4) else (s.core c).lane v i := by
      rw [Core.lane_setV _ _ _ _ _ hi, Core.lane_congr (k := s.core c) (k' := k') (by rw [rest])]
      congr 1
      apply BitVec.eq_of_toNat_eq
      rw [BitVec.toNat_ofNat, BitVec.toNat_ofNat, show 32 * i = 8 * (4 * i) by omega, ← Memory.value_part (i := 4 * i) (j := 4) (n := 128) (by omega),
        Nat.mod_mod]
    have count (i : Nat) : (k'.setV (dField w) (Memory.value (s.core c).seen a 128)).counter i = k'.counter i :=
      Core.counter_setV k' _ _ i
    generalize k'.setV (dField w) (Memory.value (s.core c).seen a 128) = k3 at *
    obtain ⟨t, issued, only, core⟩ := h.advancesTotals (k := k3) (by rw [finished]; exact ⟨rfl, rfl, rfl, rfl⟩) (by rw [finished]) ran
    have after : (t.core c).seen = k'.seen := Core.seen_congr (by rw [core, finished]; rfl) (by rw [core, finished]; rfl)
    refine ⟨t, issued, only, ⟨by rw [core]; rfl, ?_, ?_, ?_⟩, ?_, fun b => by rw [after, seen], fun v i hi => ?_⟩
    · rw [core, finished]
      exact idle
    · rw [core, Core.counter_issued, if_pos rfl, count, count6]
    · rw [core, Core.counter_issued, if_neg (by decide), count, count7]
    · rw [core, finished]
      rfl
    · rw [← lanes v i hi]
      exact Core.lane_congr (by rw [core]; rfl) v i
  · obtain ⟨sb, mem, ce, wb, runs, bytes⟩ := Core.runVst sound (q := ((s.core c).drainFor a 128).entry false w a [])
      (opField_of_major h.decoded rfl) rfl rfl
    generalize (s.core c).drainFor a 128 = kd at *
    have ran : vectorMemOp s (s.core c) w = .done (((s.core c).withMemory sb mem ce wb).addCounter 7 1).advance [] := by
      rw [queues]
      exact Core.enqueue_vector drained runs idle
    obtain ⟨t, issued, only, core⟩ := h.advances (k := ((s.core c).withMemory sb mem ce wb).addCounter 7 1) ⟨rfl, rfl, rfl, rfl⟩ rfl
      ((Core.counter_addCounter _ 7 15 1).trans rfl) ran
    have after : (t.core c).seen = overlay mem sb := (Core.seen_congr (k := (s.core c).withMemory sb mem ce wb) (by rw [core]; rfl) (by rw [core]; rfl)).trans rfl
    refine ⟨t, issued, only, ⟨by rw [core]; rfl, by rw [core]; exact idle, ?_, ?_⟩, by rw [core]; rfl, fun b => by rw [after, bytes]⟩
    · rw [core, Core.counter_issued, if_pos rfl, Core.counter_addCounter, if_neg (by decide)]
      rfl
    · rw [core, Core.counter_issued, if_neg (by decide), Core.counter_addCounter, if_pos rfl]
      rfl

end Sys2Proof.Machine
end

section
/-! PROOFS. O8: AST and ALD (R130, R132, R171, R192). -/

namespace Sys2Proof.Machine

/-- One tile alone is drained, and its words read. -/
theorem Core.drainSpan_reads {k : Core} {td : Nat} (sound : Claims.tileSound k [td]) :
    k.Reads ((k.drainSpans [tileSpan td]).readCe (tdWords td)) ∧
    Apart ((k.drainSpans [tileSpan td]).readCe (tdWords td)).sbuf (tileSpan td).1 (tileSpan td).2 := by
  obtain ⟨reads, apart⟩ := Core.drainSpans_reads sound (tdWords td)
  exact ⟨reads, apart td List.mem_cons_self⟩

theorem tileSound_words {k : Core} {td : Nat} (sound : Claims.tileSound k [td]) : ∀ x ∈ tdWords td, x ∉ (k.drainSpans [tileSpan td]).ue := fun x word => by
  rw [(Core.drainSpans_drains sound.2 _).1.ue]
  exact sound.1 td List.mem_cons_self x word

/-! ### ALD -/

/-- What ALD comes to as it issues. -/
def aldIssue (_ : State) (k : Core) (w : Nat) : Issue :=
  let t := k.tdNow (bits w 21 19)
  if tdSrc t ≠ 0 ∨ tdRows t ≠ 8 ∨ tdCols t ≠ 16 ∨ (tdFmt t ≠ 5 ∧ tdFmt t ≠ 6) then .trap k 0x3182 0
  else if 4 ≤ k.unitLen true then .stall
  else let e := mixerEntry (k.drainSpans [tileSpan t]) w false [t]; e.1.enqueue e.2

theorem exec_ald (c : Nat) (s : State) : exec (.ald c) s = issue .ald c s aldIssue := rfl

section
variable {k : Core} {w td : Nat} (idle : k.uq = []) (is : td = k.treg (bits w 21 19)) (src : tdSrc td = 0) (rows : tdRows td = 8) (cols : tdCols td = 16)

include idle is src rows cols in
theorem aldIssue_queues (fmt : tdFmt td = 5 ∨ tdFmt td = 6) (s : State) :
    aldIssue s k w = (k.drainSpans [tileSpan td]).enqueue ((k.drainSpans [tileSpan td]).entry true w 0 [td]) := by
  unfold aldIssue
  rw [Core.tdNow_idle idle, ← is]
  dsimp only
  rw [if_neg (by rw [src, rows, cols]; omega), Core.unitLen_idle idle, if_neg (by decide), mixerEntry_plain]

include rows cols in
/-- ALD in the mixer: the elements its program sees go to the accumulator. -/
theorem Core.runAld_eq (sound : Claims.tileSound k [td]) {q : QOp} (word : q.word = w) (tds : q.td = [td]) :
    (k.drainSpans [tileSpan td]).runAld q = ((k.drainSpans [tileSpan td]).readCe (tdWords td)).setAccFrom (accField w) 0
      ((upTo 128).map fun i => tdElem k.seen td (i / 16) (i % 16)) := by
  obtain ⟨reads, apart⟩ := Core.drainSpan_reads sound
  have first : wordAt [td] 0 = td := rfl
  have elements : (upTo 128).map (fun i => tdElem ((k.drainSpans [tileSpan td]).readCe (tdWords td)).sram td (i / 16) (i % 16)) =
      (upTo 128).map fun i => tdElem k.seen td (i / 16) (i % 16) := List.map_congr_left fun i mem => by
    have small : i < 128 := List.mem_range.mp mem
    exact reads.tile apart (by omega) (by omega)
  unfold Core.runAld
  dsimp only
  rw [tds, first, word, Core.unitRead_good (tileSound_words sound), elements]

end

theorem tdElem_lt (m : Memory) (td r c : Nat) : tdElem m td r c < 2 ^ 32 :=
  Nat.lt_of_lt_of_le (Memory.value_lt ..) (Nat.pow_le_pow_right (by decide) (Nat.mul_le_mul_left 8 (fmtSize_le _)))

theorem aldLoadsTile (s : State) (c w td : Nat) (idle : (s.core c).uq = []) (is : td = (s.core c).treg (bits w 21 19)) (src : tdSrc td = 0)
    (rows : tdRows td = 8) (cols : tdCols td = 16) (sound : Claims.tileSound (s.core c) [td]) (h : Issues s c w .ald) (fmt : tdFmt td = 5 ∨ tdFmt td = 6) :
    ∃ t, exec (.ald c) s = .next t ∧ OnlyCoreTotals s t c ∧
      t.core c = { s.core c with
        pc := (s.core c).pc + 4, prevPc := (s.core c).pc, counters := (t.core c).counters, regs := { (s.core c).regs with a := (t.core c).regs.a },
        sbuf := (t.core c).sbuf, sram := (t.core c).sram, ce := (t.core c).ce, wback := (t.core c).wback } ∧
      (t.core c).counter 6 = (s.core c).counter 6 + 1 ∧
      (∀ b, Memory.byte (t.core c).seen b = Memory.byte (s.core c).seen b) ∧
      ∀ q i j, i < 8 → j < 16 → (t.core c).acc q i j =
        if q = accField w then tdElem (s.core c).seen td i j else (s.core c).acc q i j := by
  rw [exec_ald]
  have runs := Core.runAld_eq (w := w) rows cols sound (q := ((s.core c).drainSpans [tileSpan td]).entry true w 0 [td]) rfl rfl
  have reads := (Core.drainSpan_reads sound).1
  have drained : ((s.core c).drainSpans [tileSpan td]).uq = [] := (Core.drainSpans_drains sound.2 _).1.uq.trans idle
  have queues := aldIssue_queues idle is src rows cols fmt s
  have opcode : opField w = 0x2B := opField_of_major h.decoded rfl
  generalize (s.core c).drainSpans [tileSpan td] = kd at runs reads drained queues
  generalize kd.readCe (tdWords td) = k' at runs reads
  have length : ((upTo 128).map fun i => tdElem (s.core c).seen td (i / 16) (i % 16)).length = 128 := length_map_upTo 128 _
  have element (i : Nat) (hi : i < 128) := getD_map_upTo (fun i => tdElem (s.core c).seen td (i / 16) (i % 16)) hi
  generalize (upTo 128).map (fun i => tdElem (s.core c).seen td (i / 16) (i % 16)) = l at runs length element
  have finished := reads.written (accField w) l
  have count : (k'.setAccFrom (accField w) 0 l).counter 6 = (s.core c).counter 6 := by
    rw [← reads.counter 6 (by decide), reads.written]
    rfl
  have accs := Core.acc_setAcc k' (accField w) length
  generalize k'.setAccFrom (accField w) 0 l = k3 at *
  have ran : aldIssue s (s.core c) w = .done k3.advance [] := by
    rw [queues]
    exact Core.enqueue_mixer drained ((kd.runMixer_ald (q := kd.entry true w 0 [td]) opcode).trans runs) (by rw [finished, idle])
  obtain ⟨t, issued, only, core⟩ := h.advancesTotals (k := k3) (by rw [finished]; exact ⟨rfl, rfl, rfl, rfl⟩) (by rw [finished]) ran
  have after : (t.core c).seen = k'.seen := Core.seen_congr (by rw [core, finished]; rfl) (by rw [core, finished]; rfl)
  have acc : (t.core c).regs.a = k3.regs.a := by rw [core]; rfl
  refine ⟨t, issued, only, ?_, by rw [core, Core.counter_issued, if_pos rfl, count], fun b => by rw [after, reads.seen], fun q i j hi hj => ?_⟩
  · rw [core, finished]
    rfl
  · rw [Core.acc_congr acc, accs q i j hi hj, element _ (by omega), Core.acc_congr (k := s.core c) (k' := k') (by rw [reads.regs]),
      Nat.mod_eq_of_lt (tdElem_lt ..), show (i * 16 + j) / 16 = i by omega, show (i * 16 + j) % 16 = j by omega]

/-! ### AST -/

/-- What AST comes to as it issues. -/
def astIssue (_ : State) (k : Core) (w : Nat) : Issue :=
  let t := k.tdNow (bits w 21 19)
  if tdSrc t ≠ 0 ∨ tdRows t ≠ 8 ∨ tdCols t ≠ 16 then .trap k 0x3182 0
  else if 4 ≤ k.unitLen true then .stall
  else
    let e := mixerEntry (k.drainSpans [tileSpan t]) w (decide (tdFmt t ≠ 5) && decide (tdFmt t ≠ 6)) [t]
    e.1.enqueue e.2

theorem exec_ast (c : Nat) (s : State) : exec (.ast c) s = issue .ast c s astIssue := rfl

/-- The core whose next draw has been taken, or not. -/
def Core.drawn (k : Core) (draws : Bool) : Core := { k with csr := { k.csr with seed := if draws then k.csr.seed + 1 else k.csr.seed } }

/-- The entry of a storing instruction, with the draw it took. -/
def Core.storeEntry (k : Core) (draws : Bool) (w td : Nat) : QOp := { k.entry true w 0 [td] with base := if draws then k.csr.seed.toNat else 0 }

theorem mixerEntry_draws (k : Core) (w td : Nat) (narrows draws : Bool) (is : draws = (narrows && decide (k.csr.rm = 4))) :
    mixerEntry k w narrows [td] = (k.drawn draws, k.storeEntry draws w td) := by
  unfold mixerEntry
  by_cases taken : narrows = true ∧ k.csr.rm = 4
  · have yes : draws = true := by rw [is, taken.1, taken.2]; rfl
    rw [if_pos taken, yes]
    rfl
  · have no : draws = false := by
      rw [is, Bool.and_eq_false_iff, decide_eq_false_iff_not]
      exact (not_and_or.mp taken).imp_left Bool.eq_false_iff.mpr
    rw [if_neg taken, no]
    rfl

/-- What an AST stores as element `i`: the accumulator's, converted. -/
def astResult (k : Core) (w td : Nat) (draws : Bool) (i : Nat) : FRes :=
  convertOut (tdFmt td) k.csr.rm k.csr.satur (k.acc (accField w) (i / 16) (i % 16)) (drawOf (if draws then k.csr.seed.toNat else 0) i)

section
variable {k : Core} {w td : Nat} (rows : tdRows td = 8) (cols : tdCols td = 16)

include rows cols in
theorem astIssue_queues {draws : Bool} (idle : k.uq = []) (is : td = k.treg (bits w 21 19)) (src : tdSrc td = 0) {kd : Core}
    (drained : kd = k.drainSpans [tileSpan td]) (csr : kd.csr = k.csr)
    (isDraws : draws = (decide (tdFmt td ≠ 5 ∧ tdFmt td ≠ 6) && decide (k.csr.rm = 4))) (s : State) :
    astIssue s k w = (kd.drawn draws).enqueue (kd.storeEntry draws w td) := by
  unfold astIssue
  rw [Core.tdNow_idle idle, ← is]
  dsimp only
  rw [if_neg (by rw [src, rows, cols]; simp), Core.unitLen_idle idle, if_neg (by decide), ← drained,
    mixerEntry_draws kd w td _ draws (by rw [isDraws, csr, Bool.decide_and])]

/-- AST in the mixer: the accumulator's elements, converted, are written through the tile, and their flags raised. -/
theorem Core.runAst_eq {kd : Core} (csr : kd.csr = k.csr) (regs : kd.regs = k.regs) (draws : Bool) :
    (kd.drawn draws).runAst (kd.storeEntry draws w td) =
      ((kd.drawn draws).writeTile td 0 16 ((upTo 128).map fun i => (astResult k w td draws i).1)).raise
        ((List.range 128).foldl (fun x i => x ||| (astResult k w td draws i).2) 0) := by
  have elements : ((kd.drawn draws).accList (accField w)).mapIdx (fun e x => convertOut (tdFmt td) kd.csr.rm kd.csr.satur x
      (drawOf (if draws then kd.csr.seed.toNat else 0) e)) = (upTo 128).map (astResult k w td draws) := by
    rw [Core.accList_eq, mapIdx_map_upTo, csr]
    refine List.map_congr_left fun i _ => ?_
    rw [Core.acc_congr (k := k) (k' := kd.drawn draws) (by rw [← regs]; rfl)]
    rfl
  refine (congrArg (fun l => ((kd.drawn draws).writeTile td 0 16 (codes l)).raise (flagUnion l)) elements).trans ?_
  rw [codes_map_upTo, flagUnion_map_upTo]

end

theorem astStoresTile (s : State) (c w td : Nat) (idle : (s.core c).uq = []) (is : td = (s.core c).treg (bits w 21 19)) (src : tdSrc td = 0)
    (rows : tdRows td = 8) (cols : tdCols td = 16) (sound : Claims.tileSound (s.core c) [td]) (h : Issues s c w .ast) (draws : Bool) (r : Nat → FRes)
    (isDraws : draws = (decide (tdFmt td ≠ 5 ∧ tdFmt td ≠ 6) && decide ((s.core c).csr.rm = 4))) (isR : r = astResult (s.core c) w td draws) :
    ∃ t, exec (.ast c) s = .next t ∧ OnlyCore s t c ∧
      t.core c = { (s.core c).issued ((s.core c).pc + 4) with
        sbuf := (t.core c).sbuf, sram := (t.core c).sram, ce := (t.core c).ce, wback := (t.core c).wback,
        csr := { (s.core c).csr with
          flags := (s.core c).csr.flags ||| (List.range 128).foldl (fun x i => x ||| (r i).2) 0,
          tflags := (s.core c).csr.tflags ||| (List.range 128).foldl (fun x i => x ||| (r i).2) 0,
          seed := if draws then (s.core c).csr.seed + 1 else (s.core c).csr.seed } } ∧
      (∀ b, (∀ i j, i < 8 → j < 16 → ¬ (tdAddr td i j ≤ b ∧ b < tdAddr td i j + fmtSize (tdFmt td))) →
        Memory.byte (t.core c).seen b = Memory.byte (s.core c).seen b) ∧
      (tdescFault td = none → ∀ i j, i < 8 → j < 16 →
        tdElem (t.core c).seen td i j = (r (i * 16 + j)).1 % 2 ^ (8 * fmtSize (tdFmt td))) := by
  rw [exec_ast]
  obtain ⟨drains, apart⟩ := Core.drainSpans_drains sound.2 [tileSpan td]
  have good := tileSound_words sound
  have apart := apart (tileSpan td) List.mem_cons_self
  generalize drainedIs : (s.core c).drainSpans [tileSpan td] = kd at drains apart good
  have csr : kd.csr = (s.core c).csr := by rw [drains.rest]
  have queues := astIssue_queues rows cols idle is src drainedIs.symm csr isDraws s
  have runs := Core.runAst_eq (w := w) (td := td) csr drains.regs draws
  rw [← isR] at runs
  have length : ((upTo 128).map fun i => (r i).1).length = 128 := length_map_upTo 128 _
  have element (i : Nat) (hi : i < 128) := getD_map_upTo (fun i => (r i).1) hi
  generalize (upTo 128).map (fun i => (r i).1) = l at runs length element
  generalize (List.range 128).foldl (fun x i => x ||| (r i).2) 0 = fl at runs ⊢
  obtain ⟨rest, outside, inside⟩ := Core.writeTile_writes (k := kd.drawn draws) length rows cols apart good
  generalize (kd.drawn draws).writeTile td 0 16 l = k' at runs rest outside inside
  have seen : (kd.drawn draws).seen = (s.core c).seen := drains.seen
  have finished : k'.raise fl = { s.core c with
      sbuf := kd.sbuf, sram := k'.sram, ce := k'.ce, wback := k'.wback,
      csr := { (s.core c).csr with
        flags := (s.core c).csr.flags ||| fl, tflags := (s.core c).csr.tflags ||| fl,
        seed := if draws then (s.core c).csr.seed + 1 else (s.core c).csr.seed } } := by
    rw [Core.raise, rest, Core.drawn, drains.rest]
  have same : (k'.raise fl).seen = k'.seen := rfl
  generalize k'.raise fl = k3 at runs finished same
  have ran : astIssue s (s.core c) w = .done k3.advance [] := by
    have opcode : opField w = 0x2A := opField_of_major h.decoded rfl
    have queued : (kd.drawn draws).runQueued (kd.storeEntry draws w td) = k3 :=
      (if_pos rfl).trans (((kd.drawn draws).runMixer_ast (q := kd.storeEntry draws w td) opcode).trans runs)
    rw [queues, ← queued]
    exact Core.enqueue_idle (drains.uq.trans idle) (by rw [queued, finished]; exact idle)
  obtain ⟨t, issued, only, core⟩ := h.advances (k := k3) (by rw [finished]; exact ⟨rfl, rfl, rfl, rfl⟩) (by rw [finished]) (by rw [finished]; rfl) ran
  have after : (t.core c).seen = k'.seen := (Core.seen_congr (k := k3) (by rw [core]; rfl) (by rw [core]; rfl)).trans same
  refine ⟨t, issued, only, ?_, fun b beside => ?_, fun checked i j hi hj => ?_⟩
  · rw [core, finished]
    rfl
  · rw [after, outside b beside, seen]
  · rw [after, inside checked src i j hi hj, element _ (by omega)]

/-- AST and ALD move the elements of a tile. -/
theorem accumulatorMemory : Claims.AccumulatorMemory := fun s c w td idle is src rows cols sound =>
  ⟨fun h draws r isDraws isR => astStoresTile s c w td idle is src rows cols sound h draws r isDraws isR,
    fun h fmt => aldLoadsTile s c w td idle is src rows cols sound h fmt⟩

/-- Settles O8. -/
theorem vectorAndAccumulatorMemory : Obligations.VectorAndAccumulatorMemory := ⟨vectorMemory, accumulatorMemory⟩

end Sys2Proof.Machine
end
